-- ==== Sys2Proof/Word.lean ====
section
/-! DEFINITION. Bytes, words and the plainest arithmetic on numbers that the rest of the model uses. -/

namespace Sys2Proof

/-- One byte. -/
abbrev Byte := BitVec 8

/-- A 32-bit register word (R13). -/
abbrev Word := BitVec 32

/-- Bits `[lo + w - 1 : lo]` of a number, as `[msb:lsb]` (R13). -/
def bits (v lo w : Nat) : Nat := (v >>> lo) % 2 ^ w

/-- Bit `i` of a number. -/
def bit (v i : Nat) : Bool := bits v i 1 = 1

/-- A truth value as the number 0 or 1. -/
def b2n (b : Bool) : Nat := if b then 1 else 0

/-- A count that stops at its largest value (saturating). -/
def satAdd (mx a b : Nat) : Nat := min mx (a + b)

/-- The two's complement reading of a `w`-bit number. -/
def sgn (w v : Nat) : Int := if 2 ^ (w - 1) ≤ v % 2 ^ w then (v % 2 ^ w : Int) - 2 ^ w else (v % 2 ^ w : Int)

/-- The quotient rounded up. -/
def ceilDiv (a b : Nat) : Nat := (a + b - 1) / b

/-- The little-endian value of a list of bytes (R13, R20). -/
def leVal : List Byte → Nat
  | [] => 0
  | b :: t => b.toNat + 256 * leVal t

/-- The `n` little-endian bytes of a number. -/
def leBytes : Nat → Nat → List Byte
  | 0, _ => []
  | n + 1, v => BitVec.ofNat 8 v :: leBytes n (v / 256)

/-- One of two results, by whether a value is there. -/
def caseOf {α β : Type} (o : Option α) (none : β) (some : α → β) : β :=
  match o with
  | .none => none
  | .some a => some a

end Sys2Proof
end

