-- ==== Sys2Proof/Syntax.lean ====
section
/-! DEFINITION. The commands of the block: what its requesters ask of it and what its pins, engines and timers do to it,
one constructor per row of spec/opcode_table.json. -/

namespace Sys2Proof

/-- A Lathe (and its port, way and router), 0–15 (R22, R23). -/
abbrev Lathe := Fin 16

/-- A partition, 0–7 (R370). -/
abbrev Part := Fin 8

/-- Who writes LTH_SEQ_GO (Table 3.15). -/
inductive Driver where
  | pf0 | peloton
deriving DecidableEq, Repr

/-- A function of the PCIe endpoint: PF0, or VF n. -/
inductive Func where
  | pf0
  | vf (v : Part)
deriving DecidableEq, Repr

/-- A DMA channel: channel c of tensor DMA group g, or host/video channel c (Table 9.1). -/
inductive DmaCh where
  | tensor (g : Lathe) (c : Fin 4)
  | host (c : Fin 32)
deriving DecidableEq, Repr

/-- What the headers of a picture say (R297, R299, Table 10.2): cropped size, key picture, monochrome, 10-bit, the matrix and range
signalled, the output order number, film grain. -/
structure PicInfo where
  w : Fin 8192
  h : Fin 8192
  intra : Bool
  mono : Bool
  depth10 : Bool
  csc : Option (Fin 3)
  full : Option Bool
  order : Word
  grain : Bool
deriving DecidableEq, Repr

/-- What the bitstream holds for the next row of a decode context, by its standard: bytes parsed, the picture that starts, whether the
picture is complete, stays a reference and waits for output, damage, an unsupported header, buffers whose reference ends and buffers whose pictures
leave for output in order (R295 to R298, R310). -/
structure DecRow where
  used : Fin 67108864
  start : Option PicInfo
  finish : Bool
  keepRef : Bool
  waits : Bool
  corrupt : Bool
  unsupported : Bool
  unref : List (Fin 17)
  shown : List (Fin 17)
deriving DecidableEq, Repr

/-- What a row gives: of a decode context the stream's content; of an encode context the bits that its standard codes, as the payload of
the slice that the row ends and the parameter sets ahead of it (R307). -/
inductive RowWork where
  | decode (r : DecRow)
  | encode (payload params : List Byte)
deriving DecidableEq, Repr

/-- Who asks for an access to main memory (R246, R247). `engine`: Lathes, tensor DMA, streamers, Peloton, sampling and page-frame table
units; they need no access bit. -/
inductive Requester where
  | engine | hostAperture | hostDma | fabric
deriving DecidableEq, Repr
/-- A SUBMIT entry (Table 12.6). -/
structure Submission where
  cls : Fin 4
  spec : Bool
  bucket : Fin 1024
  reqId : Word
  promptLen : Fin 2097152
  maxNew : Fin 2097152
  prompt : BitVec 40
  profile : BitVec 16
  prefixSlot : Fin 8192
  prefixLen : Fin 2097152
deriving DecidableEq, Repr

/-- An entry that is refused (R352): a TYPE that is not 0x01 to 0x03, a DRAFT whose slot lies outside the range, a DRAFT with more than 63
tokens; with its REQ_ID and, of a DRAFT, its slot and N. -/
inductive BadEntry where
  | unknownType (reqId : Word)
  | draftSlot (slot : Fin 8192) (reqId : Word) (n : Fin 64)
  | draftCount (slot : Fin 8192) (reqId : Word) (n : Fin 128)
deriving DecidableEq, Repr

/-- A word of the Peloton's SRAM: of a slot record, of a partition's cost table, of a bucket (R200). -/
inductive PltWord where
  | slot (k : Fin 8192)
  | cost (p : Part)
  | bucket (b : Fin 1024)
deriving DecidableEq, Repr

/-- Why T_res is computed anew (R194, Table 6.10). -/
inductive Derate where
  | clock | allowance | port
deriving DecidableEq, Repr

/-- A packet of the fabric (Table 11.5). `data` is the payload as it travels; `plain` tells that it was never enciphered
(a packet looped back inside the egress, log 25); `crcBad` that PCRC does not match. -/
structure FabPkt where
  typ : Nat := 0
  dst : Nat := 0
  src : Nat := 0
  tenant : Nat := 0
  epoch : Nat := 0
  keyPhase : Nat := 0
  addr : Nat := 0
  pseq : Nat := 0
  bytes : Nat := 0
  tag : Nat := 0
  status : Nat := 0
  barrier : Nat := 0
  gen : Nat := 0
  retry : Bool := false
  crcBad : Bool := false
  plain : Bool := false
  data : List Byte := []
deriving DecidableEq, Repr

/-- A received HELLO flit (Table 11.4). -/
structure Hello where
  switch : Bool
  llCap : Bool
  llReq : Bool
  idValid : Bool
  id : Fin 128
  port : Fin 256
  domain : Fin 65536
  llSeq : Fin 1024
  credits : List (Fin 65536)
  reach : BitVec 128
deriving DecidableEq, Repr

/-- A completion entry of a control flit (Table 11.2). -/
structure FabComp where
  dst : Fin 128
  src : Fin 128
  status : Fin 256
  pseq : Fin 65536
deriving DecidableEq, Repr

/-- How a received codeword decodes: clean, corrected, not (R318). -/
inductive CwDecode where
  | clean | corrected | failed
deriving DecidableEq, Repr

/-- Who in the module made a request to the host that gets no data: a partition's submission ring, or host/video DMA at a host address (R342, R355,
R282). -/
inductive HostReq where
  | sq (p : Part)
  | dma (addr : BitVec 64)
deriving DecidableEq, Repr

/-- Where a request to the service controller comes from (R384, R399, R406): a function's DOE mailbox, the PF0 mirror, or a node of the field network
by its MAC address, in the operator role or the service role. -/
inductive ReqPath where
  | doe (fn : Func)
  | mirror
  | field (mac : BitVec 48) (service : Bool)
deriving DecidableEq, Repr

/-- What a start after a reset meets (R395, R429, R431): the GA pins, whether OTP can be read, whether the shared self-test passes, and whether
it passes at the start that a fall-back makes, the granules that qualify but for their ports. -/
structure StartUp where
  ga : Fin 32
  otpOk : Bool
  testOk : Bool
  retryOk : Bool
  qualified : BitVec 16
deriving DecidableEq, Repr


/-- Where an access of a register comes from, and its offset there: PF0's BAR0 or BAR4, a VF's BAR0, or the local bus of a management processor,
on which its mailbox block stands at 0 and the interrupt controller at 0x1000 (log 5). -/
inductive RegPlace where
  | bar0 (off : BitVec 28)
  | bar4 (off : BitVec 20)
  | vf (v : Part) (off : BitVec 24)
  | cpu (p : Fin 3) (off : BitVec 16)
deriving DecidableEq, Repr

/-- A 64-bit count whose LO register latches its HI register when it is read (R106, Tables 3.29, 5.16, 6.13, 6.30). -/
inductive Count64 where
  | cyc (n : Lathe)
  | atsBytes (n : Lathe)
  | now
  | step (p : Part)
deriving DecidableEq, Repr

/-- A path of dictionary requests (Table 14.4). A frame of the field network comes from a MAC address, to the module's or the broadcast address;
`good`: it passes R396; `full`: it finds the 16 places of the queue taken (R403). -/
inductive DictPath where
  | doe (fn : Func)
  | mirror
  | field (src : BitVec 48) (bcast good full : Bool)
deriving DecidableEq, Repr

/-- What the effect of a dictionary write meets: whether OTP and flash read back what was programmed, whether a supervisor image could be
applied, the tests of a lift that fail, the start after a reset. -/
structure DictEnv where
  otpOk : Bool
  readOk : Bool
  applyOk : Bool
  bad : BitVec 8
  u : StartUp
deriving DecidableEq, Repr


/-- The commands: one constructor per row of spec/opcode_table.json. -/
inductive Instr where
  /-- REGISTER_WRITE (R15): A write to a register field that has no row of its own takes effect by its access type (RW, W1C, W1S, SH), with reserved bits ignored and static or partial writes handled by their rules. -/
  | registerWrite (pl : RegPlace) (v : Word) (be : BitVec 4)
  /-- UNMAPPED_ACCESS (R36): An access to a PF0 BAR0 address in no block completes with UR for a read or is discarded for a write, and is logged. -/
  | unmappedAccess (pl : RegPlace) (read : Bool)
  /-- RC_FIELD_READ (R19): A read of an RC field returns its value and clears it, with a hardware event in the same cycle winning. -/
  | rcFieldRead (pl : RegPlace)
  /-- LATCHING_LO_READ (R106): A read of a LO half of a 64-bit count (LTH_CYC, ATS_BYTES, PLT_NOW, PLT_STEP) latches the upper bits into the HI register. -/
  | latchingLoRead (c : Count64)
  /-- INJECTION_ARM (R105): A write of 1 from PF0 or the dictionary arms an injection point, which acts on the next qualifying event and then clears itself. -/
  | injectionArm (pl : RegPlace) (v : Word)
  /-- SEQ_GO (R88): A write of LTH_SEQ_GO starts a plan from IDLE or DONE, is held as pending in FETCH, WAIT or RUN, or is refused with GO_REFUSED or GO_OVERRUN. -/
  | seqGo (n : Lathe) (by' : Driver) (len : Fin 4096) (buf : Bool)
  /-- SEQ_STOP (R89): LTH_SEQ_CTRL.STOP stops the sequencer at once in FETCH or WAIT, after the running repetition in RUN, or at the next FETCH otherwise. -/
  | seqStop (n : Lathe) (framOk : Bool)
  /-- SEQ_RESUME (R89): LTH_SEQ_CTRL.RESUME continues a stopped sequencer where the stop took effect, or cancels a stop not yet taken. -/
  | seqResume (n : Lathe)
  /-- LRESET (R104): LTH_SEQ_CTRL.LRESET starts Lathe reset when the sequencer is in IDLE, DONE, HALTED, STOPPED or OFFLINE, and is otherwise ignored with CFG_BUSY_WR. -/
  | lreset (n : Lathe)
  /-- LATHE_RESET_DONE (R104): Lathe reset completes within 6,400 CCLK cycles, having cleared registers, accumulators, flags and Lathe SRAM, and the sequencer enters IDLE or stays OFFLINE if retired. -/
  | latheResetDone (n : Lathe)
  /-- STEP_ABORT (R90): A step abort, from LTH_SEQ_CTRL.ABORT or the Peloton, ends the current descriptor with ABORTED, cancels the rest of the plan and enters HALTED. -/
  | stepAbort (n : Lathe)
  /-- DESCRIPTOR_DECODE (R86): The sequencer fetches and decodes the next operator descriptor, checks it over every repetition and enters RUN, WAIT or HALTED. -/
  | descriptorDecode (n : Lathe)
  /-- REPETITION_ISSUE (R78): Once both wait slots are met, the sequencer issues the next repetition of the current descriptor to its pipelines. -/
  | repetitionIssue (n : Lathe)
  /-- REPETITION_COMPLETE (R94): A repetition completes when all its writes are acknowledged, its signal slots fire, and the plan reaches DONE or starts a pending GO after the last descriptor. -/
  | repetitionComplete (n : Lathe) (pipe : Fin 4)
  /-- DESCRIPTOR_ERROR (R90): A descriptor that consumes an uncorrectable word or meets a streamer error ends in error, the rest of the plan is cancelled and the Peloton is notified. -/
  | descriptorError (n : Lathe)
  /-- WAIT_TIMEOUT (R87): A wait that exceeds LTH_WAIT_LIMIT ends the descriptor with WAIT_TIMEOUT and the sequencer enters HALTED. -/
  | waitTimeout (n : Lathe)
  /-- STEP_EPOCH_OPEN (R97): A Lathe in IDLE, DONE or HALTED clears its event counters, applies commits staged with AT_EPOCH, increments STEP_EPOCH and acknowledges, or holds the open until DONE or HALTED. -/
  | stepEpochOpen (n : Lathe)
  /-- LTH_COMMIT (R98): A write of LTH_COMMIT.COMMIT stages or applies the shadowed Lathe configuration at once, at the next descriptor boundary or at the next step epoch open. -/
  | lthCommit (n : Lathe) (atEpoch : Bool)
  /-- EVT_INC (R92): A write of LTH_EVT_INC adds AMOUNT to the named event counter, saturating. -/
  | evtInc (n : Lathe) (ctr : Fin 32) (amount : Fin 256)
  /-- LTH_DBG_DATA_ACCESS (R107): A debug access to LTH_DBG_DATA is served only in STOPPED or in IDLE of an unassigned Lathe, and is otherwise refused with DBG_DENIED. -/
  | lthDbgDataAccess (n : Lathe) (write : Option Word) (framOk : Bool)
  /-- DROOP_STRETCH (R102): A supply droop stretches a clock period, is counted in DROOPS, and the controller makes up the time within 1 µs. -/
  | droopStretch (n : Lathe)
  /-- PFT_CMD_QUEUE (R150): A write of PFT_CMD3 queues the PF0 command formed by PFT_CMD0–3, or discards it and sets OVERRUN when the queue is full. -/
  | pftCmdQueue (w3 : Word)
  /-- PFT_RESP_READ (R151): A read of PFT_RESP returns the oldest PF0 response and removes it. -/
  | pftRespRead
  /-- OPEN (R151): The OPEN command opens a slot with LEN 0 and an empty table, allocating a tail frame and, with SPEC, a provisional area. -/
  | slotOpen
  /-- PREPARE (R151): The PREPARE command maps fresh frames for the positions to be appended, performs copy-on-write where a page is shared, takes append locks and sets PREP_LEN. -/
  | slotPrepare
  /-- COMMIT_LEN (R151): The COMMIT_LEN command sets the record LEN and PREP_LEN and releases the slot's append locks. -/
  | commitLen
  /-- FORK (R151): The FORK command shares the source slot's pages below LEN into an empty slot, adds references, copies tail rows and sets LEN. -/
  | slotFork
  /-- TRUNCATE (R151): The TRUNCATE command drops every page holding no position below LEN and sets LEN. -/
  | slotTruncate
  /-- RELEASE (R151): The RELEASE command drops every page, the tail frame, the provisional area and the table, and closes the slot. -/
  | slotRelease
  /-- PIN (R157): The PIN command takes one pin in the current generation for an outside reader, or ends with REFCOUNT_SAT. -/
  | pinTake
  /-- UNPIN (R157): The UNPIN command ends one PIN pin of generation GEN, or ends with NO_PIN. -/
  | pinEnd
  /-- ABORT_STEP (R151): The ABORT_STEP command sets PREP_LEN to LEN and releases the slot's append locks, keeping mapped frames. -/
  | abortStep
  /-- RELINK (R146): The RELINK command copies the accepted tree nodes into the request's pages and tail, sealing as needed, and then acts as COMMIT_LEN. -/
  | relink
  /-- PIN_GENERATION_FLIP (R155): When the other generation has no pins and no retired items while the current one has retired items, the current generation flips. -/
  | pinGenerationFlip (p : Part)
  /-- RETIRED_ITEMS_FREE (R155): When the pins of the non-current generation reach zero, its retired frames and table lines return to the free pool. -/
  | retiredItemsFree (p : Part)
  /-- KV_LATCH (R160): At attention descriptor start the streamer takes a pin, waiting if the generation's pins are saturated, and latches the KV records of every request in the length table. -/
  | kvLatch (n : Lathe)
  /-- PFT_COMMIT (R169): A write of PFT_COMMIT applies a partition's pool shadows when the partition is empty and the pool rules hold, or refuses with CFG_BUSY_WR or CFG_MISMATCH. -/
  | pftCommit (p : Part) (commit enable : Bool)
  /-- PFT_POOL_READY (R169): After a commit with ENABLE 1 the unit finishes writing the frame state array as all free and sets READY. -/
  | pftPoolReady (p : Part)
  /-- PLT_COMMIT (R202): A write of PLT_COMMIT checks the partition rules and applies the Peloton shadows at once or stages them for the next step epoch, or refuses them. -/
  | pltCommit (p : Part) (commit enable : Bool)
  /-- TEMPLATE_DERIVED (R180): The template check and cost-table derivation end, leaving DERIVING for RUNNING or refusing the template with TMPL_BAD. -/
  | templateDerived (p : Part)
  /-- STEP_SELECT (R183): At a commit point or when work arrives, the Peloton selects the step's rows and prefill chunks in the order of the selection rule. -/
  | stepSelect (p : Part)
  /-- STEP_PREPARE_DONE (R182): The Prepare group of PREPARE commands completes, leaving out or demoting requests that lack frames and closing requests with other failures. -/
  | stepPrepareDone (p : Part)
  /-- STEP_BUILD (R178): The Peloton writes the row table, length tables and patched plans into the partition's Lathe SRAMs. -/
  | stepBuild (p : Part)
  /-- STEP_RELEASE (R201): The Peloton opens a step epoch on every Lathe and the sampling unit, applying staged commits at this boundary. -/
  | stepRelease (p : Part)
  /-- STEP_GO (R201): When every unit has acknowledged the same epoch, the Peloton releases GO to every Lathe of the partition. -/
  | stepGo (p : Part)
  /-- ACK_TIMEOUT (R201): A unit that does not acknowledge within ACK_LIMIT is taken OFFLINE, and the Peloton writes LATHE_LOST, demotes requests and stops the partition. -/
  | ackTimeout (p : Part)
  /-- STEP_RUN_END (R204): When every Lathe of the partition has reached DONE, the step's Run phase ends and its Sample phase is queued for the sampling unit. -/
  | stepRunEnd (p : Part)
  /-- SAMPLE_PHASE (R226): The sampling unit runs one partition's Sample phase whole, drawing for every token row, verifying trees and updating counts. -/
  | samplePhase
  /-- STEP_COMMIT_GROUP_DONE (R182): The Commit group of COMMIT_LEN, RELINK or cancel commands completes, closing requests whose commands failed. -/
  | stepCommitGroupDone (p : Part)
  /-- COMMIT_POINT (R221): Once ring entries are free, the Peloton writes the output batch record in part order and issues the first word of part 0, which is the commit point. -/
  | commitPoint (p : Part)
  /-- STEP_ERROR_REPORT (R199): A Lathe's descriptor error makes the Peloton abort the step on every other Lathe of the partition and wait for them to halt. -/
  | stepErrorReport (n : Lathe)
  /-- STEP_ABORT_END (R199): When all Lathes are DONE or HALTED, the Peloton issues ABORT_STEP for prepared slots, writes a STEP_ERROR record and may close repeatedly failing requests. -/
  | stepAbortEnd (p : Part)
  /-- SQ_TAIL_WRITE (R351): A write of PCI_SQ_TAIL makes new submission entries available to the Peloton. -/
  | sqTailWrite (v : Part) (index : BitVec 16)
  /-- SUBMIT (R189): A SUBMIT entry is decided by the admission checks, and an accepted request takes a slot, OPEN and FORK, its sequence number and its hold. -/
  | submit (p : Part) (e : Submission)
  /-- DRAFT (R217): A DRAFT entry, taken outside the Select to Build window, replaces the draft held in the slot's draft buffer. -/
  | draft (p : Part) (slot : Fin 8192) (reqId : Word) (base : Fin 2097152) (tokens : List (Fin 262144))
  /-- CANCEL (R223): A CANCEL entry sets CANCEL_PENDING for a live request or completes at once as FINISHED_BEFORE_CANCEL, ALREADY_CLOSED or NOT_FOUND. -/
  | cancel (p : Part) (slot : Fin 8192) (reqId : Word)
  /-- ENTRY_BAD (R352): A submission entry of unknown type or a DRAFT with a bad slot or count produces an ENTRY_BAD record and is skipped. -/
  | entryBad (p : Part) (bad : BadEntry)
  /-- T_RES_RECOMPUTE (R194): A change of BELOW_FLOOR, CEIL_CODE, DUTY, PORT_RES or the late allowance makes the Peloton recompute T_res and demote or restore requests. -/
  | tResRecompute (p : Part) (why : Derate)
  /-- BUCKET_REFILL (R193): Every PERIOD × 2^20 NCLK cycles a bucket's BALANCE becomes min(CAP, BALANCE + REFILL). -/
  | bucketRefill (b : Fin 1024)
  /-- BUCKET_WRITE (R191): A PF0 write through PLT_BKT_DATA changes a bucket field whole, discarding writes to HELD and CONSUMED. -/
  | bucketWrite (value : Word)
  /-- PELOTON_SRAM_UE (R200): An uncorrectable Peloton SRAM word closes a request, returns the partition to DERIVING or disables a bucket, and writes PELOTON_UE. -/
  | pelotonSramUe (w : PltWord)
  /-- SMP_PROF_COMMIT (R206): A write of SMP_PROF_COMMIT checks a profile's shadow and stages it for its owner's next step epoch, or refuses it. -/
  | smpProfCommit (profile : Fin 1024) (commit : Bool)
  /-- SMP_COMMIT (R229): A write of SMP_COMMIT applies a partition's sampling shadows at once or at the next step epoch, or refuses them. -/
  | smpCommit (p : Part) (commit : Bool)
  /-- PORT_TRAINING_DONE (R238): A memory port finishes training its five channels, entering ZEROING or FAILED with TRAIN_FAIL. -/
  | portTrainingDone (n : Lathe) (failed : Fin 32)
  /-- PORT_ZEROING_DONE (R238): A trained port finishes writing zeros over its capacity and enters READY. -/
  | portZeroingDone (n : Lathe)
  /-- REFRESH_RATE_UPDATE (R239): Every 16 ms a port reads the temperature mode of its channels and applies the fastest refresh rate required. -/
  | refreshRateUpdate (n : Lathe) (modes : List (Fin 3))
  /-- SELF_REFRESH_ENTRY (R240): A port of an unassigned Lathe with AUTO_SR enters self-refresh after 65,536 MCLK cycles without an access. -/
  | selfRefreshEntry (n : Lathe)
  /-- PORT_ACCESS (R246): An access reaches a port's cipher pipe, is checked by region and provisional rules, and is performed unit by unit with merges for partial units. -/
  | portAccess (rq : Requester) (n : Lathe) (addr : BitVec 36) (len : Fin 16777216) (data : Option (List Byte))
  /-- SRAM_SCRUB_WORD (R237): A Lathe SRAM or way scrubber reads the next word, writes back a corrected value or logs an uncorrectable one. -/
  | sramScrubWord (unit : Fin 32)
  /-- PATROL_SCRUB_UNIT (R241): A port's patrol reads the next unit at its pace, writes back corrections, and reports an uncorrectable unit with MEM_LOST. -/
  | patrolScrubUnit (n : Lathe)
  /-- RETIRE_BLOCK (R242): A retire block that reaches RETIRE_CE, meets an uncorrectable unit or is named by MEM_RETIRE starts being copied into a spare, or sets RETIRE_FULL. -/
  | retireBlock (n : Lathe)
  /-- MEM_RETIRE (R242): A PF0 write of MEM_RETIRE requests the retirement of a retire block, or sets CFG_BUSY_WR outside READY. -/
  | memRetire (n : Lathe) (block : Fin 16777216)
  /-- RETIRE_COPY_DONE (R242): The copy of a retire block into its spare completes and later accesses are redirected to it. -/
  | retireCopyDone (n : Lathe)
  /-- MEM_COMMIT (R259): A write of MEM_COMMIT applies MEM_CFG at once, or refuses a zero SCRUB_PERIOD or RETIRE_CE with CFG_MISMATCH. -/
  | memCommit (n : Lathe)
  /-- KEY_LOAD (R250): The service controller loads 64 bytes into a key slot through the key port, or the load is refused for a slot in use or equal halves. -/
  | keyLoad (p : Part) (k : Fin 2) (key : List Byte)
  /-- KEY_ROTATE_START (R252): KEY_ROTATE.START makes the loaded slot current, sets every region's watermark to its base and enters ROTATING, or is refused. -/
  | keyRotateStart (p : Part)
  /-- ROTATION_SWEEP_UNIT (R253): A port's sweep re-encrypts the next unit of its regions under the current key and advances the watermark, ending a region at its top. -/
  | rotationSweepUnit (n : Lathe)
  /-- ROTATION_DRAIN_DONE (R254): When every sweep has ended and the previous slot's in-flight count is zero, the previous slot is destroyed and the partition returns to IDLE. -/
  | rotationDrainDone (p : Part)
  /-- KEY_PCOMMIT (R260): A write of KEY_PCOMMIT applies a partition's key and region shadows at once or at the next step epoch, or refuses them. -/
  | keyPcommit (p : Part) (commit enable : Bool)
  /-- TDMA_CH_KICK (R265): A PF0 write of TDMA_CH_KICK starts an idle channel at a descriptor, or is ignored with CFG_BUSY_WR for a busy or Peloton-owned channel. -/
  | tdmaChKick (g : Lathe) (c : Fin 4) (addr : Fin 16777216)
  /-- TDMA_DESC_FETCH (R266): A channel fetches and checks its next tensor DMA descriptor and begins the transfer, or stops the group with CAUSE 1. -/
  | tdmaDescFetch (g : Lathe) (c : Fin 4)
  /-- TDMA_EVENT_PULSE (R267): When every write before a pulse point is acknowledged, the channel pulses its event counter and proceeds along its chain or returns to IDLE. -/
  | tdmaEventPulse (g : Lathe) (c : Fin 4)
  /-- TDMA_BUS_ERROR (R280): A bus error stops every channel of the tensor DMA group, recording cause and address, and ends the Lathe's descriptors with TDMA_STOP. -/
  | tdmaBusError (g : Lathe) (cause : Fin 8) (addr : BitVec 64)
  /-- TDMA_GRP_CLEAR (R281): TDMA_GRP_CTRL.CLEAR returns a stopped group to service while the sequencer rests, or is ignored with CFG_BUSY_WR. -/
  | tdmaGrpClear (g : Lathe)
  /-- CHANNEL_FENCE (R278): Setting FENCE lets the running descriptor complete, abandons a triggered wait, and the channel enters FENCED. -/
  | channelFence (ch : DmaCh)
  /-- CHANNEL_UNFENCE (R278): Clearing FENCE returns a fenced channel to IDLE. -/
  | channelUnfence (ch : DmaCh)
  /-- CHANNEL_DISABLE (R279): Clearing ENABLE drops a channel at once, losing held data and leaving its state undefined. -/
  | channelDisable (ch : DmaCh)
  /-- CHANNEL_ENABLE (R279): Setting ENABLE restarts a channel at IDLE or HEAD 0, or in FENCED while FENCE is 1. -/
  | channelEnable (ch : DmaCh)
  /-- CHANNEL_CFG_COMMIT (R289): A TDMA or HDMA channel commit applies RATE and BURST at the next descriptor boundary or at once. -/
  | channelCfgCommit (ch : DmaCh)
  /-- HDMA_DOORBELL (R268): A write of HDMA_CH_DB makes an idle channel fetch at HEAD, or sets DB_PENDING when the channel is busy. -/
  | hdmaDoorbell (c : Fin 32) (fn : Func)
  /-- HDMA_ENTRY_FETCH (R268): A channel reads the ring entry at HEAD, goes IDLE when OWN is 0, or checks the descriptor and starts it, refusing it with DESC_BAD or ACCESS. -/
  | hdmaEntryFetch (c : Fin 32) (words : List Word)
  /-- HDMA_TRIGGER (R275): A channel in TRIG_WAIT takes the oldest reported frame of its engine's context that it has not taken and executes its descriptor. -/
  | hdmaTrigger (c : Fin 32)
  /-- HDMA_WRITEBACK (R271): A completed or refused host/video descriptor is written back with status, then OWN 0, then its MSI-X vector, and HEAD advances. -/
  | hdmaWriteback (c : Fin 32) (host : List Byte)
  /-- HDMA_RESUME (R274): HDMA_CH_CTRL.RESUME takes a HALTED channel on to the next entry. -/
  | hdmaResume (c : Fin 32)
  /-- HDMA_BUS_ERROR (R282): A bus error stops all 32 host/video channels and sends HDMA_STOP records to owning partitions. -/
  | hdmaBusError (cause : Fin 8) (addr : BitVec 64)
  /-- HDMA_RESTART (R282): HDMA_ENG_CTRL.RESTART returns every STOPPED channel to IDLE to fetch again at HEAD. -/
  | hdmaRestart
  /-- ARB_DECISION (R284): An arbiter instance decides the owner of a slot two cycles ahead, forced requesters first and then the lowest class by round robin. -/
  | arbDecision (inst : Fin 52) (slots : List Nat)
  /-- ARB_COMMIT (R288): A write of ARB_COMMIT checks the arbiter shadows and applies them together at the next decision, or refuses them. -/
  | arbCommit (n : Fin 52)
  /-- VIDEO_ENGINE_ASSIGN (R291): The service controller writes VID_ENG_PART, and clearing ASSIGNED while no context is enabled starts zeroing the engine SRAM. -/
  | videoEngineAssign (e : Fin 4) (part : Part) (assigned : Bool)
  /-- VIDEO_SRAM_CLEARED (R291): Zeroing of an unassigned engine's SRAM completes within 50 µs. -/
  | videoSramCleared (e : Fin 4)
  /-- VID_CTX_COMMIT (R313): A write of VID_CTX_COMMIT checks the context rules and enables, updates or disables the context, or refuses the commit. -/
  | vidCtxCommit (e : Fin 4) (k : Fin 16) (commit enable : Bool)
  /-- VIDEO_ROW (R295): An engine takes the next ready row of an enabled context by round robin and decodes or encodes it, completing pictures and slice records. -/
  | videoRow (e : Fin 4) (k : Fin 16) (work : RowWork)
  /-- FRAME_REPORT (R299): The output stage writes a converted frame into a frame-ring slot, waiting or overwriting when none is free, and reports it once acknowledged. -/
  | frameReport (e : Fin 4) (k : Fin 16)
  /-- VID_FLUSH (R297): VID_CTX_CTRL.FLUSH outputs waiting pictures, discards the input queue and references, and returns to WAIT_SYNC. -/
  | vidFlush (e : Fin 4) (k : Fin 16)
  /-- VID_RESUME (R310): VID_CTX_CTRL.RESUME returns a HALTED context to WAIT_SYNC. -/
  | vidResume (e : Fin 4) (k : Fin 16)
  /-- VID_CTX_SRC (R304): A write of VID_CTX_SRC reports rows of a source frame for encoding, or is ignored with SRC_BAD. -/
  | vidCtxSrc (e : Fin 4) (k : Fin 16) (fn : Func) (slot : Fin 16) (rows16 : Fin 4096) (last force : Bool)
  /-- FAB_COMMIT (R336): A write of FAB_COMMIT applies FAB_CFG, enabling or disabling planes, or refuses a low E2E_TIMEOUT. -/
  | fabCommit (commit : Bool)
  /-- FAB_PCOMMIT (R336): A write of FAB_PCOMMIT applies a partition's fabric shadows at once, or refuses them by rule or during a checkpoint job. -/
  | fabPcommit (p : Part) (commit enable : Bool)
  /-- PLANE_TRAINED (R320): Every lane of a port completes start-up training and the port enters LOCK. -/
  | planeTrained (pl : Fin 2)
  /-- TRAINING_TIMEOUT (R320): A port not trained within 500 ms returns to the start of training after 1 s. -/
  | trainingTimeout (pl : Fin 2)
  /-- PLANE_LOCK (R320): After 8 decodable consecutive codewords the receiver locks and the port enters HELLO. -/
  | planeLock (pl : Fin 2) (seq : Fin 1024)
  /-- HELLO_RX (R321): A received HELLO sets credits, LOW_LATENCY, the module ID, domain and reach map, bringing the plane UP or into ID_CONFLICT. -/
  | helloRx (pl : Fin 2) (h : Hello)
  /-- HELLO_TX (R320): A port sends a HELLO every 100 µs before UP and every 1 ms once UP. -/
  | helloTx (pl : Fin 2)
  /-- HELLO_TIMEOUT (R322): 3 ms without a HELLO takes the plane DOWN. -/
  | helloTimeout (pl : Fin 2)
  /-- CODEWORD_RX (R318): A received codeword is decoded and accepted in order, or discarded with a NACK and later codewords discarded until replay. -/
  | codewordRx (pl : Fin 2) (seq : Fin 1024) (d : CwDecode)
  /-- CONTROL_FLIT_RX (R318): A received control flit acknowledges codewords, requests replay on NACK, returns credits and delivers completions. -/
  | controlFlitRx (pl : Fin 2) (ack : Fin 1024) (nack : Bool) (credits : List (Fin 65536)) (comps : List FabComp)
  /-- ACK_STALL_TIMEOUT (R318): Eight NACKs in a row for one codeword or 100 µs without acknowledgement advance takes the plane down. -/
  | ackStallTimeout (pl : Fin 2)
  /-- PLANE_DOWN (R322): A plane goes DOWN on loss of lock, link stall, HELLO timeout or disable, clears its reach map, masks its requesters and retrains. -/
  | planeDown (pl : Fin 2)
  /-- PACKET_SEND (R325): The egress assembles a WRITE packet from a tensor DMA stream and sends it on its plane, loops it back, or completes it with NO_ROUTE. -/
  | packetSend (r : Fin 19) (cw : Fin 1024)
  /-- FABRIC_WRITE_RX (R326): An ingress WRITE packet is checked, decrypted and performed, and a completion is returned. -/
  | fabricWriteRx (pl : Fin 2) (k : FabPkt)
  /-- FABRIC_EVENT_WRITE (R327): An event-counter write from a source is applied after every earlier packet from it has completed. -/
  | fabricEventWrite (pl : Fin 2) (k : FabPkt)
  /-- BARRIER_ARRIVAL (R332): An accepted barrier arrival at the root adds to COUNT and, at EXPECT, advances GEN and sends RELEASE packets. -/
  | barrierArrival (pl : Fin 2) (k : FabPkt)
  /-- FABRIC_READ_REQ_RX (R326): An ingress READ_REQ is checked and answered with a READ_RESP carrying the data or an error status. -/
  | fabricReadReqRx (pl : Fin 2) (k : FabPkt)
  /-- FABRIC_READ_RESP_RX (R326): A READ_RESP is decrypted and its data written to the requester's local span. -/
  | fabricReadRespRx (pl : Fin 2) (k : FabPkt)
  /-- FABRIC_RELEASE_RX (R332): An accepted RELEASE raises event counter EVT on every Lathe of the partition and records GEN. -/
  | fabricReleaseRx (pl : Fin 2) (k : FabPkt)
  /-- E2E_TIMEOUT (R328): A packet with no completion within E2E_TIMEOUT, or whose plane went down, is resent with RETRY, and a second failure completes with TIMEOUT. -/
  | e2eTimeout (n : Nat)
  /-- CHECKPOINT_START (R333): FAB_CK_CTRL.START starts a push or pull checkpoint job over the partition's checkpoint list, or is ignored with CFG_BUSY_WR. -/
  | checkpointStart (p : Part) (count : Fin 65536) (peer : Fin 128) (pull quiesce : Bool)
  /-- CHECKPOINT_END (R334): A checkpoint job ends with DONE or at the first non-OK status with the failing entry. -/
  | checkpointEnd (p : Part)
  /-- PCIE_LINK_UP (R338): The PCIe link trains to its highest supported rate and width and enters L0. -/
  | pcieLinkUp (speed : Fin 16) (width : Fin 16) (flit : Bool)
  /-- LINK_LOSS (R359): The link leaving L0 without a reset sets LINK_CHG and completes outstanding host requests as timeouts. -/
  | linkLoss (waiting : List HostReq)
  /-- CONFIG_REQUEST (R430): A configuration request is answered with Request Retry Status until phase 5 and successfully afterwards. -/
  | configRequest (fn : Fin 9) (reg : Fin 1024) (write : Bool)
  /-- PF0_APERTURE_ACCESS (R344): A PF0 BAR2 access reaches the selected port, refused beyond capacity, ciphertext-only and counted as debug for assigned ports. -/
  | pf0ApertureAccess (off : BitVec 36) (len : Fin 4097) (data : Option (List Byte)) (framOk : Bool)
  /-- VF_APERTURE_ACCESS (R345): A VF BAR2 access reaches its partition's memory through the cipher pipe after the region and provisional checks. -/
  | vfApertureAccess (v : Part) (off : BitVec 34) (len : Fin 4097) (data : Option (List Byte))
  /-- RECEIVED_TLP_ERROR (R342): A received TLP with EP set or an ECRC mismatch is discarded and logged. -/
  | receivedTlpError (poisoned read : Bool)
  /-- COMPLETION_TIMEOUT (R342): A module request with no completion within the Completion Timeout is logged and its requester receives a bus error or ring fault. -/
  | completionTimeout (who : HostReq)
  /-- VF_FLR (R357): A Function Level Reset of a VF fences its channels, resets its registers and mailbox, and sets VF_FLR. -/
  | vfFlr (v : Part)
  /-- PF_RESET (R358): An FLR of PF0, a hot reset or PERST# acts as an FLR of every VF and resets PF0's configuration, aperture, vector and mailbox. -/
  | pfReset
  /-- RING_ENABLE (R350): A write of PCI_RING_CFG.ENABLE checks the ring rules and enables the rings with indices at 0, or refuses it. -/
  | ringEnable (v : Part) (value : Word)
  /-- OQ_FREE_WRITE (R353): A write of PCI_OQ_FREE hands output entries to the module, releasing a Commit phase that waits for them. -/
  | oqFreeWrite (v : Part) (index : BitVec 16)
  /-- EQ_HEAD_WRITE (R355): A write of PCI_EQ_HEAD frees event entries for waiting records. -/
  | eqHeadWrite (v : Part) (index : BitVec 16)
  /-- EVENT_RECORD_WRITE (R355): A queued record is written into the event ring, the tail word is written and the EQ vector sent, once an entry is free. -/
  | eventRecordWrite (p : Part)
  /-- SUBMISSION_READ_FAULT (R355): A failed submission read sets SQ_FAULT, writes a RING_FAULT record and stops the taking of entries. -/
  | submissionReadFault (p : Part) (timeout : Bool)
  /-- MBX_SEND (R361): A write of MBX_SENDt delivers a stamped message to the target mailbox, or is discarded as DENIED, ABORTED or DROPPED. -/
  | mbxSend (sender target : Fin 12) (word : Word)
  /-- MBX_RING (R363): A write of MBX_RINGt ORs doorbell bits into the target's DB_PEND under the send rules. -/
  | mbxRing (sender target : Fin 12) (bells : Word)
  /-- MBX_IN_DATA_READ (R362): A read of MBX_IN_DATA returns the held message and clears FULL. -/
  | mbxInDataRead (t : Fin 12)
  /-- IRQ_FILTER_SETTLE (R364): A source's filtered level takes its raw level after COUNT stable KCLK cycles, and pending bits follow it. -/
  | irqFilterSettle (src : Fin 112)
  /-- IRQ_PEND_WRITE (R365): A write of IRQ_PEND sets and clears pending bits, a hardware set in the same cycle winning. -/
  | irqPendWrite (w : Fin 4) (value : Word)
  /-- IRQ_CLAIM (R366): A read of IRQ_CLAIMp returns the lowest pending unmasked source, clears its pending bit and sets IN_SERVICE, or returns 0 or 127. -/
  | irqClaim (p : Fin 3) (soon : Bool)
  /-- IRQ_DONE (R366): A write of IRQ_DONEp clears IN_SERVICE. -/
  | irqDone (p : Fin 3)
  /-- PARTITION_BUILD (R376): A build command that passes the build rules assigns granules, channels and engines, enables the tenant, generates the KEM key pair and loads or awaits the partition key. -/
  | partitionBuild (p : Part) (step : Fin 7)
  /-- PARTITION_TEARDOWN (R390): A teardown command stops admission, halts the Lathes, fences channels, bumps the epoch, destroys keys and scrubs the partition. -/
  | partitionTeardown (p : Part) (step : Fin 7) (otpOk : Bool)
  /-- TEARDOWN_FENCE_TIMEOUT (R390): After 100 µs of teardown step 3, every enabled channel not yet FENCED is dropped and counted. -/
  | teardownFenceTimeout (p : Part)
  /-- TEARDOWN_COMPLETE (R390): The last teardown step, memory zeroing when ZERO is 1, completes and the partition becomes FREE. -/
  | teardownComplete (p : Part)
  /-- ATTESTATION_REQUEST (R384): A report request with a nonce yields a signed snapshot report within 30 ms of being taken. -/
  | attestationRequest (rq : ReqPath) (nonce : List Byte)
  /-- KEM_REQUEST (R382): A KEM request returns the partition's signed KEM object with its encapsulation key. -/
  | kemRequest (p : Part) (nonce : List Byte)
  /-- KEY_DELIVERY (R383): A key delivery decapsulates, unwraps and loads the tenant's partition key into a slot, optionally starting a rotation. -/
  | keyDelivery (p : Part) (slot : Fin 2) (rotate : Bool) (buildId : Word) (ct wrapped : List Byte)
  /-- OWNER_CHANGE (R381): An owner change request writes the next owner digest into OTP, signed by the current owner, or is refused. -/
  | ownerChange (digest sig : List Byte)
  /-- DEBUG_OPEN (R388): GLB_DBG_CTRL.OPEN, or a debug access without a session, opens a debug session and counts it in FRAM. -/
  | debugOpen (framOk : Bool)
  /-- DEBUG_CLOSE (R388): GLB_DBG_CTRL.CLOSE closes the debug session. -/
  | debugClose
  /-- DEBUG_SESSION_TIMEOUT (R388): A debug session closes after 60 s without a debug access. -/
  | debugSessionTimeout
  /-- DBG_WAY_DATA_ACCESS (R387): A GLB_DBG_WAY_DATA access is served for a free way or a stopped partition and counted, or reads 0 and discards the write. -/
  | dbgWayDataAccess (write : Option Word) (framOk : Bool)
  /-- DICT_READ (R405): A dictionary READ request is authenticated, checked for access and length, and answered with value bytes or a snapshot segment. -/
  | dictRead (path : DictPath) (pdu : List Byte) (env : DictEnv)
  /-- DICT_WRITE (R405): A dictionary WRITE request is authenticated and applied to the entry, its shadow or its staged block, translating commit entries into register commits. -/
  | dictWrite (path : DictPath) (pdu : List Byte) (env : DictEnv)
  /-- DICT_DESCRIBE (R415): A DESCRIBE request returns the type, access, persist mark, size and default of an entry. -/
  | dictDescribe (path : DictPath) (pdu : List Byte) (env : DictEnv)
  /-- SNAPSHOT_EXPIRE (R406): A BLOCK read snapshot is released after 10 s without a read of it. -/
  | snapshotExpire (rq : ReqPath) (idx : BitVec 16) (sub : Byte)
  /-- STAGING_EXPIRE (R407): A staged BLOCK write is discarded after 10 s without a segment. -/
  | stagingExpire (rq : ReqPath) (idx : BitVec 16) (sub : Byte)
  /-- BEACON_TX (R409): Every 100 ms the module broadcasts a BEACON at its next transmit opportunity. -/
  | beaconTx
  /-- BEACON_RX (R410): A valid beacon marks its partner present, records its fields, counts restarts and detects node or partner conflicts. -/
  | beaconRx (src : BitVec 48) (good : Bool) (pdu : List Byte)
  /-- PARTNER_LOST (R410): 345 ms without a beacon from a partner marks it lost and discards its snapshots, staging and SEQ record. -/
  | partnerLost (k : Fin 32)
  /-- SETTINGS_WRITE (R420): A write of 1 to 0x2010:0F composes a settings record from the persist list and programs the next OTP generation, or refuses it. -/
  | settingsWrite (readOk : Bool)
  /-- MIRROR_GO (R422): MBX_DICT_CTRL.GO queues the PDU of the PF0 mirror request buffer, whose response later sets DONE, or is ignored while BUSY. -/
  | mirrorGo
  /-- POWER_ON_RESET (R429): Input entering its range, or the hold-up store running out, starts the power-on sequence from the boot ROM to READY. -/
  | powerOnReset (u : StartUp)
  /-- MODULE_RESET (R425): A module reset returns every block but OTP, flash, FRAM, AON counters and the Tandem to reset and runs the start-up phases again. -/
  | moduleReset (c : Fin 6) (u : StartUp)
  /-- GLB_RST (R425): A write of GLB_RST with the key starts a module reset, and any other value sets RST_BAD. -/
  | glbRst (key : Word) (u : StartUp)
  /-- SVC_WATCHDOG_EXPIRY (R426): 2 s without service of the service controller watchdog causes a module reset with RESET_CAUSE 3. -/
  | svcWatchdogExpiry (u : StartUp)
  /-- UPDATE_HEADER (R440): A write of the component header to 0xB010:01 checks it and opens a session that erases the component's area. -/
  | updateHeader (rq : ReqPath) (header : List Byte)
  /-- UPDATE_ERASE_DONE (R440): The erase of a component area ends and the session leaves ERASING. -/
  | updateEraseDone
  /-- UPDATE_BLOCK (R441): A block write to 0xB020:01 programs and reads back one body block, or is refused. -/
  | updateBlock (rq : ReqPath) (value : List Byte) (readOk : Bool)
  /-- UPDATE_CMD_RESET (R425): Command 1 of 0xB000:0E starts a module reset and clears NO_RESTART. -/
  | updateCmdReset (u : StartUp)
  /-- UPDATE_CONFIRM (R446): Command 2 confirms a TRIAL bank and raises the OTP SVN floor. -/
  | updateConfirm
  /-- UPDATE_ACTIVATE (R443): Command 3 puts a STAGED bank into TRIAL, applies the supervisor image and resets the module. -/
  | updateActivate (rq : ReqPath) (applyOk : Bool) (u : StartUp)
  /-- UPDATE_FINISH (R442): Command 4 checks that the body is complete and its signatures verify, staging the component. -/
  | updateFinish (rq : ReqPath) (u : StartUp)
  /-- UPDATE_SKIP (R442): Command 5 starts copying TARGET's component into the staging bank. -/
  | updateSkip (rq : ReqPath) (id : Fin 16)
  /-- UPDATE_SKIP_DONE (R442): The copy of a skipped component completes and the component is staged. -/
  | updateSkipDone (readOk : Bool)
  /-- UPDATE_ABORT (R438): Command 6 aborts the open update session. -/
  | updateAbort
  /-- UPDATE_SESSION_TIMEOUT (R438): An update session without a request for 10 minutes is aborted. -/
  | updateSessionTimeout
  /-- TRIAL_HOURS_CONFIRM (R446): A TRIAL bank becomes CONFIRMED after CONFIRM_HOURS of READY without a trial failure. -/
  | trialHoursConfirm
  /-- TRIAL_FAILURE (R445): A self-test failure or internal fault of a trial component makes the service controller reset the module for fall-back. -/
  | trialFailure (u : StartUp)
  /-- UPDATE_LOCK (R455): A signed write of 0xB030:01 locks or unlocks updates, or is refused with its cause. -/
  | updateLock (lock : Bool) (seq : Word) (sig : List Byte)
  /-- POWER_COMPONENT_STEP (R460): The power component rises by one each 1 ms above 650 W and falls by one after each 20 ms below 620 W. -/
  | powerComponentStep (volts watts : Fin 8192)
  /-- BRAKE (R460): A 100 µs average above 760 W engages the hardware brake, holding the module level at 12 or more. -/
  | brake
  /-- BRAKE_RELEASE (R460): The active supervisor releases the brake once the 1 ms average is below 620 W. -/
  | brakeRelease (watts : Fin 8192)
  /-- INPUT_LOSS (R462): Input below 38 V for 1 ms sets INPUT_LOST, removes groups C and I and finishes FRAM and bank-record writes. -/
  | inputLoss
  /-- INPUT_RETURN (R462): Input back above 42 V for 10 ms before the store runs out makes the service controller start a module reset. -/
  | inputReturn (u : StartUp)
  /-- RAIL_PGOOD_TIMEOUT (R459): A rail without power-good within 10 ms stops the sequence and removes its group's raised rails. -/
  | railPgoodTimeout (rail : Fin 17) (u : StartUp)
  /-- COOLANT_COMPONENT_UPDATE (R465): The coolant component rises to the highest holding row of the derating table and falls one row after 10 s clear. -/
  | coolantComponentUpdate (inlet outlet : BitVec 12) (flow : Fin 512) (clear : Bool)
  /-- FLOW_STOP (R466): Five raw flow samples below 0.50 L/min force level 15, keep-warm 0 and the valve to 100 %, setting FLOW_STOP. -/
  | flowStop
  /-- FLOW_STOP_END (R466): Flow at or above 1.00 L/min for 1 s ends the flow-stop override. -/
  | flowStopEnd (flow : Fin 512)
  /-- PAIR_DIFFERENCE (R468): A sensor pair difference above 6 °C for 100 ms counts a fault, and above 15 °C lowers its domain's limit. -/
  | pairDifference (pair : Fin 24) (a b : BitVec 12) (lasted : Bool)
  /-- LATHE_LEVEL_STEP (R470): A Lathe level or the I/O component rises each 1 ms above its limit and falls each 10 ms below it, setting LEVEL_CHG. -/
  | latheLevelStep (who : Option Lathe) (readings : List (Fin 64 × BitVec 12))
  /-- THERMAL_TRIP (R471): A sensor above 105 °C in two consecutive samples removes the compute rails and sets TRIP and TRIPPED. -/
  | thermalTrip (n : Fin 64) (reading : BitVec 12)
  /-- AUTO_RESTART (R472): After a trip, with AUTO_RESTART, 10 s of safe temperature, flow and inlet start a module reset, or a third trip sets NO_RESTART. -/
  | autoRestart (u : StartUp)
  /-- KEEP_WARM_TICK (R473): Every 100 ms the Tandem moves the valve and keep-warm duty toward holding the Lathes above FLOOR. -/
  | keepWarmTick
  /-- RAISE_COMPUTE_RAILS (R474): Once flow and inlet have held for 200 ms, groups I and C are raised and levels start at 15. -/
  | raiseComputeRails (inlet outlet : BitVec 12) (flow : Fin 512) (u : StartUp)
  /-- THM_COMMIT (R482): A write of THM_COMMIT applies THM_CFG at the next control tick if the thermal rules hold, or refuses it. -/
  | thmCommit (commit : Bool)
  /-- HEARTBEAT_SILENT (R476): A heartbeat path silent for 3.2 ms sets WIRE_MISS or MBX_MISS, and both paths silent declares the supervisor failed. -/
  | heartbeatSilent (u : Fin 2) (wire mbx : Bool)
  /-- SUPERVISOR_WATCHDOG_EXPIRY (R476): An expired supervisor watchdog resets that supervisor and raises source 8 or 9. -/
  | supervisorWatchdogExpiry (u : Fin 2)
  /-- TAKEOVER (R477): When the owner fails, the other supervisor reads the saved state, computes outputs and becomes owner within 40 ms. -/
  | takeover (readings : List (Fin 64 × BitVec 12))
  /-- PLANNED_HANDOVER (R477): The owner writes its saved state and releases ownership to the other supervisor on request. -/
  | plannedHandover (readings : List (Fin 64 × BitVec 12))
  /-- SAVED_STATE_WRITE (R478): Every 10 ms the owner writes its saved state into the alternate FRAM copy. -/
  | savedStateWrite
  /-- SUPERVISOR_RELOAD (R479): A failed supervisor is reloaded and self-tested, then returns to control or WATCH, or goes OFFLINE after three failures. -/
  | supervisorReload (u : Fin 2) (testOk : Bool) (readings : List (Fin 64 × BitVec 12))
  /-- NO_OWNER_OVERRIDE (R480): 1 s without an owner applies the no-owner override. -/
  | noOwnerOverride
  /-- NO_OWNER_RAIL_REMOVAL (R480): 60 s without an owner removes group C. -/
  | noOwnerRailRemoval
  /-- ERROR_REPORT (R485): A code detector reports a CE or UE against its site, counted in buckets, logged for UE and possibly making the site lasting. -/
  | errorReport (site : Fin 112) (ue : Bool) (n : Fin 65536) (offset : Fin 536870912)
  /-- BUCKET_ROTATE (R487): At the end of each WINDOW / 8 span the oldest bucket of every site and cell is cleared and becomes current. -/
  | bucketRotate
  /-- ERR_COMMIT (R503): A write of ERR_COMMIT applies the error configuration if its rules hold, clearing buckets when WINDOW changes. -/
  | errCommit (commit : Bool)
  /-- ERR_LOG_READ (R486): A read of ERR_LOG_LO returns and removes the oldest UE log entry, latching its site and time. -/
  | errLogRead
  /-- KAT_BACKGROUND_START (R492): A background known-answer pass starts every KAT_PERIOD, at a temperature-bin change or on request. -/
  | katBackgroundStart (n : Lathe)
  /-- KAT_PASS_MISSED (R492): A background pass not completed within 4 × KAT_PERIOD counts as missed and sets KAT_MISSED. -/
  | katPassMissed (n : Lathe)
  /-- KAT_RESULT (R494): A completed test is recorded in its cell, and a failure may mark the Lathe suspect and writes a KAT_FAIL record. -/
  | katResult (n : Lathe) (t : Fin 8) (digest : Word)
  /-- LATHE_RETIRE (R495): A suspect Lathe is retired by programming its OTP bit, taking it OFFLINE and stopping its partition. -/
  | latheRetire (n : Lathe) (otpOk : Bool)
  /-- MAINTENANCE_WINDOW (R495): A write of 0x5010:0E retires the suspect Lathes held for a maintenance window. -/
  | maintenanceWindow (otpOk : Bool)
  /-- LATHE_LIFT (R496): A service-role lift retests a retired Lathe and returns it to IDLE if every test passes. -/
  | latheLift (n : Lathe) (bad : BitVec 8) (otpOk : Bool)
  /-- LIFETIME_COMMIT (R499): Every LIFE_PERIOD, on command or before a reset, the lifetime store writes its other half and then its header. -/
  | lifetimeCommit
  /-- RESTORE_ARM (R500): Restore command 1 writes an uncommitted restore marker and enters ARMED. -/
  | restoreArm (p : Part)
  /-- RESTORE_START (R500): Restore command 2 starts the pull checkpoint job and enters PULLING. -/
  | restoreStart (p : Part)
  /-- RESTORE_COMMIT (R500): Restore command 3 in PULLED commits the marker and enters COMMITTED. -/
  | restoreCommit (p : Part)
  /-- RESTORE_ABORT (R501): Restore command 4, a failed job or a teardown aborts the restore and tears the partition down with zeroing. -/
  | restoreAbort (p : Part) (cmd : Bool)
  /-- LOCATE_PIN_CHANGE (R509): Two equal 10 ms samples of LOCATE# take a new level that lights or clears the LOCATE indicator. -/
  | locatePinChange (low : Bool)
  /-- HOLDUP_CHARGED (R461): The hold-up store reaches 90 % of full charge and HOLDUP_OK becomes 1, releasing retirement OTP programming that waited for it. -/
  | holdupCharged (otpOk : Bool)
  /-- SENSOR_INVALID (R467): A sensor that reports an internal fault or reads outside −40 °C to 150 °C becomes invalid and raises its hub alarm, and its pair falls back to the other sensor with a lowered limit. -/
  | sensorInvalid (n : Fin 64)
  /-- DOE_ABORT (R384): A DOE abort on a function discards the response to that function's pending request. -/
  | doeAbort (fn : Func)
  /-- PLCA_BEACON_HEARD (R395): A follower hears the coordinator's PLCA BEACON, PLCA becomes active and the module returns to transmitting only in its own transmit opportunity. -/
  | plcaBeaconHeard
  /-- PLCA_BEACON_LOST (R394): When no PLCA BEACON arrives, for example with node 0 absent, PLCA becomes inactive and the module transmits with CSMA/CD. -/
  | plcaBeaconLost
deriving DecidableEq, Repr

end Sys2Proof
end

