-- ==== Sys2Proof/Config.lean ====
section
/-! DEFINITION. What the spec leaves open or hands to an external standard: constants without a body, so that no proof can
see a value of them. -/

namespace Sys2Proof

/-- A value that the spec leaves open; the argument is the number of open values drawn before it (log 1). -/
opaque Config.freeValue : Nat → Nat

/-- How far a free-running counter has advanced when the queue is found empty: which counter, and how many times before
(log 3). -/
opaque Config.tick : Nat → Nat → Nat

/-- AES-256-XTS encryption of one unit (IEEE 1619, R249): 64 bytes of key, tweak, plaintext. -/
opaque Config.xtsEnc : List Byte → Nat → List Byte → List Byte

/-- AES-256-XTS decryption of one unit (R249). -/
opaque Config.xtsDec : List Byte → Nat → List Byte → List Byte

/-- Where within its bound of Table 2.7 the implementation's result of a special function lies, for the function (0 reciprocal,
1 reciprocal square root, 2 exp2, 3 log2) and the FP32 operand: every C0 module gives the same one (R66). -/
opaque Config.ulpOff : Nat → Nat → Nat

/-- The read-only coefficient table of R67: 1,024 FP32 words, whose contents the spec does not print. -/
opaque Config.polyCoef : Nat → Nat

/-- The FP32 result of a sum of integer multiples of FP32 operands whose order the spec does not give (R64, R120, R121): which
transform (0 input, 1 output), and the terms as (factor, FP32 code). -/
opaque Config.winoSum : Nat → List (Int × Nat) → Nat

/-- The FP32 multiplier with which a WINO converts V into INT8 or INT4, for the A scale (R58, R121): no field of the descriptor names one. -/
opaque Config.winoMult : Nat → Nat

/-- The latency of a partition's largest Prepare or Commit group (Table 6.6), which no rule computes, from its SLOT_COUNT, CHUNK,
CHUNK_RES, SPEC_NODES, PORT_RES and FRAME_BYTES (log 31). -/
opaque Config.largestGroup : List Nat → Nat

/-- SHA3-512 (FIPS 202): 64 bytes (R378 to R382, R436). -/
opaque Config.sha3 : List Byte → List Byte

/-- KMAC256 under a key with the customisation string NZ-OD, whose first 16 bytes are a TAG (NIST SP 800-185, R400). -/
opaque Config.kmac : List Byte → List Byte → List Byte

/-- ML-DSA-87 (FIPS 204): the public key that a seed gives, the signature under a seed's key with a context string of a message, and whether a
signature verifies under a public key (R378, R379, R386). -/
opaque Config.dsaPublic : List Byte → List Byte
opaque Config.dsaSign : List Byte → List Byte → List Byte → List Byte
opaque Config.dsaVerify : List Byte → List Byte → List Byte → List Byte → Bool

/-- ML-KEM-1024 (FIPS 203): the encapsulation key of a seed, and the secret that a ciphertext gives under a seed's key (R382, R383). -/
opaque Config.kemEk : List Byte → List Byte
opaque Config.kemDecaps : List Byte → List Byte → List Byte

/-- AES-KW unwrapping of NIST SP 800-38F under a key: none when the integrity check fails (R383). -/
opaque Config.kwUnwrap : List Byte → List Byte → Option (List Byte)

/-- The boot ROM's fixed version, and the digest of it fixed at manufacture (Table 13.7). -/
opaque Config.romVersion : Nat
opaque Config.romDigest : List Byte

/-- What a configuration register holds, by function and register number, beyond the identifiers of R341: the PCI Express Base Specification
and the host give it. -/
opaque Config.pciConfig : Nat → Nat → Nat

end Sys2Proof
end

