-- ==== Sys2Proof/Machine/ArbTable.lean ====
section
/-! DEFINITION. Tables 9.5 and 9.6: the arbiter instances, their requesters and the requesters' reset settings (R283). -/

namespace Sys2Proof.Machine

/-- REQS of Table 9.5. -/
def arbReqs (i : Nat) : Nat :=
  if i < 16 then 29 else if i < 32 then 19 else if i < 48 then 11 else if i < 50 then 19 else if i < 51 then 32 else 4

/-- The CLASS, LIMIT and RATE that Table 9.6 gives requester `r` of instance `i`. A requester the table does not list
never requests; its settings are those of the class 3 rows (DESIGN CHOICE, log 6). -/
def arbReset (i r : Nat) : Nat × Nat × Nat :=
  if i < 16 then
    if r < 5 then (0, 64, 0) else if r < 8 then (1, 32, 0) else if r < 10 then (2, 128, 2) else if r < 12 then (2, 128, 0)
    else if r = 12 then (3, 1023, 4) else if r < 16 then (3, 1023, 0) else (0, 64, 0)
  else if i < 32 then
    if r < 16 then (0, 32, 0) else if r < 18 then (2, 128, 0) else if r = 18 then (1, 32, 0) else (3, 1023, 0)
  else if i < 48 then
    if r = 0 then (0, 16, 0) else if r < 6 then (1, 64, 0) else if r < 9 then (0, 16, 0) else if r = 9 then (2, 128, 0) else (3, 1023, 0)
  else if i < 50 then
    if r < 16 then (0, 64, 0) else if r = 16 then (1, 64, 0) else if r = 17 then (0, 8, 0) else (3, 1023, 0)
  else if i < 51 then (2, 256, 0)
  else if r < 3 then (0, 16, 0) else if r = 3 then (1, 32, 0) else (3, 1023, 0)

def arbClass0 (i r : Nat) : Nat := (arbReset i r).1
def arbLimit0 (i r : Nat) : Nat := (arbReset i r).2.1
def arbRate0 (i r : Nat) : Nat := (arbReset i r).2.2

end Sys2Proof.Machine
end

