-- ==== Sys2Proof/Machine/Cells.lean ====
section
/-! DEFINITION. Sparse storage: a list of (place, contents) pairs in one canonical form, places strictly rising and no
pair equal to what an unlisted place reads as. -/

namespace Sys2Proof.Machine

/-- Contents by place; a place that is not listed holds the default its reader names. -/
abbrev Cells (α : Type) := List (Nat × α)

/-- What place `k` holds, `d` being what an unlisted place reads as. -/
def Cells.get {α : Type} (d : α) (m : Cells α) (k : Nat) : α :=
  match m with
  | [] => d
  | p :: t => if p.1 = k then p.2 else Cells.get d t k

/-- The cells without place `k`. -/
def Cells.erase {α : Type} (m : Cells α) (k : Nat) : Cells α := m.filter (fun p => p.1 != k)

/-- Insert a pair before the first larger place. -/
def Cells.ins {α : Type} (k : Nat) (v : α) : Cells α → Cells α
  | [] => [(k, v)]
  | p :: t => if k < p.1 then (k, v) :: p :: t else p :: Cells.ins k v t

/-- Place `k` made to hold `v`; writing the default removes the pair. -/
def Cells.set {α : Type} [DecidableEq α] (d : α) (m : Cells α) (k : Nat) (v : α) : Cells α :=
  if v = d then Cells.erase m k else Cells.ins k v (Cells.erase m k)

/-- Every place of `[lo, hi)` back to its default. -/
def Cells.clear {α : Type} (m : Cells α) (lo hi : Nat) : Cells α := m.filter (fun p => !(lo ≤ p.1 && p.1 < hi))

/-- The pairs of `[lo, hi)`. -/
def Cells.within {α : Type} (m : Cells α) (lo hi : Nat) : Cells α := m.filter (fun p => lo ≤ p.1 && p.1 < hi)

/-- The `len` places from `dst` made to hold what the `len` places from `src` hold. -/
def Cells.copy {α : Type} (m : Cells α) (src dst len : Nat) : Cells α :=
  (Cells.within m src (src + len)).foldl (fun acc p => Cells.ins (p.1 - src + dst) p.2 acc) (Cells.clear m dst (dst + len))

/-- Every place of `[lo, lo + n)` made to hold `v`, which is not the default. -/
def Cells.fill {α : Type} (m : Cells α) (lo n : Nat) (v : α) : Cells α :=
  m.filter (fun p => p.1 < lo) ++ (List.range n).map (fun i => (lo + i, v)) ++ m.filter (fun p => lo + n ≤ p.1)

/-- Write a list of values at consecutive places. -/
def Cells.setList {α : Type} [DecidableEq α] (d : α) (m : Cells α) (k : Nat) : List α → Cells α
  | [] => m
  | v :: t => Cells.setList d (Cells.set d m k v) (k + 1) t

/-- The values of `n` consecutive places. -/
def Cells.getList {α : Type} (d : α) (m : Cells α) (k : Nat) : Nat → List α
  | 0 => []
  | n + 1 => Cells.get d m k :: Cells.getList d m (k + 1) n

/-- The canonical form: places strictly rising and no listed value equal to the default. -/
def Cells.wf {α : Type} [DecidableEq α] (d : α) : Cells α → Bool
  | [] => true
  | [p] => p.2 ≠ d
  | p :: q :: t => p.2 ≠ d && p.1 < q.1 && Cells.wf d (q :: t)

end Sys2Proof.Machine
end

