-- ==== Sys2Proof/Machine/Regs.lean ====
section
/-! DEFINITION. The register fields of the module, one `Fld` per field of the register tables of spec/ (R14):
the address of its register, its lowest bit, its width, its access type (R15) and its reset value.
The name is REGISTER.FIELD as the spec spells it; the arguments are the block's instance numbers
(`n` Lathe or port, `p` partition, `g c` group and channel, `e k` engine and context, `i r` arbiter and requester,
`v` virtual function, `t` mailbox receiver, `pl` plane, `w` word). -/

namespace Sys2Proof.Machine

/-- Access types of R15. -/
inductive Acc where
  | ro | rw | w1c | w1s | wo | rc | sh
deriving DecidableEq, Repr

/-- A register field (R14). -/
structure Fld where
  addr : Nat
  lo : Nat
  width : Nat
  acc : Acc
  reset : Nat
deriving DecidableEq, Repr

/-- The cell that holds a field: its register's address and its lowest bit. -/
def Fld.key (f : Fld) : Nat := f.addr * 32 + f.lo

namespace Reg

/-! Block bases of Table 1.11 (PF0 BAR0) and of the partition, channel and context blocks. The windows that are not in
PF0 BAR0 are given addresses above its 256 MiB: VF v's BAR0 (16 MiB each), PF0's BAR4, and one block per mailbox
receiver (DESIGN CHOICE, log 5: only names for places, the spec gives these windows no common address). -/

def glbB : Nat := 0
def lthB (n : Nat) : Nat := 0x01000000 + n * 0x00100000
def atsB (n : Nat) : Nat := 0x02000000 + n * 0x00010000
def pltB : Nat := 0x02100000
def pltP (p : Nat) : Nat := pltB + 0x1000 + p * 0x100
def smpB : Nat := 0x02200000
def smpP (p : Nat) : Nat := smpB + 0x1000 + p * 0x100
def pftB : Nat := 0x02300000
def pftP (p : Nat) : Nat := pftB + 0x1000 + p * 0x100
def memB (n : Nat) : Nat := 0x03000000 + n * 0x00010000
def keyB : Nat := 0x03200000
def keyP (p : Nat) : Nat := keyB + 0x1000 + p * 0x1000
def keyR (p r : Nat) : Nat := keyP p + 0x100 + r * 0x10
def tdmaG (g : Nat) : Nat := 0x04000000 + g * 0x1000
def tdmaC (g c : Nat) : Nat := tdmaG g + 0x100 + c * 0x40
def hdmaB : Nat := 0x04100000
def hdmaC (c : Nat) : Nat := hdmaB + 0x1000 + c * 0x100
def arbI (i : Nat) : Nat := 0x04200000 + i * 0x1000
def vidE (e : Nat) : Nat := 0x05000000 + e * 0x00010000
def vidC (e k : Nat) : Nat := vidE e + 0x1000 + k * 0x100
def fabB : Nat := 0x06000000
def fabP (p : Nat) : Nat := fabB + 0x1000 + p * 0x100
def irqB : Nat := 0x07001000
def thmB : Nat := 0x08000000
def errB : Nat := 0x09000000
def vfB (v : Nat) : Nat := 0x10000000 + v * 0x01000000
def bar4B : Nat := 0x20000000
def mbxT (t : Nat) : Nat := 0x30000000 + t * 0x1000

/-! SPD_EXC_STAT (spec/02_arithmetic.md, Table 2.9). -/
def SPD_EXC_STAT.NAN_IN (n : Nat) : Fld := ⟨lthB n + 0x00090000, 0, 1, .w1c, 0⟩
def SPD_EXC_STAT.INVALID (n : Nat) : Fld := ⟨lthB n + 0x00090000, 1, 1, .w1c, 0⟩
def SPD_EXC_STAT.OVF (n : Nat) : Fld := ⟨lthB n + 0x00090000, 2, 1, .w1c, 0⟩
def SPD_EXC_STAT.SAT (n : Nat) : Fld := ⟨lthB n + 0x00090000, 3, 1, .w1c, 0⟩
def SPD_EXC_STAT.SCALE_CLAMP (n : Nat) : Fld := ⟨lthB n + 0x00090000, 4, 1, .w1c, 0⟩
def SPD_EXC_STAT.SPD_MASK (n : Nat) : Fld := ⟨lthB n + 0x00090000, 8, 8, .w1c, 0⟩

/-! VEC_EXC_STAT (spec/02_arithmetic.md, Table 2.10). -/
def VEC_EXC_STAT.NAN_IN (n : Nat) : Fld := ⟨lthB n + 0x00080000, 0, 1, .w1c, 0⟩
def VEC_EXC_STAT.INVALID (n : Nat) : Fld := ⟨lthB n + 0x00080000, 1, 1, .w1c, 0⟩
def VEC_EXC_STAT.OVF (n : Nat) : Fld := ⟨lthB n + 0x00080000, 2, 1, .w1c, 0⟩
def VEC_EXC_STAT.SAT (n : Nat) : Fld := ⟨lthB n + 0x00080000, 3, 1, .w1c, 0⟩
def VEC_EXC_STAT.SCALE_CLAMP (n : Nat) : Fld := ⟨lthB n + 0x00080000, 4, 1, .w1c, 0⟩

/-! VEC_POLY_ADDR (spec/02_arithmetic.md, Table 2.11). -/
def VEC_POLY_ADDR.ADDR (n : Nat) : Fld := ⟨lthB n + 0x00080010, 0, 10, .rw, 0⟩

/-! VEC_POLY_DATA (spec/02_arithmetic.md, Table 2.12). -/
def VEC_POLY_DATA.COEF (n : Nat) : Fld := ⟨lthB n + 0x00080014, 0, 32, .ro, 0⟩

/-! LTH_ID (spec/03_lathes.md, Table 3.13). -/
def LTH_ID.LATHE (n : Nat) : Fld := ⟨lthB n + 0x00000000, 0, 4, .ro, n⟩
def LTH_ID.RETIRED (n : Nat) : Fld := ⟨lthB n + 0x00000000, 4, 1, .ro, 0⟩
def LTH_ID.REPAIRS (n : Nat) : Fld := ⟨lthB n + 0x00000000, 8, 8, .ro, 0⟩

/-! LTH_SEQ_STAT (spec/03_lathes.md, Table 3.14). -/
def LTH_SEQ_STAT.STATE (n : Nat) : Fld := ⟨lthB n + 0x00000004, 0, 4, .ro, 0⟩
def LTH_SEQ_STAT.DESC_IDX (n : Nat) : Fld := ⟨lthB n + 0x00000004, 4, 12, .ro, 0⟩
def LTH_SEQ_STAT.GO_PENDING (n : Nat) : Fld := ⟨lthB n + 0x00000004, 16, 1, .ro, 0⟩
def LTH_SEQ_STAT.BUF (n : Nat) : Fld := ⟨lthB n + 0x00000004, 17, 1, .ro, 0⟩

/-! LTH_SEQ_GO (spec/03_lathes.md, Table 3.15). -/
def LTH_SEQ_GO.LEN (n : Nat) : Fld := ⟨lthB n + 0x00000008, 0, 12, .wo, 0⟩
def LTH_SEQ_GO.BUF (n : Nat) : Fld := ⟨lthB n + 0x00000008, 12, 1, .wo, 0⟩

/-! LTH_SEQ_CTRL (spec/03_lathes.md, Table 3.16). -/
def LTH_SEQ_CTRL.STOP (n : Nat) : Fld := ⟨lthB n + 0x0000000C, 0, 1, .w1s, 0⟩
def LTH_SEQ_CTRL.RESUME (n : Nat) : Fld := ⟨lthB n + 0x0000000C, 1, 1, .wo, 0⟩
def LTH_SEQ_CTRL.LRESET (n : Nat) : Fld := ⟨lthB n + 0x0000000C, 2, 1, .wo, 0⟩
def LTH_SEQ_CTRL.ABORT (n : Nat) : Fld := ⟨lthB n + 0x0000000C, 3, 1, .wo, 0⟩

/-! LTH_PLAN_BASE (spec/03_lathes.md, Table 3.17). -/
def LTH_PLAN_BASE.BASE (n b : Nat) : Fld := ⟨lthB n + (0x10 + 4 * b), 7, 17, .rw, 0⟩

/-! LTH_PART (spec/03_lathes.md, Table 3.18). -/
def LTH_PART.WAY_MASK (n : Nat) : Fld := ⟨lthB n + 0x00000018, 0, 16, .rw, 0⟩
def LTH_PART.PART (n : Nat) : Fld := ⟨lthB n + 0x00000018, 16, 3, .rw, 0⟩
def LTH_PART.ASSIGNED (n : Nat) : Fld := ⟨lthB n + 0x00000018, 19, 1, .rw, 0⟩
def LTH_PART.PLT_OWNED (n : Nat) : Fld := ⟨lthB n + 0x00000018, 20, 1, .rw, 0⟩

/-! LTH_EPOCH (spec/03_lathes.md, Table 3.19). -/
def LTH_EPOCH.STEP_EPOCH (n : Nat) : Fld := ⟨lthB n + 0x0000001C, 0, 16, .ro, 0⟩

/-! LTH_CLK_CFG (spec/03_lathes.md, Table 3.20). -/
def LTH_CLK_CFG.FMIN_CODE (n : Nat) : Fld := ⟨lthB n + 0x00000020, 0, 5, .sh, 0⟩
def LTH_CLK_CFG.FMAX_CODE (n : Nat) : Fld := ⟨lthB n + 0x00000020, 8, 5, .sh, 16⟩

/-! LTH_CLK_STAT (spec/03_lathes.md, Table 3.21). -/
def LTH_CLK_STAT.CUR_CODE (n : Nat) : Fld := ⟨lthB n + 0x00000024, 0, 5, .ro, 0⟩
def LTH_CLK_STAT.FMIN_EFF (n : Nat) : Fld := ⟨lthB n + 0x00000024, 5, 5, .ro, 0⟩
def LTH_CLK_STAT.FMAX_EFF (n : Nat) : Fld := ⟨lthB n + 0x00000024, 10, 5, .ro, 16⟩
def LTH_CLK_STAT.CEIL_CODE (n : Nat) : Fld := ⟨lthB n + 0x00000024, 15, 5, .ro, 16⟩
def LTH_CLK_STAT.DUTY (n : Nat) : Fld := ⟨lthB n + 0x00000024, 20, 4, .ro, 8⟩
def LTH_CLK_STAT.BELOW_FLOOR (n : Nat) : Fld := ⟨lthB n + 0x00000024, 24, 1, .ro, 0⟩
def LTH_CLK_STAT.DROOPS (n : Nat) : Fld := ⟨lthB n + 0x00000024, 25, 7, .rc, 0⟩

/-! LTH_WAIT_LIMIT (spec/03_lathes.md, Table 3.22). -/
def LTH_WAIT_LIMIT.LIMIT (n : Nat) : Fld := ⟨lthB n + 0x00000028, 0, 24, .sh, 8192⟩

/-! LTH_COMMIT (spec/03_lathes.md, Table 3.23). -/
def LTH_COMMIT.COMMIT (n : Nat) : Fld := ⟨lthB n + 0x0000002C, 0, 1, .wo, 0⟩
def LTH_COMMIT.AT_EPOCH (n : Nat) : Fld := ⟨lthB n + 0x0000002C, 1, 1, .wo, 0⟩

/-! LTH_CFG_STAT (spec/03_lathes.md, Table 3.24). -/
def LTH_CFG_STAT.CFG_BUSY_WR (n : Nat) : Fld := ⟨lthB n + 0x00000030, 0, 1, .w1c, 0⟩
def LTH_CFG_STAT.CFG_MISMATCH (n : Nat) : Fld := ⟨lthB n + 0x00000030, 1, 1, .w1c, 0⟩
def LTH_CFG_STAT.PENDING (n : Nat) : Fld := ⟨lthB n + 0x00000030, 2, 2, .ro, 0⟩
def LTH_CFG_STAT.CFG_RULE (n : Nat) : Fld := ⟨lthB n + 0x00000030, 8, 4, .ro, 0⟩

/-! LTH_ERR_STAT (spec/03_lathes.md, Table 3.25). -/
def LTH_ERR_STAT.DESC_BAD (n : Nat) : Fld := ⟨lthB n + 0x00000040, 0, 1, .w1c, 0⟩
def LTH_ERR_STAT.ADDR_FAULT (n : Nat) : Fld := ⟨lthB n + 0x00000040, 1, 1, .w1c, 0⟩
def LTH_ERR_STAT.LSRAM_UE (n : Nat) : Fld := ⟨lthB n + 0x00000040, 2, 1, .w1c, 0⟩
def LTH_ERR_STAT.SHARED_UE (n : Nat) : Fld := ⟨lthB n + 0x00000040, 3, 1, .w1c, 0⟩
def LTH_ERR_STAT.TDMA_STOP (n : Nat) : Fld := ⟨lthB n + 0x00000040, 4, 1, .w1c, 0⟩
def LTH_ERR_STAT.STREAMER_FAULT (n : Nat) : Fld := ⟨lthB n + 0x00000040, 5, 1, .w1c, 0⟩
def LTH_ERR_STAT.WAIT_TIMEOUT (n : Nat) : Fld := ⟨lthB n + 0x00000040, 6, 1, .w1c, 0⟩
def LTH_ERR_STAT.KAT_MISCOMPARE (n : Nat) : Fld := ⟨lthB n + 0x00000040, 7, 1, .w1c, 0⟩
def LTH_ERR_STAT.PROG_REGRESS (n : Nat) : Fld := ⟨lthB n + 0x00000040, 8, 1, .w1c, 0⟩
def LTH_ERR_STAT.GO_OVERRUN (n : Nat) : Fld := ⟨lthB n + 0x00000040, 9, 1, .w1c, 0⟩
def LTH_ERR_STAT.GO_REFUSED (n : Nat) : Fld := ⟨lthB n + 0x00000040, 10, 1, .w1c, 0⟩
def LTH_ERR_STAT.LSRAM_CE (n : Nat) : Fld := ⟨lthB n + 0x00000040, 11, 1, .w1c, 0⟩
def LTH_ERR_STAT.DBG_DENIED (n : Nat) : Fld := ⟨lthB n + 0x00000040, 12, 1, .w1c, 0⟩

/-! LTH_ERR_INFO (spec/03_lathes.md, Table 3.26). -/
def LTH_ERR_INFO.DESC_IDX (n : Nat) : Fld := ⟨lthB n + 0x00000044, 0, 12, .ro, 0⟩
def LTH_ERR_INFO.BUF (n : Nat) : Fld := ⟨lthB n + 0x00000044, 12, 1, .ro, 0⟩
def LTH_ERR_INFO.STEP_EPOCH (n : Nat) : Fld := ⟨lthB n + 0x00000044, 16, 16, .ro, 0⟩

/-! LTH_LSRAM_CE (spec/03_lathes.md, Table 3.27). -/
def LTH_LSRAM_CE.COUNT (n : Nat) : Fld := ⟨lthB n + 0x00000048, 0, 16, .rc, 0⟩

/-! LTH_INJ (spec/03_lathes.md, Table 3.28). -/
def LTH_INJ.LSRAM_CE (n : Nat) : Fld := ⟨lthB n + 0x00000050, 0, 1, .w1s, 0⟩
def LTH_INJ.LSRAM_UE (n : Nat) : Fld := ⟨lthB n + 0x00000050, 1, 1, .w1s, 0⟩
def LTH_INJ.EVT_DROP (n : Nat) : Fld := ⟨lthB n + 0x00000050, 2, 1, .w1s, 0⟩
def LTH_INJ.KAT_FLIP (n : Nat) : Fld := ⟨lthB n + 0x00000050, 3, 1, .w1s, 0⟩
def LTH_INJ.DROOP (n : Nat) : Fld := ⟨lthB n + 0x00000050, 4, 1, .w1s, 0⟩

/-! LTH_CYC_LO (spec/03_lathes.md, Table 3.29). -/
def LTH_CYC_LO.CYC (n : Nat) : Fld := ⟨lthB n + 0x00000060, 0, 32, .ro, 0⟩

/-! LTH_CYC_HI (spec/03_lathes.md, Table 3.29). -/
def LTH_CYC_HI.CYC (n : Nat) : Fld := ⟨lthB n + 0x00000064, 0, 32, .ro, 0⟩

/-! LTH_EVT_INC (spec/03_lathes.md, Table 3.30). -/
def LTH_EVT_INC.CTR (n : Nat) : Fld := ⟨lthB n + 0x00000070, 0, 5, .wo, 0⟩
def LTH_EVT_INC.AMOUNT (n : Nat) : Fld := ⟨lthB n + 0x00000070, 8, 8, .wo, 0⟩

/-! LTH_DBG_ADDR (spec/03_lathes.md, Table 3.31). -/
def LTH_DBG_ADDR.ADDR (n : Nat) : Fld := ⟨lthB n + 0x00000080, 0, 24, .rw, 0⟩

/-! LTH_DBG_DATA (spec/03_lathes.md, Table 3.31). -/
def LTH_DBG_DATA.DATA (n : Nat) : Fld := ⟨lthB n + 0x00000084, 0, 32, .rw, 0⟩

/-! LTH_EVT_CNT (spec/03_lathes.md, Table 3.32). -/
def LTH_EVT_CNT.COUNT (n c : Nat) : Fld := ⟨lthB n + (0x1000 + 4 * c), 0, 32, .ro, 0⟩

/-! ATS_STAT (spec/05_attention_kv.md, Table 5.13). -/
def ATS_STAT.STATE (n : Nat) : Fld := ⟨atsB n + 0x0000, 0, 3, .ro, 0⟩
def ATS_STAT.ENTRY (n : Nat) : Fld := ⟨atsB n + 0x0000, 3, 13, .ro, 0⟩
def ATS_STAT.PAGE (n : Nat) : Fld := ⟨atsB n + 0x0000, 16, 14, .ro, 0⟩

/-! ATS_ERR_STAT (spec/05_attention_kv.md, Table 5.14). -/
def ATS_ERR_STAT.HDR_BAD (n : Nat) : Fld := ⟨atsB n + 0x0004, 0, 1, .w1c, 0⟩
def ATS_ERR_STAT.LEN_MISMATCH (n : Nat) : Fld := ⟨atsB n + 0x0004, 1, 1, .w1c, 0⟩
def ATS_ERR_STAT.BAD_SLOT (n : Nat) : Fld := ⟨atsB n + 0x0004, 2, 1, .w1c, 0⟩
def ATS_ERR_STAT.NO_FRAME (n : Nat) : Fld := ⟨atsB n + 0x0004, 3, 1, .w1c, 0⟩
def ATS_ERR_STAT.MEM_UE (n : Nat) : Fld := ⟨atsB n + 0x0004, 4, 1, .w1c, 0⟩
def ATS_ERR_STAT.TABLE_UE (n : Nat) : Fld := ⟨atsB n + 0x0004, 5, 1, .w1c, 0⟩
def ATS_ERR_STAT.POS_LIMIT (n : Nat) : Fld := ⟨atsB n + 0x0004, 6, 1, .w1c, 0⟩

/-! ATS_ERR_INFO (spec/05_attention_kv.md, Table 5.15). -/
def ATS_ERR_INFO.SLOT (n : Nat) : Fld := ⟨atsB n + 0x0008, 0, 13, .ro, 0⟩
def ATS_ERR_INFO.PAGE (n : Nat) : Fld := ⟨atsB n + 0x0008, 14, 14, .ro, 0⟩

/-! ATS_BYTES_LO (spec/05_attention_kv.md, Table 5.16). -/
def ATS_BYTES_LO.BYTES (n : Nat) : Fld := ⟨atsB n + 0x0010, 0, 32, .ro, 0⟩

/-! ATS_BYTES_HI (spec/05_attention_kv.md, Table 5.16). -/
def ATS_BYTES_HI.BYTES (n : Nat) : Fld := ⟨atsB n + 0x0014, 0, 32, .ro, 0⟩

/-! ATS_SKIPPED (spec/05_attention_kv.md, Table 5.17). -/
def ATS_SKIPPED.COUNT (n : Nat) : Fld := ⟨atsB n + 0x0018, 0, 32, .rc, 0⟩

/-! ATS_INJ (spec/05_attention_kv.md, Table 5.18). -/
def ATS_INJ.HDR (n : Nat) : Fld := ⟨atsB n + 0x0020, 0, 1, .w1s, 0⟩
def ATS_INJ.LEN (n : Nat) : Fld := ⟨atsB n + 0x0020, 1, 1, .w1s, 0⟩
def ATS_INJ.NOFRAME (n : Nat) : Fld := ⟨atsB n + 0x0020, 2, 1, .w1s, 0⟩
def ATS_INJ.UE (n : Nat) : Fld := ⟨atsB n + 0x0020, 3, 1, .w1s, 0⟩
def ATS_INJ.TUE (n : Nat) : Fld := ⟨atsB n + 0x0020, 4, 1, .w1s, 0⟩

/-! PFT_CMD (spec/05_attention_kv.md, Table 5.19). -/
def PFT_CMD.WORD (w : Nat) : Fld := ⟨pftB + (4 * w), 0, 32, .wo, 0⟩

/-! PFT_CMD_STAT (spec/05_attention_kv.md, Table 5.20). -/
def PFT_CMD_STAT.DEPTH : Fld := ⟨pftB + 0x0010, 0, 5, .ro, 0⟩
def PFT_CMD_STAT.FULL : Fld := ⟨pftB + 0x0010, 5, 1, .ro, 0⟩
def PFT_CMD_STAT.OVERRUN : Fld := ⟨pftB + 0x0010, 6, 1, .w1c, 0⟩

/-! PFT_RESP (spec/05_attention_kv.md, Table 5.21). -/
def PFT_RESP.TAG : Fld := ⟨pftB + 0x0014, 0, 16, .rc, 0⟩
def PFT_RESP.STATUS : Fld := ⟨pftB + 0x0014, 16, 8, .rc, 0⟩
def PFT_RESP.GEN : Fld := ⟨pftB + 0x0014, 24, 1, .rc, 0⟩
def PFT_RESP.VALID : Fld := ⟨pftB + 0x0014, 31, 1, .rc, 0⟩

/-! PFT_ERR_STAT (spec/05_attention_kv.md, Table 5.22). -/
def PFT_ERR_STAT.MEM_UE : Fld := ⟨pftB + 0x0020, 0, 1, .w1c, 0⟩
def PFT_ERR_STAT.REF_UNDERFLOW : Fld := ⟨pftB + 0x0020, 1, 1, .w1c, 0⟩
def PFT_ERR_STAT.FAULT : Fld := ⟨pftB + 0x0020, 2, 8, .ro, 0⟩

/-! PFT_ERR_INFO (spec/05_attention_kv.md, Table 5.23). -/
def PFT_ERR_INFO.FRAME : Fld := ⟨pftB + 0x0024, 0, 24, .ro, 0⟩
def PFT_ERR_INFO.PART : Fld := ⟨pftB + 0x0024, 24, 3, .ro, 0⟩

/-! PFT_INJ (spec/05_attention_kv.md, Table 5.24). -/
def PFT_INJ.UE : Fld := ⟨pftB + 0x0028, 0, 1, .w1s, 0⟩
def PFT_INJ.UNDER : Fld := ⟨pftB + 0x0028, 1, 1, .w1s, 0⟩
def PFT_INJ.NOFRAME : Fld := ⟨pftB + 0x0028, 2, 1, .w1s, 0⟩

/-! PFT_REC_ADDR (spec/05_attention_kv.md, Table 5.25). -/
def PFT_REC_ADDR.ADDR : Fld := ⟨pftB + 0x0030, 0, 16, .rw, 0⟩

/-! PFT_REC_DATA (spec/05_attention_kv.md, Table 5.25). -/
def PFT_REC_DATA.DATA : Fld := ⟨pftB + 0x0034, 0, 32, .ro, 0⟩

/-! PFT_POOL_BASE (spec/05_attention_kv.md, Table 5.26). -/
def PFT_POOL_BASE.BASE (p : Nat) : Fld := ⟨pftP p + 0x00, 0, 24, .sh, 0⟩

/-! PFT_POOL_FRAMES (spec/05_attention_kv.md, Table 5.27). -/
def PFT_POOL_FRAMES.FRAMES (p : Nat) : Fld := ⟨pftP p + 0x04, 0, 25, .sh, 0⟩

/-! PFT_FRAME_SIZE (spec/05_attention_kv.md, Table 5.28). -/
def PFT_FRAME_SIZE.FRAME_4K (p : Nat) : Fld := ⟨pftP p + 0x08, 0, 16, .sh, 0⟩

/-! PFT_GEOM (spec/05_attention_kv.md, Table 5.29). -/
def PFT_GEOM.KV_FMT (p : Nat) : Fld := ⟨pftP p + 0x0C, 0, 4, .sh, 2⟩
def PFT_GEOM.LAYERS (p : Nat) : Fld := ⟨pftP p + 0x0C, 4, 9, .sh, 0⟩
def PFT_GEOM.HL (p : Nat) : Fld := ⟨pftP p + 0x0C, 13, 8, .sh, 0⟩
def PFT_GEOM.DIM32 (p : Nat) : Fld := ⟨pftP p + 0x0C, 21, 4, .sh, 0⟩

/-! PFT_TABLE_BASE (spec/05_attention_kv.md, Table 5.30). -/
def PFT_TABLE_BASE.BASE (p : Nat) : Fld := ⟨pftP p + 0x10, 0, 24, .sh, 0⟩
def PFT_TABLE_BASE.TABLE_PORT (p : Nat) : Fld := ⟨pftP p + 0x10, 24, 4, .sh, 0⟩

/-! PFT_TABLE_SIZE (spec/05_attention_kv.md, Table 5.31). -/
def PFT_TABLE_SIZE.SIZE (p : Nat) : Fld := ⟨pftP p + 0x14, 0, 24, .sh, 0⟩

/-! PFT_PROV_FRAMES (spec/05_attention_kv.md, Table 5.32). -/
def PFT_PROV_FRAMES.PROV (p : Nat) : Fld := ⟨pftP p + 0x28, 0, 25, .sh, 0⟩

/-! PFT_COMMIT (spec/05_attention_kv.md, Table 5.33). -/
def PFT_COMMIT.COMMIT (p : Nat) : Fld := ⟨pftP p + 0x18, 0, 1, .wo, 0⟩
def PFT_COMMIT.ENABLE (p : Nat) : Fld := ⟨pftP p + 0x18, 1, 1, .wo, 0⟩

/-! PFT_PART_STAT (spec/05_attention_kv.md, Table 5.34). -/
def PFT_PART_STAT.ENABLED (p : Nat) : Fld := ⟨pftP p + 0x1C, 0, 1, .ro, 0⟩
def PFT_PART_STAT.READY (p : Nat) : Fld := ⟨pftP p + 0x1C, 1, 1, .ro, 0⟩
def PFT_PART_STAT.CFG_BUSY_WR (p : Nat) : Fld := ⟨pftP p + 0x1C, 2, 1, .w1c, 0⟩
def PFT_PART_STAT.CFG_MISMATCH (p : Nat) : Fld := ⟨pftP p + 0x1C, 3, 1, .w1c, 0⟩
def PFT_PART_STAT.CFG_RULE (p : Nat) : Fld := ⟨pftP p + 0x1C, 4, 4, .ro, 0⟩

/-! PFT_FREE (spec/05_attention_kv.md, Table 5.35). -/
def PFT_FREE.FRAMES (p : Nat) : Fld := ⟨pftP p + 0x20, 0, 25, .ro, 0⟩

/-! PFT_WALKS (spec/05_attention_kv.md, Table 5.36). -/
def PFT_WALKS.CNT0 (p : Nat) : Fld := ⟨pftP p + 0x24, 0, 15, .ro, 0⟩
def PFT_WALKS.GEN (p : Nat) : Fld := ⟨pftP p + 0x24, 15, 1, .ro, 0⟩
def PFT_WALKS.CNT1 (p : Nat) : Fld := ⟨pftP p + 0x24, 16, 15, .ro, 0⟩
def PFT_WALKS.RETIRED (p : Nat) : Fld := ⟨pftP p + 0x24, 31, 1, .ro, 0⟩

/-! PLT_NOW_LO (spec/06_peloton.md, Table 6.13). -/
def PLT_NOW_LO.NOW : Fld := ⟨pltB + 0x0000, 0, 32, .ro, 0⟩

/-! PLT_NOW_HI (spec/06_peloton.md, Table 6.13). -/
def PLT_NOW_HI.NOW : Fld := ⟨pltB + 0x0004, 0, 32, .ro, 0⟩

/-! PLT_ERR_STAT (spec/06_peloton.md, Table 6.14). -/
def PLT_ERR_STAT.SRAM_CE : Fld := ⟨pltB + 0x0010, 0, 1, .w1c, 0⟩
def PLT_ERR_STAT.SRAM_UE : Fld := ⟨pltB + 0x0010, 1, 1, .w1c, 0⟩
def PLT_ERR_STAT.ACK_TIMEOUT : Fld := ⟨pltB + 0x0010, 2, 1, .w1c, 0⟩
def PLT_ERR_STAT.TMPL_BAD : Fld := ⟨pltB + 0x0010, 3, 1, .w1c, 0⟩
def PLT_ERR_STAT.STOPPED : Fld := ⟨pltB + 0x0010, 8, 8, .ro, 0⟩
def PLT_ERR_STAT.CE_COUNT : Fld := ⟨pltB + 0x0010, 16, 16, .ro, 0⟩

/-! PLT_INJ (spec/06_peloton.md, Table 6.15). -/
def PLT_INJ.SRAM_CE : Fld := ⟨pltB + 0x0014, 0, 1, .w1s, 0⟩
def PLT_INJ.SRAM_UE : Fld := ⟨pltB + 0x0014, 1, 1, .w1s, 0⟩
def PLT_INJ.ACK_DROP : Fld := ⟨pltB + 0x0014, 2, 1, .w1s, 0⟩
def PLT_INJ.LATE : Fld := ⟨pltB + 0x0014, 3, 1, .w1s, 0⟩

/-! PLT_SLOT_ADDR (spec/06_peloton.md, Table 6.16). -/
def PLT_SLOT_ADDR.ADDR : Fld := ⟨pltB + 0x0020, 0, 17, .rw, 0⟩

/-! PLT_SLOT_DATA (spec/06_peloton.md, Table 6.16). -/
def PLT_SLOT_DATA.DATA : Fld := ⟨pltB + 0x0024, 0, 32, .ro, 0⟩

/-! PLT_BKT_ADDR (spec/06_peloton.md, Table 6.17). -/
def PLT_BKT_ADDR.ADDR : Fld := ⟨pltB + 0x0030, 0, 13, .rw, 0⟩

/-! PLT_BKT_DATA (spec/06_peloton.md, Table 6.17). -/
def PLT_BKT_DATA.DATA : Fld := ⟨pltB + 0x0034, 0, 32, .rw, 0⟩

/-! PLT_COST_ADDR (spec/06_peloton.md, Table 6.18). -/
def PLT_COST_ADDR.ADDR : Fld := ⟨pltB + 0x0040, 0, 19, .rw, 0⟩

/-! PLT_COST_DATA (spec/06_peloton.md, Table 6.18). -/
def PLT_COST_DATA.DATA : Fld := ⟨pltB + 0x0044, 0, 32, .ro, 0⟩

/-! PLT_CADENCE (spec/06_peloton.md, Table 6.19). -/
def PLT_CADENCE.CADENCE (p : Nat) : Fld := ⟨pltP p + 0x00, 0, 24, .sh, 23437⟩

/-! PLT_LIMITS (spec/06_peloton.md, Table 6.20). -/
def PLT_LIMITS.CHUNK64 (p : Nat) : Fld := ⟨pltP p + 0x04, 0, 7, .sh, 4⟩
def PLT_LIMITS.CHUNK_RES (p : Nat) : Fld := ⟨pltP p + 0x04, 7, 4, .sh, 1⟩
def PLT_LIMITS.SPEC_NODES (p : Nat) : Fld := ⟨pltP p + 0x04, 11, 7, .sh, 0⟩
def PLT_LIMITS.QMAX (p : Nat) : Fld := ⟨pltP p + 0x04, 18, 8, .sh, 64⟩
def PLT_LIMITS.PORT_RES (p : Nat) : Fld := ⟨pltP p + 0x04, 26, 6, .sh, 8⟩

/-! PLT_MAXLEN (spec/06_peloton.md, Table 6.21). -/
def PLT_MAXLEN.MAX_LEN (p : Nat) : Fld := ⟨pltP p + 0x08, 0, 21, .sh, 32768⟩

/-! PLT_SLOTS (spec/06_peloton.md, Table 6.22). -/
def PLT_SLOTS.SLOT_BASE (p : Nat) : Fld := ⟨pltP p + 0x0C, 0, 13, .sh, 0⟩
def PLT_SLOTS.SLOT_COUNT (p : Nat) : Fld := ⟨pltP p + 0x0C, 16, 14, .sh, 0⟩

/-! PLT_TMPL (spec/06_peloton.md, Table 6.23). -/
def PLT_TMPL.TMPL_ADDR (p : Nat) : Fld := ⟨pltP p + 0x10, 0, 24, .sh, 0⟩

/-! PLT_PFT_ALLOW (spec/06_peloton.md, Table 6.24). -/
def PLT_PFT_ALLOW.PFT_ALLOW (p : Nat) : Fld := ⟨pltP p + 0x14, 0, 24, .sh, 65536⟩

/-! PLT_TIMEOUTS (spec/06_peloton.md, Table 6.25). -/
def PLT_TIMEOUTS.ACK_LIMIT (p : Nat) : Fld := ⟨pltP p + 0x18, 0, 16, .sh, 4096⟩
def PLT_TIMEOUTS.LATE_LIMIT (p : Nat) : Fld := ⟨pltP p + 0x18, 16, 4, .sh, 4⟩
def PLT_TIMEOUTS.ERR_LIMIT (p : Nat) : Fld := ⟨pltP p + 0x18, 20, 4, .sh, 2⟩

/-! PLT_CLASS (spec/06_peloton.md, Table 6.26). -/
def PLT_CLASS.TTFT (p c : Nat) : Fld := ⟨pltP p + (0x20 + 4 * c), 0, 24, .sh, (if c = 0 then 1832 else 9156)⟩
def PLT_CLASS.ENABLE (p c : Nat) : Fld := ⟨pltP p + (0x20 + 4 * c), 24, 1, .sh, (if c = 0 then 1 else 0)⟩

/-! PLT_COMMIT (spec/06_peloton.md, Table 6.27). -/
def PLT_COMMIT.COMMIT (p : Nat) : Fld := ⟨pltP p + 0x30, 0, 1, .wo, 0⟩
def PLT_COMMIT.ENABLE (p : Nat) : Fld := ⟨pltP p + 0x30, 1, 1, .wo, 0⟩

/-! PLT_PSTAT (spec/06_peloton.md, Table 6.28). -/
def PLT_PSTAT.STATE (p : Nat) : Fld := ⟨pltP p + 0x34, 0, 3, .ro, 0⟩
def PLT_PSTAT.DERATED (p : Nat) : Fld := ⟨pltP p + 0x34, 3, 1, .ro, 0⟩
def PLT_PSTAT.CFG_BUSY_WR (p : Nat) : Fld := ⟨pltP p + 0x34, 4, 1, .w1c, 0⟩
def PLT_PSTAT.CFG_MISMATCH (p : Nat) : Fld := ⟨pltP p + 0x34, 5, 1, .w1c, 0⟩
def PLT_PSTAT.CFG_RULE (p : Nat) : Fld := ⟨pltP p + 0x34, 6, 4, .ro, 0⟩
def PLT_PSTAT.TMPL_BAD (p : Nat) : Fld := ⟨pltP p + 0x34, 10, 1, .w1c, 0⟩
def PLT_PSTAT.PENDING (p : Nat) : Fld := ⟨pltP p + 0x34, 11, 1, .ro, 0⟩
def PLT_PSTAT.TMPL_ENTRY (p : Nat) : Fld := ⟨pltP p + 0x34, 16, 12, .ro, 0⟩
def PLT_PSTAT.TMPL_SLOT (p : Nat) : Fld := ⟨pltP p + 0x34, 28, 4, .ro, 0⟩

/-! PLT_LOAD (spec/06_peloton.md, Table 6.29). -/
def PLT_LOAD.VALUE (p : Nat) : Fld := ⟨pltP p + 0x38, 0, 32, .ro, 0⟩

/-! PLT_FIX (spec/06_peloton.md, Table 6.29). -/
def PLT_FIX.VALUE (p : Nat) : Fld := ⟨pltP p + 0x3C, 0, 32, .ro, 0⟩

/-! PLT_STEP_LO (spec/06_peloton.md, Table 6.30). -/
def PLT_STEP_LO.STEP (p : Nat) : Fld := ⟨pltP p + 0x40, 0, 32, .ro, 0⟩

/-! PLT_STEP_HI (spec/06_peloton.md, Table 6.30). -/
def PLT_STEP_HI.STEP (p : Nat) : Fld := ⟨pltP p + 0x44, 0, 32, .ro, 0⟩

/-! PLT_PERIOD (spec/06_peloton.md, Table 6.31). -/
def PLT_PERIOD.VALUE (p : Nat) : Fld := ⟨pltP p + 0x48, 0, 32, .ro, 0⟩

/-! PLT_ALLOW (spec/06_peloton.md, Table 6.31). -/
def PLT_ALLOW.VALUE (p : Nat) : Fld := ⟨pltP p + 0x4C, 0, 32, .ro, 0⟩

/-! PLT_COUNTS (spec/06_peloton.md, Table 6.32). -/
def PLT_COUNTS.GUARANTEED (p : Nat) : Fld := ⟨pltP p + 0x50, 0, 14, .ro, 0⟩
def PLT_COUNTS.DEMOTED (p : Nat) : Fld := ⟨pltP p + 0x50, 16, 14, .ro, 0⟩

/-! SMP_STAT (spec/07_sampling_speculation.md, Table 7.10). -/
def SMP_STAT.BUSY : Fld := ⟨smpB + 0x0000, 0, 1, .ro, 0⟩
def SMP_STAT.PART : Fld := ⟨smpB + 0x0000, 1, 3, .ro, 0⟩
def SMP_STAT.WAITING : Fld := ⟨smpB + 0x0000, 4, 9, .ro, 0⟩

/-! SMP_ERR_STAT (spec/07_sampling_speculation.md, Table 7.11). -/
def SMP_ERR_STAT.SRAM_CE : Fld := ⟨smpB + 0x0004, 0, 1, .w1c, 0⟩
def SMP_ERR_STAT.SRAM_UE : Fld := ⟨smpB + 0x0004, 1, 1, .w1c, 0⟩
def SMP_ERR_STAT.LOGIT_UE : Fld := ⟨smpB + 0x0004, 2, 1, .w1c, 0⟩
def SMP_ERR_STAT.COUNT_UE : Fld := ⟨smpB + 0x0004, 3, 1, .w1c, 0⟩
def SMP_ERR_STAT.COUNT_FULL : Fld := ⟨smpB + 0x0004, 4, 1, .w1c, 0⟩
def SMP_ERR_STAT.CE_COUNT : Fld := ⟨smpB + 0x0004, 16, 16, .ro, 0⟩

/-! SMP_INJ (spec/07_sampling_speculation.md, Table 7.12). -/
def SMP_INJ.SRAM_CE : Fld := ⟨smpB + 0x0008, 0, 1, .w1s, 0⟩
def SMP_INJ.SRAM_UE : Fld := ⟨smpB + 0x0008, 1, 1, .w1s, 0⟩
def SMP_INJ.LOGIT_UE : Fld := ⟨smpB + 0x0008, 2, 1, .w1s, 0⟩
def SMP_INJ.COUNT_UE : Fld := ⟨smpB + 0x0008, 3, 1, .w1s, 0⟩
def SMP_INJ.RNG_ZERO : Fld := ⟨smpB + 0x0008, 4, 1, .w1s, 0⟩

/-! SMP_PROF_ADDR (spec/07_sampling_speculation.md, Table 7.13). -/
def SMP_PROF_ADDR.ADDR : Fld := ⟨smpB + 0x0010, 0, 14, .rw, 0⟩

/-! SMP_PROF_DATA (spec/07_sampling_speculation.md, Table 7.13). -/
def SMP_PROF_DATA.DATA : Fld := ⟨smpB + 0x0014, 0, 32, .rw, 0⟩

/-! SMP_PROF_COMMIT (spec/07_sampling_speculation.md, Table 7.14). -/
def SMP_PROF_COMMIT.PROFILE : Fld := ⟨smpB + 0x0018, 0, 10, .wo, 0⟩
def SMP_PROF_COMMIT.COMMIT : Fld := ⟨smpB + 0x0018, 31, 1, .wo, 0⟩

/-! SMP_PROF_STAT (spec/07_sampling_speculation.md, Table 7.15). -/
def SMP_PROF_STAT.PENDING : Fld := ⟨smpB + 0x001C, 0, 1, .ro, 0⟩
def SMP_PROF_STAT.CFG_MISMATCH : Fld := ⟨smpB + 0x001C, 1, 1, .w1c, 0⟩
def SMP_PROF_STAT.CFG_RULE : Fld := ⟨smpB + 0x001C, 2, 4, .ro, 0⟩

/-! SMP_SLOT_ADDR (spec/07_sampling_speculation.md, Table 7.16). -/
def SMP_SLOT_ADDR.SLOT : Fld := ⟨smpB + 0x0020, 0, 13, .rw, 0⟩

/-! SMP_SLOT_DATA (spec/07_sampling_speculation.md, Table 7.16). -/
def SMP_SLOT_DATA.USED : Fld := ⟨smpB + 0x0024, 0, 12, .ro, 0⟩
def SMP_SLOT_DATA.OVERFLOW : Fld := ⟨smpB + 0x0024, 12, 1, .ro, 0⟩

/-! SMP_LOGIT (spec/07_sampling_speculation.md, Table 7.17). -/
def SMP_LOGIT.LOGIT_BASE (p : Nat) : Fld := ⟨smpP p + 0x00, 0, 24, .sh, 0⟩
def SMP_LOGIT.FMT (p : Nat) : Fld := ⟨smpP p + 0x00, 24, 1, .sh, 0⟩

/-! SMP_LOGIT_LD (spec/07_sampling_speculation.md, Table 7.18). -/
def SMP_LOGIT_LD.LOGIT_LD (p : Nat) : Fld := ⟨smpP p + 0x04, 0, 24, .sh, 0⟩

/-! SMP_VOCAB (spec/07_sampling_speculation.md, Table 7.19). -/
def SMP_VOCAB.VOCAB (p : Nat) : Fld := ⟨smpP p + 0x08, 0, 19, .sh, 0⟩

/-! SMP_VSHARD (spec/07_sampling_speculation.md, Table 7.20). -/
def SMP_VSHARD.VSHARD (p : Nat) : Fld := ⟨smpP p + 0x0C, 0, 19, .sh, 0⟩

/-! SMP_COUNT_BASE (spec/07_sampling_speculation.md, Table 7.21). -/
def SMP_COUNT_BASE.BASE (p : Nat) : Fld := ⟨smpP p + 0x10, 0, 24, .sh, 0⟩

/-! SMP_TREE_ADDR (spec/07_sampling_speculation.md, Table 7.22). -/
def SMP_TREE_ADDR.NODE (p : Nat) : Fld := ⟨smpP p + 0x14, 0, 6, .rw, 0⟩

/-! SMP_TREE_DATA (spec/07_sampling_speculation.md, Table 7.22). -/
def SMP_TREE_DATA.PARENT (p : Nat) : Fld := ⟨smpP p + 0x18, 0, 6, .rw, 63⟩

/-! SMP_TREE_LOC (spec/07_sampling_speculation.md, Table 7.23). -/
def SMP_TREE_LOC.LOC (p : Nat) : Fld := ⟨smpP p + 0x1C, 0, 24, .rw, 0⟩

/-! SMP_COMMIT (spec/07_sampling_speculation.md, Table 7.24). -/
def SMP_COMMIT.COMMIT (p : Nat) : Fld := ⟨smpP p + 0x20, 0, 1, .wo, 0⟩

/-! SMP_PSTAT (spec/07_sampling_speculation.md, Table 7.25). -/
def SMP_PSTAT.CFG_BUSY_WR (p : Nat) : Fld := ⟨smpP p + 0x24, 0, 1, .w1c, 0⟩
def SMP_PSTAT.CFG_MISMATCH (p : Nat) : Fld := ⟨smpP p + 0x24, 1, 1, .w1c, 0⟩
def SMP_PSTAT.CFG_RULE (p : Nat) : Fld := ⟨smpP p + 0x24, 2, 4, .ro, 0⟩
def SMP_PSTAT.PENDING (p : Nat) : Fld := ⟨smpP p + 0x24, 6, 1, .ro, 0⟩

/-! SMP_JMAX (spec/07_sampling_speculation.md, Table 7.26). -/
def SMP_JMAX.JMAX (p : Nat) : Fld := ⟨smpP p + 0x28, 0, 32, .ro, 0⟩

/-! SMP_DRAWS (spec/07_sampling_speculation.md, Table 7.27). -/
def SMP_DRAWS.COUNT (p : Nat) : Fld := ⟨smpP p + 0x2C, 0, 32, .rc, 0⟩

/-! SMP_DRAFTED (spec/07_sampling_speculation.md, Table 7.27). -/
def SMP_DRAFTED.COUNT (p : Nat) : Fld := ⟨smpP p + 0x30, 0, 32, .rc, 0⟩

/-! SMP_ACCEPTED (spec/07_sampling_speculation.md, Table 7.27). -/
def SMP_ACCEPTED.COUNT (p : Nat) : Fld := ⟨smpP p + 0x34, 0, 32, .rc, 0⟩

/-! MEM_STAT (spec/08_memory.md, Table 8.5). -/
def MEM_STAT.STATE (n : Nat) : Fld := ⟨memB n + 0x0000, 0, 3, .ro, 0⟩
def MEM_STAT.RATE (n : Nat) : Fld := ⟨memB n + 0x0000, 3, 2, .ro, 0⟩
def MEM_STAT.CFG_BUSY_WR (n : Nat) : Fld := ⟨memB n + 0x0000, 5, 1, .w1c, 0⟩
def MEM_STAT.SPARES_USED (n : Nat) : Fld := ⟨memB n + 0x0000, 6, 10, .ro, 0⟩

/-! MEM_CFG (spec/08_memory.md, Table 8.6). -/
def MEM_CFG.SCRUB_PERIOD (n : Nat) : Fld := ⟨memB n + 0x0004, 0, 8, .sh, 24⟩
def MEM_CFG.RETIRE_CE (n : Nat) : Fld := ⟨memB n + 0x0004, 8, 8, .sh, 16⟩
def MEM_CFG.AUTO_SR (n : Nat) : Fld := ⟨memB n + 0x0004, 16, 1, .sh, 1⟩

/-! MEM_COMMIT (spec/08_memory.md, Table 8.7). -/
def MEM_COMMIT.COMMIT (n : Nat) : Fld := ⟨memB n + 0x0008, 0, 1, .wo, 0⟩
def MEM_COMMIT.CFG_MISMATCH (n : Nat) : Fld := ⟨memB n + 0x0008, 1, 1, .w1c, 0⟩

/-! MEM_ERR_STAT (spec/08_memory.md, Table 8.8). -/
def MEM_ERR_STAT.CE (n : Nat) : Fld := ⟨memB n + 0x0010, 0, 1, .w1c, 0⟩
def MEM_ERR_STAT.UE (n : Nat) : Fld := ⟨memB n + 0x0010, 1, 1, .w1c, 0⟩
def MEM_ERR_STAT.SCRUB_UE (n : Nat) : Fld := ⟨memB n + 0x0010, 2, 1, .w1c, 0⟩
def MEM_ERR_STAT.RETIRED (n : Nat) : Fld := ⟨memB n + 0x0010, 3, 1, .w1c, 0⟩
def MEM_ERR_STAT.RETIRE_FULL (n : Nat) : Fld := ⟨memB n + 0x0010, 4, 1, .w1c, 0⟩
def MEM_ERR_STAT.TRAIN_FAIL (n : Nat) : Fld := ⟨memB n + 0x0010, 5, 1, .ro, 0⟩
def MEM_ERR_STAT.WR_UE (n : Nat) : Fld := ⟨memB n + 0x0010, 6, 1, .w1c, 0⟩
def MEM_ERR_STAT.REGION_FAULT (n : Nat) : Fld := ⟨memB n + 0x0010, 7, 1, .w1c, 0⟩
def MEM_ERR_STAT.PROV_FAULT (n : Nat) : Fld := ⟨memB n + 0x0010, 8, 1, .w1c, 0⟩
def MEM_ERR_STAT.CE_COUNT (n : Nat) : Fld := ⟨memB n + 0x0010, 16, 16, .rc, 0⟩

/-! MEM_ERR_ADDR (spec/08_memory.md, Table 8.9). -/
def MEM_ERR_ADDR.UNIT (n : Nat) : Fld := ⟨memB n + 0x0014, 0, 29, .ro, 0⟩

/-! MEM_ERR_SYN (spec/08_memory.md, Table 8.10). -/
def MEM_ERR_SYN.SYMBOL (n : Nat) : Fld := ⟨memB n + 0x0018, 0, 5, .ro, 0⟩
def MEM_ERR_SYN.BEAT (n : Nat) : Fld := ⟨memB n + 0x0018, 5, 4, .ro, 0⟩
def MEM_ERR_SYN.SYNDROME (n : Nat) : Fld := ⟨memB n + 0x0018, 16, 16, .ro, 0⟩

/-! MEM_INJ (spec/08_memory.md, Table 8.11). -/
def MEM_INJ.CE (n : Nat) : Fld := ⟨memB n + 0x0020, 0, 1, .w1s, 0⟩
def MEM_INJ.UE (n : Nat) : Fld := ⟨memB n + 0x0020, 1, 1, .w1s, 0⟩
def MEM_INJ.TRAIN (n : Nat) : Fld := ⟨memB n + 0x0020, 2, 1, .w1s, 0⟩
def MEM_INJ.SYM (n : Nat) : Fld := ⟨memB n + 0x0020, 8, 5, .rw, 0⟩

/-! MEM_RETIRE (spec/08_memory.md, Table 8.12). -/
def MEM_RETIRE.BLOCK (n : Nat) : Fld := ⟨memB n + 0x0030, 0, 24, .wo, 0⟩

/-! MEM_RET_ADDR (spec/08_memory.md, Table 8.13). -/
def MEM_RET_ADDR.SPARE (n : Nat) : Fld := ⟨memB n + 0x0034, 0, 9, .rw, 0⟩

/-! MEM_RET_DATA (spec/08_memory.md, Table 8.13). -/
def MEM_RET_DATA.BLOCK (n : Nat) : Fld := ⟨memB n + 0x0038, 0, 24, .ro, 0⟩
def MEM_RET_DATA.VALID (n : Nat) : Fld := ⟨memB n + 0x0038, 31, 1, .ro, 0⟩

/-! MEM_SCRUB_POS (spec/08_memory.md, Table 8.14). -/
def MEM_SCRUB_POS.UNIT (n : Nat) : Fld := ⟨memB n + 0x0040, 0, 29, .ro, 0⟩

/-! KEY_ERR_STAT (spec/08_memory.md, Table 8.16). -/
def KEY_ERR_STAT.CE : Fld := ⟨keyB + 0x0000, 0, 1, .w1c, 0⟩
def KEY_ERR_STAT.UE : Fld := ⟨keyB + 0x0000, 1, 1, .w1c, 0⟩
def KEY_ERR_STAT.KAT_FAIL : Fld := ⟨keyB + 0x0000, 2, 1, .ro, 0⟩
def KEY_ERR_STAT.KEY_FAULT : Fld := ⟨keyB + 0x0000, 8, 8, .ro, 0⟩

/-! KEY_INJ (spec/08_memory.md, Table 8.17). -/
def KEY_INJ.CE : Fld := ⟨keyB + 0x0004, 0, 1, .w1s, 0⟩
def KEY_INJ.UE : Fld := ⟨keyB + 0x0004, 1, 1, .w1s, 0⟩
def KEY_INJ.KAT : Fld := ⟨keyB + 0x0004, 2, 1, .w1s, 0⟩

/-! KEY_PSTAT (spec/08_memory.md, Table 8.18). -/
def KEY_PSTAT.STATE (p : Nat) : Fld := ⟨keyP p + 0x000, 0, 2, .ro, 0⟩
def KEY_PSTAT.LOADED0 (p : Nat) : Fld := ⟨keyP p + 0x000, 2, 1, .ro, 0⟩
def KEY_PSTAT.LOADED1 (p : Nat) : Fld := ⟨keyP p + 0x000, 3, 1, .ro, 0⟩
def KEY_PSTAT.CURRENT (p : Nat) : Fld := ⟨keyP p + 0x000, 4, 1, .ro, 0⟩
def KEY_PSTAT.CFG_BUSY_WR (p : Nat) : Fld := ⟨keyP p + 0x000, 5, 1, .w1c, 0⟩
def KEY_PSTAT.CFG_MISMATCH (p : Nat) : Fld := ⟨keyP p + 0x000, 6, 1, .w1c, 0⟩
def KEY_PSTAT.CFG_RULE (p : Nat) : Fld := ⟨keyP p + 0x000, 7, 4, .ro, 0⟩
def KEY_PSTAT.PENDING (p : Nat) : Fld := ⟨keyP p + 0x000, 11, 1, .ro, 0⟩
def KEY_PSTAT.ENABLED (p : Nat) : Fld := ⟨keyP p + 0x000, 12, 1, .ro, 0⟩

/-! KEY_PCFG (spec/08_memory.md, Table 8.19). -/
def KEY_PCFG.SWEEP_SHARE (p : Nat) : Fld := ⟨keyP p + 0x004, 0, 6, .sh, 4⟩

/-! KEY_PCOMMIT (spec/08_memory.md, Table 8.20). -/
def KEY_PCOMMIT.COMMIT (p : Nat) : Fld := ⟨keyP p + 0x008, 0, 1, .wo, 0⟩
def KEY_PCOMMIT.ENABLE (p : Nat) : Fld := ⟨keyP p + 0x008, 1, 1, .wo, 0⟩

/-! KEY_ROTATE (spec/08_memory.md, Table 8.21). -/
def KEY_ROTATE.START (p : Nat) : Fld := ⟨keyP p + 0x00C, 0, 1, .wo, 0⟩

/-! KEY_INFLIGHT (spec/08_memory.md, Table 8.22). -/
def KEY_INFLIGHT.SLOT0 (p : Nat) : Fld := ⟨keyP p + 0x010, 0, 16, .ro, 0⟩
def KEY_INFLIGHT.SLOT1 (p : Nat) : Fld := ⟨keyP p + 0x010, 16, 16, .ro, 0⟩

/-! KEY_LOST (spec/08_memory.md, Table 8.23). -/
def KEY_LOST.UNITS (p : Nat) : Fld := ⟨keyP p + 0x014, 0, 16, .rc, 0⟩

/-! KEY_RGN_BASE (spec/08_memory.md, Table 8.24). -/
def KEY_RGN_BASE.PORT (p r : Nat) : Fld := ⟨keyR p r + 0x0, 0, 4, .sh, 0⟩
def KEY_RGN_BASE.BASE (p r : Nat) : Fld := ⟨keyR p r + 0x0, 4, 15, .sh, 0⟩
def KEY_RGN_BASE.VALID (p r : Nat) : Fld := ⟨keyR p r + 0x0, 31, 1, .sh, 0⟩

/-! KEY_RGN_SIZE (spec/08_memory.md, Table 8.25). -/
def KEY_RGN_SIZE.SIZE (p r : Nat) : Fld := ⟨keyR p r + 0x4, 0, 16, .sh, 0⟩
def KEY_RGN_SIZE.HOST (p r : Nat) : Fld := ⟨keyR p r + 0x4, 16, 1, .sh, 0⟩
def KEY_RGN_SIZE.FAB (p r : Nat) : Fld := ⟨keyR p r + 0x4, 17, 1, .sh, 0⟩

/-! KEY_RGN_STAT (spec/08_memory.md, Table 8.26). -/
def KEY_RGN_STAT.SLOT (p r : Nat) : Fld := ⟨keyR p r + 0x8, 0, 1, .ro, 0⟩
def KEY_RGN_STAT.SWEEPING (p r : Nat) : Fld := ⟨keyR p r + 0x8, 1, 1, .ro, 0⟩
def KEY_RGN_STAT.NEW_SLOT (p r : Nat) : Fld := ⟨keyR p r + 0x8, 2, 1, .ro, 0⟩

/-! KEY_RGN_WM (spec/08_memory.md, Table 8.27). -/
def KEY_RGN_WM.UNIT (p r : Nat) : Fld := ⟨keyR p r + 0xC, 0, 29, .ro, 0⟩

/-! TDMA_GRP_STAT (spec/09_dma_arbiters.md, Table 9.10). -/
def TDMA_GRP_STAT.STOPPED (g : Nat) : Fld := ⟨tdmaG g + 0x000, 0, 1, .ro, 0⟩
def TDMA_GRP_STAT.CAUSE (g : Nat) : Fld := ⟨tdmaG g + 0x000, 1, 3, .ro, 0⟩
def TDMA_GRP_STAT.CHANNEL (g : Nat) : Fld := ⟨tdmaG g + 0x000, 4, 2, .ro, 0⟩
def TDMA_GRP_STAT.CFG_BUSY_WR (g : Nat) : Fld := ⟨tdmaG g + 0x000, 6, 1, .w1c, 0⟩
def TDMA_GRP_STAT.CFG_MISMATCH (g : Nat) : Fld := ⟨tdmaG g + 0x000, 7, 1, .w1c, 0⟩

/-! TDMA_GRP_ADDR_LO (spec/09_dma_arbiters.md, Table 9.11). -/
def TDMA_GRP_ADDR_LO.ADDR (g : Nat) : Fld := ⟨tdmaG g + 0x004, 0, 32, .ro, 0⟩

/-! TDMA_GRP_ADDR_HI (spec/09_dma_arbiters.md, Table 9.11). -/
def TDMA_GRP_ADDR_HI.ADDR (g : Nat) : Fld := ⟨tdmaG g + 0x008, 0, 32, .ro, 0⟩

/-! TDMA_GRP_CTRL (spec/09_dma_arbiters.md, Table 9.12). -/
def TDMA_GRP_CTRL.CLEAR (g : Nat) : Fld := ⟨tdmaG g + 0x00C, 0, 1, .wo, 0⟩

/-! TDMA_INJ (spec/09_dma_arbiters.md, Table 9.12). -/
def TDMA_INJ.BUS_ERR (g : Nat) : Fld := ⟨tdmaG g + 0x010, 0, 1, .w1s, 0⟩

/-! TDMA_CH_CTRL (spec/09_dma_arbiters.md, Table 9.13). -/
def TDMA_CH_CTRL.ENABLE (g c : Nat) : Fld := ⟨tdmaC g c + 0x00, 0, 1, .rw, 1⟩
def TDMA_CH_CTRL.FENCE (g c : Nat) : Fld := ⟨tdmaC g c + 0x00, 1, 1, .rw, 0⟩

/-! TDMA_CH_STAT (spec/09_dma_arbiters.md, Table 9.14). -/
def TDMA_CH_STAT.STATE (g c : Nat) : Fld := ⟨tdmaC g c + 0x04, 0, 3, .ro, 1⟩
def TDMA_CH_STAT.DESC (g c : Nat) : Fld := ⟨tdmaC g c + 0x04, 7, 17, .ro, 0⟩

/-! TDMA_CH_KICK (spec/09_dma_arbiters.md, Table 9.15). -/
def TDMA_CH_KICK.TDESC_ADDR (g c : Nat) : Fld := ⟨tdmaC g c + 0x08, 0, 24, .wo, 0⟩
def TDMA_CH_KICK.GO (g c : Nat) : Fld := ⟨tdmaC g c + 0x08, 31, 1, .wo, 0⟩

/-! TDMA_CH_CFG (spec/09_dma_arbiters.md, Table 9.16). -/
def TDMA_CH_CFG.RATE (g c : Nat) : Fld := ⟨tdmaC g c + 0x0C, 0, 6, .sh, 0⟩
def TDMA_CH_CFG.BURST (g c : Nat) : Fld := ⟨tdmaC g c + 0x0C, 6, 6, .sh, 8⟩

/-! TDMA_CH_COMMIT (spec/09_dma_arbiters.md, Table 9.17). -/
def TDMA_CH_COMMIT.COMMIT (g c : Nat) : Fld := ⟨tdmaC g c + 0x10, 0, 1, .wo, 0⟩

/-! TDMA_CH_BYTES (spec/09_dma_arbiters.md, Table 9.17). -/
def TDMA_CH_BYTES.UNITS (g c : Nat) : Fld := ⟨tdmaC g c + 0x14, 0, 32, .rc, 0⟩

/-! HDMA_ENG_STAT (spec/09_dma_arbiters.md, Table 9.18). -/
def HDMA_ENG_STAT.STOPPED : Fld := ⟨hdmaB + 0x000, 0, 1, .ro, 0⟩
def HDMA_ENG_STAT.CAUSE : Fld := ⟨hdmaB + 0x000, 1, 3, .ro, 0⟩

/-! HDMA_ENG_ADDR_LO (spec/09_dma_arbiters.md, Table 9.19). -/
def HDMA_ENG_ADDR_LO.ADDR : Fld := ⟨hdmaB + 0x004, 0, 32, .ro, 0⟩

/-! HDMA_ENG_ADDR_HI (spec/09_dma_arbiters.md, Table 9.19). -/
def HDMA_ENG_ADDR_HI.ADDR : Fld := ⟨hdmaB + 0x008, 0, 32, .ro, 0⟩

/-! HDMA_ENG_CTRL (spec/09_dma_arbiters.md, Table 9.20). -/
def HDMA_ENG_CTRL.RESTART : Fld := ⟨hdmaB + 0x00C, 0, 1, .wo, 0⟩

/-! HDMA_INJ (spec/09_dma_arbiters.md, Table 9.20). -/
def HDMA_INJ.BUS_ERR : Fld := ⟨hdmaB + 0x010, 0, 1, .w1s, 0⟩

/-! HDMA_CH_PART (spec/09_dma_arbiters.md, Table 9.21). -/
def HDMA_CH_PART.PART (c : Nat) : Fld := ⟨hdmaC c + 0x00, 0, 3, .rw, 0⟩
def HDMA_CH_PART.ASSIGNED (c : Nat) : Fld := ⟨hdmaC c + 0x00, 3, 1, .rw, 0⟩

/-! HDMA_CH_RING_LO (spec/09_dma_arbiters.md, Table 9.22). -/
def HDMA_CH_RING_LO.BASE (c : Nat) : Fld := ⟨hdmaC c + 0x04, 6, 26, .rw, 0⟩

/-! HDMA_CH_RING_HI (spec/09_dma_arbiters.md, Table 9.22). -/
def HDMA_CH_RING_HI.BASE_HI (c : Nat) : Fld := ⟨hdmaC c + 0x08, 0, 32, .rw, 0⟩

/-! HDMA_CH_RING_CFG (spec/09_dma_arbiters.md, Table 9.23). -/
def HDMA_CH_RING_CFG.RING_LOG2 (c : Nat) : Fld := ⟨hdmaC c + 0x0C, 0, 4, .rw, 3⟩
def HDMA_CH_RING_CFG.SPACE (c : Nat) : Fld := ⟨hdmaC c + 0x0C, 4, 4, .rw, 0⟩
def HDMA_CH_RING_CFG.VECTOR (c : Nat) : Fld := ⟨hdmaC c + 0x0C, 8, 11, .rw, 0⟩

/-! HDMA_CH_CTRL (spec/09_dma_arbiters.md, Table 9.24). -/
def HDMA_CH_CTRL.ENABLE (c : Nat) : Fld := ⟨hdmaC c + 0x10, 0, 1, .rw, 0⟩
def HDMA_CH_CTRL.FENCE (c : Nat) : Fld := ⟨hdmaC c + 0x10, 1, 1, .rw, 0⟩
def HDMA_CH_CTRL.RESUME (c : Nat) : Fld := ⟨hdmaC c + 0x10, 2, 1, .wo, 0⟩

/-! HDMA_CH_DB (spec/09_dma_arbiters.md, Table 9.25). -/
def HDMA_CH_DB.RING (c : Nat) : Fld := ⟨hdmaC c + 0x14, 0, 32, .wo, 0⟩

/-! HDMA_CH_STAT (spec/09_dma_arbiters.md, Table 9.26). -/
def HDMA_CH_STAT.STATE (c : Nat) : Fld := ⟨hdmaC c + 0x18, 0, 3, .ro, 0⟩
def HDMA_CH_STAT.DB_PENDING (c : Nat) : Fld := ⟨hdmaC c + 0x18, 3, 1, .ro, 0⟩
def HDMA_CH_STAT.HEAD (c : Nat) : Fld := ⟨hdmaC c + 0x18, 4, 12, .ro, 0⟩
def HDMA_CH_STAT.LAST_CODE (c : Nat) : Fld := ⟨hdmaC c + 0x18, 16, 8, .ro, 0⟩
def HDMA_CH_STAT.CFG_BUSY_WR (c : Nat) : Fld := ⟨hdmaC c + 0x18, 24, 1, .w1c, 0⟩
def HDMA_CH_STAT.CFG_MISMATCH (c : Nat) : Fld := ⟨hdmaC c + 0x18, 25, 1, .w1c, 0⟩

/-! HDMA_CH_CFG (spec/09_dma_arbiters.md, Table 9.27). -/
def HDMA_CH_CFG.RATE (c : Nat) : Fld := ⟨hdmaC c + 0x1C, 0, 6, .sh, 0⟩
def HDMA_CH_CFG.BURST (c : Nat) : Fld := ⟨hdmaC c + 0x1C, 6, 6, .sh, 8⟩

/-! HDMA_CH_COMMIT (spec/09_dma_arbiters.md, Table 9.28). -/
def HDMA_CH_COMMIT.COMMIT (c : Nat) : Fld := ⟨hdmaC c + 0x20, 0, 1, .wo, 0⟩

/-! ARB_ID (spec/09_dma_arbiters.md, Table 9.29). -/
def ARB_ID.INDEX (i : Nat) : Fld := ⟨arbI i + 0x000, 0, 6, .ro, i⟩
def ARB_ID.REQS (i : Nat) : Fld := ⟨arbI i + 0x000, 6, 6, .ro, arbReqs i⟩

/-! ARB_STAT (spec/09_dma_arbiters.md, Table 9.30). -/
def ARB_STAT.CFG_MISMATCH (i : Nat) : Fld := ⟨arbI i + 0x004, 0, 1, .w1c, 0⟩
def ARB_STAT.CFG_RULE (i : Nat) : Fld := ⟨arbI i + 0x004, 1, 3, .ro, 0⟩
def ARB_STAT.OWNED (i : Nat) : Fld := ⟨arbI i + 0x004, 4, 1, .ro, 0⟩
def ARB_STAT.OWNER (i : Nat) : Fld := ⟨arbI i + 0x004, 5, 5, .ro, 0⟩

/-! ARB_COMMIT (spec/09_dma_arbiters.md, Table 9.31). -/
def ARB_COMMIT.COMMIT (i : Nat) : Fld := ⟨arbI i + 0x008, 0, 1, .wo, 0⟩

/-! ARB_MASK (spec/09_dma_arbiters.md, Table 9.32). -/
def ARB_MASK.REQ (i : Nat) : Fld := ⟨arbI i + 0x00C, 0, 32, .ro, 0⟩

/-! ARB_PEND (spec/09_dma_arbiters.md, Table 9.32). -/
def ARB_PEND.REQ (i : Nat) : Fld := ⟨arbI i + 0x010, 0, 32, .ro, 0⟩

/-! ARB_EVENTS (spec/09_dma_arbiters.md, Table 9.33). -/
def ARB_EVENTS.FORCED (i : Nat) : Fld := ⟨arbI i + 0x014, 0, 16, .rc, 0⟩
def ARB_EVENTS.PREEMPTS (i : Nat) : Fld := ⟨arbI i + 0x014, 16, 16, .rc, 0⟩

/-! ARB_REQ (spec/09_dma_arbiters.md, Table 9.34). -/
def ARB_REQ.CLASS (i r : Nat) : Fld := ⟨arbI i + (0x100 + 4 * r), 0, 2, .sh, arbClass0 i r⟩
def ARB_REQ.LIMIT (i r : Nat) : Fld := ⟨arbI i + (0x100 + 4 * r), 2, 10, .sh, arbLimit0 i r⟩
def ARB_REQ.RATE (i r : Nat) : Fld := ⟨arbI i + (0x100 + 4 * r), 12, 6, .sh, arbRate0 i r⟩
def ARB_REQ.BURST (i r : Nat) : Fld := ⟨arbI i + (0x100 + 4 * r), 18, 6, .sh, 8⟩

/-! ARB_BOUND (spec/09_dma_arbiters.md, Table 9.35). -/
def ARB_BOUND.BOUND (i r : Nat) : Fld := ⟨arbI i + (0x200 + 4 * r), 0, 16, .ro, 0⟩

/-! VID_ENG_PART (spec/10_video.md, Table 10.7). -/
def VID_ENG_PART.PART (e : Nat) : Fld := ⟨vidE e + 0x000, 0, 3, .rw, 0⟩
def VID_ENG_PART.ASSIGNED (e : Nat) : Fld := ⟨vidE e + 0x000, 3, 1, .rw, 0⟩

/-! VID_ENG_STAT (spec/10_video.md, Table 10.8). -/
def VID_ENG_STAT.ENABLED (e : Nat) : Fld := ⟨vidE e + 0x004, 0, 16, .ro, 0⟩
def VID_ENG_STAT.LOAD (e : Nat) : Fld := ⟨vidE e + 0x004, 16, 10, .ro, 0⟩
def VID_ENG_STAT.READY (e : Nat) : Fld := ⟨vidE e + 0x004, 26, 1, .ro, 0⟩
def VID_ENG_STAT.CFG_BUSY_WR (e : Nat) : Fld := ⟨vidE e + 0x004, 27, 1, .w1c, 0⟩

/-! VID_ERR_STAT (spec/10_video.md, Table 10.9). -/
def VID_ERR_STAT.SRAM_CE (e : Nat) : Fld := ⟨vidE e + 0x008, 0, 1, .w1c, 0⟩
def VID_ERR_STAT.SRAM_UE (e : Nat) : Fld := ⟨vidE e + 0x008, 1, 1, .w1c, 0⟩
def VID_ERR_STAT.MEM_UE (e : Nat) : Fld := ⟨vidE e + 0x008, 2, 1, .w1c, 0⟩
def VID_ERR_STAT.ACCESS (e : Nat) : Fld := ⟨vidE e + 0x008, 3, 1, .w1c, 0⟩
def VID_ERR_STAT.STREAM_ERR (e : Nat) : Fld := ⟨vidE e + 0x008, 4, 1, .w1c, 0⟩
def VID_ERR_STAT.UNSUPPORTED (e : Nat) : Fld := ⟨vidE e + 0x008, 5, 1, .w1c, 0⟩
def VID_ERR_STAT.CE_COUNT (e : Nat) : Fld := ⟨vidE e + 0x008, 16, 16, .ro, 0⟩

/-! VID_INJ (spec/10_video.md, Table 10.10). -/
def VID_INJ.SRAM_CE (e : Nat) : Fld := ⟨vidE e + 0x00C, 0, 1, .w1s, 0⟩
def VID_INJ.SRAM_UE (e : Nat) : Fld := ⟨vidE e + 0x00C, 1, 1, .w1s, 0⟩
def VID_INJ.MEM_UE (e : Nat) : Fld := ⟨vidE e + 0x00C, 2, 1, .w1s, 0⟩
def VID_INJ.STREAM (e : Nat) : Fld := ⟨vidE e + 0x00C, 3, 1, .w1s, 0⟩

/-! VID_CTX_CFG (spec/10_video.md, Table 10.11). -/
def VID_CTX_CFG.MODE (e k : Nat) : Fld := ⟨vidC e k + 0x00, 0, 2, .sh, 0⟩
def VID_CTX_CFG.CODEC (e k : Nat) : Fld := ⟨vidC e k + 0x00, 2, 1, .sh, 0⟩
def VID_CTX_CFG.DEPTH10 (e k : Nat) : Fld := ⟨vidC e k + 0x00, 3, 1, .sh, 0⟩
def VID_CTX_CFG.OUT_FMT (e k : Nat) : Fld := ⟨vidC e k + 0x00, 4, 3, .sh, 2⟩
def VID_CTX_CFG.SCALE (e k : Nat) : Fld := ⟨vidC e k + 0x00, 7, 2, .sh, 0⟩
def VID_CTX_CFG.CSC_DEFAULT (e k : Nat) : Fld := ⟨vidC e k + 0x00, 9, 2, .sh, 1⟩
def VID_CTX_CFG.RANGE_DEFAULT (e k : Nat) : Fld := ⟨vidC e k + 0x00, 11, 1, .sh, 0⟩
def VID_CTX_CFG.OVERRUN (e k : Nat) : Fld := ⟨vidC e k + 0x00, 12, 1, .sh, 1⟩
def VID_CTX_CFG.FPS (e k : Nat) : Fld := ⟨vidC e k + 0x00, 16, 8, .sh, 30⟩

/-! VID_CTX_DIM (spec/10_video.md, Table 10.12). -/
def VID_CTX_DIM.WIDTH (e k : Nat) : Fld := ⟨vidC e k + 0x04, 0, 13, .sh, 1920⟩
def VID_CTX_DIM.HEIGHT (e k : Nat) : Fld := ⟨vidC e k + 0x04, 16, 13, .sh, 1080⟩

/-! VID_CTX_POOL (spec/10_video.md, Table 10.13). -/
def VID_CTX_POOL.BASE (e k : Nat) : Fld := ⟨vidC e k + 0x08, 0, 24, .sh, 0⟩
def VID_CTX_POOL.LSLOT (e k : Nat) : Fld := ⟨vidC e k + 0x08, 24, 4, .sh, 0⟩
def VID_CTX_POOL.COUNT (e k : Nat) : Fld := ⟨vidC e k + 0x08, 28, 4, .sh, 0⟩

/-! VID_CTX_QUEUE (spec/10_video.md, Table 10.13). -/
def VID_CTX_QUEUE.BASE (e k : Nat) : Fld := ⟨vidC e k + 0x0C, 0, 24, .sh, 0⟩
def VID_CTX_QUEUE.LSLOT (e k : Nat) : Fld := ⟨vidC e k + 0x0C, 24, 4, .sh, 0⟩
def VID_CTX_QUEUE.COUNT (e k : Nat) : Fld := ⟨vidC e k + 0x0C, 28, 4, .sh, 0⟩

/-! VID_CTX_FRAMES (spec/10_video.md, Table 10.13). -/
def VID_CTX_FRAMES.BASE (e k : Nat) : Fld := ⟨vidC e k + 0x10, 0, 24, .sh, 0⟩
def VID_CTX_FRAMES.LSLOT (e k : Nat) : Fld := ⟨vidC e k + 0x10, 24, 4, .sh, 0⟩
def VID_CTX_FRAMES.COUNT (e k : Nat) : Fld := ⟨vidC e k + 0x10, 28, 4, .sh, 0⟩

/-! VID_CTX_SIZES (spec/10_video.md, Table 10.14). -/
def VID_CTX_SIZES.FRAMES (e k : Nat) : Fld := ⟨vidC e k + 0x14, 0, 5, .sh, 0⟩
def VID_CTX_SIZES.BUF_4K (e k : Nat) : Fld := ⟨vidC e k + 0x14, 8, 16, .sh, 0⟩
def VID_CTX_SIZES.LD64 (e k : Nat) : Fld := ⟨vidC e k + 0x14, 24, 8, .sh, 0⟩

/-! VID_CTX_SLOT_SIZE (spec/10_video.md, Table 10.15). -/
def VID_CTX_SLOT_SIZE.SLOT_4K (e k : Nat) : Fld := ⟨vidC e k + 0x18, 0, 16, .sh, 0⟩

/-! VID_CTX_TAKERS (spec/10_video.md, Table 10.15). -/
def VID_CTX_TAKERS.TAKERS (e k : Nat) : Fld := ⟨vidC e k + 0x1C, 0, 32, .sh, 0⟩

/-! VID_CTX_ENC (spec/10_video.md, Table 10.16). -/
def VID_CTX_ENC.QUALITY (e k : Nat) : Fld := ⟨vidC e k + 0x20, 0, 8, .sh, 30⟩
def VID_CTX_ENC.QMAX_Q (e k : Nat) : Fld := ⟨vidC e k + 0x20, 8, 8, .sh, 51⟩
def VID_CTX_ENC.SEARCH (e k : Nat) : Fld := ⟨vidC e k + 0x20, 16, 1, .sh, 1⟩
def VID_CTX_ENC.RANGE8 (e k : Nat) : Fld := ⟨vidC e k + 0x20, 17, 6, .sh, 8⟩
def VID_CTX_ENC.SLICE_ROWS (e k : Nat) : Fld := ⟨vidC e k + 0x20, 23, 4, .sh, 2⟩
def VID_CTX_ENC.LTREF (e k : Nat) : Fld := ⟨vidC e k + 0x20, 27, 1, .sh, 0⟩

/-! VID_CTX_RC (spec/10_video.md, Table 10.17). -/
def VID_CTX_RC.MAX_KBPS (e k : Nat) : Fld := ⟨vidC e k + 0x24, 0, 20, .sh, 0⟩
def VID_CTX_RC.WINDOW (e k : Nat) : Fld := ⟨vidC e k + 0x24, 20, 8, .sh, 30⟩

/-! VID_CTX_GOP (spec/10_video.md, Table 10.18). -/
def VID_CTX_GOP.GOP (e k : Nat) : Fld := ⟨vidC e k + 0x28, 0, 16, .sh, 0⟩

/-! VID_CTX_COMMIT (spec/10_video.md, Table 10.18). -/
def VID_CTX_COMMIT.COMMIT (e k : Nat) : Fld := ⟨vidC e k + 0x2C, 0, 1, .wo, 0⟩
def VID_CTX_COMMIT.ENABLE (e k : Nat) : Fld := ⟨vidC e k + 0x2C, 1, 1, .wo, 0⟩

/-! VID_CTX_STAT (spec/10_video.md, Table 10.19). -/
def VID_CTX_STAT.STATE (e k : Nat) : Fld := ⟨vidC e k + 0x30, 0, 2, .ro, 0⟩
def VID_CTX_STAT.CFG_BUSY_WR (e k : Nat) : Fld := ⟨vidC e k + 0x30, 2, 1, .w1c, 0⟩
def VID_CTX_STAT.CFG_MISMATCH (e k : Nat) : Fld := ⟨vidC e k + 0x30, 3, 1, .w1c, 0⟩
def VID_CTX_STAT.CFG_RULE (e k : Nat) : Fld := ⟨vidC e k + 0x30, 4, 4, .ro, 0⟩
def VID_CTX_STAT.CAUSE (e k : Nat) : Fld := ⟨vidC e k + 0x30, 8, 3, .ro, 0⟩
def VID_CTX_STAT.SRC_BAD (e k : Nat) : Fld := ⟨vidC e k + 0x30, 11, 1, .w1c, 0⟩

/-! VID_CTX_CTRL (spec/10_video.md, Table 10.20). -/
def VID_CTX_CTRL.FLUSH (e k : Nat) : Fld := ⟨vidC e k + 0x34, 0, 1, .wo, 0⟩
def VID_CTX_CTRL.RESUME (e k : Nat) : Fld := ⟨vidC e k + 0x34, 1, 1, .wo, 0⟩

/-! VID_CTX_SRC (spec/10_video.md, Table 10.20). -/
def VID_CTX_SRC.SLOT (e k : Nat) : Fld := ⟨vidC e k + 0x38, 0, 4, .wo, 0⟩
def VID_CTX_SRC.ROWS16 (e k : Nat) : Fld := ⟨vidC e k + 0x38, 4, 12, .wo, 0⟩
def VID_CTX_SRC.LAST (e k : Nat) : Fld := ⟨vidC e k + 0x38, 16, 1, .wo, 0⟩
def VID_CTX_SRC.FORCE_I (e k : Nat) : Fld := ⟨vidC e k + 0x38, 17, 1, .wo, 0⟩

/-! VID_CTX_SEQ (spec/10_video.md, Table 10.21). -/
def VID_CTX_SEQ.SEQ (e k : Nat) : Fld := ⟨vidC e k + 0x3C, 0, 32, .ro, 0⟩

/-! VID_CTX_COUNTS (spec/10_video.md, Table 10.21). -/
def VID_CTX_COUNTS.DROPS (e k : Nat) : Fld := ⟨vidC e k + 0x40, 0, 8, .rc, 0⟩
def VID_CTX_COUNTS.CONCEALED (e k : Nat) : Fld := ⟨vidC e k + 0x40, 8, 8, .rc, 0⟩
def VID_CTX_COUNTS.CAP_OVER (e k : Nat) : Fld := ⟨vidC e k + 0x40, 16, 8, .rc, 0⟩
def VID_CTX_COUNTS.FG_SKIPPED (e k : Nat) : Fld := ⟨vidC e k + 0x40, 24, 8, .rc, 0⟩

/-! FAB_ID (spec/11_fabric.md, Table 11.12). -/
def FAB_ID.MODULE_ID : Fld := ⟨fabB + 0x000, 0, 7, .ro, 0⟩
def FAB_ID.ID_VALID : Fld := ⟨fabB + 0x000, 7, 1, .ro, 0⟩
def FAB_ID.DOMAIN : Fld := ⟨fabB + 0x000, 8, 16, .ro, 0⟩

/-! FAB_CFG (spec/11_fabric.md, Table 11.13). -/
def FAB_CFG.EN_A : Fld := ⟨fabB + 0x004, 0, 1, .sh, 0⟩
def FAB_CFG.EN_B : Fld := ⟨fabB + 0x004, 1, 1, .sh, 0⟩
def FAB_CFG.FEC_PREF : Fld := ⟨fabB + 0x004, 2, 1, .sh, 0⟩
def FAB_CFG.E2E_TIMEOUT : Fld := ⟨fabB + 0x004, 8, 8, .sh, 100⟩

/-! FAB_COMMIT (spec/11_fabric.md, Table 11.14). -/
def FAB_COMMIT.COMMIT : Fld := ⟨fabB + 0x008, 0, 1, .wo, 0⟩
def FAB_COMMIT.CFG_MISMATCH : Fld := ⟨fabB + 0x008, 1, 1, .w1c, 0⟩

/-! FAB_PLANE (spec/11_fabric.md, Table 11.15). -/
def FAB_PLANE.STATE (pl : Nat) : Fld := ⟨fabB + (0x10 + 4 * pl), 0, 3, .ro, 0⟩
def FAB_PLANE.LL (pl : Nat) : Fld := ⟨fabB + (0x10 + 4 * pl), 3, 1, .ro, 0⟩
def FAB_PLANE.PORT (pl : Nat) : Fld := ⟨fabB + (0x10 + 4 * pl), 4, 8, .ro, 0⟩
def FAB_PLANE.LANES_OK (pl : Nat) : Fld := ⟨fabB + (0x10 + 4 * pl), 12, 4, .ro, 0⟩
def FAB_PLANE.DOWNS (pl : Nat) : Fld := ⟨fabB + (0x10 + 4 * pl), 16, 16, .ro, 0⟩

/-! FAB_REACH (spec/11_fabric.md, Table 11.16). -/
def FAB_REACH.REACH (pl w : Nat) : Fld := ⟨fabB + (0x20 + 0x10 * pl + 4 * w), 0, 32, .ro, 0⟩

/-! FAB_ERR_STAT (spec/11_fabric.md, Table 11.17). -/
def FAB_ERR_STAT.PLANE_DOWN : Fld := ⟨fabB + 0x040, 0, 1, .w1c, 0⟩
def FAB_ERR_STAT.ID_CONFLICT : Fld := ⟨fabB + 0x040, 1, 1, .w1c, 0⟩
def FAB_ERR_STAT.PEER_LOST : Fld := ⟨fabB + 0x040, 2, 1, .w1c, 0⟩
def FAB_ERR_STAT.SEND_ERR : Fld := ⟨fabB + 0x040, 3, 1, .w1c, 0⟩
def FAB_ERR_STAT.CFG_BUSY_WR : Fld := ⟨fabB + 0x040, 4, 1, .w1c, 0⟩

/-! FAB_ERR_INFO (spec/11_fabric.md, Table 11.18). -/
def FAB_ERR_INFO.PEER : Fld := ⟨fabB + 0x044, 0, 7, .ro, 0⟩
def FAB_ERR_INFO.STATUS : Fld := ⟨fabB + 0x044, 8, 8, .ro, 0⟩
def FAB_ERR_INFO.PART : Fld := ⟨fabB + 0x044, 16, 3, .ro, 0⟩

/-! FAB_INJ (spec/11_fabric.md, Table 11.19). -/
def FAB_INJ.CW_CE : Fld := ⟨fabB + 0x048, 0, 1, .w1s, 0⟩
def FAB_INJ.CW_UE : Fld := ⟨fabB + 0x048, 1, 1, .w1s, 0⟩
def FAB_INJ.CRC : Fld := ⟨fabB + 0x048, 2, 1, .w1s, 0⟩
def FAB_INJ.STALE : Fld := ⟨fabB + 0x048, 3, 1, .w1s, 0⟩
def FAB_INJ.COMP_DROP : Fld := ⟨fabB + 0x048, 4, 1, .w1s, 0⟩
def FAB_INJ.DOWN : Fld := ⟨fabB + 0x048, 5, 1, .w1s, 0⟩
def FAB_INJ.PLANE : Fld := ⟨fabB + 0x048, 8, 1, .rw, 0⟩

/-! FAB_CNT_ADDR (spec/11_fabric.md, Table 11.20). -/
def FAB_CNT_ADDR.INDEX : Fld := ⟨fabB + 0x050, 0, 4, .rw, 0⟩

/-! FAB_CNT_DATA (spec/11_fabric.md, Table 11.20). -/
def FAB_CNT_DATA.COUNT : Fld := ⟨fabB + 0x054, 0, 32, .rc, 0⟩

/-! FAB_PTEN (spec/11_fabric.md, Table 11.21). -/
def FAB_PTEN.TENANT (p : Nat) : Fld := ⟨fabP p + 0x00, 0, 12, .sh, 0⟩
def FAB_PTEN.EPOCH (p : Nat) : Fld := ⟨fabP p + 0x00, 12, 4, .sh, 0⟩

/-! FAB_PWIN (spec/11_fabric.md, Table 11.22). -/
def FAB_PWIN.LBASE (p : Nat) : Fld := ⟨fabP p + 0x04, 0, 8, .sh, 0⟩
def FAB_PWIN.LSIZE (p : Nat) : Fld := ⟨fabP p + 0x04, 8, 5, .sh, 0⟩
def FAB_PWIN.WBASE (p : Nat) : Fld := ⟨fabP p + 0x04, 16, 6, .sh, 0⟩
def FAB_PWIN.WSIZE (p : Nat) : Fld := ⟨fabP p + 0x04, 24, 5, .sh, 0⟩

/-! FAB_PEERS (spec/11_fabric.md, Table 11.23). -/
def FAB_PEERS.PEERS (p w : Nat) : Fld := ⟨fabP p + (0x08 + 4 * w), 0, 32, .sh, 0⟩

/-! FAB_PCOMMIT (spec/11_fabric.md, Table 11.24). -/
def FAB_PCOMMIT.COMMIT (p : Nat) : Fld := ⟨fabP p + 0x18, 0, 1, .wo, 0⟩
def FAB_PCOMMIT.ENABLE (p : Nat) : Fld := ⟨fabP p + 0x18, 1, 1, .wo, 0⟩

/-! FAB_PSTAT (spec/11_fabric.md, Table 11.24). -/
def FAB_PSTAT.ENABLED (p : Nat) : Fld := ⟨fabP p + 0x1C, 0, 1, .ro, 0⟩
def FAB_PSTAT.CFG_MISMATCH (p : Nat) : Fld := ⟨fabP p + 0x1C, 1, 1, .w1c, 0⟩
def FAB_PSTAT.CFG_RULE (p : Nat) : Fld := ⟨fabP p + 0x1C, 2, 4, .ro, 0⟩

/-! FAB_CK_LIST_LO (spec/11_fabric.md, Table 11.25). -/
def FAB_CK_LIST_LO.LIST (p : Nat) : Fld := ⟨fabP p + 0x20, 0, 32, .rw, 0⟩

/-! FAB_CK_LIST_HI (spec/11_fabric.md, Table 11.25). -/
def FAB_CK_LIST_HI.LIST (p : Nat) : Fld := ⟨fabP p + 0x24, 0, 32, .rw, 0⟩

/-! FAB_CK_CTRL (spec/11_fabric.md, Table 11.26). -/
def FAB_CK_CTRL.COUNT (p : Nat) : Fld := ⟨fabP p + 0x28, 0, 16, .rw, 0⟩
def FAB_CK_CTRL.PEER (p : Nat) : Fld := ⟨fabP p + 0x28, 16, 7, .rw, 0⟩
def FAB_CK_CTRL.DIR (p : Nat) : Fld := ⟨fabP p + 0x28, 23, 1, .rw, 0⟩
def FAB_CK_CTRL.QUIESCE (p : Nat) : Fld := ⟨fabP p + 0x28, 24, 1, .rw, 0⟩
def FAB_CK_CTRL.START (p : Nat) : Fld := ⟨fabP p + 0x28, 31, 1, .w1s, 0⟩

/-! FAB_CK_STAT (spec/11_fabric.md, Table 11.27). -/
def FAB_CK_STAT.STATE (p : Nat) : Fld := ⟨fabP p + 0x2C, 0, 2, .ro, 0⟩
def FAB_CK_STAT.STATUS (p : Nat) : Fld := ⟨fabP p + 0x2C, 8, 8, .ro, 0⟩
def FAB_CK_STAT.ENTRY (p : Nat) : Fld := ⟨fabP p + 0x2C, 16, 16, .ro, 0⟩

/-! FAB_CK_BYTES (spec/11_fabric.md, Table 11.27). -/
def FAB_CK_BYTES.UNITS (p : Nat) : Fld := ⟨fabP p + 0x30, 0, 32, .ro, 0⟩

/-! FAB_BAR (spec/11_fabric.md, Table 11.28). -/
def FAB_BAR.ROOT (p b : Nat) : Fld := ⟨fabP p + (0x40 + 4 * b), 0, 7, .sh, 0⟩
def FAB_BAR.EXPECT (p b : Nat) : Fld := ⟨fabP p + (0x40 + 4 * b), 7, 8, .sh, 0⟩
def FAB_BAR.EVT (p b : Nat) : Fld := ⟨fabP p + (0x40 + 4 * b), 15, 5, .sh, 0⟩
def FAB_BAR.VALID (p b : Nat) : Fld := ⟨fabP p + (0x40 + 4 * b), 20, 1, .sh, 0⟩

/-! FAB_BSTAT (spec/11_fabric.md, Table 11.29). -/
def FAB_BSTAT.COUNT (p b : Nat) : Fld := ⟨fabP p + (0x80 + 4 * b), 0, 8, .ro, 0⟩
def FAB_BSTAT.GEN (p b : Nat) : Fld := ⟨fabP p + (0x80 + 4 * b), 8, 16, .ro, 0⟩

/-! PCI_LINK (spec/12_host_interface.md, Table 12.12). -/
def PCI_LINK.SPEED : Fld := ⟨glbB + 0x00002000, 0, 4, .ro, 0⟩
def PCI_LINK.WIDTH : Fld := ⟨glbB + 0x00002000, 4, 4, .ro, 0⟩
def PCI_LINK.FLIT : Fld := ⟨glbB + 0x00002000, 8, 1, .ro, 0⟩
def PCI_LINK.UP : Fld := ⟨glbB + 0x00002000, 9, 1, .ro, 0⟩
def PCI_LINK.DOWNS : Fld := ⟨glbB + 0x00002000, 16, 16, .ro, 0⟩

/-! PCI_ERR_STAT (spec/12_host_interface.md, Table 12.13). -/
def PCI_ERR_STAT.UR : Fld := ⟨glbB + 0x00002004, 0, 1, .w1c, 0⟩
def PCI_ERR_STAT.CA : Fld := ⟨glbB + 0x00002004, 1, 1, .w1c, 0⟩
def PCI_ERR_STAT.POISON_RX : Fld := ⟨glbB + 0x00002004, 2, 1, .w1c, 0⟩
def PCI_ERR_STAT.ECRC : Fld := ⟨glbB + 0x00002004, 3, 1, .w1c, 0⟩
def PCI_ERR_STAT.CTO : Fld := ⟨glbB + 0x00002004, 4, 1, .w1c, 0⟩
def PCI_ERR_STAT.UC_RX : Fld := ⟨glbB + 0x00002004, 5, 1, .w1c, 0⟩
def PCI_ERR_STAT.LINK_CHG : Fld := ⟨glbB + 0x00002004, 6, 1, .w1c, 0⟩
def PCI_ERR_STAT.PF_RST : Fld := ⟨glbB + 0x00002004, 7, 1, .w1c, 0⟩
def PCI_ERR_STAT.VF_FLR : Fld := ⟨glbB + 0x00002004, 8, 8, .w1c, 0⟩

/-! PCI_INJ (spec/12_host_interface.md, Table 12.14). -/
def PCI_INJ.ECRC : Fld := ⟨glbB + 0x00002008, 0, 1, .w1s, 0⟩
def PCI_INJ.CTO : Fld := ⟨glbB + 0x00002008, 1, 1, .w1s, 0⟩
def PCI_INJ.UR : Fld := ⟨glbB + 0x00002008, 2, 1, .w1s, 0⟩
def PCI_INJ.LINK : Fld := ⟨glbB + 0x00002008, 3, 1, .w1s, 0⟩

/-! PCI_APER0 (spec/12_host_interface.md, Table 12.15). -/
def PCI_APER0.PORT : Fld := ⟨glbB + 0x00002010, 0, 4, .rw, 0⟩

/-! PCI_PF_VEC (spec/12_host_interface.md, Table 12.15). -/
def PCI_PF_VEC.MBX : Fld := ⟨glbB + 0x00002014, 0, 8, .rw, 0⟩

/-! PCI_SQ_LO (spec/12_host_interface.md, Table 12.16). -/
def PCI_SQ_LO.ADDR (v : Nat) : Fld := ⟨vfB v + 0x0, 0, 32, .rw, 0⟩

/-! PCI_SQ_HI (spec/12_host_interface.md, Table 12.16). -/
def PCI_SQ_HI.ADDR (v : Nat) : Fld := ⟨vfB v + 0x4, 0, 32, .rw, 0⟩

/-! PCI_OQ_LO (spec/12_host_interface.md, Table 12.16). -/
def PCI_OQ_LO.ADDR (v : Nat) : Fld := ⟨vfB v + 0x8, 0, 32, .rw, 0⟩

/-! PCI_OQ_HI (spec/12_host_interface.md, Table 12.16). -/
def PCI_OQ_HI.ADDR (v : Nat) : Fld := ⟨vfB v + 0xc, 0, 32, .rw, 0⟩

/-! PCI_EQ_LO (spec/12_host_interface.md, Table 12.16). -/
def PCI_EQ_LO.ADDR (v : Nat) : Fld := ⟨vfB v + 0x10, 0, 32, .rw, 0⟩

/-! PCI_EQ_HI (spec/12_host_interface.md, Table 12.16). -/
def PCI_EQ_HI.ADDR (v : Nat) : Fld := ⟨vfB v + 0x14, 0, 32, .rw, 0⟩

/-! PCI_EQW_LO (spec/12_host_interface.md, Table 12.16). -/
def PCI_EQW_LO.ADDR (v : Nat) : Fld := ⟨vfB v + 0x18, 0, 32, .rw, 0⟩

/-! PCI_EQW_HI (spec/12_host_interface.md, Table 12.16). -/
def PCI_EQW_HI.ADDR (v : Nat) : Fld := ⟨vfB v + 0x1c, 0, 32, .rw, 0⟩

/-! PCI_RING_CFG (spec/12_host_interface.md, Table 12.17). -/
def PCI_RING_CFG.SQ_LOG2 (v : Nat) : Fld := ⟨vfB v + 0x020, 0, 4, .rw, 4⟩
def PCI_RING_CFG.OQ_LOG2 (v : Nat) : Fld := ⟨vfB v + 0x020, 4, 4, .rw, 2⟩
def PCI_RING_CFG.OQ_ENT (v : Nat) : Fld := ⟨vfB v + 0x020, 8, 5, .rw, 12⟩
def PCI_RING_CFG.EQ_LOG2 (v : Nat) : Fld := ⟨vfB v + 0x020, 16, 4, .rw, 4⟩
def PCI_RING_CFG.OQ_IRQ (v : Nat) : Fld := ⟨vfB v + 0x020, 24, 1, .rw, 0⟩
def PCI_RING_CFG.EQ_IRQ (v : Nat) : Fld := ⟨vfB v + 0x020, 25, 1, .rw, 0⟩
def PCI_RING_CFG.ENABLE (v : Nat) : Fld := ⟨vfB v + 0x020, 31, 1, .rw, 0⟩

/-! PCI_SQ_TAIL (spec/12_host_interface.md, Table 12.18). -/
def PCI_SQ_TAIL.INDEX (v : Nat) : Fld := ⟨vfB v + 0x024, 0, 16, .wo, 0⟩

/-! PCI_OQ_FREE (spec/12_host_interface.md, Table 12.18). -/
def PCI_OQ_FREE.INDEX (v : Nat) : Fld := ⟨vfB v + 0x028, 0, 16, .wo, 0⟩

/-! PCI_EQ_HEAD (spec/12_host_interface.md, Table 12.18). -/
def PCI_EQ_HEAD.INDEX (v : Nat) : Fld := ⟨vfB v + 0x02C, 0, 16, .wo, 0⟩

/-! PCI_SQ_HEAD (spec/12_host_interface.md, Table 12.19). -/
def PCI_SQ_HEAD.INDEX (v : Nat) : Fld := ⟨vfB v + 0x030, 0, 16, .ro, 0⟩

/-! PCI_OQ_NEXT (spec/12_host_interface.md, Table 12.19). -/
def PCI_OQ_NEXT.INDEX (v : Nat) : Fld := ⟨vfB v + 0x034, 0, 16, .ro, 0⟩

/-! PCI_EQ_TAIL (spec/12_host_interface.md, Table 12.19). -/
def PCI_EQ_TAIL.INDEX (v : Nat) : Fld := ⟨vfB v + 0x038, 0, 16, .ro, 0⟩

/-! PCI_RING_STAT (spec/12_host_interface.md, Table 12.20). -/
def PCI_RING_STAT.SQ_FAULT (v : Nat) : Fld := ⟨vfB v + 0x03C, 0, 1, .ro, 0⟩
def PCI_RING_STAT.CFG_BUSY_WR (v : Nat) : Fld := ⟨vfB v + 0x03C, 1, 1, .w1c, 0⟩
def PCI_RING_STAT.CFG_MISMATCH (v : Nat) : Fld := ⟨vfB v + 0x03C, 2, 1, .w1c, 0⟩
def PCI_RING_STAT.CFG_RULE (v : Nat) : Fld := ⟨vfB v + 0x03C, 3, 4, .ro, 0⟩
def PCI_RING_STAT.OQ_WAIT (v : Nat) : Fld := ⟨vfB v + 0x03C, 7, 1, .ro, 0⟩
def PCI_RING_STAT.EQ_WAIT (v : Nat) : Fld := ⟨vfB v + 0x03C, 8, 1, .ro, 0⟩
def PCI_RING_STAT.EQ_QUEUED (v : Nat) : Fld := ⟨vfB v + 0x03C, 16, 7, .ro, 0⟩

/-! PCI_VEC (spec/12_host_interface.md, Table 12.21). -/
def PCI_VEC.OQ (v : Nat) : Fld := ⟨vfB v + 0x040, 0, 8, .rw, 0⟩
def PCI_VEC.EQ (v : Nat) : Fld := ⟨vfB v + 0x040, 8, 8, .rw, 0⟩
def PCI_VEC.MBX (v : Nat) : Fld := ⟨vfB v + 0x040, 16, 8, .rw, 0⟩

/-! PCI_APER (spec/12_host_interface.md, Table 12.21). -/
def PCI_APER.WIN (v : Nat) : Fld := ⟨vfB v + 0x044, 0, 6, .rw, 0⟩

/-! MBX_IN_FROM (spec/12_host_interface.md, Table 12.22). -/
def MBX_IN_FROM.FROM (t : Nat) : Fld := ⟨mbxT t + 0x00, 0, 4, .ro, 0⟩
def MBX_IN_FROM.FULL (t : Nat) : Fld := ⟨mbxT t + 0x00, 31, 1, .ro, 0⟩

/-! MBX_IN_DATA (spec/12_host_interface.md, Table 12.22). -/
def MBX_IN_DATA.DATA (t : Nat) : Fld := ⟨mbxT t + 0x04, 0, 32, .rc, 0⟩

/-! MBX_STAT (spec/12_host_interface.md, Table 12.23). -/
def MBX_STAT.DROPPED (t : Nat) : Fld := ⟨mbxT t + 0x08, 0, 1, .w1c, 0⟩
def MBX_STAT.ABORTED (t : Nat) : Fld := ⟨mbxT t + 0x08, 1, 1, .w1c, 0⟩
def MBX_STAT.DENIED (t : Nat) : Fld := ⟨mbxT t + 0x08, 2, 1, .w1c, 0⟩
def MBX_STAT.TARGET (t : Nat) : Fld := ⟨mbxT t + 0x08, 4, 4, .ro, 0⟩

/-! MBX_DB_PEND (spec/12_host_interface.md, Table 12.24). -/
def MBX_DB_PEND.PEND (t : Nat) : Fld := ⟨mbxT t + 0x0C, 0, 32, .w1c, 0⟩

/-! MBX_DB_MASK (spec/12_host_interface.md, Table 12.24). -/
def MBX_DB_MASK.MASK (t : Nat) : Fld := ⟨mbxT t + 0x10, 0, 32, .rw, 0⟩

/-! MBX_SEND (spec/12_host_interface.md, Table 12.25). -/
def MBX_SEND.WORD (t u : Nat) : Fld := ⟨mbxT t + (0x40 + 4 * u), 0, 32, .wo, 0⟩

/-! MBX_RING (spec/12_host_interface.md, Table 12.25). -/
def MBX_RING.BITS (t u : Nat) : Fld := ⟨mbxT t + (0x80 + 4 * u), 0, 32, .wo, 0⟩

/-! IRQ_PEND (spec/12_host_interface.md, Table 12.26). -/
def IRQ_PEND.PEND (w : Nat) : Fld := ⟨irqB + (4 * w), 0, 32, .rw, 0⟩

/-! IRQ_LEVEL (spec/12_host_interface.md, Table 12.26). -/
def IRQ_LEVEL.LEVEL (w : Nat) : Fld := ⟨irqB + (0x10 + 4 * w), 0, 32, .ro, 0⟩

/-! IRQ_MASK (spec/12_host_interface.md, Table 12.27). -/
def IRQ_MASK.MASK (p w : Nat) : Fld := ⟨irqB + (0x100 + 0x20 * p + 4 * w), 0, 32, .rw, 4294967295⟩

/-! IRQ_CLAIM (spec/12_host_interface.md, Table 12.28). -/
def IRQ_CLAIM.SOURCE (p : Nat) : Fld := ⟨irqB + (0x180 + 8 * p), 0, 7, .ro, 0⟩
def IRQ_CLAIM.IN_SERVICE (p : Nat) : Fld := ⟨irqB + (0x180 + 8 * p), 7, 1, .ro, 0⟩

/-! IRQ_DONE (spec/12_host_interface.md, Table 12.28). -/
def IRQ_DONE.DONE (p : Nat) : Fld := ⟨irqB + (0x184 + 8 * p), 0, 1, .wo, 0⟩

/-! IRQ_FILT (spec/12_host_interface.md, Table 12.29). -/
def IRQ_FILT.COUNT (src : Nat) : Fld := ⟨irqB + (0x200 + 4 * src), 0, 8, .rw, 4⟩

/-! GLB_DEVID_LO (spec/13_partitions_security.md, Table 13.10). -/
def GLB_DEVID_LO.DEVID : Fld := ⟨glbB + 0x00003000, 0, 32, .ro, 0⟩

/-! GLB_DEVID_HI (spec/13_partitions_security.md, Table 13.10). -/
def GLB_DEVID_HI.DEVID : Fld := ⟨glbB + 0x00003004, 0, 32, .ro, 0⟩

/-! GLB_SEC_STAT (spec/13_partitions_security.md, Table 13.11). -/
def GLB_SEC_STAT.PF_DENIED : Fld := ⟨glbB + 0x00003008, 0, 1, .w1c, 0⟩
def GLB_SEC_STAT.DBG_FRAM_FAIL : Fld := ⟨glbB + 0x00003008, 1, 1, .w1c, 0⟩

/-! GLB_DBG_CTRL (spec/13_partitions_security.md, Table 13.12). -/
def GLB_DBG_CTRL.OPEN : Fld := ⟨glbB + 0x00003010, 0, 1, .wo, 0⟩
def GLB_DBG_CTRL.CLOSE : Fld := ⟨glbB + 0x00003010, 1, 1, .wo, 0⟩

/-! GLB_DBG_STAT (spec/13_partitions_security.md, Table 13.13). -/
def GLB_DBG_STAT.OPEN : Fld := ⟨glbB + 0x00003014, 0, 1, .ro, 0⟩

/-! GLB_DBG_COUNT (spec/13_partitions_security.md, Table 13.14). -/
def GLB_DBG_COUNT.SESSIONS : Fld := ⟨glbB + 0x00003018, 0, 32, .ro, 0⟩

/-! GLB_DBG_WAY_ADDR (spec/13_partitions_security.md, Table 13.15). -/
def GLB_DBG_WAY_ADDR.ADDR : Fld := ⟨glbB + 0x00003020, 0, 26, .rw, 0⟩

/-! GLB_DBG_WAY_DATA (spec/13_partitions_security.md, Table 13.15). -/
def GLB_DBG_WAY_DATA.DATA : Fld := ⟨glbB + 0x00003024, 0, 32, .rw, 0⟩

/-! GLB_PART_STAT (spec/13_partitions_security.md, Table 13.16). -/
def GLB_PART_STAT.STATE (p : Nat) : Fld := ⟨glbB + (0x3100 + 4 * p), 0, 3, .ro, 0⟩
def GLB_PART_STAT.TD_STEP (p : Nat) : Fld := ⟨glbB + (0x3100 + 4 * p), 3, 3, .ro, 0⟩
def GLB_PART_STAT.GRANULES (p : Nat) : Fld := ⟨glbB + (0x3100 + 4 * p), 16, 16, .ro, 0⟩

/-! MBX_DICT_CTRL (spec/14_object_dictionary.md, Table 14.12a). -/
def MBX_DICT_CTRL.GO : Fld := ⟨bar4B + 0x12000, 0, 1, .wo, 0⟩

/-! MBX_DICT_STAT (spec/14_object_dictionary.md, Table 14.12b). -/
def MBX_DICT_STAT.BUSY : Fld := ⟨bar4B + 0x12004, 0, 1, .ro, 0⟩
def MBX_DICT_STAT.DONE : Fld := ⟨bar4B + 0x12004, 1, 1, .w1c, 0⟩
def MBX_DICT_STAT.CFG_BUSY_WR : Fld := ⟨bar4B + 0x12004, 2, 1, .w1c, 0⟩

/-! GLB_LIFE (spec/15_lifecycle_update.md, Table 15.13). -/
def GLB_LIFE.RUN : Fld := ⟨glbB + 0x00001000, 0, 4, .ro, 0⟩
def GLB_LIFE.OTP_LIFE : Fld := ⟨glbB + 0x00001000, 4, 4, .ro, 0⟩
def GLB_LIFE.BANK : Fld := ⟨glbB + 0x00001000, 8, 1, .ro, 0⟩
def GLB_LIFE.TRIAL : Fld := ⟨glbB + 0x00001000, 9, 1, .ro, 0⟩
def GLB_LIFE.RST_BAD : Fld := ⟨glbB + 0x00001000, 10, 1, .w1c, 0⟩
def GLB_LIFE.RESET_CAUSE : Fld := ⟨glbB + 0x00001000, 12, 4, .ro, 0⟩
def GLB_LIFE.DEAD_CAUSE : Fld := ⟨glbB + 0x00001000, 16, 8, .ro, 0⟩

/-! GLB_RST (spec/15_lifecycle_update.md, Table 15.14). -/
def GLB_RST.KEY : Fld := ⟨glbB + 0x00001004, 0, 32, .wo, 0⟩

/-! GLB_UPD (spec/15_lifecycle_update.md, Table 15.15). -/
def GLB_UPD.SESSION : Fld := ⟨glbB + 0x00001008, 0, 4, .ro, 0⟩
def GLB_UPD.COMPONENT : Fld := ⟨glbB + 0x00001008, 4, 4, .ro, 0⟩
def GLB_UPD.LAST_RESULT : Fld := ⟨glbB + 0x00001008, 8, 8, .ro, 0⟩
def GLB_UPD.PAGES : Fld := ⟨glbB + 0x00001008, 16, 16, .ro, 0⟩

/-! GLB_FALLBACKS (spec/15_lifecycle_update.md, Table 15.16). -/
def GLB_FALLBACKS.COUNT : Fld := ⟨glbB + 0x0000100C, 0, 16, .ro, 0⟩
def GLB_FALLBACKS.TRIAL_HOURS : Fld := ⟨glbB + 0x0000100C, 16, 16, .ro, 0⟩

/-! THM_STAT (spec/16_power_cooling_tandem.md, Table 16.8). -/
def THM_STAT.TRIP : Fld := ⟨thmB + 0x0000, 0, 1, .w1c, 0⟩
def THM_STAT.FLOW_STOP : Fld := ⟨thmB + 0x0000, 1, 1, .w1c, 0⟩
def THM_STAT.LEVEL_CHG : Fld := ⟨thmB + 0x0000, 2, 1, .w1c, 0⟩
def THM_STAT.PAIR_FAULT : Fld := ⟨thmB + 0x0000, 3, 1, .w1c, 0⟩
def THM_STAT.HUB_ALARM : Fld := ⟨thmB + 0x0000, 4, 3, .w1c, 0⟩
def THM_STAT.PAIR_WIDE : Fld := ⟨thmB + 0x0000, 7, 1, .ro, 0⟩
def THM_STAT.COOL_DERATE : Fld := ⟨thmB + 0x0000, 8, 1, .ro, 0⟩
def THM_STAT.NO_FLOW_START : Fld := ⟨thmB + 0x0000, 9, 1, .ro, 0⟩
def THM_STAT.TRIPPED : Fld := ⟨thmB + 0x0000, 10, 1, .ro, 0⟩
def THM_STAT.NO_RESTART : Fld := ⟨thmB + 0x0000, 11, 1, .ro, 0⟩

/-! THM_CFG (spec/16_power_cooling_tandem.md, Table 16.9). -/
def THM_CFG.THROTTLE_C : Fld := ⟨thmB + 0x0004, 0, 7, .sh, 95⟩
def THM_CFG.FLOOR : Fld := ⟨thmB + 0x0004, 8, 7, .sh, 55⟩
def THM_CFG.KW_EN : Fld := ⟨thmB + 0x0004, 15, 1, .sh, 1⟩
def THM_CFG.AUTO_RESTART : Fld := ⟨thmB + 0x0004, 16, 1, .sh, 1⟩
def THM_CFG.VALVE_MIN : Fld := ⟨thmB + 0x0004, 17, 7, .sh, 40⟩

/-! THM_COMMIT (spec/16_power_cooling_tandem.md, Table 16.10). -/
def THM_COMMIT.COMMIT : Fld := ⟨thmB + 0x0008, 0, 1, .wo, 0⟩
def THM_COMMIT.CFG_MISMATCH : Fld := ⟨thmB + 0x0008, 1, 1, .w1c, 0⟩
def THM_COMMIT.CFG_RULE : Fld := ⟨thmB + 0x0008, 2, 4, .ro, 0⟩

/-! THM_MODULE (spec/16_power_cooling_tandem.md, Table 16.11). -/
def THM_MODULE.LEVEL : Fld := ⟨thmB + 0x000C, 0, 4, .ro, 15⟩
def THM_MODULE.POWER : Fld := ⟨thmB + 0x000C, 4, 4, .ro, 0⟩
def THM_MODULE.COOL : Fld := ⟨thmB + 0x000C, 8, 4, .ro, 0⟩
def THM_MODULE.IODIE : Fld := ⟨thmB + 0x000C, 12, 4, .ro, 0⟩
def THM_MODULE.BRAKE : Fld := ⟨thmB + 0x000C, 16, 1, .ro, 0⟩
def THM_MODULE.STOP : Fld := ⟨thmB + 0x000C, 17, 1, .ro, 0⟩
def THM_MODULE.NO_OWNER : Fld := ⟨thmB + 0x000C, 18, 1, .ro, 0⟩
def THM_MODULE.KW : Fld := ⟨thmB + 0x000C, 19, 4, .ro, 0⟩
def THM_MODULE.VALVE : Fld := ⟨thmB + 0x000C, 23, 7, .ro, 100⟩

/-! THM_COOL (spec/16_power_cooling_tandem.md, Table 16.12). -/
def THM_COOL.INLET : Fld := ⟨thmB + 0x0010, 0, 12, .ro, 0⟩
def THM_COOL.OUTLET : Fld := ⟨thmB + 0x0010, 12, 12, .ro, 0⟩

/-! THM_FLOW (spec/16_power_cooling_tandem.md, Table 16.13). -/
def THM_FLOW.FLOW : Fld := ⟨thmB + 0x0014, 0, 9, .ro, 0⟩

/-! THM_SENS_ADDR (spec/16_power_cooling_tandem.md, Table 16.14). -/
def THM_SENS_ADDR.SENSOR : Fld := ⟨thmB + 0x0020, 0, 6, .rw, 0⟩

/-! THM_SENS_DATA (spec/16_power_cooling_tandem.md, Table 16.14). -/
def THM_SENS_DATA.TEMP : Fld := ⟨thmB + 0x0024, 0, 12, .ro, 0⟩
def THM_SENS_DATA.VALID : Fld := ⟨thmB + 0x0024, 12, 1, .ro, 0⟩
def THM_SENS_DATA.FAULTS : Fld := ⟨thmB + 0x0024, 13, 8, .ro, 0⟩

/-! THM_INJ (spec/16_power_cooling_tandem.md, Table 16.15). -/
def THM_INJ.TRIP : Fld := ⟨thmB + 0x0030, 0, 1, .w1s, 0⟩
def THM_INJ.FLOW : Fld := ⟨thmB + 0x0030, 1, 1, .w1s, 0⟩
def THM_INJ.PAIR : Fld := ⟨thmB + 0x0030, 2, 1, .w1s, 0⟩
def THM_INJ.BAD : Fld := ⟨thmB + 0x0030, 3, 1, .w1s, 0⟩
def THM_INJ.SENS : Fld := ⟨thmB + 0x0030, 8, 6, .rw, 0⟩

/-! THM_LATHE (spec/16_power_cooling_tandem.md, Table 16.16). -/
def THM_LATHE.LEVEL (n : Nat) : Fld := ⟨thmB + (0x100 + 4 * n), 0, 4, .ro, 15⟩
def THM_LATHE.EFFECTIVE (n : Nat) : Fld := ⟨thmB + (0x100 + 4 * n), 4, 4, .ro, 15⟩
def THM_LATHE.TCTRL (n : Nat) : Fld := ⟨thmB + (0x100 + 4 * n), 8, 12, .ro, 0⟩
def THM_LATHE.LIMIT (n : Nat) : Fld := ⟨thmB + (0x100 + 4 * n), 20, 7, .ro, 95⟩

/-! PWR_STAT (spec/16_power_cooling_tandem.md, Table 16.17). -/
def PWR_STAT.HOLDUP_OK : Fld := ⟨thmB + 0x1000, 0, 1, .ro, 0⟩
def PWR_STAT.INPUT_LOST : Fld := ⟨thmB + 0x1000, 1, 1, .w1c, 0⟩
def PWR_STAT.BRAKE_HIT : Fld := ⟨thmB + 0x1000, 2, 1, .w1c, 0⟩
def PWR_STAT.RAIL_FAIL : Fld := ⟨thmB + 0x1000, 3, 1, .w1c, 0⟩
def PWR_STAT.RAIL : Fld := ⟨thmB + 0x1000, 4, 5, .ro, 0⟩
def PWR_STAT.GROUP_I : Fld := ⟨thmB + 0x1000, 9, 1, .ro, 0⟩
def PWR_STAT.GROUP_C : Fld := ⟨thmB + 0x1000, 10, 1, .ro, 0⟩
def PWR_STAT.LOSSES : Fld := ⟨thmB + 0x1000, 16, 16, .ro, 0⟩

/-! PWR_INPUT (spec/16_power_cooling_tandem.md, Table 16.18). -/
def PWR_INPUT.VOLTS : Fld := ⟨thmB + 0x1004, 0, 13, .ro, 0⟩
def PWR_INPUT.WATTS : Fld := ⟨thmB + 0x1004, 16, 13, .ro, 0⟩

/-! PWR_INJ (spec/16_power_cooling_tandem.md, Table 16.19). -/
def PWR_INJ.BRAKE : Fld := ⟨thmB + 0x1008, 0, 1, .w1s, 0⟩
def PWR_INJ.LOSS : Fld := ⟨thmB + 0x1008, 1, 1, .w1s, 0⟩
def PWR_INJ.HOLDUP : Fld := ⟨thmB + 0x1008, 2, 1, .w1s, 0⟩

/-! PWR_RAIL_ADDR (spec/16_power_cooling_tandem.md, Table 16.20). -/
def PWR_RAIL_ADDR.RAIL : Fld := ⟨thmB + 0x1010, 0, 5, .rw, 0⟩

/-! PWR_RAIL_DATA (spec/16_power_cooling_tandem.md, Table 16.20). -/
def PWR_RAIL_DATA.MEASURED : Fld := ⟨thmB + 0x1014, 0, 16, .ro, 0⟩
def PWR_RAIL_DATA.SETPOINT : Fld := ⟨thmB + 0x1014, 16, 16, .ro, 0⟩

/-! TDM_STAT (spec/16_power_cooling_tandem.md, Table 16.21). -/
def TDM_STAT.OWNER_VALID : Fld := ⟨thmB + 0x2000, 0, 1, .ro, 0⟩
def TDM_STAT.OWNER : Fld := ⟨thmB + 0x2000, 1, 1, .ro, 0⟩
def TDM_STAT.A_STATE : Fld := ⟨thmB + 0x2000, 2, 2, .ro, 0⟩
def TDM_STAT.B_STATE : Fld := ⟨thmB + 0x2000, 4, 2, .ro, 0⟩
def TDM_STAT.WIRE_MISS : Fld := ⟨thmB + 0x2000, 6, 1, .w1c, 0⟩
def TDM_STAT.MBX_MISS : Fld := ⟨thmB + 0x2000, 7, 1, .w1c, 0⟩
def TDM_STAT.NONOWNER_WR : Fld := ⟨thmB + 0x2000, 8, 1, .w1c, 0⟩

/-! TDM_COUNTS (spec/16_power_cooling_tandem.md, Table 16.22). -/
def TDM_COUNTS.TAKEOVERS : Fld := ⟨thmB + 0x2004, 0, 16, .ro, 0⟩
def TDM_COUNTS.RETURNS : Fld := ⟨thmB + 0x2004, 16, 16, .ro, 0⟩

/-! TDM_INJ (spec/16_power_cooling_tandem.md, Table 16.23). -/
def TDM_INJ.WIRE : Fld := ⟨thmB + 0x2008, 0, 1, .w1s, 0⟩
def TDM_INJ.MBX : Fld := ⟨thmB + 0x2008, 1, 1, .w1s, 0⟩
def TDM_INJ.BOTH : Fld := ⟨thmB + 0x2008, 2, 1, .w1s, 0⟩
def TDM_INJ.WDOG : Fld := ⟨thmB + 0x2008, 3, 1, .w1s, 0⟩

/-! ERR_STAT (spec/17_reliability.md, Table 17.7). -/
def ERR_STAT.LASTING : Fld := ⟨errB + 0x000, 0, 1, .w1c, 0⟩
def ERR_STAT.SUSPECT : Fld := ⟨errB + 0x000, 1, 1, .w1c, 0⟩
def ERR_STAT.LOG_FULL : Fld := ⟨errB + 0x000, 2, 1, .w1c, 0⟩
def ERR_STAT.RESTORE_ABORTED : Fld := ⟨errB + 0x000, 3, 1, .w1c, 0⟩
def ERR_STAT.OTP_FAIL : Fld := ⟨errB + 0x000, 4, 1, .w1c, 0⟩
def ERR_STAT.KAT_MISSED : Fld := ⟨errB + 0x000, 5, 1, .w1c, 0⟩

/-! ERR_CFG (spec/17_reliability.md, Table 17.8). -/
def ERR_CFG.WINDOW : Fld := ⟨errB + 0x004, 0, 16, .sh, 5400⟩
def ERR_CFG.CE_LIMIT : Fld := ⟨errB + 0x004, 16, 8, .sh, 64⟩
def ERR_CFG.UE_LIMIT : Fld := ⟨errB + 0x004, 24, 4, .sh, 2⟩
def ERR_CFG.KAT_LIMIT : Fld := ⟨errB + 0x004, 28, 4, .sh, 2⟩

/-! ERR_CFG2 (spec/17_reliability.md, Table 17.8). -/
def ERR_CFG2.KAT_PERIOD : Fld := ⟨errB + 0x008, 0, 12, .sh, 60⟩
def ERR_CFG2.RETIRE_POLICY : Fld := ⟨errB + 0x008, 12, 1, .sh, 0⟩
def ERR_CFG2.LIFE_PERIOD : Fld := ⟨errB + 0x008, 16, 12, .sh, 600⟩

/-! ERR_COMMIT (spec/17_reliability.md, Table 17.9). -/
def ERR_COMMIT.COMMIT : Fld := ⟨errB + 0x00C, 0, 1, .wo, 0⟩
def ERR_COMMIT.CFG_MISMATCH : Fld := ⟨errB + 0x00C, 1, 1, .w1c, 0⟩
def ERR_COMMIT.CFG_RULE : Fld := ⟨errB + 0x00C, 2, 3, .ro, 0⟩

/-! ERR_INJ (spec/17_reliability.md, Table 17.9). -/
def ERR_INJ.LINK_CE : Fld := ⟨errB + 0x010, 0, 1, .w1s, 0⟩
def ERR_INJ.LINK_UE : Fld := ⟨errB + 0x010, 1, 1, .w1s, 0⟩
def ERR_INJ.WAY_CE : Fld := ⟨errB + 0x010, 2, 1, .w1s, 0⟩
def ERR_INJ.WAY_UE : Fld := ⟨errB + 0x010, 3, 1, .w1s, 0⟩
def ERR_INJ.SITE : Fld := ⟨errB + 0x010, 8, 7, .rw, 0⟩

/-! ERR_SITE_ADDR (spec/17_reliability.md, Table 17.10). -/
def ERR_SITE_ADDR.SITE : Fld := ⟨errB + 0x020, 0, 7, .rw, 0⟩

/-! ERR_SITE_DATA (spec/17_reliability.md, Table 17.10). -/
def ERR_SITE_DATA.CE_WIN : Fld := ⟨errB + 0x024, 0, 16, .ro, 0⟩
def ERR_SITE_DATA.UE_WIN : Fld := ⟨errB + 0x024, 16, 8, .ro, 0⟩
def ERR_SITE_DATA.LASTING : Fld := ⟨errB + 0x024, 24, 1, .ro, 0⟩

/-! ERR_LOG_LO (spec/17_reliability.md, Table 17.11). -/
def ERR_LOG_LO.OFFSET : Fld := ⟨errB + 0x030, 0, 29, .rc, 0⟩
def ERR_LOG_LO.VALID : Fld := ⟨errB + 0x030, 31, 1, .rc, 0⟩

/-! ERR_LOG_HI (spec/17_reliability.md, Table 17.11). -/
def ERR_LOG_HI.SITE : Fld := ⟨errB + 0x034, 0, 7, .ro, 0⟩
def ERR_LOG_HI.TIME : Fld := ⟨errB + 0x034, 8, 24, .ro, 0⟩

/-! ERR_LATHE (spec/17_reliability.md, Table 17.12). -/
def ERR_LATHE.SUSPECT : Fld := ⟨errB + 0x040, 0, 16, .ro, 0⟩
def ERR_LATHE.RETIRED : Fld := ⟨errB + 0x040, 16, 16, .ro, 0⟩

/-! GLB_LED (spec/18_electrical_mechanical.md, Table 18.8). -/
def GLB_LED.LOCATE : Fld := ⟨glbB + 0x1010, 0, 1, .rw, 0⟩
def GLB_LED.LOCATE_PIN : Fld := ⟨glbB + 0x1010, 1, 1, .ro, 0⟩
def GLB_LED.STATUS_ROW : Fld := ⟨glbB + 0x1010, 2, 3, .ro, 4⟩

end Reg
end Sys2Proof.Machine
end

