-- ==== Sys2Proof/Machine/State.lean ====
section
/-! DEFINITION. The state of the module as plain data, and the state right after reset. -/

namespace Sys2Proof.Machine

/-- Why the machine stops with a fault. No command of this model raises one: every error the spec describes is a status,
a record or a response, and the machine goes on. The constructor stands so that the type is not empty. -/
inductive Fault where
  /-- Raised by no command (safe: nothing stops here). -/
  | unused
deriving DecidableEq, Repr

/-- Why a command has no meaning. -/
inductive Refusal where
  /-- Raised by an arm of `exec` whose command has no meaning yet (safe: nothing is claimed of it). -/
  | notModelled (mnemonic : String)
deriving DecidableEq, Repr

/-- What the module sends out of itself, oldest first in `State.out`. -/
inductive Out where
  /-- A posted write to host memory by a function (0 PF0, 1 + n VF n): address and bytes (R221, R271, R355). -/
  | hostWrite (fn addr : Nat) (data : List Byte)
  /-- An MSI-X message of a function (R271, R353, R355, R363). -/
  | msix (fn vector : Nat)
  /-- A read response or completion of a register, aperture or debug access: the word or bytes returned. -/
  | readData (data : List Byte)
  /-- What a management processor's read over its local bus returns (R360, R366). -/
  | busData (value : Nat)
  /-- The next TLP carries a wrong ECRC (Table 12.14). -/
  | badEcrc
  /-- A completion with status UR or CA (Table 12.2). -/
  | unsupported
  | completerAbort
  /-- A completion with Configuration Request Retry Status (R430). -/
  | retryStatus
  /-- The answer of a memory port to an access (R246): whether it ended without error, and the data of a read. -/
  | portDone (ok : Bool) (data : List Byte)
  /-- Flits sent on a plane: a HELLO, a control flit, or a packet (Tables 11.2, 11.4, 11.5). -/
  | flits (plane : Nat) (data : List Byte)
  /-- A frame on the field network: destination MAC address and PDU (R398). -/
  | frame (dst : Nat) (pdu : List Byte)
deriving DecidableEq, Repr

/-- A unit's seal: the 64 bytes of key and the tweak it was encrypted under (R249). -/
structure Seal where
  key : List Byte
  tweak : Nat
deriving DecidableEq, Repr

/-- Main memory, Lathe SRAM and shared SRAM. Port contents are held by physical place (port × 2³⁶ + port-local address
after redirection), as the plaintext that was written together with the seal it was written under; a codeword's stored
error is what differs from the codeword of its data. -/
structure MemSt where
  port : Cells Byte := []
  /-- Error pattern of the 8-byte codeword at place × 8 (80 bits, `SymbolCode`); 0 none. -/
  portErr : Cells Nat := []
  /-- Seal of the 128-byte unit at place × 128. -/
  sealedBy : Cells (Option Seal) := []
  /-- Lathe SRAM, Lathe × 2²⁴ + offset. -/
  lsram : Cells Byte := []
  lsramErr : Cells Nat := []
  /-- Shared SRAM, way × 2²² + offset, progress counters among it. -/
  way : Cells Byte := []
  wayErr : Cells Nat := []
  /-- Retire block redirected to spare j of port n, at n × 512 + j (R242). -/
  spare : Cells (Option Nat) := []
  /-- Retire blocks of each port that wait to be copied, oldest first (R242). -/
  retQueue : Cells (List Nat) := []
  /-- Retire block of each port whose copy runs, and its spare (R242). -/
  retCopy : Cells (Option (Nat × Nat)) := []
  /-- Corrected codewords of a retire block, port × 2²⁴ + block, in the previous and the running patrol pass (R242). -/
  ceCount : Cells (Nat × Nat) := []
  /-- Ports whose MEM_ERR_ADDR holds the first UE since MEM_ERR_STAT was last all clear (Table 8.9). -/
  ueSeen : Cells Bool := []
  /-- Next word of the Lathe SRAM scrubbers (0–15) and of the way scrubbers (16–31) (R237). -/
  scrubPos : Cells Nat := []
deriving DecidableEq, Repr

/-- The canonical form of the addressed memories: main memory, Lathe SRAM and shared SRAM, with their stored errors and seals, each a list of
strictly rising places with no entry equal to what an unlisted place reads as (log 7). -/
def Memory.wf (m : MemSt) : Bool :=
  Cells.wf 0 m.port && Cells.wf 0 m.portErr && Cells.wf none m.sealedBy && Cells.wf 0 m.lsram && Cells.wf 0 m.lsramErr && Cells.wf 0 m.way &&
  Cells.wf 0 m.wayErr

/-- Key storage (R250, R235). -/
structure KeySt where
  /-- The 64 bytes of slot 2p + k; destroyed slots hold zeros. -/
  slot : Cells (List Byte) := []
  /-- Stored error of a slot's word (2p + k) and of a region entry's word (16 + 64p + r): 0 none, 1 correctable, 2 not. -/
  slotErr : Cells Nat := []
  /-- The module's own note that a commit with this ENABLE waits for partition p's step epoch (KEY_PSTAT.PENDING). -/
  staged : Cells (Option Nat) := []
deriving DecidableEq, Repr

/-- A KV record (Table 5.3). -/
structure KvRec where
  rootFrame : Nat := 0
  rootLine : Nat := 0
  isOpen : Bool := false
  len : Nat := 0
  part : Nat := 0
  spec : Bool := false
  tail : Nat := 0
  prepLen : Nat := 0
  prov : List Nat := [0, 0, 0, 0]
deriving DecidableEq, Repr

/-- What waits for pins to end (R155): a pool frame, a directory's table line, or a leaf's table frame. -/
inductive KvItem where
  | frame (f : Nat)
  | line (t l : Nat)
  | leaf (t : Nat)
deriving DecidableEq, Repr

/-- The page-frame table unit (R147 to R157). Frame state words, directories and leaves stand in the table areas in main
memory. -/
structure PftSt where
  /-- KV records by request slot. -/
  recs : Cells KvRec := []
  /-- Append locks: slot and frame (R152). -/
  locks : List (Nat × Nat) := []
  /-- Table lines of partition p, at p × 2³² + table frame × 64 + line: 0 free, 1 in use, 2 retired (R155). -/
  lines : Cells Nat := []
  /-- Current generation of a partition, pins held and pins taken by PIN of generation g at 2p + g, retired items (R155, R157). -/
  gen : Cells Nat := []
  cnt : Cells Nat := []
  pins : Cells Nat := []
  lst : Cells (List KvItem) := []
  /-- Commands of PF0 and of the Peloton that wait, as their four words (R150), and whether PF0 is next when both wait. -/
  pfQueue : List (List Nat) := []
  pltQueue : List (List Nat) := []
  turnPf : Bool := false
  /-- Responses to PF0 not yet read. -/
  resp : List Nat := []
deriving DecidableEq, Repr

/-- A channel of tensor DMA (R263 to R267): the offset of the descriptor to fetch, the fetched descriptor's words (none before
its fetch) and the pulse points passed. -/
structure TdmaCh where
  next : Nat := 0
  words : Option (List Nat) := none
  passed : Nat := 0
  /-- Pulse intervals whose data has been moved. -/
  sent : Nat := 0
  /-- A commit of TDMA_CH_CFG waits for the descriptor boundary (R289). -/
  staged : Bool := false
deriving DecidableEq, Repr

/-- Who a sent packet belongs to: a tensor DMA channel (4 × Lathe + channel), a barrier release, a checkpoint job, or the
answer to a peer. -/
inductive TxOwner where
  | chan (k : Nat)
  | release
  | checkpoint
  | response
deriving DecidableEq, Repr

/-- A packet of this module's egress: waiting to be sent, or sent and not completed (R323, R325, R328). -/
structure TxPkt where
  pkt : FabPkt
  part : Nat
  owner : TxOwner
  plane : Nat := 0
  resent : Bool := false
deriving DecidableEq, Repr

/-- A repetition that has issued and is not complete: descriptor index, repetition, the descriptor's words, its pipeline
(0 Spindles, 1 vector unit, 2 streamer, 3 sequencer alone), whether it is the last one, the error it met (a status code of
Table 3.8, 0 none), and the pin its walk holds. -/
structure Flight where
  idx : Nat
  rep : Nat
  words : List Nat
  pipe : Nat
  last : Bool
  err : Nat
  pin : Option (Nat × Nat)
  /-- The KAT cell in force when a known-answer test started (R493). -/
  cell : Nat := 0
deriving DecidableEq, Repr

/-- A Lathe's sequencer beyond its registers (R87 to R97). -/
structure LatheSt where
  /-- Length and byte offset of the running plan; of the pending GO, length and buffer. -/
  len : Nat := 0
  base : Nat := 0
  pendLen : Nat := 0
  pendBase : Nat := 0
  pendBuf : Nat := 0
  /-- The Lathe SRAM cells of the running plan as they were when it started (R80). -/
  plan : Option (Cells Byte) := none
  /-- The state a STOP left, to which RESUME returns. -/
  stoppedFrom : Nat := 0
  /-- The decoded descriptor, none before its decode, and the repetitions of it that have issued and completed. -/
  desc : Option (List Nat) := none
  issued : Nat := 0
  completed : Nat := 0
  /-- DMA_KICK entries of the repetition that have started. -/
  kicked : Nat := 0
  flights : List Flight := []
  /-- Accumulators that a chain keeps (R84, R113). -/
  acc : Cells Nat := []
  /-- The tensor DMA group stopped while the plan ran (R91). -/
  tdmaHit : Bool := false
  /-- A step epoch open is held (R97). -/
  epochHeld : Bool := false
  /-- The latched KV records of the attention descriptor: pin generation, partition, (slot, record) pairs (R160). -/
  latched : Option (Nat × Nat × List (Nat × KvRec)) := none
  /-- The status code with which the current descriptor is about to end before it issues, 0 none. -/
  fail : Nat := 0
  /-- The descriptor and code last notified to the Peloton since the plan started (R90). -/
  report : Option (Nat × Nat) := none
deriving DecidableEq, Repr

/-- Tensor DMA channels at 4 × group + channel. -/
abbrev TdmaSt := Cells TdmaCh

/-- The link of a plane beyond its registers (R316 to R322): last codeword accepted in order, whether codewords are discarded until a
replay, undecodable codewords in a row; SEQ of the codeword that ends the last packet sent, last SEQ acknowledged, ACK_SEQ of the last
NACK and how often it came in a row; per virtual channel the partner's initial credits, the flits it has freed and those spent, and the flits
freed here; the codeword at which LOW_LATENCY starts; whether the plane holds the module ID; FEC_PREF as the training took it. -/
structure FabLink where
  acc : Nat := 0
  discard : Bool := false
  badRun : Nat := 0
  lastTx : Nat := 0
  acked : Nat := 0
  nackAt : Option Nat := none
  nackRun : Nat := 0
  credInit : List Nat := [0, 0, 0, 0]
  credFreed : List Nat := [0, 0, 0, 0]
  credUsed : List Nat := [0, 0, 0, 0]
  rxFreed : List Nat := [0, 0, 0, 0]
  llAt : Option Nat := none
  hasId : Bool := false
  pref : Nat := 0
deriving DecidableEq, Repr

/-- A packet that passed the ingress checks and waits for earlier packets of its source (R327): the plane it came on, none when looped back,
and the partition. -/
structure FabHeld where
  pkt : FabPkt
  plane : Option (Fin 2)
  part : Nat
deriving DecidableEq, Repr

/-- A checkpoint job (R333, R334): what it was started with, the entry it is at, its words once read, the bytes of it copied, and the status
with which it is about to end. -/
structure CkJob where
  list : Nat
  count : Nat
  peer : Nat
  pull : Bool
  quiesce : Bool
  entry : Nat := 0
  off : Nat := 0
  words : Option (List Nat) := none
  outcome : Option Nat := none
deriving DecidableEq, Repr

/-- The fabric beyond its registers (R316 to R334). -/
structure FabSt where
  /-- Packets waiting for the egress, oldest first, and packets sent and not completed. -/
  sendQ : List TxPkt := []
  outst : List TxPkt := []
  /-- Next PSEQ towards each destination. -/
  pseq : Cells Nat := []
  link : Cells FabLink := []
  /-- Of each source: the lowest PSEQ that is not known complete; at source × 65,536 + PSEQ the first status + 1 of a completed
  packet (R327). -/
  rxNext : Cells Nat := []
  rxDone : Cells Nat := []
  held : List FabHeld := []
  /-- The counters of Table 11.20 since they were last read, and since module reset (Table 11.30). -/
  cnt : Cells Nat := []
  total : Cells Nat := []
  /-- FAB_ERR_INFO holds the first SEND_ERR since FAB_ERR_STAT was last all clear. -/
  errSeen : Bool := false
  ck : Cells (Option CkJob) := []
  /-- Next tag of a READ_REQ. -/
  tag : Nat := 0
deriving DecidableEq, Repr

/-- The sampling unit (R204 to R229). -/
structure SmpSt where
  /-- The accepted path of the last verification of a slot: the nodes after the root, in order (R218, R146). -/
  path : Cells (List Nat) := []
  /-- Profiles in effect and their shadow copies, by profile × 16 + word; profiles that are staged, with their
words (R206). -/
  prof : Cells Nat := []
  profShadow : Cells Nat := []
  profStaged : List (Nat × List Nat) := []
  /-- USED and OVERFLOW of a slot (R211). -/
  used : Cells Nat := []
  ovf : Cells Bool := []
  /-- Partitions whose Sample phase waits, in the order in which their Run phases ended (R226). -/
  queue : List Nat := []
  /-- PARENT of node i of partition p, at 64p + i, as PARENT xor 0x3F (R215). -/
  tree : Cells Nat := []
  /-- Stored errors of the unit's SRAM: profile r at r, slot s at 1,024 + s. -/
  sramErr : Cells Nat := []
deriving DecidableEq, Repr

/-- One entry of the UE log (R486). -/
structure LogEntry where
  site : Nat
  offset : Nat
  time : Nat
deriving DecidableEq, Repr

/-- The errors block: sites, buckets, log, test cells (R485–R494). -/
structure ErrSt where
  /-- Current bucket, 0–7 (R487). -/
  cur : Nat := 0
  /-- CE and UE counts of bucket b of site t, at 8t + b. -/
  ce : Cells Nat := []
  ue : Cells Nat := []
  /-- Sites that are lasting (R488). -/
  lasting : Cells Bool := []
  /-- Lifetime counts of each site: corrected, uncorrectable, times lasting (Table 17.5). -/
  ceTotal : Cells Nat := []
  ueTotal : Cells Nat := []
  lastingTotal : Cells Nat := []
  /-- The UE log, oldest first, at most 256 (R486). -/
  log : List LogEntry := []
  /-- Known-answer tests passed and failed of a cell (Lathe × 32 + temperature bin × 4 + load bin), over the lifetime and in bucket b
  at cell × 8 + b (R494). -/
  katPass : Cells Nat := []
  katFail : Cells Nat := []
  katPassB : Cells Nat := []
  katFailB : Cells Nat := []
  /-- The cells in which a Lathe was marked suspect (R495). -/
  suspectIn : Cells (List Nat) := []
  /-- PLT_STEP of the partition when a Lathe's last clean pass ended, since the build (Table 17.3). -/
  clean : Cells (Option Nat) := []
deriving DecidableEq, Repr

/-- What the Tandem and its hubs hold beyond their registers: throttle ceiling code and DUTY of a Lathe (R103) and its temperature bin (R493); last reading
of a sensor, whether it is valid, sensor faults of a pair (at its lower sensor), pairs whose difference lowers their limit (R467, R468);
rails that are up, their measured voltages and setpoints in mV (Table 16.1); the AON times of trips and their number since manufacture
(R472). -/
structure ThmSt where
  ceil : Cells Nat := []
  duty : Cells Nat := []
  tempBin : Cells Nat := []
  temp : Cells Nat := []
  valid : Cells Bool := []
  faults : Cells Nat := []
  wide : Cells Bool := []
  railUp : Cells Bool := []
  railMv : Cells Nat := []
  railSet : Cells Nat := []
  trips : List Nat := []
  tripTotal : Nat := 0
deriving DecidableEq, Repr

/-- A copy of the Tandem's saved state in FRAM: SEQ, the outputs, levels and components in the registers of the THM and PWR blocks, and the
rest of what R478 lists. -/
structure TdmSave where
  seq : Nat
  regs : Cells Nat
  thm : ThmSt
deriving DecidableEq, Repr

/-- The Tandem (R475 to R480), supervisor A 0 and B 1: saved-state copies, the measurement of the image that each runs, paths that are silent,
self-test failures in a row, whether a supervisor is held in reset. -/
structure TandemSt where
  saved : Cells (Option TdmSave) := []
  image : Cells (List Byte) := []
  wireSilent : Cells Bool := []
  mbxSilent : Cells Bool := []
  fails : Cells Nat := []
  held : Cells Bool := []
deriving DecidableEq, Repr

/-- The lifetime counts that no other field holds (Table 17.5): power-on and READY seconds, energy in tenths of a joule, commits; seconds in a
cell, in a bin of a sensor (16 × sensor + bin), in the bins of input power (0–15), inlet temperature (16–31) and flow (32–47). -/
structure LifeSt where
  powerOn : Nat := 0
  ready : Nat := 0
  energy : Nat := 0
  commits : Nat := 0
  cell : Cells Nat := []
  sensor : Cells Nat := []
  hist : Cells Nat := []
deriving DecidableEq, Repr

/-- A data half of a lifetime area (R498): what it holds, and the AON count of XD-W at its commit. -/
structure LifeHalf where
  life : LifeSt
  err : ErrSt
  aon : Nat
deriving DecidableEq, Repr

/-- A header of a lifetime area: FORMAT, HALF, SEQ (R498). -/
structure LifeHdr where
  fmt : Nat
  half : Nat
  seq : Nat
deriving DecidableEq, Repr

/-- A lifetime area (R450, R498): the headers of its two slots and its two data halves. -/
structure LifeArea where
  hdr : Cells (Option LifeHdr) := []
  half : Cells (Option LifeHalf) := []
deriving DecidableEq, Repr

/-- A component area of a flash bank (R433, R436): its header as written, nothing when erased, and the 4,096-byte pages of the body that
have been programmed. -/
structure FwArea where
  header : List Byte := []
  pages : Cells (List Byte) := []
deriving DecidableEq, Repr

/-- A valid bank record (R434). -/
structure BankRec where
  seq : Nat
  target : Nat
  st0 : Nat
  st1 : Nat
deriving DecidableEq, Repr

/-- A valid copy of the FRAM settings record (R448); an empty key is not set. -/
structure FramSet where
  version : Nat := 1
  seq : Nat := 0
  opKey : List Byte := []
  svcKey : List Byte := []
  confirmHours : Nat := 24
  lock : Bool := false
  lockSeq : Nat := 0
deriving DecidableEq, Repr

/-- A running component: its bank (255 the ROM's), version and measurement (Table 13.7). -/
structure Running where
  bank : Nat := 0
  version : Nat := 0
  digest : List Byte := []
deriving DecidableEq, Repr

/-- An update session (R438): the requester that owns it and its component. -/
structure UpdSession where
  owner : Nat
  comp : Nat
deriving DecidableEq, Repr

/-- Start-up, flash, OTP and FRAM (R427 to R455). -/
structure BootSt where
  /-- OTP bytes by offset (Table 15.4). -/
  otp : Cells Nat := []
  /-- Component areas at 8 × bank + ID; the two copies of the bank record; the two copies of the FRAM settings record. -/
  area : Cells FwArea := []
  recs : Cells (Option BankRec) := []
  fram : Cells FramSet := []
  /-- Running components by ID, and the ID of one whose staging is next in the session order; staged components of the update. -/
  running : Cells Running := []
  session : Option UpdSession := none
  staged : List Nat := []
  /-- BUILD_ID count in FRAM; times of fall-back events; READY seconds of the trial; DEAD_CAUSE in FRAM. -/
  buildCount : Nat := 0
  fallEvents : List Nat := []
  trialSecs : Nat := 0
  deadCause : Nat := 0
  /-- The granules that passed qualification; phase 5 has completed; phase 7 has, and the lifetime store is open. -/
  qualified : Nat := 0xFFFF
  phase5 : Bool := false
  phase7 : Bool := false
  /-- The AON counters have restarted since the lifetime store was last opened (R489). -/
  fresh : Bool := false
  /-- Results of 0xB030:02, 0xA020:02, 0x5010:0F, 0x2010:01–02, 0x2000:01, 0x2000:03–04. -/
  lockResult : Nat := 0
  ownerResult : Nat := 0
  liftResult : Nat := 0
  setResult : Nat := 0
  setItem : Nat := 0
  setGen : Nat := 0
  setVer : Nat := 0
  setSkipped : Nat := 0
  /-- Lifetime areas; the counts since the last commit stand in `life`; restore markers of a partition: BUILD_ID and whether COMMIT is written. -/
  areas : Cells LifeArea := []
  life : LifeSt := {}
  markers : Cells (Option (Nat × Bool)) := []
  /-- Lathes with a background pass running, and with one more requested (R492); tests in order that passed in a Lathe's pass. -/
  katRun : Nat := 0
  katMore : Nat := 0
  katSeq : Cells Nat := []
  /-- The input is lost: no flash or FRAM write starts (R462). -/
  inputGone : Bool := false
  /-- The LOCATE# pin as last sampled (R509). -/
  gaPins : Nat := 31
  locate : Bool := false
deriving DecidableEq, Repr

/-- A partner's entry (R410). -/
structure Partner where
  here : Bool := false
  kind : Nat := 0
  device : Nat := 0
  nonce : List Byte := []
  restarts : Nat := 0
  cab : Nat := 0
  mac : Nat := 0
  modId : Nat := 0
deriving DecidableEq, Repr

/-- The service controller's dictionary and the field network (R394 to R424). A requester is PF0 0, VF n 1 + n, or
16 + 2 × MAC address + (1 for the service role) on the field network. -/
structure DictSt where
  /-- Snapshots and staged writes: requester, 256 × index + subindex, bytes (R406, R407). -/
  snaps : List (Nat × Nat × List Byte) := []
  stagings : List (Nat × Nat × List Byte) := []
  /-- Last SEQ accepted from a source, the request's bytes and the response sent (R400, R401). -/
  last : Cells (Option (Nat × List Byte × List Byte)) := []
  /-- Reports by requester (R408); responses standing in a function's DOE mailbox. -/
  reports : Cells (Option (List Byte)) := []
  doe : Cells (Option (List Byte)) := []
  reportSeq : Nat := 0
  /-- The mirror's request and response buffers (R422). -/
  mirrorReq : List Byte := []
  mirrorResp : List Byte := []
  bootNonce : List Byte := []
  nodeCount : Nat := 32
  toTimer : Nat := 32
  plca : Bool := false
  framesIn : Nat := 0
  framesOut : Nat := 0
  badAuth : Nat := 0
  badFull : Nat := 0
  badFrame : Nat := 0
  conflict : Bool := false
  partnerConflict : Nat := 0
  partners : Cells Partner := []
  /-- The partner that sent the latest beacon of KIND 1 whose tag verified, and its CAB_STATE (R412). -/
  cabNode : Option Nat := none
  cabVal : Nat := 0
  beaconSeq : Nat := 0
  /-- Beacons still to be skipped, and armed injections 0xF010:01–03 as bits 0 to 2. -/
  skip : Nat := 0
  inj : Nat := 0
  persist : Cells Nat := []
deriving DecidableEq, Repr

/-- The phases of a partition's step as its commands meet them (Table 6.6): none runs; the Prepare group is due, the Build, the
Release; acknowledgements are awaited; the plans run; the Sample phase is queued; the Commit group is due, the record; an abort waits
for the Lathes. -/
inductive StepPhase where
  | none | prepare | build | release | ack | run | sample | commit | record | abort
deriving DecidableEq, Repr

/-- A request's part in the running step: slot, kind (Table 6.7), first position, rows, first row of the row table, whether the chunk
is the last one, whether a valid draft filled the tree, the tokens drawn, the flags of its output entry, the END code with which it
ends at the commit point (0 none), the status of a command that failed, whether it was left out before the Build phase. -/
structure StepReq where
  slot : Nat
  kind : Nat
  first : Nat
  rows : Nat
  qrow : Nat := 0
  last : Bool := false
  draft : Bool := false
  tokens : List Nat := []
  degen : Bool := false
  endCode : Nat := 0
  failed : Bool := false
  out : Bool := false
deriving DecidableEq, Repr

/-- A partition's serving loop beyond its registers (R170 to R203). -/
structure PltPart where
  phase : StepPhase := .none
  reqs : List StepReq := []
  q : Nat := 0
  /-- The entries of each slot of the template, and the attention descriptors of slot 0, as derived (R177, R186). -/
  ents : List Nat := []
  attn : List (List Nat) := []
  /-- The plan buffer that the step's plans stand in (R178). -/
  buf : Nat := 0
  /-- Lathes that have not acknowledged the epoch, and whether the sampling unit has. -/
  unacked : List Nat := []
  smpAck : Bool := false
  /-- PLT_NOW at the last commit point; whether the step waited for ring entries. -/
  lastCommit : Option Nat := none
  waited : Bool := false
  /-- Guaranteed requests in GENERATE that the step carries, per class. -/
  guarGen : List Nat := [0, 0, 0, 0]
  /-- Late steps in a row and the largest excess among them; steps on time in a row (R197). -/
  lateRun : Nat := 0
  lateMax : Nat := 0
  onTime : Nat := 0
  admitSeq : Nat := 0
  /-- The abort's Lathe slot, code and descriptor index, region list, slot and page of its record (R199). -/
  abort : Option (List Nat × List (Nat × Nat)) := none
  /-- A staged PLT commit with its ENABLE; a staged SMP commit. -/
  staged : Option Bool := none
  smpStaged : Bool := false
  /-- Refusals by outcome 1–10, and breach records issued (Table 6.33). -/
  refused : List Nat := [0, 0, 0, 0, 0, 0, 0, 0, 0, 0]
  breaches : Nat := 0
deriving DecidableEq, Repr

/-- A slot record (Table 6.1), with what the Peloton keeps beside it: the draft buffer (BASE, REQ_ID, tokens), the CANCEL entries that
wait, the REQ_ID, END code and GEN_DONE of the last request to close, the END code of the request that is closing and whether TTFT_MISSED was
sent. -/
structure SlotRec where
  state : Nat := 0
  demoted : Bool := false
  spec : Bool := false
  cancel : Bool := false
  part : Nat := 0
  cls : Nat := 0
  bucket : Nat := 0
  reqId : Nat := 0
  promptLen : Nat := 0
  maxNew : Nat := 0
  promptDone : Nat := 0
  genDone : Nat := 0
  admitSeq : Nat := 0
  admitT : Nat := 0
  ttftT : Nat := 0
  lastT : Nat := 0
  charge : Nat := 0
  hold : Nat := 0
  prompt : Nat := 0
  profile : Nat := 0
  errSteps : Nat := 0
  breaches : Nat := 0
  lastToken : Nat := 0
  draft : Option (Nat × Nat × List Nat) := none
  cancels : Nat := 0
  lastReq : Option (Nat × Nat × Nat) := none
  endCode : Nat := 0
  missed : Bool := false
deriving DecidableEq, Repr

/-- A budget bucket (Table 6.9). -/
structure Bucket where
  balance : Nat := 0
  held : Nat := 0
  cap : Nat := 0
  refill : Nat := 0
  period : Nat := 0
  owner : Nat := 0
  enable : Bool := false
  consumed : Nat := 0
deriving DecidableEq, Repr

/-- The Peloton (R170 to R203): steps started of each partition, its loop, slot records, buckets, W(q) at 256p + q; the partition whose
Lathes' link injection waits; stored errors of its SRAM: slot s at s, bucket b at 8,192 + b, cost table p at 9,216 + p. -/
structure PltSt where
  step : Cells Nat := []
  loop : Cells PltPart := []
  slots : Cells SlotRec := []
  bkt : Cells Bucket := []
  cost : Cells Nat := []
  sramErr : Cells Nat := []
deriving DecidableEq, Repr

/-- A partition's build, debug and restore records beyond GLB_PART_STAT (R375, R376, R388, R390, R500; Tables 13.17, 17.13). -/
structure PartSt where
  buildId : Nat := 0
  dbgPart : Nat := 0
  /-- A debug access to the partition was counted in the open session. -/
  touched : Bool := false
  /-- GRANULES, HDMA_CH, VIDEO, TENANT, KEY_SRC and ZERO of the next build. -/
  granules : Nat := 0
  hdmaCh : Nat := 0
  video : Nat := 0
  tenant : Nat := 0
  keySrc : Nat := 0
  zero : Nat := 1
  /-- The result of the last command. -/
  result : Nat := 0
  /-- Build steps completed; the build's HDMA_CH, VIDEO, TENANT, KEY_SRC; a teardown accepted in BUILDING waits; it zeroes memory. -/
  step : Nat := 0
  bHdma : Nat := 0
  bVideo : Nat := 0
  bTenant : Nat := 0
  bKeySrc : Nat := 0
  tdWaits : Bool := false
  tdZero : Bool := false
  /-- Teardown steps completed, bit k for step k; channels that the fence dropped. -/
  tdMask : Nat := 0
  dropped : Nat := 0
  /-- The seed of the ML-KEM-1024 key pair, none before step 5 and after teardown (R382). -/
  kem : Option (List Byte) := none
  /-- Restore state and abort cause (R500, R501). -/
  restore : Nat := 0
  cause : Nat := 0
deriving DecidableEq, Repr

/-- A host/video DMA channel beyond its registers (R268 to R275): a fetch at HEAD is due, the entry it executes (its 16 words), the
status code of a refused entry, the frame slot it took (engine, context, slot, partition address), the bytes of its stream already moved,
a staged commit (R289). -/
structure HdmaCh where
  fetch : Bool := false
  entry : Option (List Nat) := none
  code : Nat := 0
  frame : Option (Nat × Nat × Nat × Nat) := none
  sent : Nat := 0
  staged : Bool := false
deriving DecidableEq, Repr

/-- The host/video DMA engine: its channels, and a RESTART that waits for HDMA_STOP records to be queued (R356). -/
structure HdmaSt where
  ch : Cells HdmaCh := []
  restart : Bool := false
deriving DecidableEq, Repr

/-- A picture of a decode context: its buffer, size, what its header carries, and where its samples stand among the free values. -/
structure VidPic where
  buf : Nat
  mono : Bool
  w : Nat
  h : Nat
  depth10 : Bool
  intra : Bool
  csc : Option Nat
  full : Option Bool
  order : Nat
  concealed : Bool
  grain : Bool
  samples : Nat
  rows : Nat
deriving DecidableEq, Repr

/-- A reported frame: its slot, sequence number, the channels that have taken it and those that hold it (R301). -/
structure VidSlot where
  slot : Nat
  fseq : Nat
  taken : List Nat
  held : List Nat
deriving DecidableEq, Repr

/-- A source frame of an encode context (R304). -/
structure VidSrc where
  slot : Nat
  rows16 : Nat
  last : Bool
  force : Bool
deriving DecidableEq, Repr

/-- A video context beyond its registers (R296 to R311). -/
structure VidCtx where
  /-- Input or output queue: next place written and bytes held, counted from the ring's base. -/
  wr : Nat := 0
  fill : Nat := 0
  /-- Reference marks of the pool buffers: bit 0 CUR, bit 1 REF, bit 2 OUT (R298). -/
  marks : Cells Nat := []
  /-- The picture being decoded, the pictures in the pool, and those that have left for output, in output order. -/
  cur : Option VidPic := none
  pics : List VidPic := []
  outs : List VidPic := []
  slots : List VidSlot := []
  fseq : Nat := 0
  /-- Source frames named and not finished, oldest first; index of the first of them, block rows coded of it. -/
  srcs : List VidSrc := []
  frame : Nat := 0
  rows : Nat := 0
  /-- Fullness F, the quantiser of the slice in progress and whether its frame is intra (R306). -/
  full : Nat := 0
  q : Nat := 0
  intra : Bool := false
  /-- QUALITY, QMAX_Q, MAX_KBPS, WINDOW as of the frame's start; pool buffers of the frame in progress, the previous frame and the last
  intra frame. -/
  rc : List Nat := []
  encCur : Nat := 0
  encPrev : Option Nat := none
  encIntra : Option Nat := none
  /-- 64-bit counts of Table 10.22: frames, drops, concealed, cap overruns, film grain skipped. -/
  totals : List Nat := [0, 0, 0, 0, 0]
  /-- A RESUME that waits for a VIDEO_ERROR record to be queued (R356). -/
  resume : Bool := false
deriving DecidableEq, Repr

/-- The video engines' contexts, at 16 × engine + context. -/
structure VidSt where
  ctx : Cells VidCtx := []
  /-- Stored error of the engine SRAM word that holds context k's state: 0 none, 1 correctable, 2 not (Table 10.6). -/
  sramErr : Cells Nat := []
  /-- Engines whose SRAM is being written with zeros (R291). -/
  clearing : Cells Bool := []
deriving DecidableEq, Repr

/-- An arbiter instance beyond its registers (R284, R285): wait counters, limiter credits (none: full), the last forced winner, the last
winner of each class, the slots left of the owner's grant, progress counts, and a commit that waits for the next decision. -/
structure ArbSt where
  wait : Cells Nat := []
  credit : Cells (Option Nat) := []
  lastForced : Nat := 31
  lastWin : List Nat := [31, 31, 31, 31]
  left : Nat := 0
  progress : Cells Nat := []
  staged : Option (List (Nat × Nat × Nat × Nat)) := none
deriving DecidableEq, Repr

/-- The host interface beyond its registers: MSI-X table words (function × 4,096 + 4 × vector + word) and pending bits (function × 256 +
vector). -/
structure HostSt where
  msix : Cells Nat := []
  pba : Cells Bool := []
  /-- Receivers that are held in reset (R361). -/
  inReset : Cells Bool := []
  /-- Interrupt sources that no register bit holds: 7, 8, 9, 10, 11, 14 (Table 12.10). -/
  line : Cells Bool := []
  /-- A processor's request line was withdrawn by the last write of IRQ_PEND or IRQ_MASK (R367). -/
  withdrawn : Cells Bool := []
deriving DecidableEq, Repr

/-- The state. -/
structure State where
  /-- The variant of Table 0.1: true is the NZ-1280-1T. -/
  is1T : Bool
  /-- Every register field by its cell (`Fld.key`), shadows of SH fields among them; an unlisted field holds its reset value. -/
  regs : Cells Nat
  /-- The values in effect of SH fields, by the same cells (R15). -/
  eff : Cells Nat
  mem : MemSt
  keys : KeySt
  err : ErrSt
  pft : PftSt
  smp : SmpSt
  lathe : Cells LatheSt
  plt : PltSt
  thm : ThmSt
  part : Cells PartSt
  tdma : TdmaSt
  hdma : HdmaSt
  vid : VidSt
  arb : Cells ArbSt
  host : HostSt
  fab : FabSt
  boot : BootSt
  tdm : TandemSt
  dict : DictSt
  /-- Event records of each partition: the first 64 are queued, the rest are held by their producers (R355, R356). -/
  evq : Cells (List (List Byte))
  /-- What has been sent out, oldest first. -/
  out : List Out
  /-- PLT_NOW, the NCLK count (R170). -/
  now : BitVec 64
  /-- The AON counters of the compute die, XD-W and XD-E (R33). -/
  aon : Cells Nat
  /-- The CCLK counts of the Lathes (Table 3.29). -/
  cyc : Cells Nat
  /-- Bytes read and written by the attention streamers (Table 5.16). -/
  atsBytes : Cells Nat
  /-- The model's own counter of free values drawn. -/
  freeCtr : Nat
  /-- The model's own counter of ticks. -/
  ticks : Nat
  /-- The commands that are waiting, first in, first out. -/
  pending : List Instr
deriving DecidableEq, Repr

/-- The header of a component as the model's module leaves manufacture: MAGIC, FORMAT, ID, SVN 0, both variants, VERSION 1, IFACE 1,
LIFE_FMT 1, SET_VER 1, a body of 4,096 bytes, IFACE_RANGE 1 to 1; bytes not listed are 0 (log 4). -/
def factoryHeader (id : Nat) : List Byte :=
  (leBytes 4 0x4E5A4657 ++ [1, BitVec.ofNat 8 id, 0, 3] ++ leBytes 4 1 ++ [1, 1, 1, 0] ++ leBytes 4 4096 ++ List.replicate 12 0 ++
    [1, 1, 1, 1, 1, 1, 1, 1])

/-- The component area of a module that has left manufacture: its header, and a body of zeros, of which the first byte is listed (log 4). -/
def factoryArea (id : Nat) : FwArea := { header := factoryHeader id, pages := [(0, [0])] }

/-- OTP, flash and FRAM of a module that has left manufacture (log 4): lifecycle FIELD, bank 0 CONFIRMED, bank 1 EMPTY. -/
def factoryBoot : BootSt :=
  { otp := [(0, 3)], recs := [(0, some ⟨1, 0, 4, 0⟩)],
    area := [(1, factoryArea 1), (2, factoryArea 2), (4, factoryArea 4), (5, factoryArea 5), (6, factoryArea 6)] }

/-- The state right after reset. -/
def State.reset : State :=
  { is1T := true, regs := [], eff := [], mem := {}, keys := {}, err := {}, pft := {}, smp := {}, lathe := [], plt := {}, thm := {}, part := [], tdma := [], hdma := {}, vid := {}, arb := [], host := {}, fab := {}, boot := factoryBoot, tdm := {}, dict := {}, evq := [], out := [], now := 0, aon := [], cyc := [], atsBytes := [],
    freeCtr := 0, ticks := 0, pending := [] }

end Sys2Proof.Machine
end

