-- ==== Sys2Proof/Machine/Ops.lean ====
section
/-! DEFINITION. The named operations every command's meaning is built from: register fields, shadows and commits, free
values, records and outputs. -/

namespace Sys2Proof.Machine

/-- The outcome of a command that goes on: its next state. -/
abbrev Next := Host.Outcome State Fault Refusal

/-- What a register field holds (for an SH field, its shadow). -/
def State.rd (s : State) (f : Fld) : Nat := Cells.get f.reset s.regs f.key

/-- A register field made to hold a value, of which it keeps its width. -/
def State.wr (s : State) (f : Fld) (v : Nat) : State :=
  { s with regs := Cells.set f.reset s.regs f.key (v % 2 ^ f.width) }

/-- A one-bit field as a truth value. -/
def State.flag (s : State) (f : Fld) : Bool := s.rd f = 1

/-- Set a status bit. -/
def State.raise (s : State) (f : Fld) : State := s.wr f 1

/-- Set a status bit when a condition holds. -/
def State.raiseIf (s : State) (b : Bool) (f : Fld) : State := if b then s.wr f 1 else s

/-- Add to a count that saturates at its field's largest value. -/
def State.bump (s : State) (f : Fld) (n : Nat) : State := s.wr f (min (2 ^ f.width - 1) (s.rd f + n))

/-- The value in effect of a shadowed field (R15). -/
def State.inEff (s : State) (f : Fld) : Nat := Cells.get f.reset s.eff f.key

/-- A one-bit field in effect as a truth value. -/
def State.flagEff (s : State) (f : Fld) : Bool := s.inEff f = 1

/-- A value put in effect without a write of the shadow. -/
def State.wrEff (s : State) (f : Fld) (v : Nat) : State :=
  { s with eff := Cells.set f.reset s.eff f.key (v % 2 ^ f.width) }

/-- Shadows taken into effect (R15): the effect of a commit on the fields named. -/
def State.applyShadows (s : State) : List Fld → State
  | [] => s
  | f :: t => (s.wrEff f (s.rd f)).applyShadows t

/-- Every field of the registers at addresses `[lo, hi)` back to its reset value, shadows and values in effect. -/
def State.clearRegs (s : State) (lo hi : Nat) : State :=
  { s with regs := Cells.clear s.regs (lo * 32) (hi * 32), eff := Cells.clear s.eff (lo * 32) (hi * 32) }

/-- The lowest-numbered rule of a table that fails, with the rules in order from 1; none when all hold. -/
def failingRule (rules : List Bool) : Option Nat :=
  (rules.findIdx? (fun b => !b)).map (· + 1)

/-- A value that the spec leaves open (log 1). -/
def State.free (s : State) : Nat := Config.freeValue s.freeCtr

/-- The counter of free values moved on after one is used. -/
def State.drew (s : State) : State := { s with freeCtr := s.freeCtr + 1 }

/-- What travels to the host as a TLP. -/
def Out.isTlp : Out → Bool
  | .hostWrite _ _ _ => true
  | .msix _ _ => true
  | .readData _ => true
  | .unsupported => true
  | .completerAbort => true
  | .retryStatus => true
  | _ => false

/-- Something sent out of the module; an armed PCI_INJ.ECRC acts on the next TLP (Table 12.14). -/
def State.send (s : State) (o : Out) : State :=
  if o.isTlp && s.flag Reg.PCI_INJ.ECRC then { s.wr Reg.PCI_INJ.ECRC 0 with out := s.out ++ [.badEcrc, o] }
  else { s with out := s.out ++ [o] }

/-- PLT_NOW bits [41:10], the TIME of the records (Table 6.10). -/
def State.timeWord (s : State) : Nat := bits s.now.toNat 10 32

/-- The records of partition p that are queued or held (R355, R356). -/
def State.records (s : State) (p : Nat) : List (List Byte) := Cells.get [] s.evq p

/-- The 64-record queue of the partition is full (R356). -/
def State.queueFull (s : State) (p : Nat) : Bool := 64 ≤ (s.records p).length

/-- A record of partition p joins its queue, padded to 64 bytes (R355). From step 2 of a teardown a record that finds the
queue full is discarded (R356). -/
def State.record (s : State) (p : Nat) (r : List Byte) : State :=
  if s.queueFull p && 1 ≤ s.rd (Reg.GLB_PART_STAT.TD_STEP p) && s.rd (Reg.GLB_PART_STAT.STATE p) = 4 then s
  else { s with evq := Cells.set [] s.evq p (s.records p ++ [r ++ List.replicate (64 - r.length) 0]) }

/-- The partition that owns Lathe n, when it is assigned (Table 3.18). -/
def State.partOf (s : State) (n : Nat) : Option Nat :=
  if s.flag (Reg.LTH_PART.ASSIGNED n) then some (s.rd (Reg.LTH_PART.PART n)) else none

/-- The Lathes of partition p in ascending number: template and address slots count along this list (R177, R245). -/
def State.lathesOf (s : State) (p : Nat) : List Nat := (List.range 16).filter (fun n => s.partOf n = some p)

/-- The slot of Lathe n in its partition. -/
def State.slotOfLathe (s : State) (p n : Nat) : Nat := ((s.lathesOf p).findIdx? (· = n)).getD 0

/-- The Lathe at a slot of partition p (R245). -/
def State.latheAt (s : State) (p slot : Nat) : Option Nat := (s.lathesOf p)[slot]?

end Sys2Proof.Machine
end

