-- ==== Sys2Proof/Machine/Flags.lean ====
section
/-! DEFINITION. Status and error flags: what a detector's report does (R485 to R488), and the first-error records. -/

namespace Sys2Proof.Machine
open Reg

/-- A site's window count: the sum of its 8 buckets (R487). -/
def windowCount (buckets : Cells Nat) (site : Nat) : Nat :=
  (List.range 8).foldl (fun acc b => acc + Cells.get 0 buckets (8 * site + b)) 0

/-- Whether a site's window counts reach its limits in effect (R488). -/
def State.atLimit (s : State) (site : Nat) : Bool :=
  s.inEff ERR_CFG.CE_LIMIT ≤ windowCount s.err.ce site || s.inEff ERR_CFG.UE_LIMIT ≤ windowCount s.err.ue site

/-- Mark Lathe n suspect (R494, R495, Table 17.1). -/
def State.markSuspect (s : State) (n : Nat) : State :=
  s.wr ERR_LATHE.SUSPECT (s.rd ERR_LATHE.SUSPECT ||| 2 ^ n)

/-- The lasting decision of R488 on a site, after its counts have changed: becoming lasting sets LASTING, counts in the
lifetime store and applies the action of Table 17.1; a site below both limits stops being lasting. -/
def State.lastingCheck (s : State) (site : Nat) : State :=
  if s.atLimit site then
    if Cells.get false s.err.lasting site then s
    else
      let s1 := { s with err := { s.err with lasting := Cells.set false s.err.lasting site true,
                                             lastingTotal := Cells.set 0 s.err.lastingTotal site (Cells.get 0 s.err.lastingTotal site + 1) } }
      let s2 := s1.raise ERR_STAT.LASTING
      if site < 16 then s2.markSuspect site else if site < 32 then s2.markSuspect (site - 16) else s2
  else { s with err := { s.err with lasting := Cells.set false s.err.lasting site false } }

/-- An entry of the UE log; while the log is full it is discarded and LOG_FULL is set (R486). -/
def State.logUe (s : State) (site off : Nat) : State :=
  if s.err.log.length < 256 then
    { s with err := { s.err with log := s.err.log ++ [⟨site, off, bits (Cells.get 0 s.aon 1) 15 24⟩] } }
  else s.raise ERR_STAT.LOG_FULL

/-- A report of kind CE for a site, `n` codewords (R485, R487, R488). -/
def State.reportCe (s : State) (site n : Nat) : State :=
  let k := 8 * site + s.err.cur
  State.lastingCheck { s with err := { s.err with ce := Cells.set 0 s.err.ce k (min 65535 (Cells.get 0 s.err.ce k + n)),
                                                  ceTotal := Cells.set 0 s.err.ceTotal site (Cells.get 0 s.err.ceTotal site + n) } } site

/-- A report of kind UE for a site, with the offset its log entry holds (R485 to R488). -/
def State.reportUe (s : State) (site off : Nat) : State :=
  let k := 8 * site + s.err.cur
  State.lastingCheck (State.logUe { s with err := { s.err with ue := Cells.set 0 s.err.ue k (min 65535 (Cells.get 0 s.err.ue k + 1)),
                                                               ueTotal := Cells.set 0 s.err.ueTotal site (Cells.get 0 s.err.ueTotal site + 1) } } site off) site

end Sys2Proof.Machine
end

