-- ==== Sys2Proof/Machine/SymbolCode.lean ====
section
/-! DEFINITION. The 80-bit symbol code of R232 to R235: GF(2⁴) on x⁴ + x + 1, twenty 4-bit symbols, and the decoder of R233.
A codeword is a number of 80 bits, symbol `i` at bits `[4i+3:4i]`; symbols 0–15 carry data, 16–19 check. -/

namespace Sys2Proof.Machine

/-- Addition in GF(2⁴) (R232). -/
def gfAdd (a b : Nat) : Nat := a ^^^ b

/-- α^i in GF(2⁴) on x⁴ + x + 1 (R232). -/
def gfExp (i : Nat) : Nat := ([1, 2, 4, 8, 3, 6, 12, 11, 5, 10, 7, 14, 15, 13, 9] : List Nat).getD (i % 15) 0

/-- The i with α^i = a, for a ≠ 0 (R232). -/
def gfLog (a : Nat) : Nat := ([0, 0, 1, 4, 2, 8, 5, 10, 3, 14, 9, 7, 6, 13, 11, 12] : List Nat).getD a 0

/-- Multiplication in GF(2⁴) (R232). -/
def gfMul (a b : Nat) : Nat := if a = 0 ∨ b = 0 then 0 else gfExp (gfLog a + gfLog b)

/-- Division in GF(2⁴), for b ≠ 0 (R233). -/
def gfDiv (a b : Nat) : Nat := if a = 0 then 0 else gfExp (gfLog a + 15 - gfLog b)

/-- Symbol `i` of a codeword. -/
def sym (cw i : Nat) : Nat := bits cw (4 * i) 4

/-- The sum over the data symbols of a codeword of each symbol times coordinate `c` of its column (Table 8.2). -/
def dataSum (cw c : Nat) : Nat :=
  (List.range 16).foldl (fun acc i =>
    let h := if i = 15 then (if c = 2 then 0 else 1)
             else if c = 0 then 1 else if c = 1 then gfExp i else if c = 2 then gfExp (2 * i) else 0
    gfAdd acc (gfMul (sym cw i) h)) 0

/-- The codeword of 64 data bits: its check symbols are the four coordinates of the sum (R232). -/
def encodeWord (data : Nat) : Nat :=
  let d := data % 2 ^ 64
  d + dataSum d 0 * 2 ^ 64 + dataSum d 1 * 2 ^ 68 + dataSum d 2 * 2 ^ 72 + dataSum d 3 * 2 ^ 76

/-- Coordinate `c` of the syndrome: the received check symbol plus the sum over the received data (R233). -/
def syndrome (cw c : Nat) : Nat := gfAdd (sym cw (16 + c)) (dataSum cw c)

/-- What the decoder of R233 makes of a codeword. -/
inductive Verdict where
  | clean
  /-- Symbol `i` takes its received value plus `e`. -/
  | corrected (i e : Nat)
  | uncorrectable
deriving DecidableEq, Repr

/-- The classification of R233, from the four syndrome coordinates. -/
def classify (s0 s1 s2 s3 : Nat) : Verdict :=
  if s0 = 0 ∧ s1 = 0 ∧ s2 = 0 ∧ s3 = 0 then .clean
  else if s3 = 0 ∧ s0 ≠ 0 then
    let x := gfDiv s1 s0
    if s2 ≠ gfMul s0 (gfMul x x) then .uncorrectable
    else if x = 0 then .corrected 16 s0
    else .corrected (gfLog x) s0
  else if s3 = 0 then
    if s1 ≠ 0 ∧ s2 = 0 then .corrected 17 s1
    else if s1 = 0 ∧ s2 ≠ 0 then .corrected 18 s2
    else .uncorrectable
  else if s0 = 0 ∧ s1 = 0 ∧ s2 = 0 then .corrected 19 s3
  else if s0 = s3 ∧ s1 = s3 ∧ s2 = 0 then .corrected 15 s3
  else .uncorrectable

/-- The decoder applied to a codeword. -/
def decodeWord (cw : Nat) : Verdict := classify (syndrome cw 0) (syndrome cw 1) (syndrome cw 2) (syndrome cw 3)

/-- The codeword after the decoder's correction. -/
def correctWord (cw : Nat) : Nat :=
  match decodeWord cw with
  | .corrected i e => cw ^^^ (e * 2 ^ (4 * i))
  | _ => cw

/-- S3:S2:S1:S0 of a codeword (Table 8.10). -/
def syndromeWord (cw : Nat) : Nat :=
  syndrome cw 0 + syndrome cw 1 * 16 + syndrome cw 2 * 256 + syndrome cw 3 * 4096

/-- The error pattern that inverts every bit of symbol `i`. -/
def invertSym (i : Nat) : Nat := 15 * 2 ^ (4 * i)

end Sys2Proof.Machine
end

