-- ==== Sys2Proof/Machine/PortOps.lean ====
section
/-! DEFINITION. Accesses to main memory: capacity and redirection, the region and provisional checks of the cipher pipe,
the symbol code, sealing under a key, merging, and what an uncorrectable unit does (R230 to R254, R516). -/

namespace Sys2Proof.Machine
open Reg

/-- How an access to memory ends. -/
inductive MemEnd where
  | ok
  /-- Refused by R245, R246 or R247: an error response, no data moved. -/
  | refused
  /-- An uncorrectable unit or codeword was met (Table 8.3, R516). -/
  | uncorrectable
deriving DecidableEq, Repr

/-- The capacity of a port in bytes (R231). -/
def State.portCap (s : State) : Nat := if s.is1T then 2 ^ 36 else 2 ^ 35

/-- The spare that a retire block of port n is redirected to (R242). -/
def State.spareOf (s : State) (n blk : Nat) : Option Nat :=
  ((Cells.within s.mem.spare (n * 512) (n * 512 + 512)).find? (fun p => p.2 = some blk)).map (fun p => p.1 - n * 512)

/-- The place where port n stores a port-local address: below the cipher pipe a retired block is its spare (R242). -/
def State.place (s : State) (n a : Nat) : Nat :=
  match s.spareOf n (a / 4096) with
  | some j => n * 2 ^ 36 + (s.portCap - 2 ^ 21 + j * 4096) + a % 4096
  | none => n * 2 ^ 36 + a

/-! The region table (R246), the key slot of a unit (R252, R253) and the provisional region (R247). -/

/-- Region r of partition p, in effect, holds unit `u` of port n. -/
def State.regionHolds (s : State) (p n u r : Nat) : Bool :=
  s.flagEff (KEY_RGN_BASE.VALID p r) && s.inEff (KEY_RGN_BASE.PORT p r) = n &&
  s.inEff (KEY_RGN_BASE.BASE p r) * 2 ^ 14 ≤ u && u < (s.inEff (KEY_RGN_BASE.BASE p r) + s.inEff (KEY_RGN_SIZE.SIZE p r)) * 2 ^ 14

/-- The region of partition p that holds unit `u` of port n, while the partition's regions are in use. -/
def State.regionOf (s : State) (p n u : Nat) : Option Nat :=
  if s.flag (KEY_PSTAT.ENABLED p) then (List.range 64).find? (fun r => s.regionHolds p n u r) else none

/-- The access bit of a region admits the requester (R246). -/
def State.admits (s : State) (rq : Requester) (p r : Nat) : Bool :=
  match rq with
  | .engine => true
  | .hostAperture => s.flagEff (KEY_RGN_SIZE.HOST p r)
  | .hostDma => s.flagEff (KEY_RGN_SIZE.HOST p r)
  | .fabric => s.flagEff (KEY_RGN_SIZE.FAB p r)

/-- The key slot that region r's tag gives unit `u`: below the watermark of a rotation the new one (R253). -/
def State.slotOfUnit (s : State) (p r u : Nat) : Nat :=
  if s.flag (KEY_RGN_STAT.SWEEPING p r) && u < s.rd (KEY_RGN_WM.UNIT p r) then s.rd (KEY_RGN_STAT.NEW_SLOT p r)
  else s.rd (KEY_RGN_STAT.SLOT p r)

/-- The 64 bytes of key slot k of partition p; a destroyed slot holds zeros (R250). -/
def State.keyBytes (s : State) (p k : Nat) : List Byte := Cells.get (List.replicate 64 0) s.keys.slot (2 * p + k)

/-- Partition p is in KEY_FAULT (Table 8.16). -/
def State.keyFault (s : State) (p : Nat) : Bool := bit (s.rd KEY_ERR_STAT.KEY_FAULT) p

/-- Reading a key-storage word (a slot's, or a region entry's): a correctable error is corrected and counted, an
uncorrectable one puts the partition into KEY_FAULT (R258, Table 8.4). -/
def State.readKeyWord (s : State) (p w : Nat) : State :=
  let e := Cells.get 0 s.keys.slotErr w
  if e = 0 then s
  else if e = 1 then
    (({ s with keys := { s.keys with slotErr := Cells.set 0 s.keys.slotErr w 0 } }).raise KEY_ERR_STAT.CE).reportCe 93 1
  else if s.keyFault p then s
  else ((s.raise KEY_ERR_STAT.UE).wr KEY_ERR_STAT.KEY_FAULT (s.rd KEY_ERR_STAT.KEY_FAULT ||| 2 ^ p)).reportUe 93 w

/-- The provisional region of partition p, port-local, while its pool is enabled (R247, R145). -/
def State.inProvisional (s : State) (p a len : Nat) : Bool :=
  let base := s.inEff (PFT_POOL_BASE.BASE p) * 4096
  let fb := s.inEff (PFT_FRAME_SIZE.FRAME_4K p) * 4096
  let frames := s.inEff (PFT_POOL_FRAMES.FRAMES p)
  let lo := base + (frames - s.inEff (PFT_PROV_FRAMES.PROV p)) * fb
  let hi := base + frames * fb
  s.flag (PFT_PART_STAT.ENABLED p) && a < hi && lo < a + len

/-- The port-local units an access touches. -/
def unitsOf (a len : Nat) : List Nat := (List.range ((a + len + 127) / 128 - a / 128)).map (· + a / 128)

/-- The checks of R245 to R247 on a whole access to an ASSIGNED port: every unit in a valid region whose access bit admits
the requester, and no provisional page for the host or the fabric. The state carries the flags that a failure sets. -/
def State.checkAccess (s : State) (rq : Requester) (n a len : Nat) : State × Bool :=
  match s.partOf n with
  | none => (s, a + len ≤ s.portCap)
  | some p =>
    let us := unitsOf a len
    let s1 := us.foldl (fun st u => match st.regionOf p n u with | some r => (st.readKeyWord p (16 + 64 * p + r)).readKeyWord p (2 * p + st.slotOfUnit p r u) | none => st) s
    let regionOk := a + len ≤ s.portCap && !s1.keyFault p &&
      us.all (fun u => match s.regionOf p n u with | some r => s.admits rq p r | none => false)
    let provBad := rq ≠ .engine && s.inProvisional p a len
    if !regionOk then (s1.raise (MEM_ERR_STAT.REGION_FAULT n), false)
    else if provBad then (s1.raise (MEM_ERR_STAT.PROV_FAULT n), false)
    else (s1, true)

/-- The key a unit of port n is read or written under: none for a port whose Lathe is not ASSIGNED (R248). -/
def State.unitKey (s : State) (n u : Nat) : Option (List Byte) :=
  match s.partOf n with
  | none => none
  | some p => (s.regionOf p n u).map (fun r => s.keyBytes p (s.slotOfUnit p r u))

/-- The tweak of a unit: its module physical address shifted right by 7 (R249). -/
def tweakOf (n u : Nat) : Nat := (n * 2 ^ 36 + u * 128) / 128

/-! The stored codewords of a unit. -/

/-- The error patterns of the 16 codewords of the unit at a place. -/
def State.unitErrs (s : State) (pl : Nat) : List Nat := Cells.getList 0 s.mem.portErr (pl / 8) 16

/-- The decoder finds the unit at a place uncorrectable (R233). -/
def State.unitLost (s : State) (pl : Nat) : Bool := (s.unitErrs pl).any (fun e => decodeWord e = .uncorrectable)

/-- The beats of a unit that the decoder corrects: index, symbol and syndrome. -/
def State.unitFixes (s : State) (pl : Nat) : List (Nat × Nat × Nat) :=
  ((List.range 16).zip (s.unitErrs pl)).filterMap (fun je =>
    match decodeWord je.2 with
    | .corrected i _ => some (je.1, i, syndromeWord je.2)
    | _ => none)

/-- The errors that remain after the decoder's corrections, which only three or more bad symbols can leave (R234). -/
def State.unitResidue (s : State) (pl : Nat) : List Nat := (s.unitErrs pl).map correctWord

/-- A list cut or filled with zeros to 128 bytes. -/
def fit128 (l : List Byte) : List Byte := (List.range 128).map (fun i => l.getD i 0)

/-- Bytes with a remaining error pattern added to the data symbols of each codeword. -/
def addResidue (res : List Nat) (d : List Byte) : List Byte :=
  (List.range d.length).map (fun i => d.getD i 0 ^^^ BitVec.ofNat 8 (bits (res.getD (i / 8) 0) (8 * (i % 8)) 8))

/-- The bytes the packages hold at a place: plaintext that was never sealed, or ciphertext. -/
def State.rawUnit (s : State) (pl : Nat) : List Byte :=
  let d := Cells.getList 0 s.mem.port pl 128
  let c := match Cells.get none s.mem.sealedBy (pl / 128) with
    | none => d
    | some k => fit128 (Config.xtsEnc k.key k.tweak d)
  addResidue (s.unitResidue pl) c

/-- A unit of port n as a reader sees it under a key: what was written under that key and tweak reads back as it was
written; any other stored bytes pass through decryption; with no key the stored bytes themselves (R248, R249). -/
def State.viewUnit (s : State) (n u : Nat) (key : Option (List Byte)) : List Byte :=
  let pl := s.place n (u * 128)
  match key with
  | none => s.rawUnit pl
  | some k =>
    if Cells.get none s.mem.sealedBy (pl / 128) = some ⟨k, tweakOf n u⟩ ∧ (s.unitResidue pl).all (· = 0)
    then Cells.getList 0 s.mem.port pl 128
    else fit128 (Config.xtsDec k (tweakOf n u) (s.rawUnit pl))

/-- Store a unit of port n under a key, with valid check symbols. -/
def State.storeUnit (s : State) (n u : Nat) (key : Option (List Byte)) (d : List Byte) : State :=
  let pl := s.place n (u * 128)
  { s with mem := { s.mem with port := Cells.setList 0 s.mem.port pl (fit128 d),
                               portErr := Cells.clear s.mem.portErr (pl / 8) (pl / 8 + 16),
                               sealedBy := Cells.set none s.mem.sealedBy (pl / 128) (key.map (fun k => ⟨k, tweakOf n u⟩)) } }

/-- The error that an armed injection puts into one beat of the unit just written (Table 8.4, R105): with both armed the
UE acts first. Which beat is not stated: a free value. -/
def State.injectUnit (s : State) (n u : Nat) : State :=
  let pl := s.place n (u * 128)
  let j := s.rd (MEM_INJ.SYM n)
  let put (st : State) (e : Nat) : State :=
    ({ st with mem := { st.mem with portErr := Cells.set 0 st.mem.portErr (pl / 8 + st.free % 16) e } }).drew
  if s.flag (MEM_INJ.UE n) then (put s (invertSym j ^^^ invertSym ((j + 1) % 20))).wr (MEM_INJ.UE n) 0
  else if s.flag (MEM_INJ.CE n) then (put s (invertSym j)).wr (MEM_INJ.CE n) 0
  else s

/-- The bits of MEM_ERR_STAT that must all be clear for MEM_ERR_ADDR to record (Table 8.9). -/
def State.memErrClear (s : State) (n : Nat) : Bool :=
  [MEM_ERR_STAT.CE n, MEM_ERR_STAT.UE n, MEM_ERR_STAT.SCRUB_UE n, MEM_ERR_STAT.RETIRED n, MEM_ERR_STAT.RETIRE_FULL n,
   MEM_ERR_STAT.WR_UE n, MEM_ERR_STAT.REGION_FAULT n, MEM_ERR_STAT.PROV_FAULT n].all (fun f => s.rd f = 0)

/-- A retire block of port n joins the blocks that wait to be copied, unless it waits, is copied or is retired (R242). -/
def State.queueRetire (s : State) (n blk : Nat) : State :=
  let q := Cells.get [] s.mem.retQueue n
  if q.contains blk || (s.spareOf n blk).isSome || ((Cells.get none s.mem.retCopy n).map (·.1)) = some blk then s
  else { s with mem := { s.mem with retQueue := Cells.set [] s.mem.retQueue n (q ++ [blk]) } }

/-- What the corrections of one unit's read report: CE, CE_COUNT, MEM_ERR_SYN, the site, and the block's count toward
RETIRE_CE over the last two patrol passes (R241, R242, Table 8.8). -/
def State.countFixes (s : State) (n u : Nat) : State :=
  let fixes := s.unitFixes (s.place n (u * 128))
  match fixes.getLast? with
  | none => s
  | some (beat, symb, syn) =>
    let k := n * 2 ^ 24 + u / 32
    let (old, new) := Cells.get (0, 0) s.mem.ceCount k
    let s1 := { s with mem := { s.mem with ceCount := Cells.set (0, 0) s.mem.ceCount k (old, new + fixes.length) } }
    let s2 := ((((s1.raise (MEM_ERR_STAT.CE n)).bump (MEM_ERR_STAT.CE_COUNT n) fixes.length).wr (MEM_ERR_SYN.SYMBOL n) symb).wr
      (MEM_ERR_SYN.BEAT n) beat).wr (MEM_ERR_SYN.SYNDROME n) syn
    let s3 := s2.reportCe (32 + n) fixes.length
    if s.inEff (MEM_CFG.RETIRE_CE n) ≤ old + new + fixes.length then s3.queueRetire n (u / 32) else s3

/-- What a consumer's meeting of an uncorrectable unit reports: UE, MEM_ERR_ADDR for the first since the flags were all
clear, MEM_ERR_SYN, the site's UE, and retirement of the block (R242, Table 8.8). -/
def State.reportLost (s : State) (n u : Nat) (f : Fld) : State :=
  let pl := s.place n (u * 128)
  let syn := ((s.unitErrs pl).find? (fun e => decodeWord e = .uncorrectable)).getD 0
  let s1 := if Cells.get false s.mem.ueSeen n then s
    else { s.wr (MEM_ERR_ADDR.UNIT n) u with mem := { s.mem with ueSeen := Cells.set false s.mem.ueSeen n true } }
  (((s1.raise f).wr (MEM_ERR_SYN.SYNDROME n) (syndromeWord syn)).reportUe (32 + n) u).queueRetire n (u / 32)

/-- A port that is in self-refresh leaves it for an access, which waits meanwhile (R240). -/
def State.wakePort (s : State) (n : Nat) : State := if s.rd (MEM_STAT.STATE n) = 4 then s.wr (MEM_STAT.STATE n) 3 else s

/-- An armed injection on the port link of port n (ERR_INJ, Table 17.9): 0 none, 1 correctable, 2 uncorrectable. -/
def State.linkHit (s : State) (site : Nat) : Nat :=
  if s.rd ERR_INJ.SITE = site then (if s.flag ERR_INJ.LINK_UE then 2 else if s.flag ERR_INJ.LINK_CE then 1 else 0) else 0

/-- A transfer crosses a link: an armed injection acts on its next codeword, the router reports it against the link's
site (R485), and the destination decodes it (R236). True: the data arrives uncorrectable. -/
def State.crossLink (s : State) (site : Nat) : State × Bool :=
  match s.linkHit site with
  | 0 => (s, false)
  | 1 => ((s.wr ERR_INJ.LINK_CE 0).reportCe site 1, false)
  | _ => ((s.wr ERR_INJ.LINK_UE 0).reportUe site 0, true)

/-- Read `len` bytes of port n from port-local `a`, unit by unit, as requester `rq` (R246, R231). -/
def State.portRead (s : State) (rq : Requester) (n a len : Nat) : State × MemEnd × List Byte :=
  let (s0, ok) := (s.wakePort n).checkAccess rq n a len
  if !ok then (s0, .refused, [])
  else
    let us := unitsOf a len
    let s1 := us.foldl (fun st u => st.countFixes n u) s0
    match us.find? (fun u => s1.unitLost (s1.place n (u * 128))) with
    | some u => (s1.reportLost n u (MEM_ERR_STAT.UE n), .uncorrectable, [])
    | none =>
      let (s2, bad) := s1.crossLink (72 + n)
      if bad then (s2, .uncorrectable, [])
      else (s2, .ok, ((us.flatMap (fun u => s2.viewUnit n u (s2.unitKey n u))).drop (a % 128)).take len)

/-- Write one unit of port n with the bytes of a request that fall into it; a part of a unit is merged, and a merge with
an uncorrectable unit is not performed (R231, R516). -/
def State.writeUnit (s : State) (n u a : Nat) (data : List Byte) : State × Bool :=
  let covered (i : Nat) : Bool := a ≤ u * 128 + i && u * 128 + i < a + data.length
  let whole := (List.range 128).all covered
  if !whole && s.unitLost (s.place n (u * 128)) then (s.reportLost n u (MEM_ERR_STAT.WR_UE n), false)
  else
    let key := s.unitKey n u
    let s1 := if whole then s else s.countFixes n u
    let old := if whole then [] else s.viewUnit n u key
    let d := (List.range 128).map (fun i => if covered i then data.getD (u * 128 + i - a) 0 else old.getD i 0)
    (((s1.storeUnit n u key d).injectUnit n u), true)

/-- Write bytes to port n from port-local `a`, unit by unit, as requester `rq`: the checks apply to the request as a whole,
and the units other than one whose merge fails are written (R231, R246). Data that arrives uncorrectable is not stored
(R236). -/
def State.portWrite (s : State) (rq : Requester) (n a : Nat) (data : List Byte) : State × MemEnd :=
  let (s0, ok) := (s.wakePort n).checkAccess rq n a data.length
  if !ok then (s0, .refused)
  else
    let (s1, bad) := s0.crossLink (72 + n)
    if bad then (s1.raise (MEM_ERR_STAT.WR_UE n), .uncorrectable)
    else
      let r := (unitsOf a data.length).foldl (fun acc u =>
        let (st, good) := acc.1.writeUnit n u a data
        (st, acc.2 && good)) (s1, true)
      (r.1, if r.2 then .ok else .uncorrectable)

/-- The port and port-local address of a partition address (R245); none when the slot is not below the Lathe count or the
local part not below the port's capacity. -/
def State.partAddr (s : State) (p addr : Nat) : Option (Nat × Nat) :=
  match s.latheAt p (addr / 2 ^ 36) with
  | some n => if addr % 2 ^ 36 < s.portCap then some (n, addr % 2 ^ 36) else none
  | none => none

/-- Read at a partition address (R245). -/
def State.partRead (s : State) (rq : Requester) (p addr len : Nat) : State × MemEnd × List Byte :=
  match s.partAddr p addr with
  | some (n, a) => s.portRead rq n a len
  | none => (s, .refused, [])

/-- Write at a partition address (R245). -/
def State.partWrite (s : State) (rq : Requester) (p addr : Nat) (data : List Byte) : State × MemEnd :=
  match s.partAddr p addr with
  | some (n, a) => s.portWrite rq n a data
  | none => (s, .refused)

/-- Zeros with valid check symbols over the whole capacity of port n (R238, Table 13.9). -/
def State.zeroPort (s : State) (n : Nat) : State :=
  { s with mem := { s.mem with port := Cells.clear s.mem.port (n * 2 ^ 36) ((n + 1) * 2 ^ 36),
                               portErr := Cells.clear s.mem.portErr (n * 2 ^ 33) ((n + 1) * 2 ^ 33),
                               sealedBy := Cells.clear s.mem.sealedBy (n * 2 ^ 29) ((n + 1) * 2 ^ 29) } }

end Sys2Proof.Machine
end

