-- ==== Sys2Proof/Machine/Records.lean ====
section
/-! DEFINITION. Records of the event rings (Tables 6.10, 6.11), what producers hold (R356), and MSI-X messages (R349). -/

namespace Sys2Proof.Machine
open Reg

/-- The step number of partition p, which counts every started step (Table 6.30). -/
def State.stepOf (s : State) (p : Nat) : Nat := Cells.get 0 s.plt.step p

/-- Partition p's serving loop. -/
def State.loop (s : State) (p : Nat) : PltPart := Cells.get {} s.plt.loop p
def State.setLoop (s : State) (p : Nat) (x : PltPart) : State := { s with plt := { s.plt with loop := Cells.set {} s.plt.loop p x } }
/-- A step of partition p runs. -/
def State.stepRuns (s : State) (p : Nat) : Bool := (s.loop p).phase ≠ .none

/-- Partition p is being torn down: commits to its blocks are refused (R390). -/
def State.tearing (s : State) (p : Nat) : Bool := s.rd (GLB_PART_STAT.STATE p) = 4

/-- A restore of partition p is armed and not committed (R500). -/
def State.restoring (s : State) (p : Nat) : Bool :=
  let r := (Cells.get {} s.part p).restore
  1 ≤ r && r ≤ 3

/-- A checkpoint job of partition p holds its steps (R334). -/
def State.quiesced (s : State) (p : Nat) : Bool := match Cells.get none s.fab.ck p with | some j => j.quiesce | none => false

/-- A breach record (Table 6.10). -/
def State.breachRecord (s : State) (p typ reason cls slot reqId step detail : Nat) : List Byte :=
  leBytes 4 (typ + reason * 2 ^ 8 + p * 2 ^ 16 + cls * 2 ^ 20) ++ leBytes 4 slot ++ leBytes 4 reqId ++ leBytes 8 step ++ leBytes 4 s.timeWord ++
  leBytes 4 detail ++ leBytes 4 0

/-- An error record (Table 6.11): `regions` are pairs of region index and byte offset, at most four. -/
def errorRecord (p typ code latheSlot desc step slot page layer : Nat) (regions : List (Nat × Nat)) : List Byte :=
  leBytes 4 (typ + code * 2 ^ 8 + p * 2 ^ 16 + latheSlot * 2 ^ 20) ++ leBytes 4 desc ++ leBytes 8 step ++ leBytes 4 (slot + page * 2 ^ 14) ++
  leBytes 4 (layer + min 4 regions.length * 2 ^ 8) ++ (regions.take 4).flatMap (fun r => leBytes 8 (r.1 + r.2 * 2 ^ 16))

/-- The region of partition p that holds port-local byte `a` of port n, with the offset in it. -/
def State.regionEntry (s : State) (p n a : Nat) : List (Nat × Nat) :=
  match s.regionOf p n (a / 128) with
  | some r => [(r, a - s.inEff (KEY_RGN_BASE.BASE p r) * 2 ^ 21)]
  | none => []

/-- A MEM_LOST record of partition p for a unit of port n (R257). -/
def State.memLost (s : State) (n u : Nat) : State :=
  match s.partOf n with
  | none => s
  | some p =>
    match s.regionEntry p n (u * 128) with
    | [] => s
    | rs => s.record p (errorRecord p 0x13 0 (s.slotOfLathe p n) 0xFFF (s.stepOf p) 0x1FFF 0 0 rs)

/-- The event ring of partition p is enabled and full (R350, R355): the VF of partition p is VF p (R371). -/
def State.eqFull (s : State) (p : Nat) : Bool :=
  2 ^ s.rd (PCI_RING_CFG.EQ_LOG2 p) ≤ (s.rd (PCI_EQ_TAIL.INDEX p) + 65536 - s.rd (PCI_EQ_HEAD.INDEX p)) % 65536

/-- A record waits for event entries (Table 12.20). -/
def State.eqWaits (s : State) (p : Nat) : Bool := !(s.records p).isEmpty && s.flag (PCI_RING_CFG.ENABLE p) && s.eqFull p

/-- A record of type `typ` of partition p waits with its producer (R356). -/
def State.holds (s : State) (p typ : Nat) : Bool := ((s.records p).drop 64).any (fun r => r.head? = some (BitVec.ofNat 8 typ))

/-- The MSI-X vectors of a function (0 PF0, 1 + n VF n). -/
def msixSize (fn : Nat) : Nat := if fn = 0 then 256 else 224

/-- The vector control word's mask bit; the table's reset state masks every vector. -/
def State.msixMasked (s : State) (fn vec : Nat) : Bool := bit (Cells.get 1 s.host.msix (fn * 4096 + 4 * vec + 3)) 0

/-- An event sends its vector: suppressed at or above the table size, pending while masked (R349). -/
def State.sendVec (s : State) (fn vec : Nat) : State :=
  if msixSize fn ≤ vec then s
  else if s.msixMasked fn vec then { s with host := { s.host with pba := Cells.set false s.host.pba (fn * 256 + vec) true } }
  else s.send (.msix fn vec)

/-- An event of Table 12.2 that the module answers as an unsupported request, or as a completer abort, is logged. -/
def State.logUr (s : State) : State := s.raise PCI_ERR_STAT.UR
def State.logCa (s : State) : State := s.raise PCI_ERR_STAT.CA

/-- The contents of port n's bytes `[a, a + len)`, whole units, become undefined (R20): each unit stands sealed under a key of free
values that nothing else holds, so that every reader sees free values and no error. -/
def State.undefPort (s : State) (n a len : Nat) : State :=
  let key := (List.range 65).map (fun i => BitVec.ofNat 8 (Config.freeValue (s.freeCtr + i)))
  let u := s.place n a / 128
  { s with freeCtr := s.freeCtr + 65
           mem := { s.mem with sealedBy := Cells.fill s.mem.sealedBy u (len / 128) (some ⟨key, s.freeCtr⟩),
                               portErr := Cells.clear s.mem.portErr (u * 16) ((u + len / 128) * 16) } }

/-- Free values as bytes, and the counter moved past them. -/
def State.freeBytes (s : State) (len : Nat) : List Byte := (List.range len).map (fun i => BitVec.ofNat 8 (Config.freeValue (s.freeCtr + i)))
def State.drewMany (s : State) (len : Nat) : State := { s with freeCtr := s.freeCtr + len }

/-- Any bytes `[a, a + len)` of port n become undefined: whole units, and the bytes of the units at the ends (R20). -/
def State.undefMem (s : State) (n a len : Nat) : State :=
  (unitsOf a len).foldl (fun st u =>
    if a ≤ u * 128 ∧ u * 128 + 128 ≤ a + len then st.undefPort n (u * 128) 128
    else
      let key := st.unitKey n u
      let old := st.viewUnit n u key
      let new := st.freeBytes 128
      ((st.drewMany 128).storeUnit n u key ((List.range 128).map (fun i => if a ≤ u * 128 + i && u * 128 + i < a + len then new.getD i 0 else old.getD i 0)))) s

/-- Bytes of Lathe SRAM n, and of way w, become undefined (R20). -/
def State.undefLsram (s : State) (n a len : Nat) : State :=
  { s.drewMany len with mem := { s.mem with lsram := Cells.setList 0 s.mem.lsram (n * 2 ^ 24 + a) (s.freeBytes len) } }
def State.undefWay (s : State) (w a len : Nat) : State :=
  { s.drewMany len with mem := { s.mem with way := Cells.setList 0 s.mem.way (w * 2 ^ 22 + a) (s.freeBytes len) } }

/-! Slot records (R173, R174). -/

def State.slot (s : State) (k : Nat) : SlotRec := Cells.get {} s.plt.slots k

/-- A word of Peloton SRAM is written: its stored error goes, and an armed injection acts on it, the UE first (Table 6.15, R105). Places:
slot s at s, bucket b at 8,192 + b, cost table p at 9,216 + p. -/
def State.writePltWord (s : State) (w : Nat) : State :=
  let put (st : State) (v : Nat) : State := { st with plt := { st.plt with sramErr := Cells.set 0 st.plt.sramErr w v } }
  if s.flag PLT_INJ.SRAM_UE then (put s 2).wr PLT_INJ.SRAM_UE 0
  else if s.flag PLT_INJ.SRAM_CE then (put s 1).wr PLT_INJ.SRAM_CE 0
  else put s 0

def State.setSlot (s : State) (k : Nat) (r : SlotRec) : State :=
  ({ s with plt := { s.plt with slots := Cells.set {} s.plt.slots k r } }).writePltWord k

/-- A slot in CLOSING becomes FREE; the last request to close stays beside it. -/
def SlotRec.freed (r : SlotRec) : SlotRec := { lastReq := r.lastReq }

/-- RELEASE has completed for a slot (Table 6.2). -/
def State.slotReleased (s : State) (k : Nat) : State :=
  let r := s.slot k
  if r.state = 3 then s.setSlot k r.freed else s

end Sys2Proof.Machine
end

