-- ==== Sys2Proof/Machine/SramOps.lean ====
section
/-! DEFINITION. Accesses to Lathe SRAM and shared SRAM: the symbol code per 8-byte word, merging within one access, and the
progress counters (R71, R93, R235, R243, R516). -/

namespace Sys2Proof.Machine
open Reg

/-- The bytes of one Lathe's SRAM (R71). -/
def lsramSize : Nat := 0xC00000
/-- The bytes of one way (R243). -/
def waySize : Nat := 0x400000
/-- Where a way's progress area begins (R93). -/
def progressBase : Nat := 0x3FF000

/-- The 8-byte codewords that a span touches. -/
def wordsOf (a len : Nat) : List Nat := (List.range ((a + len + 7) / 8 - a / 8)).map (· + a / 8)

/-- The accesses of `g` bytes that a span touches. -/
def accessesOf (g a len : Nat) : List Nat := (List.range ((a + len + g - 1) / g - a / g)).map (· + a / g)

/-- The codewords among `ws` that the decoder corrects. -/
def fixable (errs : Cells Nat) (ws : List Nat) : Nat :=
  (ws.filter (fun w => match decodeWord (Cells.get 0 errs w) with | .corrected _ _ => true | _ => false)).length

/-- The first codeword among `ws` that is uncorrectable. -/
def lostWord (errs : Cells Nat) (ws : List Nat) : Option Nat :=
  ws.find? (fun w => decodeWord (Cells.get 0 errs w) = .uncorrectable)

/-- Bytes as the decoder gives them: what three or more bad symbols leave uncorrected stays in them (R234). -/
def decodedBytes (cells : Cells Byte) (errs : Cells Nat) (a len : Nat) : List Byte :=
  (List.range len).map (fun i =>
    let b := Cells.get 0 cells (a + i)
    let e := Cells.get 0 errs ((a + i) / 8)
    if e = 0 then b else b ^^^ BitVec.ofNat 8 (bits (correctWord e) (8 * ((a + i) % 8)) 8))

/-- The corrections that a use of Lathe SRAM n made (Table 3.12, R485). -/
def State.lsramCe (s : State) (n k : Nat) : State :=
  if k = 0 then s else (((s.raise (LTH_ERR_STAT.LSRAM_CE n)).bump (LTH_LSRAM_CE.COUNT n) k).reportCe n k)

/-- Read `len` bytes of Lathe SRAM n at offset `a`; false: an uncorrectable word, no data (R236). -/
def State.lsramRead (s : State) (n a len : Nat) : State × Bool × List Byte :=
  let b := n * 2 ^ 24 + a
  let ws := wordsOf b len
  let s1 := s.lsramCe n (fixable s.mem.lsramErr ws)
  caseOf (lostWord s.mem.lsramErr ws) (s1, true, decodedBytes s.mem.lsram s.mem.lsramErr b len)
    (fun w => (s1.reportUe n (w * 8 - n * 2 ^ 24), false, []))

/-- The error that an armed injection puts into the next write (Table 3.12, R105). Which codeword and which symbols is not
stated: free values. -/
def State.injectLsram (s : State) (n : Nat) (ws : List Nat) : State :=
  let w := ws.getD (s.free % max 1 ws.length) 0
  let i := s.drew.free % 20
  let j := (i + 1 + s.drew.drew.free % 19) % 20
  let put (e : Nat) : State :=
    { s with mem := { s.mem with lsramErr := Cells.set 0 s.mem.lsramErr w e }, freeCtr := s.freeCtr + 3 }
  if s.flag (LTH_INJ.LSRAM_UE n) then (put (invertSym i ^^^ invertSym j)).wr (LTH_INJ.LSRAM_UE n) 0
  else if s.flag (LTH_INJ.LSRAM_CE n) then (put (invertSym i)).wr (LTH_INJ.LSRAM_CE n) 0
  else s

/-- The codewords of an access that a write covers only in part. -/
def partialWords (a len : Nat) (ws : List Nat) : List Nat := ws.filter (fun w => !(a ≤ 8 * w && 8 * w + 8 ≤ a + len))

/-- One access of a write: performed unless a word it merges with is uncorrectable (R516). -/
def mergeAccess (cells : Cells Byte) (errs : Cells Nat) (a : Nat) (data : List Byte) : Option (Cells Byte × Cells Nat) :=
  let ws := wordsOf a data.length
  if (lostWord errs (partialWords a data.length ws)).isSome then none
  else
    let fixed := (partialWords a data.length ws).foldl (fun c w =>
      if Cells.get 0 errs w = 0 then c else Cells.setList 0 c (8 * w) (decodedBytes cells errs (8 * w) 8)) cells
    some (Cells.setList 0 fixed a data, ws.foldl (fun e w => Cells.set 0 e w 0) errs)

/-- Write bytes to Lathe SRAM n at offset `a`, one 64-byte access at a time; false: an access met an uncorrectable word and
was not performed, the others are (R516). -/
def State.lsramWrite (s : State) (n a : Nat) (data : List Byte) : State × Bool :=
  let b := n * 2 ^ 24 + a
  let r := (accessesOf 64 b data.length).foldl (fun (acc : State × Bool) x =>
    let lo := max b (64 * x)
    let part := (data.drop (lo - b)).take (64 * x + 64 - lo)
    let ce := fixable acc.1.mem.lsramErr (partialWords lo part.length (wordsOf lo part.length))
    caseOf (mergeAccess acc.1.mem.lsram acc.1.mem.lsramErr lo part) (acc.1.reportUe n (lo - n * 2 ^ 24), false)
      (fun ce' => (({ acc.1 with mem := { acc.1.mem with lsram := ce'.1, lsramErr := ce'.2 } }).lsramCe n ce, acc.2))) (s, true)
  if data.isEmpty then r else (r.1.injectLsram n (wordsOf b data.length), r.2)

/-- Read `len` bytes of way w at offset `a` (R243); false: an uncorrectable word. -/
def State.wayRead (s : State) (w a len : Nat) : State × Bool × List Byte :=
  let b := w * 2 ^ 22 + a
  let ws := wordsOf b len
  let k := fixable s.mem.wayErr ws
  let s1 := if k = 0 then s else s.reportCe (16 + w) k
  caseOf (lostWord s.mem.wayErr ws) (s1, true, decodedBytes s.mem.way s.mem.wayErr b len)
    (fun x => (s1.reportUe (16 + w) (x * 8 - w * 2 ^ 22), false, []))

/-- The error that an armed way injection puts into the next write to way SITE − 16 (Table 17.9). -/
def State.injectWay (s : State) (w : Nat) (ws : List Nat) : State :=
  let x := ws.getD (s.free % max 1 ws.length) 0
  let i := s.drew.free % 20
  let j := (i + 1 + s.drew.drew.free % 19) % 20
  let put (e : Nat) : State :=
    { s with mem := { s.mem with wayErr := Cells.set 0 s.mem.wayErr x e }, freeCtr := s.freeCtr + 3 }
  if s.rd ERR_INJ.SITE ≠ 16 + w then s
  else if s.flag ERR_INJ.WAY_UE then (put (invertSym i ^^^ invertSym j)).wr ERR_INJ.WAY_UE 0
  else if s.flag ERR_INJ.WAY_CE then (put (invertSym i)).wr ERR_INJ.WAY_CE 0
  else s

/-- Write bytes to way w at offset `a`, one 128-byte access at a time (R243, R516). -/
def State.wayWrite (s : State) (w a : Nat) (data : List Byte) : State × Bool :=
  let b := w * 2 ^ 22 + a
  let r := (accessesOf 128 b data.length).foldl (fun (acc : State × Bool) x =>
    let lo := max b (128 * x)
    let part := (data.drop (lo - b)).take (128 * x + 128 - lo)
    caseOf (mergeAccess acc.1.mem.way acc.1.mem.wayErr lo part) (acc.1.reportUe (16 + w) (lo - w * 2 ^ 22), false)
      (fun x => ({ acc.1 with mem := { acc.1.mem with way := x.1, wayErr := x.2 } }, acc.2))) (s, true)
  if data.isEmpty then r else (r.1.injectWay w (wordsOf b data.length), r.2)

/-- Progress counter `i` of way w (R93). -/
def State.progress (s : State) (w i : Nat) : Nat := leVal (Cells.getList 0 s.mem.way (w * 2 ^ 22 + progressBase + 4 * i) 4)

/-- A publish to a progress counter: the way keeps the maximum; false: the value was below the current one (R93). -/
def State.publish (s : State) (w i v : Nat) : State × Bool :=
  if v < s.progress w i then (s, false)
  else ({ s with mem := { s.mem with way := Cells.setList 0 s.mem.way (w * 2 ^ 22 + progressBase + 4 * i) (leBytes 4 v) } }, true)

/-- Zeros with valid check symbols over Lathe SRAM n (R104). -/
def State.zeroLsram (s : State) (n : Nat) : State :=
  { s with mem := { s.mem with lsram := Cells.clear s.mem.lsram (n * 2 ^ 24) ((n + 1) * 2 ^ 24),
                               lsramErr := Cells.clear s.mem.lsramErr (n * 2 ^ 21) ((n + 1) * 2 ^ 21) } }

/-- Zeros with valid check symbols over way w (R243). -/
def State.zeroWay (s : State) (w : Nat) : State :=
  { s with mem := { s.mem with way := Cells.clear s.mem.way (w * 2 ^ 22) ((w + 1) * 2 ^ 22),
                               wayErr := Cells.clear s.mem.wayErr (w * 2 ^ 19) ((w + 1) * 2 ^ 19) } }

/-- The progress counters of way w set to 0 (R96). -/
def State.zeroProgress (s : State) (w : Nat) : State :=
  { s with mem := { s.mem with way := Cells.clear s.mem.way (w * 2 ^ 22 + progressBase) ((w + 1) * 2 ^ 22),
                               wayErr := Cells.clear s.mem.wayErr ((w * 2 ^ 22 + progressBase) / 8) ((w + 1) * 2 ^ 19) } }

end Sys2Proof.Machine
end

