-- ==== Sys2Proof/Machine/TdmaOps.lean ====
section
/-! DEFINITION. Tensor DMA: descriptors and their checks, lines and streams, data movement, pulses, stops (R262 to R267, R276 to
R281, R325). -/

namespace Sys2Proof.Machine
open Reg

/-- Channel c of group g, beyond its registers. -/
def State.tch (s : State) (g c : Nat) : TdmaCh := Cells.get {} s.tdma (4 * g + c)
def State.setTch (s : State) (g c : Nat) (x : TdmaCh) : State := { s with tdma := Cells.set {} s.tdma (4 * g + c) x }
/-- A Lathe's sequencer, beyond its registers. -/
def State.lth (s : State) (n : Nat) : LatheSt := Cells.get {} s.lathe n
def State.setLth (s : State) (n : Nat) (x : LatheSt) : State := { s with lathe := Cells.set {} s.lathe n x }

/-- A field of a descriptor's words. -/
def dfld (w : List Nat) (off lo k : Nat) : Nat := bits (w.getD (off / 4) 0) lo k

/-- One side of a descriptor (Table 9.2): space, address, line, loop counts, steps. -/
structure TdmaSide where
  space : Nat
  addr : Nat
  line : Nat
  n1 : Nat
  n2 : Nat
  n3 : Nat
  s1 : Int
  s2 : Int
  s3 : Int
deriving DecidableEq, Repr

/-- The source (off 0x10) or destination (off 0x30) side. -/
def tdmaSide (w : List Nat) (off space : Nat) : TdmaSide :=
  { space := space
    addr := dfld w off 0 32 + dfld w (off + 4) 0 32 * 2 ^ 32
    line := dfld w (off + 8) 0 24
    n1 := dfld w (off + 12) 0 16 + 1, n2 := dfld w (off + 12) 16 16 + 1, n3 := dfld w (off + 16) 0 16 + 1
    s1 := sgn 32 (dfld w (off + 20) 0 32), s2 := sgn 32 (dfld w (off + 24) 0 32), s3 := sgn 32 (dfld w (off + 28) 0 32) }

def tdmaSrc (w : List Nat) : TdmaSide := tdmaSide w 0x10 (dfld w 0 0 4)
def tdmaDst (w : List Nat) : TdmaSide := tdmaSide w 0x30 (dfld w 0 4 4)

/-- The address of the k-th line in order, loop 1 innermost (R264). -/
def TdmaSide.lineAt (d : TdmaSide) (k : Nat) : Int :=
  (d.addr : Int) + (k % d.n1 : Nat) * d.s1 + (k / d.n1 % d.n2 : Nat) * d.s2 + (k / d.n1 / d.n2 : Nat) * d.s3

/-- The lines of a side. -/
def TdmaSide.lines (d : TdmaSide) : Nat := d.n1 * d.n2 * d.n3
/-- The bytes of a side. -/
def TdmaSide.bytes (d : TdmaSide) : Nat := d.line * d.lines

/-- The lines at the corners of the pattern: every line lies between them. -/
def TdmaSide.corners (d : TdmaSide) : List Int :=
  [0, d.n1 - 1].flatMap (fun a => [0, d.n2 - 1].flatMap (fun b => [0, d.n3 - 1].map (fun c =>
    (d.addr : Int) + (a : Nat) * d.s1 + (b : Nat) * d.s2 + (c : Nat) * d.s3)))

/-- Every bit that R262 does not define for the space is 0, and the space is one the side may name. -/
def TdmaSide.form (d : TdmaSide) (isDst : Bool) : Bool :=
  (d.space = 0 && d.addr < 2 ^ 24) || (d.space = 1 && d.addr < 2 ^ 26) || (d.space = 2 && d.addr < 2 ^ 40) || (d.space = 3 && isDst && d.addr < 2 ^ 47)

/-- Every line lies within its space (R266): Lathe SRAM, or one way of WAY_MASK, a destination below its progress area; a
destination on the fabric keeps the 16-byte shape of R325. -/
def State.tdmaFits (s : State) (g : Nat) (d : TdmaSide) (isDst : Bool) : Bool :=
  let way := d.addr / 2 ^ 22 % 16
  let top : Int := if isDst then progressBase else waySize
  if d.space = 0 then d.corners.all (fun a => 0 ≤ a && a + d.line ≤ (lsramSize : Int))
  else if d.space = 1 then
    bit (s.rd (LTH_PART.WAY_MASK g)) way &&
    d.corners.all (fun a => (way * 2 ^ 22 : Nat) ≤ a && a + d.line ≤ (way * 2 ^ 22 : Nat) + top)
  else if d.space = 3 then d.line % 16 = 0 && d.addr % 16 = 0 && d.s1 % 16 = 0 && d.s2 % 16 = 0 && d.s3 % 16 = 0
  else true

/-- A side keeps the alignment and size rules of R266. -/
def TdmaSide.aligned (d : TdmaSide) : Bool :=
  d.addr % 4 = 0 && d.s1 % 4 = 0 && d.s2 % 4 = 0 && d.s3 % 4 = 0 && d.line % 4 = 0 && 4 ≤ d.line

/-- A descriptor offset lies on a 128-byte boundary within Lathe SRAM (R266). -/
def tdescOk (a : Nat) : Bool := a % 128 = 0 && a + 128 ≤ lsramSize

/-- The checks of R266 on a fetched descriptor. -/
def State.tdmaOk (s : State) (g : Nat) (w : List Nat) : Bool :=
  let a := tdmaSrc w
  let b := tdmaDst w
  dfld w 0 28 4 = 1 && a.form false && b.form true && a.aligned && b.aligned && a.bytes = b.bytes &&
  s.tdmaFits g a false && s.tdmaFits g b true && (dfld w 0 16 1 = 0 || tdescOk (dfld w 4 0 24))

/-! Stops (R280, R281). -/

/-- TDMA_CH_CFG takes effect, or the commit is refused because BURST is 0 (R289). -/
def State.tdmaApply (s : State) (g c : Nat) : State :=
  if s.rd (TDMA_CH_CFG.BURST g c) = 0 then s.raise (TDMA_GRP_STAT.CFG_MISMATCH g)
  else s.applyShadows [TDMA_CH_CFG.RATE g c, TDMA_CH_CFG.BURST g c]

/-- A descriptor boundary: a staged commit of the channel applies (R289). -/
def State.tdmaBoundary (s : State) (g c : Nat) : State :=
  if (s.tch g c).staged then (s.setTch g c { s.tch g c with staged := false }).tdmaApply g c else s

/-- A channel drops what it does. -/
def State.dropTch (s : State) (g c st : Nat) : State := ((s.tdmaBoundary g c).setTch g c {}).wr (TDMA_CH_STAT.STATE g c) st

/-- The pieces of a side's stream in `[x, x + len)`: addresses and lengths, line by line (R264). -/
def TdmaSide.pieces (d : TdmaSide) (x len : Nat) : List (Int × Nat) :=
  if len = 0 ∨ d.line = 0 then []
  else
    (List.range ((x + len - 1) / d.line + 1 - x / d.line)).map (fun i =>
      let k := x / d.line + i
      let lo := max x (k * d.line)
      let hi := min (x + len) ((k + 1) * d.line)
      (d.lineAt k + ((lo - k * d.line : Nat) : Int), hi - lo))

/-- A tensor channel is dropped into a state: what it has not issued is never issued, and the destination of the descriptor it runs is
undefined (R279). -/
def State.cutTch (s : State) (g c st : Nat) : State :=
  let s1 : State := { s with fab := { s.fab with sendQ := s.fab.sendQ.filter (fun x => x.owner ≠ TxOwner.chan (4 * g + c)) } }
  let s2 := match (s.tch g c).words with
    | none => s1
    | some w =>
      let d := tdmaDst w
      (d.pieces 0 d.bytes).foldl (fun (st : State) (p : Int × Nat) =>
        if d.space = 0 then st.undefLsram g p.1.toNat p.2
        else if d.space = 1 then st.undefWay (p.1.toNat / 2 ^ 22 % 16) (p.1.toNat % 2 ^ 22) p.2
        else if d.space = 2 then
          match st.partOf g with
          | some pt => (match st.partAddr pt p.1.toNat with | some (n, a) => st.undefMem n a p.2 | none => st)
          | none => st
        else st) s1
  s2.dropTch g c st

/-- The group stops: cause, failing address, and the channel for a descriptor check (R280, Table 9.10). -/
def State.tdmaStop (s : State) (g cause addr chan : Nat) : State :=
  let s1 := (List.range 4).foldl (fun st c => if st.flag (TDMA_CH_CTRL.ENABLE g c) then st.cutTch g c 4 else st) s
  let s2 := if s1.flag (TDMA_GRP_STAT.STOPPED g) then s1 else
    (((s1.wr (TDMA_GRP_STAT.STOPPED g) 1).wr (TDMA_GRP_STAT.CAUSE g) cause).wr (TDMA_GRP_STAT.CHANNEL g) (if cause = 1 then chan else 0)).wr
      (TDMA_GRP_ADDR_LO.ADDR g) addr |>.wr (TDMA_GRP_ADDR_HI.ADDR g) (addr / 2 ^ 32)
  let st := s.rd (LTH_SEQ_STAT.STATE g)
  if st = 2 ∨ st = 3 ∨ st = 4 ∨ st = 7 then s2.setLth g { s2.lth g with tdmaHit := true } else s2

/-- The group leaves STOPPED: each stopped channel to IDLE, or FENCED while its FENCE is 1 (R278, R281). -/
def State.tdmaUnstop (s : State) (g : Nat) : State :=
  (List.range 4).foldl (fun st c =>
    if st.rd (TDMA_CH_STAT.STATE g c) = 4 then st.wr (TDMA_CH_STAT.STATE g c) (if st.flag (TDMA_CH_CTRL.FENCE g c) then 3 else 1) else st)
    (s.wr (TDMA_GRP_STAT.STOPPED g) 0)

/-- The reset state of the group: every channel enabled, IDLE and unfenced (R281). -/
def State.tdmaGroupReset (s : State) (g : Nat) : State :=
  { s.clearRegs (tdmaG g) (tdmaG g + 0x1000) with tdma := Cells.clear s.tdma (4 * g) (4 * g + 4) }

/-- FENCE set on a tensor channel: an IDLE channel enters FENCED; an ACTIVE one runs its descriptor to its end first (R278). -/
def State.tensorFence (s : State) (g c : Nat) : State :=
  let s1 := s.wr (TDMA_CH_CTRL.FENCE g c) 1
  if s.rd (TDMA_CH_STAT.STATE g c) = 1 then s1.dropTch g c 3 else s1

/-- ENABLE cleared on a tensor channel: it is dropped at once, and TDMA_CH_BYTES and the destination are free values (R279). -/
def State.tensorDisable (s : State) (g c : Nat) : State :=
  if s.flag (TDMA_CH_CTRL.ENABLE g c) then
    let s1 := (s.wr (TDMA_CH_CTRL.ENABLE g c) 0).cutTch g c 0
    (s1.wr (TDMA_CH_BYTES.UNITS g c) s1.free).drew
  else s

/-! Data movement. -/

/-- How an access of a channel ends: its data, or the cause of Table 9.10. -/
abbrev TdmaRes (α : Type) := Except (Nat × State) α

/-- An armed TDMA_INJ.BUS_ERR makes the next response an error (Table 9.9). -/
def State.tdmaInjected (s : State) (g : Nat) : TdmaRes State :=
  if s.flag (TDMA_INJ.BUS_ERR g) then .error (6, s.wr (TDMA_INJ.BUS_ERR g) 0) else .ok s

/-- The cause of a failed port access: the on-chip network's code when the transfer itself arrived uncorrectable, else the
port. -/
def portCause (before after : State) : Nat := if before.flag ERR_INJ.LINK_UE && !after.flag ERR_INJ.LINK_UE then 5 else 2

/-- Read bytes at a channel address (R262). -/
def State.tdmaRead (s : State) (g space : Nat) (a : Int) (len : Nat) : TdmaRes (State × List Byte) := do
  let s1 ← s.tdmaInjected g
  if space = 0 then
    let r := s1.lsramRead g a.toNat len
    if r.2.1 then .ok (r.1, r.2.2) else .error (7, r.1)
  else if space = 1 then
    let r := s1.wayRead (a.toNat / 2 ^ 22 % 16) (a.toNat % 2 ^ 22) len
    if r.2.1 then .ok (r.1, r.2.2) else .error (3, r.1)
  else
    match s1.partOf g with
    | none => .error (2, s1)
    | some p =>
      let r := s1.partRead .engine p a.toNat len
      if r.2.1 = .ok then .ok (r.1, r.2.2) else .error (if r.2.1 = .refused then 2 else portCause s1 r.1, r.1)

/-- The fabric packets of a run of bytes: at most 1,024 bytes, never across a 1,024-byte boundary of the address (R325). -/
def cutPackets : Nat → Nat → List Byte → List (Nat × List Byte)
  | 0, _, _ => []
  | fuel + 1, a, d =>
    if d.isEmpty then []
    else
      let k := min d.length (1024 - a % 1024)
      (a, d.take k) :: cutPackets fuel (a + k) (d.drop k)

/-- WRITE packets join the egress (R325). -/
def State.queueWrites (s : State) (g c p peer addr : Nat) (data : List Byte) : State :=
  { s with fab := { s.fab with sendQ := s.fab.sendQ ++ (cutPackets data.length addr data).map (fun x =>
      { pkt := { typ := 0x10, dst := peer, addr := x.1, bytes := x.2.length, data := x.2, plain := true }, part := p, owner := .chan (4 * g + c), plane := c % 2 }) } }

/-- Write bytes at a channel address (R262). -/
def State.tdmaWrite (s : State) (g c space : Nat) (a : Int) (data : List Byte) : TdmaRes State := do
  let s1 ← s.tdmaInjected g
  let count (st : State) : State := st.bump (TDMA_CH_BYTES.UNITS g c) (unitsOf a.toNat data.length).length
  if space = 0 then
    let r := s1.lsramWrite g a.toNat data
    if r.2 then .ok (count r.1) else .error (7, r.1)
  else if space = 1 then
    let r := s1.wayWrite (a.toNat / 2 ^ 22 % 16) (a.toNat % 2 ^ 22) data
    if r.2 then .ok (count r.1) else .error (3, r.1)
  else
    match s1.partOf g with
    | none => .error (2, s1)
    | some p =>
      if space = 3 then .ok (count (s1.queueWrites g c p (a.toNat / 2 ^ 40 % 128) (a.toNat % 2 ^ 40) data))
      else
        let r := s1.partWrite .engine p a.toNat data
        if r.2 = .ok then .ok (count r.1) else .error (if r.2 = .refused then 2 else portCause s1 r.1, r.1)

/-- Destination lines between pulse points, and the pulse points of a descriptor (Table 9.2, EVT_LEVEL). -/
def pulseLines (w : List Nat) : Nat :=
  let d := tdmaDst w
  let lv := dfld w 0 14 2
  if lv = 0 then d.lines else if lv = 1 then 1 else if lv = 2 then d.n1 else d.n1 * d.n2
def pulsePoints (w : List Nat) : Nat := (tdmaDst w).lines / max 1 (pulseLines w)

/-- Move `[x, x + len)` of the stream. A failure keeps what was written before it and names cause and address. -/
def State.tdmaMove (s : State) (g c : Nat) (w : List Nat) (x len : Nat) : Except (Nat × Nat × State) State := do
  let src := tdmaSrc w
  let dst := tdmaDst w
  let (s1, data) ← (src.pieces x len).foldlM (fun (acc : State × List Byte) p =>
    match acc.1.tdmaRead g src.space p.1 p.2 with
    | .ok (st, b) => .ok (st, acc.2 ++ b)
    | .error (cause, st) => .error (cause, p.1.toNat, st)) (s, [])
  let (s2, _) ← (dst.pieces x len).foldlM (fun (acc : State × List Byte) p =>
    match acc.1.tdmaWrite g c dst.space p.1 (acc.2.take p.2) with
    | .ok st => .ok (st, acc.2.drop p.2)
    | .error (cause, st) => .error (cause, p.1.toNat, st)) (s1, data)
  .ok s2

/-- The channel has come to the end of its descriptor: the next of the chain, FENCED, or IDLE (R265, R278). -/
def State.tdmaDone (s : State) (g c : Nat) (w : List Nat) : State :=
  if s.flag (TDMA_CH_CTRL.FENCE g c) then s.dropTch g c 3
  else if dfld w 0 16 1 = 1 then
    ((s.tdmaBoundary g c).setTch g c { next := dfld w 4 0 24 }).wr (TDMA_CH_STAT.DESC g c) (bits (dfld w 4 0 24) 7 17)
  else s.dropTch g c 1

/-- A kick: the channel is ACTIVE at the descriptor given (R265). -/
def State.tdmaStart (s : State) (g c addr : Nat) : State :=
  ((s.setTch g c { next := addr }).wr (TDMA_CH_STAT.STATE g c) 2).wr (TDMA_CH_STAT.DESC g c) (bits addr 7 17)

/-- An event counter of a Lathe gains an amount, saturating (R92). -/
def State.evtAdd (s : State) (n c k : Nat) : State := s.bump (LTH_EVT_CNT.COUNT n c) k

/-- A tensor DMA pulse arrives at its counter, unless LTH_INJ.EVT_DROP discards it (R92, Table 3.12). -/
def State.pulse (s : State) (n c : Nat) : State :=
  if s.flag (LTH_INJ.EVT_DROP n) then s.wr (LTH_INJ.EVT_DROP n) 0 else s.evtAdd n c 1

/-- The channel still has packets that no peer has completed (R267, R328). -/
def State.chanOutstanding (s : State) (g c : Nat) : Bool :=
  s.fab.sendQ.any (fun x => x.owner = .chan (4 * g + c)) || s.fab.outst.any (fun x => x.owner = .chan (4 * g + c))

end Sys2Proof.Machine
end

