-- ==== Sys2Proof/Machine/Arb.lean ====
section
/-! DEFINITION. The arbiters of the shared points: masks, limiters, decisions, commits, bounds (R277, R283 to R288). -/

namespace Sys2Proof.Machine
open Reg

def State.arbOf (s : State) (i : Nat) : ArbSt := Cells.get {} s.arb i
def State.setArb (s : State) (i : Nat) (x : ArbSt) : State := { s with arb := Cells.set {} s.arb i x }

/-- The requester numbers of instance i (Table 9.6): those of a memory port run to 31. -/
def arbNums (i : Nat) : Nat := if i < 16 then 32 else arbReqs i

/-- Lathe n is in RESET or OFFLINE. -/
def State.latheOut (s : State) (n : Nat) : Bool := s.rd (LTH_SEQ_STAT.STATE n) = 0 || s.rd (LTH_SEQ_STAT.STATE n) = 8

/-- A fabric plane carries no flits: it is down or retrains. -/
def State.planeOut (s : State) (pl : Nat) : Bool := s.rd (FAB_PLANE.STATE pl) < 3

/-- Requester r of instance i is masked (R287). -/
def State.arbMasked (s : State) (i r : Nat) : Bool :=
  let lathe (n : Nat) (r0 : Nat) : Bool :=
    -- tensor DMA channels from r0 on, then the streamer
    s.latheOut n || (r0 ≤ r && r < r0 + 4 && s.rd (TDMA_CH_STAT.STATE n (r - r0)) = 0)
  if i < 16 then
    if r < 5 then lathe i 0
    else if r = 10 ∨ r = 11 then s.planeOut 0 && s.planeOut 1
    else if r = 12 then (match s.partOf i with | some p => s.rd (KEY_PSTAT.STATE p) ≠ 1 | none => true)
    else if 16 ≤ r then s.latheOut (r - 16)
    else false
  else if i < 32 then
    if r < 16 then s.latheOut r else if r = 17 then s.planeOut 0 && s.planeOut 1 else false
  else if i < 48 then
    if r < 6 then lathe (i - 32) 1 else false
  else if i < 50 then s.planeOut (i - 48) || (r < 16 && s.latheOut r)
  else if i < 51 then s.rd (HDMA_CH_STAT.STATE r) = 0 || s.rd (HDMA_CH_STAT.STATE r) = 6
  else false

/-- The RATE of a requester in effect: a port's sweep has the SWEEP_SHARE of the port's partition (R283). -/
def State.arbRate (s : State) (i r : Nat) : Nat :=
  if i < 16 ∧ r = 12 then (match s.partOf i with | some p => s.inEff (KEY_PCFG.SWEEP_SHARE p) | none => s.inEff (ARB_REQ.RATE i r))
  else s.inEff (ARB_REQ.RATE i r)

/-- Requesters 14, 15 and 16 + n of memory port n never request (R283). -/
def neverRequests (i r : Nat) : Bool := i < 16 && (r = 14 || r = 15 || r = 16 + i)

/-- The first of a list of requesters after a place, round robin. -/
def roundRobin (last : Nat) (l : List Nat) : Option Nat :=
  match l.find? (fun r => last < r) with
  | some r => some r
  | none => l.head?

/-- The arbitration bound B_r (R286). -/
def State.arbBound (s : State) (i r : Nat) : Nat := 2 + s.inEff (ARB_REQ.LIMIT i r) + arbReqs i - 1

/-- A commit that waits takes effect (R288). -/
def State.arbApply (s : State) (i : Nat) : State :=
  match (s.arbOf i).staged with
  | none => s
  | some l =>
    (l.zip (List.range l.length)).foldl (fun st x =>
      (((st.wrEff (ARB_REQ.CLASS i x.2) x.1.1).wrEff (ARB_REQ.LIMIT i x.2) x.1.2.1).wrEff (ARB_REQ.RATE i x.2) x.1.2.2.1).wrEff (ARB_REQ.BURST i x.2) x.1.2.2.2)
      (s.setArb i { s.arbOf i with staged := none })

/-- A cycle of the limiters: each credit gains RATE × q up to 1,024 × BURST (R277). -/
def State.arbCredit (s : State) (i r : Nat) : Nat :=
  let cap := 1024 * s.inEff (ARB_REQ.BURST i r)
  let q := if i < 16 then 15 else 16
  match Cells.get none (s.arbOf i).credit r with
  | none => cap
  | some c => min cap (c + s.arbRate i r * q)

/-- ARB_DECISION: instance i decides the owner of a slot; `slots` gives, for each requester, how many slots of its present request are still
to be done, 0 for none (R284, R285). -/
def execArbDecision (i : Fin 52) (slots : List Nat) (s : State) : Next :=
  let s0 := s.arbApply i
  let x := s0.arbOf i
  let rs := List.range (arbNums i)
  let masked := rs.filter (fun r => s0.arbMasked i r)
  let credits := rs.map (fun r => s0.arbCredit i r)
  let pend := rs.filter (fun r => 0 < slots.getD r 0 && !neverRequests i r && !masked.contains r && (s0.arbRate i r = 0 || 1024 ≤ credits.getD r 0))
  let forced := pend.filter (fun r => s0.inEff (ARB_REQ.LIMIT i r) ≤ Cells.get 0 x.wait r)
  let cls (r : Nat) : Nat := s0.inEff (ARB_REQ.CLASS i r)
  let owner : Option Nat :=
    if s0.flag (ARB_STAT.OWNED i) ∧ 0 < x.left ∧ pend.contains (s0.rd (ARB_STAT.OWNER i)) then some (s0.rd (ARB_STAT.OWNER i)) else none
  let kept : Bool := match owner with | some o => forced.isEmpty && pend.all (fun r => cls o ≤ cls r) | none => false
  let low := pend.foldl (fun m r => min m (cls r)) 3
  let winner : Option Nat :=
    if kept then owner
    else if !forced.isEmpty then roundRobin x.lastForced forced
    else roundRobin (x.lastWin.getD low 31) (pend.filter (fun r => cls r = low))
  let preempted : Option Nat := if kept then none else match owner with | some o => if winner = some o then none else some o | none => none
  let wait1 := rs.foldl (fun (m : Cells Nat) r =>
    Cells.set 0 m r (if masked.contains r ∨ winner = some r ∨ preempted = some r then 0
      else if pend.contains r then min 1023 (Cells.get 0 x.wait r + 1) else Cells.get 0 x.wait r)) x.wait
  let credit1 := rs.foldl (fun (m : Cells (Option Nat)) r =>
    let c := credits.getD r 0 - (if winner = some r ∧ s0.arbRate i r ≠ 0 then 1024 else 0)
    Cells.set none m r (if s0.arbRate i r = 0 ∨ c = 1024 * s0.inEff (ARB_REQ.BURST i r) then none else some c)) x.credit
  let prog0 := masked.foldl (fun (m : Cells Nat) r => Cells.set 0 m r 0) x.progress
  let pendWord := pend.foldl (fun w r => w + 2 ^ r) 0
  let s1 := s0.wr (ARB_PEND.REQ i) pendWord
  match winner with
  | none => .next ((s1.wr (ARB_STAT.OWNED i) 0).setArb i { x with wait := wait1, credit := credit1, progress := prog0, left := 0 })
  | some w =>
    let prog1 := Cells.set 0 prog0 w (if slots.getD w 0 = 1 then 0 else Cells.get 0 prog0 w + 1)
    let left := if kept then x.left - 1 else min (s0.inEff (ARB_REQ.BURST i w)) (slots.getD w 0) - 1
    let byForce := !kept && !forced.isEmpty
    let y : ArbSt := { x with wait := wait1, credit := credit1, progress := prog1, left := left,
                              lastForced := if byForce then w else x.lastForced, lastWin := x.lastWin.set (cls w) w }
    let s2 := ((s1.wr (ARB_STAT.OWNED i) 1).wr (ARB_STAT.OWNER i) w).setArb i y
    let s3 := if byForce then s2.bump (ARB_EVENTS.FORCED i) 1 else s2
    .next (if preempted.isSome then s3.bump (ARB_EVENTS.PREEMPTS i) 1 else s3)

/-- The rules of Table 9.8. -/
def State.arbRules (s : State) (i : Nat) : List Bool :=
  let rs := List.range (arbNums i)
  [rs.all (fun r => 1 ≤ s.rd (ARB_REQ.LIMIT i r)), rs.all (fun r => 1 ≤ s.rd (ARB_REQ.BURST i r))]

/-- ARB_COMMIT: the shadows are checked, and as they stand now they take effect at the next decision (R288). -/
def execArbCommit (i : Fin 52) (s : State) : Next :=
  match failingRule (s.arbRules i) with
  | some r => .next ((s.raise (ARB_STAT.CFG_MISMATCH i)).wr (ARB_STAT.CFG_RULE i) r)
  | none =>
    .next (s.setArb i { s.arbOf i with staged := some ((List.range (arbNums i)).map (fun r =>
      (s.rd (ARB_REQ.CLASS i r), s.rd (ARB_REQ.LIMIT i r), s.rd (ARB_REQ.RATE i r), s.rd (ARB_REQ.BURST i r)))) })

end Sys2Proof.Machine
end

