-- ==== Sys2Proof/Machine/Arith.lean ====
section
/-! DEFINITION. Number formats, rounding and the arithmetic of the Spindles and the vector unit (R38 to R68). A number is
held exactly; every operation forms its exact result and rounds once. -/

namespace Sys2Proof.Machine

/-- The element formats of Table 2.1. -/
inductive Fmt where
  | fp32 | bf16 | e4m3 | e5m2 | e3m2 | e2m3 | e2m1 | mxint8 | int8 | int4
deriving DecidableEq, Repr

/-- Table 2.1; reserved codes name no format. -/
def Fmt.ofCode : Nat → Option Fmt
  | 0 => some .fp32 | 1 => some .bf16 | 2 => some .e4m3 | 3 => some .e5m2 | 4 => some .e3m2
  | 5 => some .e2m3 | 6 => some .e2m1 | 7 => some .mxint8 | 8 => some .int8 | 9 => some .int4 | _ => none

/-- Element bits (Table 2.1). -/
def Fmt.bits : Fmt → Nat
  | .fp32 => 32 | .bf16 => 16 | .e4m3 => 8 | .e5m2 => 8 | .e3m2 => 6 | .e2m3 => 6 | .e2m1 => 4 | .mxint8 => 8 | .int8 => 8 | .int4 => 4

/-- The format has an E8M0 scale per 32 elements. -/
def Fmt.isMx : Fmt → Bool
  | .e4m3 => true | .e5m2 => true | .e3m2 => true | .e2m3 => true | .e2m1 => true | .mxint8 => true
  | .fp32 => false | .bf16 => false | .int8 => false | .int4 => false

/-- The format has an FP32 scale per channel. -/
def Fmt.isInt : Fmt → Bool
  | .int8 => true | .int4 => true
  | .fp32 => false | .bf16 => false | .e4m3 => false | .e5m2 => false | .e3m2 => false | .e2m3 => false | .e2m1 => false | .mxint8 => false

/-- Mantissa bits and bias of a floating-point format (Table 2.2). -/
def Fmt.layout : Fmt → Nat × Nat
  | .fp32 => (23, 127) | .bf16 => (7, 127) | .e4m3 => (3, 7) | .e5m2 => (2, 15) | .e3m2 => (2, 3)
  | .e2m3 => (3, 1) | .e2m1 => (1, 1) | .mxint8 => (0, 0) | .int8 => (0, 0) | .int4 => (0, 0)

/-- The code of the largest finite magnitude (Tables 2.2, 2.3). -/
def Fmt.maxCode : Fmt → Nat
  | .fp32 => 0x7F7FFFFF | .bf16 => 0x7F7F | .e4m3 => 0x7E | .e5m2 => 0x7B | .e3m2 => 0x1F
  | .e2m3 => 0x1F | .e2m1 => 0x7 | .mxint8 => 127 | .int8 => 127 | .int4 => 7

/-- emax of R57 step 3. -/
def Fmt.emax : Fmt → Nat
  | .e4m3 => 8 | .e5m2 => 15 | .e3m2 => 4 | .e2m3 => 2 | .e2m1 => 2 | .mxint8 => 0
  | .fp32 => 0 | .bf16 => 0 | .int8 => 0 | .int4 => 0

/-- The bytes of a block of 32 elements (R44). -/
def Fmt.blockBytes (f : Fmt) : Nat := f.bits * 4

/-- A number: NaN, an infinity, or ±m × 2^e, with the sign of a zero kept (R42). -/
inductive Val where
  | nan
  | inf (neg : Bool)
  | num (neg : Bool) (m : Nat) (e : Int)
deriving DecidableEq, Repr

def Val.zero : Val := .num false 0 0
def Val.isNan : Val → Bool | .nan => true | .inf _ => false | .num _ _ _ => false
def Val.isInf : Val → Bool | .inf _ => true | .nan => false | .num _ _ _ => false
def Val.isZero : Val → Bool | .num _ m _ => m = 0 | .nan => false | .inf _ => false
def Val.isNeg : Val → Bool | .num n _ _ => n | .inf n => n | .nan => false
def Val.finite : Val → Bool | .num _ _ _ => true | .nan => false | .inf _ => false
def Val.neg : Val → Val | .num n m e => .num (!n) m e | .inf n => .inf (!n) | .nan => .nan

/-- The value of a floating-point code (R40, Table 2.3). -/
def floatVal (f : Fmt) (code : Nat) : Val :=
  let (mb, bias) := f.layout
  let eb := f.bits - 1 - mb
  let neg := bit code (f.bits - 1)
  let e := bits code mb eb
  let m := code % 2 ^ mb
  let top := 2 ^ eb - 1
  if (f = .fp32 ∨ f = .bf16 ∨ f = .e5m2) ∧ e = top then (if m = 0 then .inf neg else .nan)
  else if f = .e4m3 ∧ e = top ∧ m = 7 then .nan
  else if e = 0 then .num neg m (1 - (bias : Int) - mb)
  else .num neg (2 ^ mb + m) ((e : Int) - bias - mb)

/-- The value of an element code without its scale (R40, R41, R46). -/
def elemVal (f : Fmt) (code : Nat) : Val :=
  if f = .mxint8 then let c := sgn 8 code; .num (c < 0) c.natAbs (-6)
  else if f = .int8 then let c := sgn 8 code; .num (c < 0) c.natAbs 0
  else if f = .int4 then let c := sgn 4 code; .num (c < 0) c.natAbs 0
  else floatVal f code

/-- 2^k times a value, exactly. -/
def Val.scale (v : Val) (k : Int) : Val :=
  match v with
  | .num n m e => .num n m (e + k)
  | .inf n => .inf n
  | .nan => .nan

/-- A value with its E8M0 scale code (R43). -/
def scaleE8 (v : Val) (x : Nat) : Val := if x = 255 then .nan else v.scale ((x : Int) - 127)

/-- The exact product, by IEEE 754 for special values (R51). -/
def mulV (a b : Val) : Val :=
  match a, b with
  | .nan, _ => .nan
  | _, .nan => .nan
  | .inf n, .inf k => .inf (n != k)
  | .inf n, .num k m _ => if m = 0 then .nan else .inf (n != k)
  | .num k m _, .inf n => if m = 0 then .nan else .inf (n != k)
  | .num n m e, .num k p g => .num (n != k) (m * p) (e + g)

/-- The signed mantissa of a finite value at exponent `q`, which is at most the value's own. -/
def mantAt (v : Val) (q : Int) : Int :=
  match v with
  | .num n m e => let a : Int := (m * 2 ^ (e - q).toNat : Nat); if n then -a else a
  | .inf _ => 0
  | .nan => 0

/-- The exponent of a finite value. -/
def Val.expo : Val → Int | .num _ m e => if m = 0 then 0 else e | .inf _ => 0 | .nan => 0

/-- The least exponent of the nonzero finite terms. -/
def minExpo : List Val → Option Int
  | [] => none
  | v :: t =>
    match v with
    | .num _ m e => if m = 0 then minExpo t else some (match minExpo t with | none => e | some q => min e q)
    | .inf _ => minExpo t
    | .nan => minExpo t

/-- The exact sum: NaN for a NaN or for infinities of opposite sign; a zero sum is −0 only when every term is −0 (R42, R51). -/
def sumV (l : List Val) : Val :=
  if l.any Val.isNan then .nan
  else if l.any (fun v => v == .inf true) then (if l.any (fun v => v == .inf false) then .nan else .inf true)
  else if l.any (fun v => v == .inf false) then .inf false
  else
    match minExpo l with
    | none => .num (!l.isEmpty && l.all Val.isNeg) 0 0
    | some q =>
      let s := l.foldl (fun acc v => if v.isZero then acc else acc + mantAt v q) (0 : Int)
      if s = 0 then .num false 0 0 else .num (s < 0) s.natAbs q

/-- How a conversion rounds: to nearest even (R59), or stochastically with the element's 16-bit random number (R61). -/
inductive Rnd where
  | rne
  | sr (r : Nat)
deriving DecidableEq, Repr

/-- m × 2^e rounded to a whole number of 2^q (R59, R61). -/
def roundUnits (md : Rnd) (m : Nat) (e q : Int) : Nat :=
  if q ≤ e then m * 2 ^ (e - q).toNat
  else
    let d := 2 ^ (q - e).toNat
    let lo := m / d
    let rem := m % d
    match md with
    | .rne => if 2 * rem > d then lo + 1 else if 2 * rem = d then (if lo % 2 = 1 then lo + 1 else lo) else lo
    | .sr r => if rem = 0 then lo else if 2 ^ 16 ≤ rem * 2 ^ 16 / d + r then lo + 1 else lo

/-- The magnitude code of m × 2^e on the grid of a floating-point format, as if the grid went on above its largest finite
value. -/
def magCode (f : Fmt) (md : Rnd) (m : Nat) (e : Int) : Nat :=
  if m = 0 then 0
  else
    let (mb, bias) := f.layout
    let qmin : Int := 1 - (bias : Int) - mb
    let q : Int := max qmin (e + (Nat.log2 m : Int) - mb)
    (q - qmin).toNat * 2 ^ mb + roundUnits md m e q

/-- a < b on values that are not NaN; −0 lies below +0 (R64). -/
def valLt (a b : Val) : Bool :=
  match a, b with
  | .nan, _ => false
  | _, .nan => false
  | .inf n, .inf k => n && !k
  | .inf n, .num _ _ _ => n
  | .num _ _ _, .inf k => !k
  | .num n m e, .num k p g =>
    if m = 0 ∧ p = 0 then n && !k
    else
      let q := min e g
      mantAt (.num n m e) q < mantAt (.num k p g) q

/-- Exception flags (Tables 2.9, 2.10). -/
structure Exc where
  nanIn : Bool := false
  invalid : Bool := false
  ovf : Bool := false
  sat : Bool := false
  clamp : Bool := false
deriving DecidableEq, Repr

def Exc.or (a b : Exc) : Exc :=
  ⟨a.nanIn || b.nanIn, a.invalid || b.invalid, a.ovf || b.ovf, a.sat || b.sat, a.clamp || b.clamp⟩

/-- The canonical FP32 NaN (Table 2.6). -/
def nan32 : Nat := 0x7FC00000

/-- Conversion to FP32 or BF16 (R56): code and flags. -/
def toFloat (f : Fmt) (md : Rnd) (v : Val) : Nat × Exc :=
  let sb := 2 ^ (f.bits - 1)
  let inf := f.maxCode + 1
  match v with
  | .nan => (inf + 2 ^ (f.layout.1 - 1), { nanIn := true })
  | .inf n => (if n then sb + inf else inf, {})
  | .num n m e =>
    let s := if n then sb else 0
    match md with
    | .rne =>
      let c := magCode f .rne m e
      if f.maxCode < c then (s + inf, { ovf := true }) else (s + c, {})
    | .sr r =>
      let c := magCode f (.sr r) m e
      if f.maxCode < c ∨ valLt (floatVal f f.maxCode) (.num false m e) then (s + f.maxCode, { sat := true }) else (s + c, {})

/-- An FP32 code's value. -/
def f32 (c : Nat) : Val := floatVal .fp32 c

/-- One rounding to nearest even into FP32, without flags (R59). -/
def rne32 (v : Val) : Nat := (toFloat .fp32 .rne v).1

/-- The flags of an operation whose operands are `xs` and whose FP32 result is `r` (Table 2.10). -/
def opExc (xs : List Val) (r : Nat) : Exc :=
  { nanIn := xs.any Val.isNan
    invalid := (f32 r).isNan && !xs.any Val.isNan
    ovf := (f32 r).isInf && xs.all Val.finite }

/-- Addition, subtraction, multiplication and fused multiply-add of FP32 codes, each rounded once (R64). -/
def fadd (a b : Nat) : Nat := rne32 (sumV [f32 a, f32 b])
def fsub (a b : Nat) : Nat := rne32 (sumV [f32 a, (f32 b).neg])
def fmul (a b : Nat) : Nat := rne32 (mulV (f32 a) (f32 b))
def ffma (a b c : Nat) : Nat := rne32 (sumV [mulV (f32 a) (f32 b), f32 c])

/-- Maximum and minimum: NaN if either is (R64). -/
def fmax (a b : Nat) : Nat :=
  if (f32 a).isNan ∨ (f32 b).isNan then nan32 else if valLt (f32 a) (f32 b) then b else a
def fmin (a b : Nat) : Nat :=
  if (f32 a).isNan ∨ (f32 b).isNan then nan32 else if valLt (f32 b) (f32 a) then b else a

/-! Special functions (R66, R67). A result that is not one of the exact cases is the FP32 value at or below the exact one,
moved by a number of ulps that the implementation fixes (`Config.ulpOff`) and that keeps it within the bound of Table 2.7. -/

/-- The integer square root, by bits from `k` down. -/
def isqrt (n : Nat) : Nat → Nat → Nat
  | 0, acc => acc
  | k + 1, acc => let t := acc + 2 ^ k; isqrt n k (if t * t ≤ n then t else acc)

/-- The floor of the square root of a number below 2^(2k). -/
def sqrtFloor (k n : Nat) : Nat := isqrt n k 0

/-- A magnitude code moved by an offset chosen from `lo..hi` by the implementation, for the function and operand. -/
def ulpMove (fn x c lo hi : Nat) : Nat := c + Config.ulpOff fn x % (lo + hi + 1) - lo

/-- num / 2^k truncated to an FP32 magnitude code. -/
def truncCode (num : Nat) (k : Int) : Nat :=
  if num = 0 then 0
  else
    let q : Int := max (-149) ((Nat.log2 num : Int) - k - 23)
    let units := if (q + k) ≤ 0 then num * 2 ^ (-(q + k)).toNat else num / 2 ^ (q + k).toNat
    (q + 149).toNat * 2 ^ 23 + units

/-- Reciprocal (Table 2.7): exact for powers of two, else one of the two FP32 values around the exact one. -/
def frecip (x : Nat) : Nat × Exc :=
  match f32 x with
  | .nan => (nan32, { nanIn := true })
  | .inf n => (if n then 0x80000000 else 0, {})
  | .num n m e =>
    let s := if n then 0x80000000 else 0
    if m = 0 then (s + 0x7F800000, {})
    else if m = 2 ^ Nat.log2 m then
      let r := toFloat .fp32 .rne (.num n 1 (-(e + Nat.log2 m)))
      (r.1, r.2)
    else
      -- 1 / (m × 2^e) = (2^400 / m) / 2^(400 + e)
      let c := ulpMove 0 x (truncCode (2 ^ 400 / m) (400 + e)) 0 1
      if 0x7F800000 ≤ c then (s + 0x7F800000, { ovf := true }) else (s + c, {})

/-- Reciprocal square root (Table 2.7). -/
def frsqrt (x : Nat) : Nat × Exc :=
  match f32 x with
  | .nan => (nan32, { nanIn := true })
  | .inf n => if n then (nan32, { invalid := true }) else (0, {})
  | .num n m e =>
    if m = 0 then (if n then 0xFF800000 else 0x7F800000, {})
    else if n then (nan32, { invalid := true })
    else
      let l := (Nat.log2 m : Int)
      if m = 2 ^ Nat.log2 m ∧ (e + l) % 2 = 0 then (rne32 (.num false 1 (-((e + l) / 2))), {})
      else
        -- 1 / √(m × 2^e): with e = 2h + b, it is √(2^400 / (m × 2^b)) / 2^(200 + h)
        let h := e / 2
        let b := (e % 2).toNat
        (ulpMove 1 x (truncCode (sqrtFloor 202 (2 ^ 400 / (m * 2 ^ b))) (200 + h)) 0 1, {})

/-- 2^(1/2^k) × 2^96, rounded down, by repeated square roots. -/
def rootTwo : Nat → Nat
  | 0 => 2 * 2 ^ 96
  | k + 1 => sqrtFloor 98 (rootTwo k * 2 ^ 96)

/-- 2^(f / 2^n) × 2^96, rounded down, for an n-bit fraction f: the product of the roots its bits name. -/
def exp2Frac (n f : Nat) : Nat :=
  (List.range n).foldl (fun acc i => if bit f (n - 1 - i) then acc * rootTwo (i + 1) / 2 ^ 96 else acc) (2 ^ 96)

/-- exp2 (Table 2.7). -/
def fexp2 (x : Nat) : Nat × Exc :=
  match f32 x with
  | .nan => (nan32, { nanIn := true })
  | .inf n => if n then (0, {}) else (0x7F800000, {})
  | .num n m e =>
    -- the integer and 64-bit fractional part of x, rounded down
    let t : Int := mantAt (.num n m e) (min e (-64)) / ((2 : Int) ^ (-64 - min e (-64)).toNat)
    let i := t / (2 : Int) ^ 64
    let f := (t % (2 : Int) ^ 64).toNat
    if 128 ≤ i then (0x7F800000, { ovf := true })
    else if i < -149 then (0, {})
    else if 0 ≤ e ∨ m % 2 ^ (-e).toNat = 0 then (rne32 (.num false 1 i), {})
    else
      let c := ulpMove 2 x (truncCode (exp2Frac 64 f) (96 - i)) 1 2
      if 0x7F800000 ≤ c then (0x7F800000, { ovf := true }) else (c, {})

/-- The real number log₂e times 2^256, rounded down. -/
def log2e : Nat := 167052672916848388242985626561247531987276682633131050150846402744536260568207

/-- exp(x) = exp2 of RNE(x × log₂e), the product exact (Table 2.7). -/
def fexp (x : Nat) : Nat × Exc :=
  let v := f32 x
  let p := rne32 (mulV v (.num false log2e (-256)))
  let r := fexp2 p
  (r.1, { nanIn := v.isNan, ovf := (f32 r.1).isInf && v.finite })

/-- The next `k` bits of log₂ of y / 2^160, y in [2^160, 2^161), by squaring. -/
def log2Bits : Nat → Nat → Nat → Nat
  | 0, _, acc => acc
  | k + 1, y, acc =>
    let z := y * y / 2 ^ 160
    if 2 ^ 161 ≤ z then log2Bits k (z / 2) (2 * acc + 1) else log2Bits k z (2 * acc)

/-- log2 (Table 2.7). -/
def flog2 (x : Nat) : Nat × Exc :=
  match f32 x with
  | .nan => (nan32, { nanIn := true })
  | .inf n => if n then (nan32, { invalid := true }) else (0x7F800000, {})
  | .num n m e =>
    if m = 0 then (0xFF800000, {})
    else if n then (nan32, { invalid := true })
    else
      let l := Nat.log2 m
      let i : Int := e + l
      if m = 2 ^ l then (rne32 (.num (i < 0) i.natAbs 0), {})
      else
        let fr := log2Bits 90 (m * 2 ^ (160 - l)) 0
        let t : Int := i * 2 ^ 90 + fr
        let s := if t < 0 then 0x80000000 else 0
        (s + ulpMove 3 x (truncCode t.natAbs 90) 1 2, {})

/-- Coefficient c of segment s of SiLU (fn 0) or GELU (fn 1): the read-only table of R67. -/
def polyCoef (fn s c : Nat) : Nat := Config.polyCoef (fn * 512 + s * 4 + c) % 2 ^ 32

/-- SiLU (fn 0, half-range 16, 4 segments a unit) and GELU (fn 1, 8, 8): piecewise cubics (R67, Table 2.7). -/
def fpoly (fn : Nat) (x : Nat) : Nat × Exc :=
  let half : Int := if fn = 0 then 16 else 8
  let den := if fn = 0 then 4 else 8
  match f32 x with
  | .nan => (nan32, { nanIn := true })
  | .inf n => if n then (0x80000000, {}) else (0x7F800000, {})
  | .num n m e =>
    if !valLt (.num n m e) (.num false half.toNat 0) then (x, {})
    else if valLt (.num n m e) (.num true half.toNat 0) then (0x80000000, {})
    else
      let d := sumV [.num n m e, .num false half.toNat 0]
      let s := match d with
        | .num _ dm de => if 0 ≤ de then dm * den * 2 ^ de.toNat else dm * den / 2 ^ (-de).toNat
        | .inf _ => 0
        | .nan => 0
      -- t = RNE(x − x_s), x_s = −half + s / den
      let t := rne32 (sumV [.num n m e, .num false half.toNat 0, .num true s (if fn = 0 then -2 else -3)])
      let y := ffma (ffma (ffma (polyCoef fn s 3) t (polyCoef fn s 2)) t (polyCoef fn s 1)) t (polyCoef fn s 0)
      (y, opExc [.num n m e] y)

/-! Reductions and element conversions. -/

/-- One level of the pairwise tree: neighbours combined, a lane without a sibling passed up (R65, R52). -/
def pairUp (f : Nat → Nat → Nat) : List (Option Nat) → List (Option Nat)
  | a :: b :: t =>
    (match a, b with
     | some x, some y => some (f x y)
     | some x, none => some x
     | none, some y => some y
     | none, none => none) :: pairUp f t
  | l => l

/-- The pairwise tree over `k` levels (R52, R65). -/
def treeFold (f : Nat → Nat → Nat) : Nat → List (Option Nat) → Option Nat
  | 0, l => l.headD none
  | k + 1, l => treeFold f k (pairUp f l)

/-- A vector-unit reduction: element i to lane i mod 512, each lane in ascending i, then the tree over 9 levels (R65).
`first` makes a lane's value of its first element, `next` adds a further one. -/
def vreduce (first : Nat → Nat) (next comb : Nat → Nat → Nat) (xs : List Nat) : Option Nat :=
  let lanes := (List.range 512).map (fun l =>
    (((List.range xs.length).filter (fun i => i % 512 = l)).foldl (fun acc i =>
      let x := xs.getD i 0
      match acc with
      | none => some (first x)
      | some a => some (next a x)) (none : Option Nat)))
  treeFold comb 9 lanes

/-- The 16-bit random number of an element (R62). -/
def srRandom (seed index : Nat) : Nat :=
  let w (n : Nat) : Nat := n % 2 ^ 32
  let z0 := (w seed) ^^^ w (index * 0x9e3779b9)
  let z1 := w ((z0 ^^^ (z0 >>> 16)) * 0x85ebca6b)
  let z2 := w ((z1 ^^^ (z1 >>> 13)) * 0xc2b2ae35)
  (z2 ^^^ (z2 >>> 16)) % 2 ^ 16

/-- A value rounded to an integer, magnitude limited to `mx`: code of `w` bits and flags (R41, R58). -/
def toIntCode (md : Rnd) (w mx : Nat) (v : Val) : Nat × Exc :=
  match v with
  | .nan => (0, { invalid := true })
  | .inf n => (if n then 2 ^ w - mx else mx, { sat := true })
  | .num n m e =>
    let k := roundUnits md m e 0
    let c := min k mx
    (if n ∧ c ≠ 0 then 2 ^ w - c else c, { sat := mx < k })

/-- Conversion to INT8 or INT4 with a multiplier (R58). -/
def toInt (f : Fmt) (md : Rnd) (q x : Val) : Nat × Exc :=
  if f = .int8 then toIntCode md 8 127 (mulV x q) else toIntCode md 4 7 (mulV x q)

/-- One element of an MX block: x × 2^(−X) rounded into the element format, saturating (R57 step 5). -/
def toMxElem (f : Fmt) (md : Rnd) (bigX : Int) (v : Val) : Nat × Exc :=
  match v with
  | .num n m e =>
    if f = .mxint8 then toIntCode md 8 127 (.num n m (e - bigX + 6))
    else
      let s := if n then 2 ^ (f.bits - 1) else 0
      let c := magCode f md m (e - bigX)
      if f.maxCode < c then (s + f.maxCode, { sat := true }) else (s + c, {})
  | .inf _ => (0, {})
  | .nan => (0, {})

/-- The larger magnitude of two finite values. -/
def maxMag (a b : Val) : Val :=
  match a, b with
  | .num _ m e, .num _ p g => if valLt (.num false m e) (.num false p g) then .num false p g else .num false m e
  | x, _ => x

/-- Conversion of a block of 32 values into an MX format (R57): scale code, element codes, flags. `rnds` gives each
element's rounding. -/
def toMxBlock (f : Fmt) (rnds : List Rnd) (xs : List Val) : Nat × List Nat × Exc :=
  if xs.any (fun v => v.isNan || v.isInf) then
    (255, xs.map (fun _ => 0), { nanIn := xs.any Val.isNan, invalid := xs.any Val.isInf })
  else if xs.all Val.isZero then
    (127, xs.map (fun v => if v.isNeg && f ≠ .mxint8 then 2 ^ (f.bits - 1) else 0), {})
  else
    match xs.foldl maxMag Val.zero with
    | .num _ m e =>
      let x0 : Int := e + (Nat.log2 m : Int) - f.emax
      let x : Int := max (-127) (min 127 x0)
      let rs := (xs.zip (List.range xs.length)).map (fun p => toMxElem f (rnds.getD p.2 .rne) x p.1)
      ((x + 127).toNat, rs.map (·.1), rs.foldl (fun acc r => acc.or r.2) { clamp := x ≠ x0 })
    | .inf _ => (255, xs.map (fun _ => 0), {})
    | .nan => (255, xs.map (fun _ => 0), {})

end Sys2Proof.Machine
end

