-- ==== Sys2Proof/Machine/Operands.lean ====
section
/-! DEFINITION. The operator descriptor and its operand forms: fields (Tables 3.4, 3.6), operand addresses (R82, R83), element
and scale places (R43 to R46, R114). -/

namespace Sys2Proof.Machine
open Reg

/-- An operator descriptor as its 32 words (R81). -/
abbrev Desc := List Nat

/-- The words of 128 bytes, little-endian (R81). -/
def wordsOfBytes (n : Nat) (b : List Byte) : List Nat := (List.range n).map (fun i => leVal ((b.drop (4 * i)).take 4))

/-- Word at a byte offset. -/
def Desc.word (d : Desc) (off : Nat) : Nat := List.getD d (off / 4) 0

/-- Bits `[lo + w - 1 : lo]` of the word at a byte offset. -/
def Desc.fld (d : Desc) (off lo w : Nat) : Nat := bits (d.word off) lo w

def Desc.opcode (d : Desc) : Nat := d.fld 0x00 0 8
def Desc.aFmt (d : Desc) : Nat := d.fld 0x00 8 4
def Desc.bFmt (d : Desc) : Nat := d.fld 0x00 12 4
def Desc.outFmt (d : Desc) : Nat := d.fld 0x00 16 4
def Desc.rnd (d : Desc) : Nat := d.fld 0x00 20 2
def Desc.accInit (d : Desc) : Nat := d.fld 0x00 22 2
def Desc.accChain (d : Desc) : Bool := d.fld 0x00 24 1 = 1
def Desc.aScaleTensor (d : Desc) : Bool := d.fld 0x00 25 1 = 1
def Desc.version (d : Desc) : Nat := d.fld 0x00 28 4
def Desc.spdMask (d : Desc) : Nat := d.fld 0x04 0 8
def Desc.kSplit (d : Desc) : Nat := d.fld 0x04 8 2
def Desc.haloMode (d : Desc) : Nat := d.fld 0x04 16 2
def Desc.aBaxis (d : Desc) : Nat := d.fld 0x04 18 2
def Desc.bBaxis (d : Desc) : Nat := d.fld 0x04 20 2
def Desc.outBaxis (d : Desc) : Nat := d.fld 0x04 22 2
/-- Repetitions, 1–65,536. -/
def Desc.reps (d : Desc) : Nat := d.fld 0x08 0 16 + 1
def Desc.aRstep (d : Desc) : Int := sgn 32 (d.word 0x0C)
def Desc.bRstep (d : Desc) : Int := sgn 32 (d.word 0x10)
def Desc.outRstep (d : Desc) : Int := sgn 32 (d.word 0x14)
/-- Wait slot i: KIND, STEP, CTR, THR. -/
def Desc.wKind (d : Desc) (i : Nat) : Nat := d.fld (0x18 + 8 * i) 0 2
def Desc.wStep (d : Desc) (i : Nat) : Nat := d.fld (0x18 + 8 * i) 8 8
def Desc.wCtr (d : Desc) (i : Nat) : Nat := d.fld (0x18 + 8 * i) 16 16
def Desc.wThr (d : Desc) (i : Nat) : Nat := d.word (0x1C + 8 * i)
/-- Signal slot i: KIND, WHEN, STEP, CTR, VAL. -/
def Desc.sKind (d : Desc) (i : Nat) : Nat := d.fld (0x28 + 8 * i) 0 2
def Desc.sWhen (d : Desc) (i : Nat) : Nat := d.fld (0x28 + 8 * i) 2 1
def Desc.sStep (d : Desc) (i : Nat) : Nat := d.fld (0x28 + 8 * i) 8 8
def Desc.sCtr (d : Desc) (i : Nat) : Nat := d.fld (0x28 + 8 * i) 16 16
def Desc.sVal (d : Desc) (i : Nat) : Nat := d.word (0x2C + 8 * i)
def Desc.srSeed (d : Desc) : Nat := d.word 0x38
def Desc.srIndexBase (d : Desc) : Nat := d.word 0x3C
def Desc.aAddr (d : Desc) : Nat := d.word 0x40
def Desc.bAddr (d : Desc) : Nat := d.word 0x44
def Desc.outAddr (d : Desc) : Nat := d.word 0x48
def Desc.aScale (d : Desc) : Nat := d.word 0x4C
def Desc.bScale (d : Desc) : Nat := d.word 0x50
def Desc.outScale (d : Desc) : Nat := d.word 0x54
def Desc.accAddr (d : Desc) : Nat := d.word 0x58
def Desc.accLd (d : Desc) : Nat := d.fld 0x5C 0 24

/-- The format of a descriptor field; a reserved code is refused at decode, so FP32 stands for it nowhere. -/
def fmtOf (c : Nat) : Fmt := (Fmt.ofCode c).getD .fp32

/-- The rounding of an element in a descriptor's output: its position decides the random number (R61, R62, R84). -/
def Desc.rounding (d : Desc) (pos : Nat) : Rnd :=
  if d.rnd = 1 then .sr (srRandom d.srSeed ((d.srIndexBase + pos) % 2 ^ 32)) else .rne

/-! Operand addresses (R82). -/

/-- SPACE of an operand address: 0 Lathe SRAM, 1 shared SRAM, 2 reserved, 3 not used. -/
def addrSpace (a : Nat) : Nat := bits a 30 2

/-- The byte offset an operand address names in its space. -/
def addrOff (a : Nat) : Nat := if addrSpace a = 0 then bits a 0 24 else bits a 0 22

/-- The bits that R82 requires to be 0 are 0, and the space is one a used operand may name. -/
def addrForm (a : Nat) : Bool :=
  (addrSpace a = 0 && bits a 24 6 = 0) || (addrSpace a = 1 && bits a 26 4 = 0)

/-- A span of an operand: the address field, the signed distance from it, the bytes. -/
structure Span where
  addr : Nat
  delta : Int
  len : Nat
deriving DecidableEq, Repr

/-- A span keeps R82 for Lathe n: form, within its space, and for shared SRAM a way of WAY_MASK below the progress area. -/
def State.spanOk (s : State) (n : Nat) (p : Span) : Bool :=
  let lo : Int := addrOff p.addr + p.delta
  let hi : Int := lo + p.len
  addrForm p.addr && 0 ≤ lo &&
  (if addrSpace p.addr = 0 then hi ≤ lsramSize
   else hi ≤ progressBase && bit (s.rd (LTH_PART.WAY_MASK n)) (bits p.addr 22 4))

/-- The byte offset of a span in its space. -/
def Span.off (p : Span) : Nat := ((addrOff p.addr : Int) + p.delta).toNat

/-- The bytes that two spans share, as a span of the first. -/
def Span.meet (p q : Span) : Option Span :=
  let lo := max p.off q.off
  let hi := min (p.off + p.len) (q.off + q.len)
  if addrSpace p.addr = addrSpace q.addr ∧ (addrSpace p.addr = 0 ∨ bits p.addr 22 4 = bits q.addr 22 4) ∧ lo < hi then
    some ⟨p.addr, (lo : Int) - addrOff p.addr, hi - lo⟩
  else none

/-- What the spans of one list share with those of another. -/
def Span.meets (ps qs : List Span) : List Span := ps.flatMap (fun p => qs.filterMap p.meet)

/-- Read the span through the symbol code, as Lathe n: the state after it, and whether no word was uncorrectable. -/
def State.touchSpan (s : State) (n : Nat) (p : Span) : State × Bool :=
  if p.len = 0 then (s, true)
  else if addrSpace p.addr = 0 then let r := s.lsramRead n p.off p.len; (r.1, r.2.1)
  else let r := s.wayRead (bits p.addr 22 4) p.off p.len; (r.1, r.2.1)

/-- Write bytes at an operand address, as Lathe n; false: a merge met an uncorrectable word (R516). -/
def State.writeSpan (s : State) (n addr : Nat) (delta : Int) (data : List Byte) : State × Bool :=
  let off := ((addrOff addr : Int) + delta).toNat
  if addrSpace addr = 0 then s.lsramWrite n off data else s.wayWrite (bits addr 22 4) off data

/-- The bytes an operand holds, as the decoder gives them. -/
def State.peek (s : State) (n addr : Nat) (delta : Int) (len : Nat) : List Byte :=
  let off := ((addrOff addr : Int) + delta).toNat
  if addrSpace addr = 0 then decodedBytes s.mem.lsram s.mem.lsramErr (n * 2 ^ 24 + off) len
  else decodedBytes s.mem.way s.mem.wayErr (bits addr 22 4 * 2 ^ 22 + off) len

/-- The little-endian word of `k` bytes at an operand address. -/
def State.peekWord (s : State) (n addr : Nat) (delta : Int) (k : Nat) : Nat := leVal (s.peek n addr delta k)

/-! Elements and scales. -/

/-- The bytes of a dense run of `k` elements: whole blocks for MX formats (R44, R45). -/
def runBytes (f : Fmt) (k : Nat) : Nat := if f.isMx then ceilDiv k 32 * f.blockBytes else ceilDiv (k * f.bits) 8

/-- The code of element i of a dense run at an operand address (R44, R46). -/
def State.elemCode (s : State) (n : Nat) (f : Fmt) (addr : Nat) (delta : Int) (i : Nat) : Nat :=
  if f.bits = 6 then bits (s.peekWord n addr (delta + 3 * (i / 4 : Nat)) 3) (6 * (i % 4)) 6
  else if f.bits = 4 then bits (s.peekWord n addr (delta + (i / 2 : Nat)) 1) (4 * (i % 2)) 4
  else s.peekWord n addr (delta + (i * (f.bits / 8) : Nat)) (f.bits / 8)

/-- A matrix or row operand: element and scale address fields, format, distance of the repetition, pitch, block axis. -/
structure Arr where
  addr : Nat
  saddr : Nat
  fmt : Fmt
  delta : Int
  ld : Nat
  axis : Nat
deriving DecidableEq, Repr

/-- The distance of the scale byte of element (i, j) of an MX operand: scale arrays follow their elements (R83); with block
axis 1 the 32 rows of a block have one row of scales, as in tile order (R85). -/
def Arr.scaleDelta (a : Arr) (i j : Nat) : Int :=
  let b : Int := a.fmt.blockBytes
  if a.axis = 0 then (a.delta + (i * a.ld : Nat)) / b + (j / 32 : Nat)
  else a.delta / b + ((i / 32 * (32 * a.ld) : Nat) : Int) / b + j

/-- Element (i, j) with its MX scale; other formats without scale (R43, R46). -/
def State.arrVal (s : State) (n : Nat) (a : Arr) (i j : Nat) : Val :=
  let v := elemVal a.fmt (s.elemCode n a.fmt a.addr (a.delta + (i * a.ld : Nat)) j)
  if a.fmt.isMx then scaleE8 v (s.peekWord n a.saddr (a.scaleDelta i j) 1) else v

/-- An element that is NaN or stands in a block whose scale is 0xFF (NAN_IN, Table 2.9). -/
def State.arrNan (s : State) (n : Nat) (a : Arr) (i j : Nat) : Bool := (s.arrVal n a i j).isNan

/-- FP32 entry c of a scale or multiplier vector (R46, R58). -/
def State.vecEntry (s : State) (n addr c : Nat) : Val := f32 (s.peekWord n addr (4 * c : Nat) 4)

/-- Codes packed into bytes (R44, R46). -/
def packCodes (f : Fmt) (codes : List Nat) : List Byte :=
  if f.bits = 6 then
    (List.range (ceilDiv codes.length 4)).flatMap (fun g =>
      leBytes 3 (codes.getD (4 * g) 0 + codes.getD (4 * g + 1) 0 * 2 ^ 6 + codes.getD (4 * g + 2) 0 * 2 ^ 12 + codes.getD (4 * g + 3) 0 * 2 ^ 18))
  else if f.bits = 4 then
    (List.range (ceilDiv codes.length 2)).map (fun g => BitVec.ofNat 8 (codes.getD (2 * g) 0 + codes.getD (2 * g + 1) 0 * 16))
  else codes.flatMap (fun c => leBytes (f.bits / 8) c)

/-- A list of values cut into runs of 32, the last one filled with +0 (R45). -/
def blocks32 (l : List Val) : List (List Val) :=
  (List.range (ceilDiv l.length 32)).map (fun b => (List.range 32).map (fun i => l.getD (32 * b + i) .zero))

/-- A dense run of values converted into a format (R55 to R58): element bytes, scale bytes (MX), flags. `pos i` is the
output position of value i, `q i` the multiplier of its channel. -/
def convertRun (d : Desc) (f : Fmt) (pos : Nat → Nat) (q : Nat → Val) (vals : List Val) : List Byte × List Byte × Exc :=
  if f.isMx then
    let bs := ((blocks32 vals).zip (List.range (ceilDiv vals.length 32))).map (fun p =>
      toMxBlock f ((List.range 32).map (fun i => d.rounding (pos (32 * p.2 + i)))) p.1)
    (packCodes f (bs.flatMap (fun r => r.2.1)), bs.map (fun r => BitVec.ofNat 8 r.1), bs.foldl (fun e r => e.or r.2.2) {})
  else
    let rs := (vals.zip (List.range vals.length)).map (fun p =>
      if f.isInt then toInt f (d.rounding (pos p.2)) (q p.2) p.1 else toFloat f (d.rounding (pos p.2)) p.1)
    (packCodes f (rs.map (·.1)), [], rs.foldl (fun e r => e.or r.2) {})

/-- The pixel pitch of R114: whole blocks of 32 channels in every format. -/
def pixelPitch (f : Fmt) (c : Nat) : Nat := ceilDiv c 32 * f.blockBytes

end Sys2Proof.Machine
end

