-- ==== Sys2Proof/Machine/VideoOps.lean ====
section
/-! DEFINITION. Video engines: contexts and areas, queues, the marks of the pool, conversion into output frames, rate control, halts
(R290 to R311). -/

namespace Sys2Proof.Machine
open Reg

def State.vctx (s : State) (e k : Nat) : VidCtx := Cells.get {} s.vid.ctx (16 * e + k)
def State.setVctx (s : State) (e k : Nat) (x : VidCtx) : State := { s with vid := { s.vid with ctx := Cells.set {} s.vid.ctx (16 * e + k) x } }

/-- Context k of engine e is enabled. -/
def State.vidOn (s : State) (e k : Nat) : Bool := bit (s.rd (VID_ENG_STAT.ENABLED e)) k

/-- The partition of engine e. -/
def State.vidPart (s : State) (e : Nat) : Nat := s.rd (VID_ENG_PART.PART e)

/-- The context of engine e that names host/video channel c in TAKERS (R301). -/
def State.ctxOfChan (s : State) (e c : Nat) : Option Nat :=
  (List.range 16).find? (fun k => s.vidOn e k && bit (s.inEff (VID_CTX_TAKERS.TAKERS e k)) c)

/-! Areas: partition addresses and sizes in bytes (Tables 10.13 to 10.15). -/

def State.queueAddr (s : State) (e k : Nat) : Nat := s.inEff (VID_CTX_QUEUE.LSLOT e k) * 2 ^ 36 + s.inEff (VID_CTX_QUEUE.BASE e k) * 4096
def State.queueSize (s : State) (e k : Nat) : Nat := 2 ^ (20 + s.inEff (VID_CTX_QUEUE.COUNT e k))
def State.poolAddr (s : State) (e k : Nat) : Nat := s.inEff (VID_CTX_POOL.LSLOT e k) * 2 ^ 36 + s.inEff (VID_CTX_POOL.BASE e k) * 4096
def State.bufSize (s : State) (e k : Nat) : Nat := s.inEff (VID_CTX_SIZES.BUF_4K e k) * 4096
def State.frameAddr (s : State) (e k slot : Nat) : Nat :=
  s.inEff (VID_CTX_FRAMES.LSLOT e k) * 2 ^ 36 + s.inEff (VID_CTX_FRAMES.BASE e k) * 4096 + slot * (s.inEff (VID_CTX_SLOT_SIZE.SLOT_4K e k) * 4096)
def State.slotSize (s : State) (e k : Nat) : Nat := s.inEff (VID_CTX_SLOT_SIZE.SLOT_4K e k) * 4096
def State.slotCount (s : State) (e k : Nat) : Nat := s.inEff (VID_CTX_FRAMES.COUNT e k) + 1

/-- The contents of an area become undefined (R313, R20). -/
def State.undefArea (s : State) (p addr len : Nat) : State :=
  match s.partAddr p addr with
  | some (n, a) => s.undefPort n a len
  | none => s

/-! Marks (R298). -/

def VidCtx.mark (x : VidCtx) (b : Nat) : Nat := Cells.get 0 x.marks b
def VidCtx.setMark (x : VidCtx) (b m : Nat) : VidCtx := { x with marks := Cells.set 0 x.marks b m }
/-- One mark of a buffer set or cleared; a picture with no mark left is forgotten. -/
def VidCtx.putMark (x : VidCtx) (b i : Nat) (on : Bool) : VidCtx :=
  let m := x.mark b
  let y := x.setMark b (if on then m ||| 2 ^ i else if bit m i then m - 2 ^ i else m)
  if y.mark b = 0 then { y with pics := y.pics.filter (fun q => q.buf ≠ b) } else y

/-! Halts (R310, R311). -/

/-- Context k halts with a cause; causes 3 to 5 send a VIDEO_ERROR record, naming a region when the failing address lies in one. -/
def State.vidHalt (s : State) (e k cause addr : Nat) : State :=
  let f := if cause = 1 then some (VID_ERR_STAT.UNSUPPORTED e) else if cause = 3 then some (VID_ERR_STAT.MEM_UE e)
    else if cause = 4 then some (VID_ERR_STAT.ACCESS e) else if cause = 5 then some (VID_ERR_STAT.SRAM_UE e) else none
  let s1 := (match f with | some x => s.raise x | none => s)
  let s2 := ((s1.wr (VID_CTX_STAT.STATE e k) 3).wr (VID_CTX_STAT.CAUSE e k) cause)
  let x := s2.vctx e k
  let s3 := s2.setVctx e k (match x.cur with | some q => { x.putMark q.buf 0 false with cur := none } | none => x)
  let p := s.vidPart e
  if 3 ≤ cause then
    let rs := if cause = 5 then [] else match s3.partAddr p addr with | some (n, a) => s3.regionEntry p n a | none => []
    s3.record p (errorRecord p 0x15 cause 0 0xFFF (s3.stepOf p) 0x1FFF 0 0 rs)
  else s3

/-- An engine's access to memory ends: its data, or the halted state (R290, R311). -/
abbrev VidRes (α : Type) := Except State α

/-- Read bytes at a partition address for context k. -/
def State.vidRead (s : State) (e k addr len : Nat) : VidRes (State × List Byte) :=
  if len = 0 then .ok (s, [])
  else if s.flag (VID_INJ.MEM_UE e) then .error ((s.wr (VID_INJ.MEM_UE e) 0).vidHalt e k 3 addr)
  else
    match s.partRead .hostDma (s.vidPart e) addr len with
    | (s1, .ok, b) => .ok (s1, b)
    | (s1, .refused, _) => .error (s1.vidHalt e k 4 addr)
    | (s1, .uncorrectable, _) => .error (s1.vidHalt e k 3 addr)

/-- Write bytes at a partition address for context k. -/
def State.vidWrite (s : State) (e k addr : Nat) (data : List Byte) : VidRes State :=
  if data.isEmpty then .ok s
  else
    match s.partWrite .hostDma (s.vidPart e) addr data with
    | (s1, .ok) => .ok s1
    | (s1, .refused) => .error (s1.vidHalt e k 4 addr)
    | (s1, .uncorrectable) => .error (s1.vidHalt e k 3 addr)

/-- The context's word of engine SRAM is read: a correctable error is corrected and counted, an uncorrectable one halts (R311). -/
def State.vidSram (s : State) (e k : Nat) : VidRes State :=
  let j := 16 * e + k
  match Cells.get 0 s.vid.sramErr j with
  | 0 => .ok s
  | 1 => .ok (((({ s with vid := { s.vid with sramErr := Cells.set 0 s.vid.sramErr j 0 } }).raise (VID_ERR_STAT.SRAM_CE e)).bump (VID_ERR_STAT.CE_COUNT e) 1).reportCe (94 + e) 1)
  | _ => .error (({ s with vid := { s.vid with sramErr := Cells.set 0 s.vid.sramErr j 0 } }).reportUe (94 + e) k |>.vidHalt e k 5 0)

/-- The context's state is written to engine SRAM: an armed injection acts on it, the UE one first (Table 10.6, R105). -/
def State.vidInject (s : State) (e k : Nat) : State :=
  let put (v : Nat) : State := { s with vid := { s.vid with sramErr := Cells.set 0 s.vid.sramErr (16 * e + k) v } }
  if s.flag (VID_INJ.SRAM_UE e) then (put 2).wr (VID_INJ.SRAM_UE e) 0
  else if s.flag (VID_INJ.SRAM_CE e) then (put 1).wr (VID_INJ.SRAM_CE e) 0
  else s

/-! Rings. -/

/-- The pieces of a ring of `size` bytes from `off` on: offset and length. -/
def ringPieces (size off len : Nat) : List (Nat × Nat) :=
  let o := off % size
  if o + len ≤ size then [(o, len)] else [(o, size - o), (0, len - (size - o))]

/-- Bytes of the context's queue that lie `len` from place `off` on. -/
def State.queueRead (s : State) (e k off len : Nat) : VidRes (State × List Byte) :=
  (ringPieces (s.queueSize e k) off len).foldlM (fun (acc : State × List Byte) p => do
    let (s1, b) ← acc.1.vidRead e k (s.queueAddr e k + p.1) p.2
    .ok (s1, acc.2 ++ b)) (s, [])

/-- Bytes written into the context's queue from place `off` on. -/
def State.queueWrite (s : State) (e k off : Nat) (data : List Byte) : VidRes State := do
  let (s1, _) ← (ringPieces (s.queueSize e k) off data.length).foldlM (fun (acc : State × List Byte) p => do
    let s1 ← acc.1.vidWrite e k (s.queueAddr e k + p.1) (acc.2.take p.2)
    .ok (s1, acc.2.drop p.2)) (s, data)
  .ok s1

/-- The free buffer with the lowest index. -/
def State.freeBuf (s : State) (e k : Nat) : Option Nat :=
  (List.range (s.inEff (VID_CTX_SIZES.FRAMES e k))).find? (fun b => (s.vctx e k).mark b = 0)

/-! Conversion (R299, R300). -/

/-- A decoded sample, a free value: plane 0 luma, 1 and 2 chroma at half size. A monochrome stream's chroma is mid-grey (R293). -/
def VidPic.sample (q : VidPic) (plane x y : Nat) : Nat :=
  let b := if q.depth10 then 10 else 8
  if q.mono && plane ≠ 0 then 2 ^ (b - 1)
  else
    let base := if plane = 0 then 0 else q.w * q.h + (plane - 1) * (ceilDiv q.w 2 * ceilDiv q.h 2)
    let pitch := if plane = 0 then q.w else ceilDiv q.w 2
    Config.freeValue (q.samples + base + y * pitch + x) % 2 ^ b

/-- The FP32 value nearest to a decimal num / 10⁴, and to 1 / x for an FP32 x. -/
def quot32 (num den : Nat) : Nat := rne32 (.num false (num * 2 ^ 80 / den * 2 + (if num * 2 ^ 80 % den = 0 then 0 else 1)) (-81))
def dec32 (num : Nat) : Nat := quot32 num 10000
def inv32 (x : Nat) : Nat :=
  match f32 x with
  | .num _ m e => if m = 0 then 0 else rne32 (.num false (2 ^ 160 / m * 2 + (if 2 ^ 160 % m = 0 then 0 else 1)) (-161 - e))
  | .inf _ => 0
  | .nan => nan32

/-- The constants kr and kb of a matrix. -/
def cscK (csc : Nat) : Nat × Nat :=
  if csc = 0 then (dec32 2990, dec32 1140) else if csc = 1 then (dec32 2126, dec32 722) else (dec32 2627, dec32 593)

/-- One pixel as R, G, B in FP32. -/
def VidPic.rgb (q : VidPic) (csc : Nat) (full : Bool) (x y : Nat) : List Nat :=
  let b := if q.depth10 then 10 else 8
  let i32 (v : Int) : Nat := rne32 (.num (v < 0) v.natAbs 0)
  let yc : Int := q.sample 0 x y
  let cb : Int := q.sample 1 (x / 2) (y / 2)
  let cr : Int := q.sample 2 (x / 2) (y / 2)
  let norm (v off : Int) (den : Nat) : Nat := fmul (fsub (i32 v) (i32 off)) (quot32 1 den)
  let mid : Int := 2 ^ (b - 1)
  let sc : Nat := 2 ^ (b - 8)
  let fy := if full then norm yc 0 (2 ^ b - 1) else norm yc (16 * sc) (219 * sc)
  let fb := if full then norm cb mid (2 ^ b - 1) else norm cb (128 * sc) (224 * sc)
  let fr := if full then norm cr mid (2 ^ b - 1) else norm cr (128 * sc) (224 * sc)
  let one := 0x3F800000
  let two := 0x40000000
  let (kr, kb) := cscK csc
  let r := fadd fy (fmul (fmul two (fsub one kr)) fr)
  let bl := fadd fy (fmul (fmul two (fsub one kb)) fb)
  let g := fmul (fsub (fsub fy (fmul kr r)) (fmul kb bl)) (inv32 (fsub (fsub one kr) kb))
  [r, g, bl]

/-- The average of the f × f converted pixels of an output pixel: the sum in row-major order times 1 / f². -/
def VidPic.rgbScaled (q : VidPic) (csc : Nat) (full : Bool) (f x y : Nat) : List Nat :=
  let px := (List.range (f * f)).map (fun i => q.rgb csc full (f * x + i % f) (f * y + i / f))
  (List.range 3).map (fun c =>
    match px.map (fun v => v.getD c 0) with
    | [] => 0
    | h :: t => fmul (t.foldl fadd h) (quot32 1 (f * f)))

/-- Clamp to [0, 1], then U8 or BF16. -/
def clamp01 (v : Nat) : Nat := fmin (fmax v 0) 0x3F800000
def toU8 (v : Nat) : Nat := (toIntCode .rne 9 255 (f32 (fmul 0x437F0000 (clamp01 v)))).1
def toBf16 (v : Nat) : Nat := (toFloat .bf16 .rne (f32 (clamp01 v))).1

/-- A sample converted for NV12 or P010 (Table 10.3), and the integer average of f × f of them. -/
def VidPic.conv (q : VidPic) (p010 : Bool) (v : Nat) : Nat :=
  if p010 then (if q.depth10 then v else v * 4) else if q.depth10 then min 255 ((v + 2) / 4) else v
def VidPic.avg (q : VidPic) (p010 : Bool) (f plane x y : Nat) : Nat :=
  (((List.range (f * f)).map (fun i => q.conv p010 (q.sample plane (f * x + i % f) (f * y + i / f)))).foldl (· + ·) 0 + f * f / 2) / (f * f)

/-- The rows of an output frame, top to bottom, from slot offset 64 at pitch LD (Table 10.3). -/
def VidPic.frameRows (q : VidPic) (fmt csc : Nat) (full : Bool) (f w h : Nat) : List (List Byte) :=
  if fmt = 0 ∨ fmt = 1 then
    let p010 := fmt = 1
    let put (v : Nat) : List Byte := if p010 then leBytes 2 (v * 64) else leBytes 1 v
    (List.range h).map (fun y => (List.range w).flatMap (fun x => put (q.avg p010 f 0 x y))) ++
    (List.range (h / 2)).map (fun y => (List.range (w / 2)).flatMap (fun x => put (q.avg p010 f 1 x y) ++ put (q.avg p010 f 2 x y)))
  else
    (List.range h).map (fun y => (List.range w).flatMap (fun x => (q.rgbScaled csc full f x y).flatMap (fun v =>
      if fmt = 2 then leBytes 1 (toU8 v) else leBytes 2 (toBf16 v))))

/-! Commits (R294, R313, Table 10.5). -/

def blocks64 (w h : Nat) : Nat := ceilDiv w 64 * ceilDiv h 64

/-- A context's load by a reading of its fields (R294). -/
def ctxLoad (mode w h fps : Nat) : Nat := blocks64 w h * fps * (if mode = 2 then 13000 else 6500)

/-- The load of engine e in effect, without context k. -/
def State.loadBut (s : State) (e k : Nat) : Nat :=
  ((List.range 16).map (fun j => if j ≠ k && s.vidOn e j then
    ctxLoad (s.inEff (VID_CTX_CFG.MODE e j)) (s.inEff (VID_CTX_DIM.WIDTH e j)) (s.inEff (VID_CTX_DIM.HEIGHT e j)) (s.inEff (VID_CTX_CFG.FPS e j)) else 0)).foldl (· + ·) 0

/-- LOAD and ENABLED after a change. -/
def State.showLoad (s : State) (e : Nat) : State := s.wr (VID_ENG_STAT.LOAD e) (ceilDiv (s.loadBut e 16) 1000000)

/-- The shadows that a running context may change, and the others (R306, R313). -/
def vidRcFields (e k : Nat) : List Fld :=
  [VID_CTX_ENC.QUALITY e k, VID_CTX_ENC.QMAX_Q e k, VID_CTX_RC.MAX_KBPS e k, VID_CTX_RC.WINDOW e k, VID_CTX_GOP.GOP e k]
def vidFixedFields (e k : Nat) : List Fld :=
  [VID_CTX_CFG.MODE e k, VID_CTX_CFG.CODEC e k, VID_CTX_CFG.DEPTH10 e k, VID_CTX_CFG.OUT_FMT e k, VID_CTX_CFG.SCALE e k,
   VID_CTX_CFG.CSC_DEFAULT e k, VID_CTX_CFG.RANGE_DEFAULT e k, VID_CTX_CFG.OVERRUN e k, VID_CTX_CFG.FPS e k, VID_CTX_DIM.WIDTH e k,
   VID_CTX_DIM.HEIGHT e k, VID_CTX_POOL.BASE e k, VID_CTX_POOL.LSLOT e k, VID_CTX_POOL.COUNT e k, VID_CTX_QUEUE.BASE e k, VID_CTX_QUEUE.LSLOT e k,
   VID_CTX_QUEUE.COUNT e k, VID_CTX_FRAMES.BASE e k, VID_CTX_FRAMES.LSLOT e k, VID_CTX_FRAMES.COUNT e k, VID_CTX_SIZES.FRAMES e k,
   VID_CTX_SIZES.BUF_4K e k, VID_CTX_SIZES.LD64 e k, VID_CTX_SLOT_SIZE.SLOT_4K e k, VID_CTX_TAKERS.TAKERS e k, VID_CTX_ENC.SEARCH e k,
   VID_CTX_ENC.RANGE8 e k, VID_CTX_ENC.SLICE_ROWS e k, VID_CTX_ENC.LTREF e k]

/-- The three areas of a context by the values `v` gives its fields: partition address and bytes. -/
def vidAreas (v : Fld → Nat) (e k : Nat) : List (Nat × Nat) :=
  [(v (VID_CTX_POOL.LSLOT e k) * 2 ^ 36 + v (VID_CTX_POOL.BASE e k) * 4096, v (VID_CTX_SIZES.FRAMES e k) * v (VID_CTX_SIZES.BUF_4K e k) * 4096),
   (v (VID_CTX_QUEUE.LSLOT e k) * 2 ^ 36 + v (VID_CTX_QUEUE.BASE e k) * 4096, 2 ^ (20 + v (VID_CTX_QUEUE.COUNT e k))),
   (v (VID_CTX_FRAMES.LSLOT e k) * 2 ^ 36 + v (VID_CTX_FRAMES.BASE e k) * 4096, (v (VID_CTX_FRAMES.COUNT e k) + 1) * v (VID_CTX_SLOT_SIZE.SLOT_4K e k) * 4096)]

/-- Two areas are disjoint. -/
def apart (a b : Nat × Nat) : Bool := a.1 + a.2 ≤ b.1 || b.1 + b.2 ≤ a.1

/-- An area lies within one of the owner's ports and outside the provisional region. -/
def State.areaOk (s : State) (p : Nat) (a : Nat × Nat) : Bool :=
  match s.partAddr p a.1 with
  | some (_, lo) => lo + a.2 ≤ s.portCap && !s.inProvisional p lo a.2
  | none => false

/-- The size of the output frame (R299): width, height, bytes per row and rows of the format. -/
def outShape (w h f fmt : Nat) : Nat × Nat × Nat × Nat :=
  let even (x : Nat) : Nat := if fmt ≤ 1 then x / 2 * 2 else x
  let w1 := even (w / f)
  let h1 := even (h / f)
  (w1, h1, w1 * (if fmt = 0 then 1 else if fmt = 1 then 2 else if fmt = 2 then 3 else 6), if fmt ≤ 1 then h1 * 3 / 2 else h1)

/-- The rules of Table 10.5 on the shadows of context k. -/
def State.vidRules (s : State) (e k : Nat) : List Bool :=
  let v := s.rd
  let enc := v (VID_CTX_CFG.MODE e k) = 2
  let w := v (VID_CTX_DIM.WIDTH e k)
  let h := v (VID_CTX_DIM.HEIGHT e k)
  let d10 := v (VID_CTX_CFG.DEPTH10 e k)
  let p := s.vidPart e
  let wa := ceilDiv w 64 * 64
  let ha := ceilDiv h 64 * 64
  let bytes := wa * ha * (if d10 = 1 then 2 else 1)
  let fmt := if enc then d10 else v (VID_CTX_CFG.OUT_FMT e k)
  let shape := outShape w h (if enc then 1 else 2 ^ v (VID_CTX_CFG.SCALE e k)) fmt
  let ld := 64 * v (VID_CTX_SIZES.LD64 e k)
  let mine := vidAreas v e k
  let others := ((List.range 16).filter (fun j => j ≠ k && s.vidOn e j)).flatMap (fun j => vidAreas s.inEff e j)
  let tk := v (VID_CTX_TAKERS.TAKERS e k)
  let slices := v (VID_CTX_ENC.SLICE_ROWS e k)
  let range := 8 * v (VID_CTX_ENC.RANGE8 e k)
  [s.flag (VID_ENG_PART.ASSIGNED e) && s.flag (VID_ENG_STAT.READY e),
   (v (VID_CTX_CFG.MODE e k) = 1 || enc) && 1 ≤ w && 1 ≤ h && fmt ≤ 3 && v (VID_CTX_CFG.SCALE e k) ≤ 2 && v (VID_CTX_CFG.CSC_DEFAULT e k) ≤ 2 &&
     1 ≤ v (VID_CTX_CFG.FPS e k) && v (VID_CTX_CFG.FPS e k) ≤ 120 &&
     (if enc then w ≤ 3840 && h ≤ 2160 && w % 2 = 0 && h % 2 = 0 else w ≤ 4096 && h ≤ 2304 && w * h ≤ 8912896),
   2 ≤ v (VID_CTX_SIZES.FRAMES e k) && v (VID_CTX_SIZES.FRAMES e k) ≤ 17 &&
     (!enc || (if v (VID_CTX_ENC.LTREF e k) = 1 then 4 else 3) ≤ v (VID_CTX_SIZES.FRAMES e k)) &&
     bytes * 3 / 2 + wa * ha / 16 ≤ v (VID_CTX_SIZES.BUF_4K e k) * 4096,
   64 + ld * shape.2.2.2 ≤ v (VID_CTX_SLOT_SIZE.SLOT_4K e k) * 4096 && shape.2.2.1 ≤ ld && 1 ≤ v (VID_CTX_FRAMES.COUNT e k),
   mine.all (s.areaOk p) && v (VID_CTX_QUEUE.COUNT e k) ≤ 5 && apart (mine.getD 0 (0, 0)) (mine.getD 1 (0, 0)) && apart (mine.getD 0 (0, 0)) (mine.getD 2 (0, 0)) &&
     apart (mine.getD 1 (0, 0)) (mine.getD 2 (0, 0)) && mine.all (fun a => others.all (apart a)),
   s.loadBut e k + ctxLoad (v (VID_CTX_CFG.MODE e k)) w h (v (VID_CTX_CFG.FPS e k)) ≤ 800000000,
   (List.range 32).all (fun c => !bit tk c || (s.flag (HDMA_CH_PART.ASSIGNED c) && s.rd (HDMA_CH_PART.PART c) = p &&
     (List.range 16).all (fun j => j = k || !s.vidOn e j || !bit (s.inEff (VID_CTX_TAKERS.TAKERS e j)) c))),
   !enc || (1 ≤ slices && 16 ≤ range && range ≤ 256 && v (VID_CTX_ENC.QUALITY e k) ≤ v (VID_CTX_ENC.QMAX_Q e k) &&
     v (VID_CTX_ENC.QMAX_Q e k) ≤ (if v (VID_CTX_CFG.CODEC e k) = 1 then 255 else 51 + 12 * d10) &&
     (v (VID_CTX_RC.MAX_KBPS e k) = 0 || 1 ≤ v (VID_CTX_RC.WINDOW e k)))]

/-- Context k is disabled at once: rows are abandoned, held slots released, its areas undefined (R313). -/
def State.vidDisable (s : State) (e k : Nat) : State :=
  if !s.vidOn e k then s
  else
    let s1 := (vidAreas s.inEff e k).foldl (fun st a => st.undefArea (s.vidPart e) a.1 a.2) s
    let s2 := (s1.wr (VID_ENG_STAT.ENABLED e) (s1.rd (VID_ENG_STAT.ENABLED e) - 2 ^ k)).wr (VID_CTX_STAT.STATE e k) 0
    (s2.setVctx e k { totals := (s2.vctx e k).totals }).showLoad e

/-! Rows of pictures (R295 to R299). -/

/-- A count of Table 10.22 goes up. -/
def VidCtx.count (x : VidCtx) (i : Nat) : VidCtx := { x with totals := x.totals.set i (x.totals.getD i 0 + 1) }

/-- The picture being decoded is complete: it stays as a reference and waits for output as its standard says (R298). Its buffer holds
samples in a layout that is not an interface. -/
def State.vidFinish (s : State) (e k : Nat) (q : VidPic) (keep waits : Bool) : State :=
  let x := s.vctx e k
  let y := (((x.putMark q.buf 1 keep).putMark q.buf 2 waits).putMark q.buf 0 false)
  let y2 : VidCtx := { y with cur := none, pics := if keep || waits then y.pics.filter (fun o => o.buf ≠ q.buf) ++ [q] else y.pics }
  (s.setVctx e k y2).undefArea (s.vidPart e) (s.poolAddr e k + q.buf * s.bufSize e k) (s.bufSize e k)

/-- References end, then pictures leave for output, in order. -/
def VidCtx.leave (x : VidCtx) (unref shown : List Nat) : VidCtx :=
  let y := shown.foldl (fun (x : VidCtx) b => match x.pics.find? (fun q => q.buf = b) with
    | some q => { x.putMark b 2 true with outs := x.outs ++ [q] }
    | none => x) x
  unref.foldl (fun x b => x.putMark b 1 false) y

/-- The picture that starts takes the free buffer with the lowest index; a larger one than VID_CTX_DIM, or no free buffer, halts (R298,
R310). -/
def State.vidStart (s : State) (e k : Nat) (i : PicInfo) : VidRes State :=
  if s.inEff (VID_CTX_DIM.WIDTH e k) < i.w.val ∨ s.inEff (VID_CTX_DIM.HEIGHT e k) < i.h.val then .error (s.vidHalt e k 1 0)
  else
    match s.freeBuf e k with
    | none => .error (s.vidHalt e k 2 0)
    | some b =>
      let q : VidPic := ⟨b, i.mono, i.w.val, i.h.val, i.depth10, i.intra, i.csc.map Fin.val, i.full, i.order.toNat, false, i.grain, s.freeCtr, 0⟩
      let x := s.vctx e k
      .ok ({ s with freeCtr := s.freeCtr + i.w.val * i.h.val + 2 * (ceilDiv i.w.val 2 * ceilDiv i.h.val 2) }.setVctx e k { x.putMark b 0 true with cur := some q })

/-- The signed order of a picture's output number. -/
def VidPic.pos (q : VidPic) : Int := (BitVec.ofNat 32 q.order).toInt

/-- Pictures that wait for output and have not left yet, in output order (the bumping process). -/
def VidCtx.waiting (x : VidCtx) : List VidPic :=
  (x.pics.filter (fun q => bit (x.mark q.buf) 2 && !x.outs.any (fun o => o.buf = q.buf && o.samples = q.samples))).foldl
    (fun acc q => acc.filter (fun o => o.pos ≤ q.pos) ++ [q] ++ acc.filter (fun o => q.pos < o.pos)) []

/-! Taking and reporting frames (R299, R301). -/

/-- A reported slot is free: every channel of TAKERS has taken its frame and no channel holds it. -/
def State.slotIsFree (s : State) (e k : Nat) (t : VidSlot) : Bool :=
  t.held.isEmpty && (List.range 32).all (fun c => !bit (s.inEff (VID_CTX_TAKERS.TAKERS e k)) c || t.taken.contains c)

/-- The slots of the ring that are free: never used, or free. -/
def State.freeSlots (s : State) (e k : Nat) : List Nat :=
  (List.range (s.slotCount e k)).filter (fun i => match (s.vctx e k).slots.find? (fun t => t.slot = i) with | some t => s.slotIsFree e k t | none => true)

/-- The frame header of Table 10.2. -/
def frameHeader (fseq w h fmt csc order time : Nat) (concealed intra full depth10 : Bool) : List Byte :=
  leBytes 4 fseq ++ leBytes 4 (w + h * 2 ^ 16) ++
  leBytes 4 (fmt + (if concealed then 8 else 0) + (if intra then 16 else 0) + csc * 32 + (if full then 128 else 0) + (if depth10 then 256 else 0)) ++
  leBytes 4 order ++ leBytes 4 time ++ List.replicate 44 0

/-! Encoding (R303 to R307). -/

def State.encSlices (s : State) (e k : Nat) : Nat := ceilDiv (ceilDiv (s.inEff (VID_CTX_DIM.HEIGHT e k)) 64) (s.inEff (VID_CTX_ENC.SLICE_ROWS e k))

/-- The cap and the drain of R306 for a frame whose MAX_KBPS and WINDOW are given. -/
def encCap (kbps window fps : Nat) : Nat := kbps * 1000 * window / fps
def encDrain (kbps fps n : Nat) : Nat := kbps * 1000 / (fps * n)

/-- The quantiser of a slice that starts (R306). -/
def encQ (av1 intra : Bool) (quality qmax kbps cap full : Nat) : Nat :=
  let sc := if av1 then 4 else 1
  let base := if intra then quality - 3 * sc else quality
  if kbps = 0 then base
  else min qmax (base + (if 2 * full ≤ cap then 0 else ceilDiv (16 * full - 8 * cap) (2 * cap)) * sc)

/-- A record of the output queue: header, payload, zeros up to a multiple of 1,024 bytes (R307). -/
def encRecord (head : Nat) (payload : List Byte) (frame w4 w5 w6 : Nat) : List Byte :=
  let n := ceilDiv (32 + payload.length) 1024
  leBytes 4 head ++ leBytes 4 n ++ leBytes 4 payload.length ++ leBytes 4 frame ++ leBytes 4 w4 ++ leBytes 4 w5 ++ leBytes 4 w6 ++ leBytes 4 0 ++
  payload ++ List.replicate (n * 1024 - 32 - payload.length) 0

end Sys2Proof.Machine
end

