-- ==== Sys2Proof/Machine/HdmaOps.lean ====
section
/-! DEFINITION. Host/video DMA: rings, descriptors and their checks, regrouping and conversion, data movement, writeback, engine stops
(R268 to R282, R302). -/

namespace Sys2Proof.Machine
open Reg

def State.hch (s : State) (c : Nat) : HdmaCh := Cells.get {} s.hdma.ch c
def State.setHch (s : State) (c : Nat) (x : HdmaCh) : State := { s with hdma := { s.hdma with ch := Cells.set {} s.hdma.ch c x } }
/-- The partition of channel c, none when it is not assigned. -/
def State.hPart (s : State) (c : Nat) : Option Nat := if s.flag (HDMA_CH_PART.ASSIGNED c) then some (s.rd (HDMA_CH_PART.PART c)) else none
/-- The channel's function: its partition's VF, or PF0 (R270). -/
def State.hFn (s : State) (c : Nat) : Nat := match s.hPart c with | some p => 1 + p | none => 0
/-- HDMA_CH_STAT.STATE. -/
def State.hState (s : State) (c : Nat) : Nat := s.rd (HDMA_CH_STAT.STATE c)
def State.setHState (s : State) (c v : Nat) : State := s.wr (HDMA_CH_STAT.STATE c) v

/-- One side of a descriptor (Table 9.3) as a pattern of lines. -/
def hdmaSrc (w : List Nat) : TdmaSide :=
  { space := dfld w 0 4 4, addr := dfld w 8 0 32 + dfld w 12 0 32 * 2 ^ 32, line := dfld w 0x18 0 24, n1 := dfld w 0x20 0 16 + 1, n2 := 1, n3 := 1,
    s1 := sgn 32 (dfld w 0x1C 0 32), s2 := 0, s3 := 0 }
def hdmaDst (w : List Nat) : TdmaSide :=
  { space := dfld w 0 8 4, addr := dfld w 0x10 0 32 + dfld w 0x14 0 32 * 2 ^ 32, line := dfld w 0x24 0 24, n1 := dfld w 0x20 16 16 + 1, n2 := 1, n3 := 1,
    s1 := sgn 32 (dfld w 0x28 0 32), s2 := 0, s3 := 0 }
/-- S2D factor, 1 without; element bytes of CVT_SRC, 0 without; pixel sizes. -/
def s2dFactor (w : List Nat) : Nat := 2 ^ dfld w 0 12 2
def cvtBytes (w : List Nat) : Nat := dfld w 0 14 2
def srcPix (w : List Nat) : Nat := dfld w 0x2C 0 12
def dstPix (w : List Nat) : Nat := dfld w 0x2C 16 12
def cvtFmt (w : List Nat) : Option Fmt := Fmt.ofCode (dfld w 0 16 4)
/-- Channels of a converted pixel (R273). -/
def cvtChans (w : List Nat) : Nat := s2dFactor w * s2dFactor w * (srcPix w / max 1 (cvtBytes w))
/-- The scale array's first address: its upper half is that of DST_ADDR. -/
def scaleBase (w : List Nat) : Nat := dfld w 0x14 0 32 * 2 ^ 32 + dfld w 0x30 0 32
/-- Regrouping or conversion is asked for. -/
def regroups (w : List Nat) : Bool := s2dFactor w ≠ 1 || cvtBytes w ≠ 0

/-- The shape rules of R272 and R273. -/
def pixelRules (w : List Nat) : Bool :=
  let f := s2dFactor w
  let a := hdmaSrc w
  let b := hdmaDst w
  let wide := a.line / max 1 (srcPix w)
  a.line % max 1 (srcPix w) = 0 && wide % f = 0 && a.n1 % f = 0 && b.n1 = a.n1 / f && b.line = wide / f * dstPix w &&
  srcPix w ≤ 2048 && dstPix w ≤ 2048 && (f = 1 || f * a.line ≤ 131072) &&
  (if cvtBytes w = 0 then f * f * srcPix w ≤ dstPix w
   else
    match cvtFmt w with
    | none => false
    | some fm => !fm.isInt && srcPix w % cvtBytes w = 0 && dstPix w = pixelPitch fm (cvtChans w) &&
      (!fm.isMx || ((b.addr % 64 = 0) && b.s1 % 64 = 0 && dfld w 0x30 0 32 % 4 = 0)))

/-- A video side names its queue in the right direction, with STRIDE equal to LINE; a read of the encoded output moves whole blocks of
1,024 bytes (R270, R307). -/
def videoSide (d : TdmaSide) (isDst : Bool) : Bool :=
  d.space ≠ 4 || (d.s1 = d.line && (if isDst then bits d.addr 3 1 = 0 else bits d.addr 3 1 = 1 && d.line % 1024 = 0))

/-- The slot that a triggered descriptor's source span must keep within, when a context names the channel (R302). -/
def State.trigSpanOk (s : State) (c : Nat) (w : List Nat) : Bool :=
  match s.ctxOfChan (dfld w 0 20 3) c with
  | none => true
  | some k => (hdmaSrc w).corners.all (fun a => 0 ≤ a && a + (hdmaSrc w).line ≤ (s.slotSize (dfld w 0 20 3) k : Int))

/-- DESC_BAD (R274). -/
def State.hdescBad (s : State) (c : Nat) (w : List Nat) : Bool :=
  let a := hdmaSrc w
  let b := hdmaDst w
  dfld w 0 28 4 ≠ 1 || 4 < a.space || 4 < b.space || dfld w 0 12 2 = 3 || dfld w 0 14 2 = 3 || a.line = 0 || b.line = 0 ||
  (regroups w && (srcPix w = 0 || dstPix w = 0 || !pixelRules w)) || (!regroups w && a.bytes ≠ b.bytes) ||
  !videoSide a false || !videoSide b true || (dfld w 0 23 1 = 1 && (a.space ≠ 1 || !s.trigSpanOk c w))

/-- Where an address of space 1 to 3 leads for channel c: port, Lathe SRAM or way, and the offset in it; none when what it names does not
belong to the channel (R270, R274). -/
def State.hTarget (s : State) (c space addr : Nat) : Option (Nat × Nat) :=
  match s.hPart c with
  | some p =>
    if space = 1 then s.partAddr p (addr % 2 ^ 40)
    else if space = 2 then (s.latheAt p (addr / 2 ^ 36 % 16)).map (fun n => (n, addr % 2 ^ 24))
    else if (s.lathesOf p).any (fun n => bit (s.rd (LTH_PART.WAY_MASK n)) (addr / 2 ^ 22 % 16)) then some (addr / 2 ^ 22 % 16, addr % 2 ^ 22) else none
  | none =>
    let n := addr / 2 ^ 36 % 16
    if space = 1 then (if (s.partOf n).isNone && addr % 2 ^ 36 < s.portCap then some (n, addr % 2 ^ 36) else none)
    else if space = 2 then (if (s.partOf n).isNone then some (n, addr % 2 ^ 24) else none)
    else if (List.range 16).any (fun m => (s.partOf m).isSome && bit (s.rd (LTH_PART.WAY_MASK m)) (addr / 2 ^ 22 % 16)) then none
    else some (addr / 2 ^ 22 % 16, addr % 2 ^ 22)

/-- Every unit of a stretch of port n lies in a region of the owner with HOST 1, outside the provisional region (R274). -/
def State.hostUnits (s : State) (n a len : Nat) : Bool :=
  a + len ≤ s.portCap &&
  match s.partOf n with
  | none => true
  | some p => (unitsOf a len).all (fun u => match s.regionOf p n u with | some r => s.admits .hostDma p r | none => false) && !s.inProvisional p a len

/-- The span `[lo, hi)` of a side belongs to the channel (R274). -/
def State.hSpanOk (s : State) (c space : Nat) (isDst : Bool) (lo hi : Int) : Bool :=
  if space = 0 then true
  else if space = 4 then
    match s.hPart c with
    | some p => bits lo.toNat 0 3 < 4 && s.flag (VID_ENG_PART.ASSIGNED (bits lo.toNat 0 3)) && s.vidPart (bits lo.toNat 0 3) = p
    | none => false
  else if lo < 0 then false
  else
    match s.hTarget c space lo.toNat with
    | none => false
    | some (n, a) =>
      let len := (hi - lo).toNat
      if space = 1 then s.hostUnits n a len
      else if space = 2 then a + len ≤ lsramSize
      else a + len ≤ (if isDst then progressBase else waySize)

/-- Lowest and highest byte of a side's lines. -/
def TdmaSide.span (d : TdmaSide) : Int × Int :=
  let xs := d.corners
  (xs.foldl min (d.addr : Int), xs.foldl max (d.addr : Int) + d.line)

/-- The stretch of the scale array of an MX destination. -/
def scaleSpan (w : List Nat) : Option (Int × Int) :=
  match cvtFmt w with
  | some fm =>
    if cvtBytes w ≠ 0 ∧ fm.isMx then
      let row : Int := ((hdmaDst w).line / max 1 (dstPix w) * ceilDiv (cvtChans w) 32 : Nat)
      let last : Int := ((hdmaDst w).n1 - 1 : Nat) * (hdmaDst w).s1 / (fm.blockBytes : Int)
      some ((scaleBase w : Int) + min 0 last, (scaleBase w : Int) + max 0 last + row)
    else none
  | none => none

/-- ACCESS (R274, R275): a triggered source is addressed once its slot is taken. -/
def State.hAccessOk (s : State) (c : Nat) (w : List Nat) : Bool :=
  let a := hdmaSrc w
  let b := hdmaDst w
  (if dfld w 0 23 1 = 1 then s.hSpanOk c 4 false (dfld w 0 20 3 : Nat) 0 else if a.space = 4 then s.hSpanOk c 4 false (a.addr : Int) 0 else s.hSpanOk c a.space false a.span.1 a.span.2) &&
  (if b.space = 4 then s.hSpanOk c 4 true (b.addr : Int) 0 else s.hSpanOk c b.space true b.span.1 b.span.2) &&
  (match scaleSpan w with | some (lo, hi) => b.space = 4 || s.hSpanOk c b.space true lo hi | none => true)

/-! Stops and drops (R279, R280, R282). -/

/-- The frame slot that channel c holds is released (R301). -/
def State.releaseFrame (s : State) (c : Nat) : State :=
  match (s.hch c).frame with
  | none => s
  | some (e, k, slot, _) =>
    let x := s.vctx e k
    (s.setVctx e k { x with slots := x.slots.map (fun t => if t.slot = slot then { t with held := t.held.filter (· ≠ c) } else t) }).setHch c { s.hch c with frame := none }

/-- Bytes of a space that channel c can reach become undefined. -/
def State.undefHost (s : State) (c space : Nat) (a : Int) (len : Nat) : State :=
  if space = 0 ∨ 4 ≤ space then s
  else
    match s.hTarget c space a.toNat with
    | none => s
    | some (n, o) => if space = 1 then s.undefMem n o len else if space = 2 then s.undefLsram n o len else s.undefWay n o len

/-- The destination of the descriptor that channel c is moving is undefined (R279). -/
def State.undefDest (s : State) (c : Nat) : State :=
  match (s.hch c).entry with
  | some w =>
    if (s.hch c).code ≠ 0 ∨ s.hState c ≠ 2 then s
    else
      let d := hdmaDst w
      let s1 := (d.pieces 0 d.bytes).foldl (fun st p => st.undefHost c d.space p.1 p.2) s
      match scaleSpan w with
      | some (lo, hi) => s1.undefHost c d.space lo (hi - lo).toNat
      | none => s1
  | none => s

/-- HDMA_CH_CFG takes effect, or the commit is refused because BURST is 0 (R289). -/
def State.hdmaApply (s : State) (c : Nat) : State :=
  if s.rd (HDMA_CH_CFG.BURST c) = 0 then s.raise (HDMA_CH_STAT.CFG_MISMATCH c)
  else s.applyShadows [HDMA_CH_CFG.RATE c, HDMA_CH_CFG.BURST c]

/-- Channel c leaves its descriptor: a held frame is released and a staged commit applies. -/
def State.hdmaBoundary (s : State) (c : Nat) : State :=
  let st := (s.hch c).staged
  let s1 := (s.releaseFrame c).setHch c {}
  if st then s1.hdmaApply c else s1

/-- Channel c is dropped into a state (R279, R280). -/
def State.dropHch (s : State) (c st : Nat) : State := ((s.undefDest c).hdmaBoundary c |>.wr (HDMA_CH_STAT.DB_PENDING c) 0).setHState c st

/-- The engine stops: cause, failing address, and the place in main memory that the address names (R280, R282). -/
def State.hdmaStop (s : State) (cause addr : Nat) (place : Option (Nat × Nat)) : State :=
  if s.flag HDMA_ENG_STAT.STOPPED then s
  else
    let s1 := (List.range 32).foldl (fun st c => if st.hState c = 0 then st else st.dropHch c 6) s
    let s2 := (((s1.wr HDMA_ENG_STAT.STOPPED 1).wr HDMA_ENG_STAT.CAUSE cause).wr HDMA_ENG_ADDR_LO.ADDR addr).wr HDMA_ENG_ADDR_HI.ADDR (addr / 2 ^ 32)
    ((List.range 8).filter (fun p => (List.range 32).any (fun c => s.hPart c = some p))).foldl (fun st p =>
      st.record p (errorRecord p 0x14 cause 0 0xFFF (st.stepOf p) 0x1FFF 0 0 (match place with | some (n, a) => st.regionEntry p n a | none => []))) s2

/-! Data movement. -/

/-- How an access of the engine ends: data, or the stopped engine. -/
abbrev HdmaRes (α : Type) := Except State α

/-- An armed HDMA_INJ.BUS_ERR makes the next response an error (Table 9.9). -/
def State.hdmaInjected (s : State) (a : Int) : HdmaRes State :=
  if s.flag HDMA_INJ.BUS_ERR then .error ((s.wr HDMA_INJ.BUS_ERR 0).hdmaStop 6 a.toNat none) else .ok s

/-- The same for a read of host memory, where an armed PCI_INJ.CTO also acts: a completion treated as timed out (Table 12.14). -/
def State.hdmaHostInjected (s : State) (a : Int) : HdmaRes State := do
  let s1 ← s.hdmaInjected a
  if s1.flag PCI_INJ.CTO then .error (((s1.wr PCI_INJ.CTO 0).raise PCI_ERR_STAT.CTO).hdmaStop 1 a.toNat none) else .ok s1

/-- Read bytes at an address of space 1 to 3. -/
def State.hdmaRead (s : State) (c space : Nat) (a : Int) (len : Nat) : HdmaRes (State × List Byte) := do
  let s1 ← s.hdmaInjected a
  match s1.hTarget c space a.toNat with
  | none => .error (s1.hdmaStop (if space = 1 then 2 else if space = 2 then 4 else 3) a.toNat none)
  | some (n, o) =>
    if space = 1 then
      match s1.portRead .hostDma n o len with
      | (s2, .ok, b) => .ok (s2, b)
      | (s2, _, _) => .error (s2.hdmaStop 2 a.toNat (some (n, o)))
    else if space = 2 then
      let r := s1.lsramRead n o len
      if r.2.1 then .ok (r.1, r.2.2) else .error (r.1.hdmaStop 4 a.toNat none)
    else
      let r := s1.wayRead n o len
      if r.2.1 then .ok (r.1, r.2.2) else .error (r.1.hdmaStop 3 a.toNat none)

/-- Write bytes at an address of space 0 to 3. -/
def State.hdmaWrite (s : State) (c space : Nat) (a : Int) (data : List Byte) : HdmaRes State := do
  let s1 ← s.hdmaInjected a
  if space = 0 then .ok (s1.send (.hostWrite (s1.hFn c) a.toNat data))
  else
    match s1.hTarget c space a.toNat with
    | none => .error (s1.hdmaStop (if space = 1 then 2 else if space = 2 then 4 else 3) a.toNat none)
    | some (n, o) =>
      if space = 1 then
        match s1.portWrite .hostDma n o data with
        | (s2, .ok) => .ok s2
        | (s2, _) => .error (s2.hdmaStop 2 a.toNat (some (n, o)))
      else if space = 2 then
        let r := s1.lsramWrite n o data
        if r.2 then .ok r.1 else .error (r.1.hdmaStop 4 a.toNat none)
      else
        let r := s1.wayWrite n o data
        if r.2 then .ok r.1 else .error (r.1.hdmaStop 3 a.toNat none)

/-- The context whose queue a video side of channel c moves: the one that names c in TAKERS; which one otherwise is not stated, a free
value. -/
def State.queueCtx (s : State) (e c : Nat) : Nat := (s.ctxOfChan e c).getD (s.free % 16)

/-- The source bytes `[x, x + len)` of the stream: `host` holds those of a host source, in order. -/
def State.hdmaGather (s : State) (c : Nat) (d : TdmaSide) (host : List Byte) (x len : Nat) : HdmaRes (State × List Byte) :=
  if d.space = 0 then do
    let s1 ← s.hdmaHostInjected d.addr
    .ok (s1, (List.range len).map (fun i => host.getD i 0))
  else if d.space = 4 then do
    let s0 ← s.hdmaInjected d.addr
    let e := bits d.addr 0 3
    let k := s0.queueCtx e c
    let v := s0.vctx e k
    let r ← (ringPieces (s0.queueSize e k) (v.wr + s0.queueSize e k - v.fill % s0.queueSize e k) len).foldlM (fun (acc : State × List Byte) p =>
      match acc.1.partRead .hostDma (acc.1.vidPart e) (acc.1.queueAddr e k + p.1) p.2 with
      | (s2, .ok, b) => Except.ok (s2, acc.2 ++ b)
      | (s2, _, _) => .error (s2.hdmaStop 5 d.addr none)) (s0, [])
    .ok (r.1.setVctx e k { r.1.vctx e k with fill := v.fill - len }, r.2)
  else
    (d.pieces x len).foldlM (fun (acc : State × List Byte) p => do
      let (st, b) ← acc.1.hdmaRead c d.space p.1 p.2
      .ok (st, acc.2 ++ b)) (s, [])

/-- The destination takes `data` as the stream's bytes from x on; a HALTED decode context discards what its queue is given (R310). -/
def State.hdmaScatter (s : State) (c : Nat) (d : TdmaSide) (x : Nat) (data : List Byte) : HdmaRes State :=
  if d.space = 4 then do
    let s0 ← s.hdmaInjected d.addr
    let e := bits d.addr 0 3
    let k := s0.queueCtx e c
    let v := s0.vctx e k
    if s0.rd (VID_CTX_STAT.STATE e k) = 3 then .ok s0
    else
      let r ← (ringPieces (s0.queueSize e k) v.wr data.length).foldlM (fun (acc : State × List Byte) p =>
        match acc.1.partWrite .hostDma (acc.1.vidPart e) (acc.1.queueAddr e k + p.1) (acc.2.take p.2) with
        | (s2, .ok) => Except.ok (s2, acc.2.drop p.2)
        | (s2, _) => .error (s2.hdmaStop 5 d.addr none)) (s0, data)
      .ok (r.1.setVctx e k { r.1.vctx e k with wr := (v.wr + data.length) % s0.queueSize e k, fill := v.fill + data.length })
  else do
    let r ← (d.pieces x data.length).foldlM (fun (acc : State × List Byte) p => do
      let st ← acc.1.hdmaWrite c d.space p.1 (acc.2.take p.2)
      .ok (st, acc.2.drop p.2)) (s, data)
    .ok r.1

/-- How many bytes of the rest of the stream can move now: a read of the encoded output waits for whole records, a write of the input queue
for space (R296, R307). -/
def State.hdmaRoom (s : State) (c : Nat) (w : List Nat) (rest : Nat) : Nat :=
  let a := hdmaSrc w
  let b := hdmaDst w
  let es := bits a.addr 0 3
  let ed := bits b.addr 0 3
  let ks := s.queueCtx es c
  let kd := s.queueCtx ed c
  let m1 := if a.space = 4 then (s.vctx es ks).fill / max 1 a.line * a.line else rest
  let m2 := if b.space = 4 ∧ s.rd (VID_CTX_STAT.STATE ed kd) ≠ 3 then (if s.vidOn ed kd then s.queueSize ed kd - (s.vctx ed kd).fill else 0) else rest
  min rest (min m1 m2)

/-- A converted pixel: element bytes filled up to the pixel pitch, scale bytes (R57, R273). -/
def convertPixel (f : Fmt) (pitch : Nat) (vals : List Val) : List Byte × List Byte :=
  let r := convertRun [] f (fun i => i) (fun _ => .zero) vals
  (r.1 ++ List.replicate (pitch - r.1.length) 0, r.2.1)

/-- The destination lines of a regrouped or converted image, each with its row of scale bytes (R272, R273). -/
def regroupLines (w : List Nat) (src : List Byte) : List (List Byte × List Byte) :=
  let f := s2dFactor w
  let a := hdmaSrc w
  let pix := srcPix w
  let e := cvtBytes w
  (List.range (hdmaDst w).n1).map (fun y =>
    let px := (List.range (a.line / max 1 pix / f)).map (fun x =>
      let raw := (List.range (f * f)).flatMap (fun i => (src.drop ((f * y + i / f) * a.line + (f * x + i % f) * pix)).take pix)
      if e = 0 then (raw ++ List.replicate (dstPix w - raw.length) 0, [])
      else
        let vals := (List.range (raw.length / e)).map (fun i =>
          let c := leVal ((raw.drop (e * i)).take e)
          if e = 1 then Val.num false c 0 else floatVal .bf16 c)
        convertPixel ((cvtFmt w).getD .fp32) (dstPix w) vals)
    (px.flatMap (·.1), px.flatMap (·.2)))

/-- A step of moving the descriptor's data: the state, and the bytes moved in all. -/
def State.hdmaMove (s : State) (c : Nat) (w : List Nat) (host : List Byte) : HdmaRes (State × Nat) := do
  let x := (s.hch c).sent
  let a0 := hdmaSrc w
  let a := match (s.hch c).frame with | some (_, _, _, base) => { a0 with addr := base + a0.addr } | none => a0
  let b := hdmaDst w
  let room := s.hdmaRoom c w (if regroups w then a.bytes else b.bytes - x)
  if !regroups w then
    if room = 0 then .ok (s, x)
    else
      let (s1, data) ← s.hdmaGather c a host x room
      let s2 ← s1.hdmaScatter c b x data
      .ok (s2, x + room)
  else if room < a.bytes ∧ a.space = 4 then .ok (s, 0)
  else if b.space = 4 ∧ room < b.bytes then .ok (s, 0)
  else
    let (s1, data) ← s.hdmaGather c a host 0 a.bytes
    let lines := regroupLines w data
    let s2 ← s1.hdmaScatter c b 0 (lines.flatMap (·.1))
    let (s3, _) ← lines.foldlM (fun (acc : State × Nat) l => do
      let at0 : Int := (scaleBase w : Int) + (acc.2 : Int) * b.s1 / (((cvtFmt w).getD .fp32).blockBytes : Int)
      let st ← if l.2.isEmpty ∨ b.space = 4 then Except.ok acc.1 else acc.1.hdmaWrite c b.space at0 l.2
      .ok (st, acc.2 + 1)) (s2, 0)
    .ok (s3, b.bytes)

/-! Entries (R268, R271). -/

/-- The address of the entry at HEAD. -/
def State.entryAddr (s : State) (c : Nat) : Nat :=
  s.rd (HDMA_CH_RING_HI.BASE_HI c) * 2 ^ 32 + s.rd (HDMA_CH_RING_LO.BASE c) * 64 + 64 * s.rd (HDMA_CH_STAT.HEAD c)

/-- The channel makes a fetch at HEAD. -/
def State.hdmaFetch (s : State) (c : Nat) : State := (s.setHch c { s.hch c with fetch := true }).setHState c 2

/-- Writeback: status, then word 0 with OWN 0, then the vector (R271). -/
def State.hdmaStatus (s : State) (c : Nat) (w : List Nat) (code lines : Nat) : HdmaRes State := do
  let space := if s.rd (HDMA_CH_RING_CFG.SPACE c) = 0 then 0 else 1
  let s1 ← s.hdmaWrite c space ((s.entryAddr c + 0x38 : Nat) : Int) (leBytes 4 code ++ leBytes 4 lines)
  let s2 ← s1.hdmaWrite c space (s1.entryAddr c : Int) (leBytes 4 (w.getD 0 0 / 2 * 2))
  let s3 := s2.wr (HDMA_CH_STAT.LAST_CODE c) code
  .ok (if dfld w 0 1 1 = 1 then s3.sendVec (s3.hFn c) (s3.rd (HDMA_CH_RING_CFG.VECTOR c)) else s3)

/-- HEAD advances and the channel goes on: FENCED, HALTED after a refusal, or the next fetch (R268, R274, R278). -/
def State.hdmaNext (s : State) (c : Nat) (refused : Bool) : State :=
  let s1 := s.wr (HDMA_CH_STAT.HEAD c) ((s.rd (HDMA_CH_STAT.HEAD c) + 1) % 2 ^ s.rd (HDMA_CH_RING_CFG.RING_LOG2 c))
  let s2 := s1.hdmaBoundary c
  if s2.flag (HDMA_CH_CTRL.FENCE c) then s2.setHState c 5 else if refused then s2.setHState c 4 else s2.hdmaFetch c

/-- FENCE set on a host/video channel: between descriptors it is FENCED at once (R278). -/
def State.hostFence (s : State) (c : Nat) : State :=
  let s1 := s.wr (HDMA_CH_CTRL.FENCE c) 1
  let st := s.hState c
  if st = 1 ∨ st = 3 ∨ st = 4 ∨ (st = 2 ∧ (s.hch c).entry.isNone) then (s1.hdmaBoundary c).setHState c 5 else s1

/-- ENABLE cleared on a host/video channel: it is dropped at once, and HEAD and the destination are free values (R279). -/
def State.hostDisable (s : State) (c : Nat) : State :=
  if s.flag (HDMA_CH_CTRL.ENABLE c) then
    let s0 := if s.rd (HDMA_CH_RING_CFG.SPACE c) ≠ 0 ∧ (s.hch c).entry.isSome then s.undefHost c 1 (s.entryAddr c + 0x3C : Nat) 4 else s
    let s1 := (s0.wr (HDMA_CH_CTRL.ENABLE c) 0).dropHch c 0
    (s1.wr (HDMA_CH_STAT.HEAD c) s1.free).drew
  else s

end Sys2Proof.Machine
end

