-- ==== Sys2Proof/Machine/Hdma.lean ====
section
/-! DEFINITION. The commands of host/video DMA, and the fence, enable and commit of the channels of both engines (R268 to R282, R289). -/

namespace Sys2Proof.Machine
open Reg

/-- CHANNEL_FENCE: FENCE set (R278). -/
def execChannelFence (ch : DmaCh) (s : State) : Next :=
  .next (match ch with
    | .tensor g c => s.tensorFence g c
    | .host c => s.hostFence c)

/-- CHANNEL_UNFENCE: FENCE cleared; a fenced channel returns to IDLE, a host/video channel fetches at HEAD (R278). -/
def execChannelUnfence (ch : DmaCh) (s : State) : Next :=
  .next (match ch with
    | .tensor g c =>
      let s1 := s.wr (TDMA_CH_CTRL.FENCE g c) 0
      if s.rd (TDMA_CH_STAT.STATE g c) = 3 then s1.wr (TDMA_CH_STAT.STATE g c) 1 else s1
    | .host c =>
      let s1 := s.wr (HDMA_CH_CTRL.FENCE c) 0
      if s.hState c = 5 then s1.hdmaFetch c else s1)

/-- CHANNEL_DISABLE: ENABLE cleared; the channel is dropped at once and HEAD, TDMA_CH_BYTES and the destination are free values (R279). -/
def execChannelDisable (ch : DmaCh) (s : State) : Next :=
  .next (match ch with
    | .tensor g c => s.tensorDisable g c
    | .host c => s.hostDisable c)

/-- CHANNEL_ENABLE: ENABLE set; IDLE, a host/video channel at HEAD 0, or FENCED while FENCE is 1 (R279). -/
def execChannelEnable (ch : DmaCh) (s : State) : Next :=
  .next (match ch with
    | .tensor g c =>
      if s.flag (TDMA_CH_CTRL.ENABLE g c) then s
      else (s.wr (TDMA_CH_CTRL.ENABLE g c) 1).wr (TDMA_CH_STAT.STATE g c) (if s.flag (TDMA_CH_CTRL.FENCE g c) then 3 else 1)
    | .host c =>
      if s.flag (HDMA_CH_CTRL.ENABLE c) then s
      else ((s.wr (HDMA_CH_CTRL.ENABLE c) 1).wr (HDMA_CH_STAT.HEAD c) 0).setHState c (if s.flag (HDMA_CH_CTRL.FENCE c) then 5 else 1))

/-- CHANNEL_CFG_COMMIT: at the next descriptor boundary, or at once when no descriptor runs (R289). -/
def execChannelCfgCommit (ch : DmaCh) (s : State) : Next :=
  .next (match ch with
    | .tensor g c =>
      if s.rd (TDMA_CH_STAT.STATE g c) = 2 then s.setTch g c { s.tch g c with staged := true } else s.tdmaApply g c
    | .host c =>
      if (s.hch c).entry.isSome then s.setHch c { s.hch c with staged := true } else s.hdmaApply c)

/-- HDMA_DOORBELL: a write of HDMA_CH_DB by PF0, or by the VF of the channel's partition (R268, R289). -/
def execHdmaDoorbell (c : Fin 32) (fn : Func) (s : State) : Next :=
  let ring (s : State) : State :=
    if s.hState c = 1 then s.hdmaFetch c else if s.hState c = 0 then s else s.wr (HDMA_CH_STAT.DB_PENDING c) 1
  .next (match fn with
    | .pf0 => ring s
    | .vf v => if s.hPart c = some v.val then ring s else s.logUr)

/-- HDMA_ENTRY_FETCH: the entry at HEAD is read, `words` being it when the ring lies in host memory; it is left, refused, made to wait for
its trigger, or started (R268, R274, R275). -/
def execHdmaEntryFetch (c : Fin 32) (words : List Word) (s : State) : Next :=
  if s.hState c ≠ 2 ∨ (s.hch c).fetch = false then .next s
  else
    let got : HdmaRes (State × List Nat) :=
      if s.rd (HDMA_CH_RING_CFG.SPACE c) = 0 then
        (match s.hdmaHostInjected (s.entryAddr c) with
         | .ok s1 => .ok (s1, (List.range 16).map (fun i => (words.getD i 0).toNat))
         | .error s1 => .error s1)
      else
        match s.hdmaRead c 1 (s.entryAddr c) 64 with
        | .ok (s1, b) => .ok (s1, wordsOfBytes 16 b)
        | .error s1 => .error s1
    match got with
    | .error s1 => .next s1
    | .ok (s1, w) =>
      let x := s1.hch c
      .next (if dfld w 0 0 1 = 0 then
          if s1.flag (HDMA_CH_STAT.DB_PENDING c) then s1.wr (HDMA_CH_STAT.DB_PENDING c) 0
          else (s1.setHch c { x with fetch := false }).setHState c 1
        else
          let code := if s1.hdescBad c w then 0x10 else if !s1.hAccessOk c w then 0x11 else 0
          let s2 := s1.setHch c { x with fetch := false, entry := some w, code := code, sent := 0 }
          if code = 0 ∧ dfld w 0 23 1 = 1 then s2.setHState c 3 else s2)

/-- HDMA_TRIGGER: the oldest reported frame that the channel has not taken; its slot is held and the descriptor runs (R275, R301). -/
def execHdmaTrigger (c : Fin 32) (s : State) : Next :=
  .next (match (s.hch c).entry with
    | none => s
    | some w =>
      if s.hState c ≠ 3 then s
      else
        let e := dfld w 0 20 3
        match s.ctxOfChan e c with
        | none => s
        | some k =>
          let x := s.vctx e k
          match x.slots.find? (fun t => !t.taken.contains c.val) with
          | none => s
          | some t =>
            let s1 := s.setVctx e k { x with slots := x.slots.map (fun u => if u.slot = t.slot then { u with taken := u.taken ++ [c.val], held := u.held ++ [c.val] } else u) }
            (s1.setHch c { s1.hch c with frame := some (e, k, t.slot, s1.frameAddr e k t.slot) }).setHState c 2)

/-- HDMA_WRITEBACK: the data moves (`host` holds the bytes that a host source still gives), and once all of it has moved, or the entry was
refused, the entry is written back and HEAD advances (R271 to R273). A descriptor that a video queue holds up moves what it can. -/
def execHdmaWriteback (c : Fin 32) (host : List Byte) (s : State) : Next :=
  match (s.hch c).entry with
  | none => .next s
  | some w =>
    if s.hState c ≠ 2 then .next s
    else if (s.hch c).code ≠ 0 then
      match s.hdmaStatus c w (s.hch c).code 0 with
      | .error s1 => .next s1
      | .ok s1 => .next (s1.hdmaNext c true)
    else
      match s.hdmaMove c w host with
      | .error s1 => .next s1
      | .ok (s1, moved) =>
        if moved < (hdmaDst w).bytes then .next (s1.setHch c { s1.hch c with sent := moved })
        else
          match s1.hdmaStatus c w 1 (hdmaDst w).n1 with
          | .error s2 => .next s2
          | .ok s2 => .next (s2.hdmaNext c false)

/-- HDMA_RESUME: HDMA_CH_CTRL.RESUME of a HALTED channel (R274). -/
def execHdmaResume (c : Fin 32) (s : State) : Next := .next (if s.hState c = 4 then s.hdmaFetch c else s)

/-- HDMA_BUS_ERROR: an error response from outside what the model computes: cause and failing address, the module physical address for a
port (R282). -/
def execHdmaBusError (cause : Fin 8) (addr : BitVec 64) (s : State) : Next :=
  .next ((s.raiseIf (cause = 1) PCI_ERR_STAT.UC_RX).hdmaStop cause addr.toNat (if cause = 2 then some (addr.toNat / 2 ^ 36 % 16, addr.toNat % 2 ^ 36) else none))

/-- Every STOPPED channel returns to IDLE and fetches at HEAD, or to FENCED while its FENCE is 1 (R278, R282). -/
def State.hdmaRestarted (s : State) : State :=
  (List.range 32).foldl (fun st c =>
    if st.hState c ≠ 6 then st else if st.flag (HDMA_CH_CTRL.FENCE c) then st.setHState c 5 else st.hdmaFetch c)
    ({ s.wr HDMA_ENG_STAT.STOPPED 0 with hdma := { s.hdma with restart := false } })

/-- HDMA_RESTART: HDMA_ENG_CTRL.RESTART; it waits while an HDMA_STOP record is held (R282, R356). -/
def execHdmaRestart (s : State) : Next :=
  .next (if !s.flag HDMA_ENG_STAT.STOPPED then s
    else if (List.range 8).any (fun p => s.holds p 0x14) then { s with hdma := { s.hdma with restart := true } }
    else s.hdmaRestarted)

end Sys2Proof.Machine
end

