-- ==== Sys2Proof/Machine/PftOps.lean ====
section
/-! DEFINITION. The page-frame table unit: frames, table area, directories and leaves, pins and retired items, KV storage
(R138 to R149, R155 to R157). -/

namespace Sys2Proof.Machine
open Reg

/-! Geometry of a pool (R138 to R144). -/

/-- FRAME_BYTES of partition p. -/
def State.frameBytes (s : State) (p : Nat) : Nat := s.inEff (PFT_FRAME_SIZE.FRAME_4K p) * 4096
/-- Frames of the pool, and the first frame of the provisional region. -/
def State.poolFrames (s : State) (p : Nat) : Nat := s.inEff (PFT_POOL_FRAMES.FRAMES p)
def State.provFirst (s : State) (p : Nat) : Nat := s.poolFrames p - s.inEff (PFT_PROV_FRAMES.PROV p)
/-- The pool's format, head dimension, layers and heads. -/
def State.kvFmt (s : State) (p : Nat) : Fmt := (Fmt.ofCode (s.inEff (PFT_GEOM.KV_FMT p))).getD .e4m3
def State.kvDim (s : State) (p : Nat) : Nat := 32 * s.inEff (PFT_GEOM.DIM32 p)
def State.kvHeads (s : State) (p : Nat) : Nat := s.inEff (PFT_GEOM.HL p)
def State.kvLayers (s : State) (p : Nat) : Nat := s.inEff (PFT_GEOM.LAYERS p)

/-- x rounded up to a multiple of 64 (R140). -/
def ceil64 (x : Nat) : Nat := (x + 63) / 64 * 64

/-- The bytes of a K row and of its scales, of the K part, of a V row of 32 positions, of a V sub-block, and H_B (Table 5.1). -/
def kRowBytes (f : Fmt) (dim : Nat) : Nat := dim * f.bits / 8
def kRowScales (f : Fmt) (dim : Nat) : Nat := if f.isMx then dim / 32 else 0
def kPartBytes (f : Fmt) (dim : Nat) : Nat := 64 * (kRowBytes f dim + kRowScales f dim)
def vRowBytes (f : Fmt) : Nat := 4 * f.bits
def vSubBytes (f : Fmt) (dim : Nat) : Nat := ceil64 (dim * vRowBytes f + (if f.isMx then dim else 0))
def headBytes (f : Fmt) (dim : Nat) : Nat := kPartBytes f dim + 2 * vSubBytes f dim

/-- The port-local address of an offset in the slice of frame f (R139). -/
def State.sliceAddr (s : State) (p f off : Nat) : Nat := s.inEff (PFT_POOL_BASE.BASE p) * 4096 + f * s.frameBytes p + off

/-- The slice offset of the head block of a layer and local head in a page (R139), of a tail row (R142), and of a provisional
node (R144). -/
def State.headOff (s : State) (p layer h : Nat) : Nat := 64 + (layer * s.kvHeads p + h) * headBytes (s.kvFmt p) (s.kvDim p)
def State.tailOff (s : State) (p layer h row : Nat) : Nat := 64 + (layer * s.kvHeads p + h) * (64 * s.kvDim p) + 2 * s.kvDim p * row
/-- P of R144. -/
def State.provPer (s : State) (p : Nat) : Nat :=
  match s.kvFmt p with
  | .bf16 => 1 | .e2m1 => 4
  | .fp32 => 2 | .e4m3 => 2 | .e5m2 => 2 | .e3m2 => 2 | .e2m3 => 2 | .mxint8 => 2 | .int8 => 2 | .int4 => 2
def State.provOff (s : State) (p layer h node : Nat) : Nat :=
  64 + (layer * s.kvHeads p + h) * (256 * s.kvDim p / s.provPer p) + node / s.provPer p * (4 * s.kvDim p)

/-! The table area (R147). -/

/-- The port of the table area and the port-local address of a byte of it. -/
def State.tablePort (s : State) (p : Nat) : Nat := s.inEff (PFT_TABLE_BASE.TABLE_PORT p)
def State.tableAddr (s : State) (p off : Nat) : Nat := s.inEff (PFT_TABLE_BASE.BASE p) * 4096 + off

/-- The word a table area holds, without any of a read's effects. -/
def State.tablePeek (s : State) (p off : Nat) : Nat :=
  let n := s.tablePort p
  let a := s.tableAddr p off
  leVal (((s.viewUnit n (a / 128) (s.unitKey n (a / 128))).drop (a % 128)).take 4)

/-- A command that goes on, or its status when it fails, with the state. -/
abbrev PftRes := Except (Nat × State)

/-- The partition's unit state enters FAULT on a word of frame or table frame `f` (R168, Tables 5.22, 5.23). -/
def State.pftFault (s : State) (p f : Nat) (why : Fld) : State :=
  let s1 := if s.flag PFT_ERR_STAT.MEM_UE || s.flag PFT_ERR_STAT.REF_UNDERFLOW then s
    else (s.wr PFT_ERR_INFO.FRAME f).wr PFT_ERR_INFO.PART p
  (s1.raise why).wr PFT_ERR_STAT.FAULT (s1.rd PFT_ERR_STAT.FAULT ||| 2 ^ p)

/-- Partition p's unit state is FAULT. -/
def State.pftFaulted (s : State) (p : Nat) : Bool := bit (s.rd PFT_ERR_STAT.FAULT) p

/-- A command's read of a word of the table area: an uncorrectable word, or an armed PFT_INJ.UE, ends it with MEM_UE and FAULT
(R168, Table 5.11). `f` is the frame or table frame that the error record names. -/
def State.tableRead (s : State) (p off f : Nat) : PftRes (State × Nat) :=
  if s.flag PFT_INJ.UE then .error (9, (s.wr PFT_INJ.UE 0).pftFault p f PFT_ERR_STAT.MEM_UE)
  else
    match s.portRead .engine (s.tablePort p) (s.tableAddr p off) 4 with
    | (s1, .ok, b) => .ok (s1, leVal b)
    | (s1, .refused, _) => .error (9, s1.pftFault p f PFT_ERR_STAT.MEM_UE)
    | (s1, .uncorrectable, _) => .error (9, s1.pftFault p f PFT_ERR_STAT.MEM_UE)

/-- A command's write into the table area. -/
def State.tableWrite (s : State) (p off f : Nat) (data : List Byte) : PftRes State :=
  match s.portWrite .engine (s.tablePort p) (s.tableAddr p off) data with
  | (s1, .ok) => .ok s1
  | (s1, .refused) => .error (9, s1.pftFault p f PFT_ERR_STAT.MEM_UE)
  | (s1, .uncorrectable) => .error (9, s1.pftFault p f PFT_ERR_STAT.MEM_UE)

/-- The state word of a frame: count in [15:0], state in [17:16] (R155). -/
def frameWord (count st : Nat) : Nat := count % 2 ^ 16 + st % 4 * 2 ^ 16
def State.frameRead (s : State) (p f : Nat) : PftRes (State × Nat) := s.tableRead p (4 * f) f
def State.frameWrite (s : State) (p f count st : Nat) : PftRes State := s.tableWrite p (4 * f) f (leBytes 4 (frameWord count st))

/-- Table frames that the frame state array takes (R155). -/
def State.arrayFrames (s : State) (p : Nat) : Nat := ceilDiv (4 * s.poolFrames p) 4096

/-- What a table line holds, and its change. -/
def lineKey (p t l : Nat) : Nat := p * 2 ^ 32 + t * 64 + l
def State.lineState (s : State) (p t l : Nat) : Nat := Cells.get 0 s.pft.lines (lineKey p t l)
def State.setLine (s : State) (p t l v : Nat) : State :=
  { s with pft := { s.pft with lines := Cells.set 0 s.pft.lines (lineKey p t l) v } }
def State.setLeaf (s : State) (p t v : Nat) : State := (List.range 64).foldl (fun st l => st.setLine p t l v) s

/-! Allocation. Which free frame or line is taken is not stated: the search starts at a free value (log 1). -/

/-- The first place of `[lo, lo + n)`, from a start that is open, for which `ok` holds. -/
def findFrom (start lo n : Nat) (ok : Nat → Bool) : Option Nat :=
  ((List.range n).find? (fun i => ok (lo + (start + i) % n))).map (fun i => lo + (start + i) % n)

/-- The slice header of a frame (Table 5.2). -/
def State.sliceHeader (s : State) (p f kind : Nat) : List Byte :=
  leBytes 4 (s.inEff (PFT_GEOM.KV_FMT p) + 1 * 2 ^ 4 + kind * 2 ^ 8 + p * 2 ^ 10) ++ leBytes 4 f ++ List.replicate 56 0

/-- Write bytes at the same slice offset on the port of every Lathe of the partition; a write that is not performed ends the
command (log 14). -/
def State.slicesWrite (s : State) (p f off : Nat) (data : List Byte) : PftRes State :=
  (s.lathesOf p).foldlM (fun st n =>
    match st.portWrite .engine n (st.sliceAddr p f off) data with
    | (s1, .ok) => .ok s1
    | (s1, .refused) => .error (9, s1.pftFault p f PFT_ERR_STAT.MEM_UE)
    | (s1, .uncorrectable) => .error (9, s1.pftFault p f PFT_ERR_STAT.MEM_UE)) s

/-- Take a free frame: from the pool below the provisional region, or from that region; its state word becomes count 1 and
`st`, and its slice headers are written with `kind` (R141, R155). -/
def State.allocFrame (s : State) (p : Nat) (prov : Bool) (st kind : Nat) : PftRes (State × Nat) :=
  if s.flag PFT_INJ.NOFRAME then .error (1, s.wr PFT_INJ.NOFRAME 0)
  else
    let lo := if prov then s.provFirst p else 0
    let n := if prov then s.poolFrames p - s.provFirst p else s.provFirst p
    match findFrom s.free lo n (fun f => bits (s.tablePeek p (4 * f)) 16 2 = 0) with
    | none => .error (1, s)
    | some f => do
      let (s1, _) ← s.drew.frameRead p f
      let s2 ← s1.frameWrite p f 1 st
      let s3 := if prov then s2 else s2.wr (PFT_FREE.FRAMES p) (s2.rd (PFT_FREE.FRAMES p) - 1)
      let s4 ← s3.slicesWrite p f 0 (s3.sliceHeader p f kind)
      .ok (s4, f)

/-- Take a free table line for a directory. -/
def State.allocLine (s : State) (p : Nat) : PftRes (State × Nat × Nat) :=
  let lo := s.arrayFrames p * 64
  let n := s.inEff (PFT_TABLE_SIZE.SIZE p) * 64 - lo
  match findFrom s.free lo n (fun x => s.lineState p (x / 64) (x % 64) = 0) with
  | none => .error (2, s)
  | some x => .ok (s.drew.setLine p (x / 64) (x % 64) 1, x / 64, x % 64)

/-- Take a free table frame for a leaf. -/
def State.allocLeaf (s : State) (p : Nat) : PftRes (State × Nat) :=
  let lo := s.arrayFrames p
  match findFrom s.free lo (s.inEff (PFT_TABLE_SIZE.SIZE p) - lo) (fun t => (List.range 64).all (fun l => s.lineState p t l = 0)) with
  | none => .error (2, s)
  | some t => .ok (s.drew.setLeaf p t 1, t)

/-! Pins and retired items (R155 to R157). -/

def State.pftGen (s : State) (p : Nat) : Nat := Cells.get 0 s.pft.gen p
def State.pinCnt (s : State) (p g : Nat) : Nat := Cells.get 0 s.pft.cnt (2 * p + g)
def State.pinPins (s : State) (p g : Nat) : Nat := Cells.get 0 s.pft.pins (2 * p + g)
def State.retired (s : State) (p g : Nat) : List KvItem := Cells.get [] s.pft.lst (2 * p + g)

/-- PFT_WALKS shows the pins and the generation (Table 5.36). -/
def State.showWalks (s : State) (p : Nat) : State :=
  (((s.wr (PFT_WALKS.CNT0 p) (min 32767 (s.pinCnt p 0))).wr (PFT_WALKS.CNT1 p) (min 32767 (s.pinCnt p 1))).wr (PFT_WALKS.GEN p) (s.pftGen p)).wr
    (PFT_WALKS.RETIRED p) (b2n (!(s.retired p 0).isEmpty || !(s.retired p 1).isEmpty))

def State.setCnt (s : State) (p g v : Nat) : State := ({ s with pft := { s.pft with cnt := Cells.set 0 s.pft.cnt (2 * p + g) v } }).showWalks p
def State.setPins (s : State) (p g v : Nat) : State := { s with pft := { s.pft with pins := Cells.set 0 s.pft.pins (2 * p + g) v } }
def State.setRetired (s : State) (p g : Nat) (l : List KvItem) : State :=
  ({ s with pft := { s.pft with lst := Cells.set [] s.pft.lst (2 * p + g) l } }).showWalks p

/-- One pin in the current generation (latch or PIN). -/
def State.takePin (s : State) (p : Nat) : State := s.setCnt p (s.pftGen p) (s.pinCnt p (s.pftGen p) + 1)
/-- The end of a pin of generation g. -/
def State.endPin (s : State) (p g : Nat) : State := s.setCnt p g (s.pinCnt p g - 1)

/-- An item is retired in the current generation. -/
def State.retireItem (s : State) (p : Nat) (it : KvItem) : State :=
  let g := s.pftGen p
  let s1 := match it with
    | .frame _ => s
    | .line t l => s.setLine p t l 2
    | .leaf t => s.setLeaf p t 2
  s1.setRetired p g (s1.retired p g ++ [it])

/-- Drop a page (Table 5.6, R155): its frame's count less 1; at 0 the frame is retired; a count of 0, or an armed
PFT_INJ.UNDER, is an underflow. -/
def State.dropFrame (s : State) (p f : Nat) : PftRes State := do
  let (s1, w) ← s.frameRead p f
  if s1.flag PFT_INJ.UNDER || w % 2 ^ 16 = 0 then
    .error (9, (s1.wr PFT_INJ.UNDER 0).pftFault p f PFT_ERR_STAT.REF_UNDERFLOW)
  else if w % 2 ^ 16 = 1 then
    let s2 ← s1.frameWrite p f 0 2
    .ok (s2.retireItem p (.frame f))
  else s1.frameWrite p f (w % 2 ^ 16 - 1) (bits w 16 2)

/-- A retired item returns to the free pool (R155, R156). -/
def State.freeItem (s : State) (p : Nat) (it : KvItem) : PftRes State :=
  match it with
  | .frame f => do
    let s1 ← s.frameWrite p f 0 0
    .ok (if f < s1.provFirst p then s1.wr (PFT_FREE.FRAMES p) (s1.rd (PFT_FREE.FRAMES p) + 1) else s1)
  | .line t l => .ok (s.setLine p t l 0)
  | .leaf t => .ok (s.setLeaf p t 0)

/-! Directories and leaves (R147, R149). -/

def State.kvRec (s : State) (slot : Nat) : KvRec := Cells.get {} s.pft.recs slot
def State.setRec (s : State) (slot : Nat) (r : KvRec) : State :=
  { s with pft := { s.pft with recs := Cells.set {} s.pft.recs slot r } }

/-- Entry i of the directory of a record: the leaf's table frame, when valid. -/
def State.dirRead (s : State) (p : Nat) (r : KvRec) (i : Nat) : PftRes (State × Option Nat) := do
  let (s1, w) ← s.tableRead p (r.rootFrame * 4096 + r.rootLine * 64 + 4 * i) r.rootFrame
  .ok (s1, if bit w 24 then some (w % 2 ^ 24) else none)

/-- The pool frame of page `pg` of a record, when its entry is valid. -/
def State.pageRead (s : State) (p : Nat) (r : KvRec) (pg : Nat) : PftRes (State × Option Nat) := do
  let (s1, leaf) ← s.dirRead p r (pg / 1024)
  match leaf with
  | none => .ok (s1, none)
  | some t =>
    let (s2, w) ← s1.tableRead p (t * 4096 + 4 * (pg % 1024)) t
    .ok (s2, if bit w 24 then some (w % 2 ^ 24) else none)

/-- A valid entry that names a frame, or an entry that is not valid. -/
def entryWord (f : Option Nat) : Nat := match f with | some x => x % 2 ^ 24 + 2 ^ 24 | none => 0

/-- A copy of a leaf with changed entries: the new table frame (R149). With no old leaf the copy starts empty. -/
def State.copyLeaf (s : State) (p : Nat) (old : Option Nat) (edits : List (Nat × Option Nat)) : PftRes (State × Nat) := do
  let (s1, t) ← s.allocLeaf p
  let s2 ← (match old with
    | none => s1.tableWrite p (t * 4096) t (List.replicate 4096 0)
    | some o => (List.range 1024).foldlM (fun (st : State) i => do
        let (st1, w) ← st.tableRead p (o * 4096 + 4 * i) o
        st1.tableWrite p (t * 4096 + 4 * i) t (leBytes 4 w)) s1)
  let s3 ← edits.foldlM (fun (st : State) e => st.tableWrite p (t * 4096 + 4 * (e.1 % 1024)) t (leBytes 4 (entryWord e.2))) s2
  .ok (s3, t)

/-- An edit of a slot's page table (R149): the directory and every leaf with a changed entry are copied, the root is replaced
in one write, and the old lines are retired. `edits` are pages with their new frames. -/
def State.editTable (s : State) (p slot : Nat) (edits : List (Nat × Option Nat)) : PftRes State := do
  if edits.isEmpty then .ok s
  else
    let r := s.kvRec slot
    let (s1, t, l) ← s.allocLine p
    let (s2, old) ← (List.range 16).foldlM (fun (acc : State × List (Option Nat)) i => do
      let (st, e) ← acc.1.dirRead p r i
      .ok (st, acc.2 ++ [e])) (s1, [])
    let (s3, new, gone) ← (List.range 16).foldlM (fun (acc : State × List (Option Nat) × List Nat) i => do
      let mine := edits.filter (fun e => e.1 / 1024 = i)
      if mine.isEmpty then .ok (acc.1, acc.2.1 ++ [old.getD i none], acc.2.2)
      else
        let (st, x) ← acc.1.copyLeaf p (old.getD i none) mine
        .ok (st, acc.2.1 ++ [some x], acc.2.2 ++ (old.getD i none).toList)) (s2, [], [])
    let s4 ← s3.tableWrite p (t * 4096 + l * 64) t (new.flatMap (fun e => leBytes 4 (entryWord e)))
    let s5 := s4.setRec slot { s4.kvRec slot with rootFrame := t, rootLine := l }
    let s6 := s5.retireItem p (.line r.rootFrame r.rootLine)
    .ok (gone.foldl (fun st x => st.retireItem p (.leaf x)) s6)

/-- The pages of a slot with valid entries: page and frame. -/
def State.mappedPages (s : State) (p : Nat) (r : KvRec) : PftRes (State × List (Nat × Nat)) :=
  (List.range 16).foldlM (fun (acc : State × List (Nat × Nat)) i => do
    let (st, leaf) ← acc.1.dirRead p r i
    match leaf with
    | none => .ok (st, acc.2)
    | some t =>
      let (st2, l) ← (List.range 1024).foldlM (fun (a : State × List (Nat × Nat)) k => do
        let (st1, w) ← a.1.tableRead p (t * 4096 + 4 * k) t
        .ok (st1, if bit w 24 then a.2 ++ [(1024 * i + k, w % 2 ^ 24)] else a.2)) (st, [])
      .ok (st2, acc.2 ++ l)) (s, [])

/-- Append locks of a slot are released. -/
def State.unlockSlot (s : State) (slot : Nat) : State :=
  { s with pft := { s.pft with locks := s.pft.locks.filter (fun x => x.1 ≠ slot) } }
/-- A frame of partition p holds an append lock. -/
def State.frameLocked (s : State) (p f : Nat) : Bool := s.pft.locks.any (fun x => x.2 = f && (s.kvRec x.1).part = p)

/-! KV storage in slices (R140, R142, R144). -/

/-- How an access to a slice ends. -/
inductive SliceEnd where
  | ok
  | bad
deriving DecidableEq, Repr

/-- Read bytes of frame f's slice on the port of Lathe n. -/
def State.sliceRead (s : State) (p n f off len : Nat) : State × SliceEnd × List Byte :=
  match s.portRead .engine n (s.sliceAddr p f off) len with
  | (s1, .ok, b) => (s1, .ok, b)
  | (s1, .refused, _) => (s1, .bad, [])
  | (s1, .uncorrectable, _) => (s1, .bad, [])

/-- Write bytes of frame f's slice on the port of Lathe n. -/
def State.sliceWrite (s : State) (p n f off : Nat) (data : List Byte) : State × SliceEnd :=
  match s.portWrite .engine n (s.sliceAddr p f off) data with
  | (s1, .ok) => (s1, .ok)
  | (s1, .refused) => (s1, .bad)
  | (s1, .uncorrectable) => (s1, .bad)

/-- Packed codes of a run, without partial bytes (R44). -/
def packRun (f : Fmt) (codes : List Nat) : List Byte :=
  if f.bits = 4 then (List.range (ceilDiv codes.length 2)).map (fun g => BitVec.ofNat 8 (codes.getD (2 * g) 0 + codes.getD (2 * g + 1) 0 * 16))
  else codes.flatMap (fun c => leBytes (f.bits / 8) c)

/-- The codes of a packed run. -/
def unpackRun (f : Fmt) (b : List Byte) (k : Nat) : List Nat :=
  (List.range k).map (fun i =>
    if f.bits = 4 then bits (leVal ((b.drop (i / 2)).take 1)) (4 * (i % 2)) 4
    else leVal ((b.drop (i * (f.bits / 8))).take (f.bits / 8)))

/-- 32 BF16 values converted into a page format by round-to-nearest-even: scale and codes (R57). -/
def convBlock (f : Fmt) (vals : List Val) : Nat × List Nat × Exc := toMxBlock f (vals.map (fun _ => Rnd.rne)) vals

/-- Write the K row of a position into a page in KV_FMT (R146, R161): elements and the row's scales. -/
def State.putK (s : State) (p n f layer h t : Nat) (k : List Nat) : State × SliceEnd × Exc :=
  let fm := s.kvFmt p
  let dim := s.kvDim p
  let base := s.headOff p layer h
  if fm = .bf16 then
    let r := s.sliceWrite p n f (base + t * kRowBytes fm dim) (packRun fm k)
    (r.1, r.2, {})
  else
    let bs := (List.range (dim / 32)).map (fun b => convBlock fm ((List.range 32).map (fun i => floatVal .bf16 (k.getD (32 * b + i) 0))))
    let r := s.sliceWrite p n f (base + t * kRowBytes fm dim) (packRun fm (bs.flatMap (fun b => b.2.1)))
    let r2 := r.1.sliceWrite p n f (base + 64 * kRowBytes fm dim + t * (dim / 32)) (bs.map (fun b => BitVec.ofNat 8 b.1))
    (r2.1, if r.2 = .ok ∧ r2.2 = .ok then .ok else .bad, bs.foldl (fun e b => e.or b.2.2) {})

/-- Seal V sub-block j of a page: the 32 tail rows become D MX rows along the positions (R142). -/
def State.sealV (s : State) (p n f tail layer h j : Nat) : State × SliceEnd × Exc :=
  let fm := s.kvFmt p
  let dim := s.kvDim p
  match s.sliceRead p n tail (s.tailOff p layer h 0) (64 * dim) with
  | (s1, .bad, _) => (s1, .bad, {})
  | (s1, .ok, b) =>
    let at_ (row d : Nat) : Val := floatVal .bf16 (leVal ((b.drop (2 * (row * dim + d))).take 2))
    let rows := (List.range dim).map (fun d => convBlock fm ((List.range 32).map (fun r => at_ r d)))
    let off := s.headOff p layer h + kPartBytes fm dim + j * vSubBytes fm dim
    let data := rows.flatMap (fun x => packRun fm x.2.1) ++ rows.map (fun x => BitVec.ofNat 8 x.1)
    let r := s1.sliceWrite p n f off (data ++ List.replicate (vSubBytes fm dim - data.length) 0)
    (r.1, r.2, rows.foldl (fun e x => e.or x.2.2) {})

/-- Write the V row of position `pos` into the tail, sealing the sub-block when it is the 32nd, or into a BF16 page (R142,
R161). `f` is the page's frame. -/
def State.putV (s : State) (p n f tail layer h pos : Nat) (v : List Nat) : State × SliceEnd × Exc :=
  let fm := s.kvFmt p
  let dim := s.kvDim p
  let t := pos % 64
  if fm = .bf16 then
    let off := s.headOff p layer h + kPartBytes fm dim + t / 32 * vSubBytes fm dim
    let r := (List.range dim).foldl (fun (acc : State × SliceEnd) d =>
      let x := acc.1.sliceWrite p n f (off + d * 64 + 2 * (t % 32)) (leBytes 2 (v.getD d 0))
      (x.1, if acc.2 = .ok then x.2 else acc.2)) (s, SliceEnd.ok)
    (r.1, r.2, {})
  else
    match s.sliceWrite p n tail (s.tailOff p layer h (t % 32)) (packRun .bf16 v) with
    | (s1, .bad) => (s1, .bad, {})
    | (s1, .ok) => if t % 32 = 31 then s1.sealV p n f tail layer h (t / 32) else (s1, .ok, {})

end Sys2Proof.Machine
end

