-- ==== Sys2Proof/Machine/DebugOps.lean ====
section
/-! DEFINITION. Debug sessions and their counts (R387, R388), and known-answer tests: results, cells, suspicion (R490 to R495). -/

namespace Sys2Proof.Machine
open Reg

/-- Partition p's records beyond its registers. -/
def State.prt (s : State) (p : Nat) : PartSt := Cells.get {} s.part p
def State.setPrt (s : State) (p : Nat) (x : PartSt) : State := { s with part := Cells.set {} s.part p x }

/-- A session opens: DBG_SESSIONS in FRAM gains 1 (R388). -/
def State.openSession (s : State) : State :=
  (s.wr GLB_DBG_STAT.OPEN 1).wr GLB_DBG_COUNT.SESSIONS (s.rd GLB_DBG_COUNT.SESSIONS + 1)

/-- The session closes; the partitions it touched are forgotten (R388). -/
def State.closeSession (s : State) : State :=
  (List.range 8).foldl (fun st p => st.setPrt p { st.prt p with touched := false }) (s.wr GLB_DBG_STAT.OPEN 0)

/-- A debug access to partition p is counted before it is served (R388). `framOk` tells whether the FRAM writes that the count needs
succeed; with a failed one the access is refused. -/
def State.debugAccess (s : State) (p : Nat) (framOk : Bool) : State × Bool :=
  if s.flag GLB_DBG_STAT.OPEN && (s.prt p).touched then (s, true)
  else if !framOk then (s.raise GLB_SEC_STAT.DBG_FRAM_FAIL, false)
  else
    let s1 := if s.flag GLB_DBG_STAT.OPEN then s else s.openSession
    (s1.setPrt p { s1.prt p with dbgPart := (s1.prt p).dbgPart + 1, touched := true }, true)

/-! Known-answer tests. -/

/-- The published digest of a test (Table 17.2a). -/
def katDigest (t : Nat) : Nat :=
  [0, 0x5E0A91C3, 0x2B7F04D8, 0xC91D6A52, 0x07E4B33F, 0x8D26F0A1, 0x41BC5E97, 0xF3A82C64].getD t 0

/-- Lathe n runs test t: the digest it produces, whose bit 0 an armed LTH_INJ.KAT_FLIP inverts (Table 3.12). -/
def State.katRun (s : State) (n t : Nat) : State × Nat :=
  if s.flag (LTH_INJ.KAT_FLIP n) then (s.wr (LTH_INJ.KAT_FLIP n) 0, katDigest t ^^^ 1) else (s, katDigest t)

/-- The cell in force on Lathe n (R493). The load bin depends on the timing of the last 1 ms: a free value. -/
def State.katCell (s : State) (n : Nat) : State × Nat := (s.drew, n * 32 + Cells.get 0 s.thm.tempBin n * 4 + s.free % 4)

/-- The KAT_FAIL record (Table 17.3). -/
def State.katRecord (s : State) (n p test cell : Nat) (desc : Bool) : List Byte :=
  let first := (Cells.get none s.err.clean n).getD 0
  let last := s.stepOf p
  leBytes 4 (0x16 + test * 2 ^ 8 + p * 2 ^ 16 + s.slotOfLathe p n * 2 ^ 20 + bits (s.rd ERR_LATHE.SUSPECT) n 1 * 2 ^ 24 +
      bits (s.rd ERR_LATHE.RETIRED) n 1 * 2 ^ 25 + b2n desc * 2 ^ 26) ++
  leBytes 4 (cell / 4 % 8 + cell % 4 * 2 ^ 4) ++ leBytes 8 first ++ leBytes 8 last ++ leBytes 4 s.timeWord ++ leBytes 4 0

/-- A test of Lathe n has ended in a cell: the counts, and what a failure does (R494). -/
def State.katCount (s : State) (n test cell : Nat) (pass desc : Bool) : State :=
  let b := 8 * cell + s.err.cur
  if pass then
    { s with err := { s.err with katPass := Cells.set 0 s.err.katPass cell (Cells.get 0 s.err.katPass cell + 1),
                                 katPassB := Cells.set 0 s.err.katPassB b (Cells.get 0 s.err.katPassB b + 1) } }
  else
    let s1 := { s with err := { s.err with katFail := Cells.set 0 s.err.katFail cell (Cells.get 0 s.err.katFail cell + 1),
                                           katFailB := Cells.set 0 s.err.katFailB b (Cells.get 0 s.err.katFailB b + 1) } }
    let s2 := if s1.inEff ERR_CFG.KAT_LIMIT ≤ windowCount s1.err.katFailB cell then
        let t := (s1.raise ERR_STAT.SUSPECT).markSuspect n
        let l := Cells.get [] t.err.suspectIn n
        { t with err := { t.err with suspectIn := Cells.set [] t.err.suspectIn n (if l.contains cell then l else l ++ [cell]) } }
      else s1
    match s2.partOf n with
    | some p => s2.record p (s2.katRecord n p test cell desc)
    | none => s2

end Sys2Proof.Machine
end

