-- ==== Sys2Proof/Machine/RegMap.lean ====
section
/-! DEFINITION. Which fields stand in the register at an address (R14, R36, Table 1.11). -/

namespace Sys2Proof.Machine
open Reg

def lthBRegs (n : Nat) : List Fld :=
    [SPD_EXC_STAT.NAN_IN n, SPD_EXC_STAT.INVALID n, SPD_EXC_STAT.OVF n, SPD_EXC_STAT.SAT n, SPD_EXC_STAT.SCALE_CLAMP n, SPD_EXC_STAT.SPD_MASK n,
    VEC_EXC_STAT.NAN_IN n, VEC_EXC_STAT.INVALID n, VEC_EXC_STAT.OVF n, VEC_EXC_STAT.SAT n, VEC_EXC_STAT.SCALE_CLAMP n, VEC_POLY_ADDR.ADDR n,
    VEC_POLY_DATA.COEF n, LTH_ID.LATHE n, LTH_ID.RETIRED n, LTH_ID.REPAIRS n, LTH_SEQ_STAT.STATE n, LTH_SEQ_STAT.DESC_IDX n, LTH_SEQ_STAT.GO_PENDING
    n, LTH_SEQ_STAT.BUF n, LTH_SEQ_GO.LEN n, LTH_SEQ_GO.BUF n, LTH_SEQ_CTRL.STOP n, LTH_SEQ_CTRL.RESUME n, LTH_SEQ_CTRL.LRESET n, LTH_SEQ_CTRL.ABORT
    n] ++ (List.range 2).flatMap (fun b => [LTH_PLAN_BASE.BASE n b]) ++ [LTH_PART.WAY_MASK n, LTH_PART.PART n, LTH_PART.ASSIGNED n,
    LTH_PART.PLT_OWNED n, LTH_EPOCH.STEP_EPOCH n, LTH_CLK_CFG.FMIN_CODE n, LTH_CLK_CFG.FMAX_CODE n, LTH_CLK_STAT.CUR_CODE n, LTH_CLK_STAT.FMIN_EFF n,
    LTH_CLK_STAT.FMAX_EFF n, LTH_CLK_STAT.CEIL_CODE n, LTH_CLK_STAT.DUTY n, LTH_CLK_STAT.BELOW_FLOOR n, LTH_CLK_STAT.DROOPS n, LTH_WAIT_LIMIT.LIMIT
    n, LTH_COMMIT.COMMIT n, LTH_COMMIT.AT_EPOCH n, LTH_CFG_STAT.CFG_BUSY_WR n, LTH_CFG_STAT.CFG_MISMATCH n, LTH_CFG_STAT.PENDING n,
    LTH_CFG_STAT.CFG_RULE n, LTH_ERR_STAT.DESC_BAD n, LTH_ERR_STAT.ADDR_FAULT n, LTH_ERR_STAT.LSRAM_UE n, LTH_ERR_STAT.SHARED_UE n,
    LTH_ERR_STAT.TDMA_STOP n, LTH_ERR_STAT.STREAMER_FAULT n, LTH_ERR_STAT.WAIT_TIMEOUT n, LTH_ERR_STAT.KAT_MISCOMPARE n, LTH_ERR_STAT.PROG_REGRESS n,
    LTH_ERR_STAT.GO_OVERRUN n, LTH_ERR_STAT.GO_REFUSED n, LTH_ERR_STAT.LSRAM_CE n, LTH_ERR_STAT.DBG_DENIED n, LTH_ERR_INFO.DESC_IDX n,
    LTH_ERR_INFO.BUF n, LTH_ERR_INFO.STEP_EPOCH n, LTH_LSRAM_CE.COUNT n, LTH_INJ.LSRAM_CE n, LTH_INJ.LSRAM_UE n] ++ [LTH_INJ.EVT_DROP n,
    LTH_INJ.KAT_FLIP n, LTH_INJ.DROOP n, LTH_CYC_LO.CYC n, LTH_CYC_HI.CYC n, LTH_EVT_INC.CTR n, LTH_EVT_INC.AMOUNT n, LTH_DBG_ADDR.ADDR n,
    LTH_DBG_DATA.DATA n] ++ (List.range 32).flatMap (fun c => [LTH_EVT_CNT.COUNT n c])

def atsBRegs (n : Nat) : List Fld :=
    [ATS_STAT.STATE n, ATS_STAT.ENTRY n, ATS_STAT.PAGE n, ATS_ERR_STAT.HDR_BAD n, ATS_ERR_STAT.LEN_MISMATCH n, ATS_ERR_STAT.BAD_SLOT n,
    ATS_ERR_STAT.NO_FRAME n, ATS_ERR_STAT.MEM_UE n, ATS_ERR_STAT.TABLE_UE n, ATS_ERR_STAT.POS_LIMIT n, ATS_ERR_INFO.SLOT n, ATS_ERR_INFO.PAGE n,
    ATS_BYTES_LO.BYTES n, ATS_BYTES_HI.BYTES n, ATS_SKIPPED.COUNT n, ATS_INJ.HDR n, ATS_INJ.LEN n, ATS_INJ.NOFRAME n, ATS_INJ.UE n, ATS_INJ.TUE n]

def pftBRegs : List Fld :=
    (List.range 4).flatMap (fun w => [PFT_CMD.WORD w]) ++ [PFT_CMD_STAT.DEPTH, PFT_CMD_STAT.FULL, PFT_CMD_STAT.OVERRUN, PFT_RESP.TAG,
    PFT_RESP.STATUS, PFT_RESP.GEN, PFT_RESP.VALID, PFT_ERR_STAT.MEM_UE, PFT_ERR_STAT.REF_UNDERFLOW, PFT_ERR_STAT.FAULT, PFT_ERR_INFO.FRAME,
    PFT_ERR_INFO.PART, PFT_INJ.UE, PFT_INJ.UNDER, PFT_INJ.NOFRAME, PFT_REC_ADDR.ADDR, PFT_REC_DATA.DATA]

def pftPRegs (p : Nat) : List Fld :=
    [PFT_POOL_BASE.BASE p, PFT_POOL_FRAMES.FRAMES p, PFT_FRAME_SIZE.FRAME_4K p, PFT_GEOM.KV_FMT p, PFT_GEOM.LAYERS p, PFT_GEOM.HL p, PFT_GEOM.DIM32
    p, PFT_TABLE_BASE.BASE p, PFT_TABLE_BASE.TABLE_PORT p, PFT_TABLE_SIZE.SIZE p, PFT_PROV_FRAMES.PROV p, PFT_COMMIT.COMMIT p, PFT_COMMIT.ENABLE p,
    PFT_PART_STAT.ENABLED p, PFT_PART_STAT.READY p, PFT_PART_STAT.CFG_BUSY_WR p, PFT_PART_STAT.CFG_MISMATCH p, PFT_PART_STAT.CFG_RULE p,
    PFT_FREE.FRAMES p, PFT_WALKS.CNT0 p, PFT_WALKS.GEN p, PFT_WALKS.CNT1 p, PFT_WALKS.RETIRED p]

def pltBRegs : List Fld :=
    [PLT_NOW_LO.NOW, PLT_NOW_HI.NOW, PLT_ERR_STAT.SRAM_CE, PLT_ERR_STAT.SRAM_UE, PLT_ERR_STAT.ACK_TIMEOUT, PLT_ERR_STAT.TMPL_BAD,
    PLT_ERR_STAT.STOPPED, PLT_ERR_STAT.CE_COUNT, PLT_INJ.SRAM_CE, PLT_INJ.SRAM_UE, PLT_INJ.ACK_DROP, PLT_INJ.LATE, PLT_SLOT_ADDR.ADDR,
    PLT_SLOT_DATA.DATA, PLT_BKT_ADDR.ADDR, PLT_BKT_DATA.DATA, PLT_COST_ADDR.ADDR, PLT_COST_DATA.DATA]

def pltPRegs (p : Nat) : List Fld :=
    [PLT_CADENCE.CADENCE p, PLT_LIMITS.CHUNK64 p, PLT_LIMITS.CHUNK_RES p, PLT_LIMITS.SPEC_NODES p, PLT_LIMITS.QMAX p, PLT_LIMITS.PORT_RES p,
    PLT_MAXLEN.MAX_LEN p, PLT_SLOTS.SLOT_BASE p, PLT_SLOTS.SLOT_COUNT p, PLT_TMPL.TMPL_ADDR p, PLT_PFT_ALLOW.PFT_ALLOW p, PLT_TIMEOUTS.ACK_LIMIT p,
    PLT_TIMEOUTS.LATE_LIMIT p, PLT_TIMEOUTS.ERR_LIMIT p] ++ (List.range 4).flatMap (fun c => [PLT_CLASS.TTFT p c, PLT_CLASS.ENABLE p c]) ++
    [PLT_COMMIT.COMMIT p, PLT_COMMIT.ENABLE p, PLT_PSTAT.STATE p, PLT_PSTAT.DERATED p, PLT_PSTAT.CFG_BUSY_WR p, PLT_PSTAT.CFG_MISMATCH p,
    PLT_PSTAT.CFG_RULE p, PLT_PSTAT.TMPL_BAD p, PLT_PSTAT.PENDING p, PLT_PSTAT.TMPL_ENTRY p, PLT_PSTAT.TMPL_SLOT p, PLT_LOAD.VALUE p, PLT_FIX.VALUE
    p, PLT_STEP_LO.STEP p, PLT_STEP_HI.STEP p, PLT_PERIOD.VALUE p, PLT_ALLOW.VALUE p, PLT_COUNTS.GUARANTEED p, PLT_COUNTS.DEMOTED p]

def smpBRegs : List Fld :=
    [SMP_STAT.BUSY, SMP_STAT.PART, SMP_STAT.WAITING, SMP_ERR_STAT.SRAM_CE, SMP_ERR_STAT.SRAM_UE, SMP_ERR_STAT.LOGIT_UE, SMP_ERR_STAT.COUNT_UE,
    SMP_ERR_STAT.COUNT_FULL, SMP_ERR_STAT.CE_COUNT, SMP_INJ.SRAM_CE, SMP_INJ.SRAM_UE, SMP_INJ.LOGIT_UE, SMP_INJ.COUNT_UE, SMP_INJ.RNG_ZERO,
    SMP_PROF_ADDR.ADDR, SMP_PROF_DATA.DATA, SMP_PROF_COMMIT.PROFILE, SMP_PROF_COMMIT.COMMIT, SMP_PROF_STAT.PENDING, SMP_PROF_STAT.CFG_MISMATCH,
    SMP_PROF_STAT.CFG_RULE, SMP_SLOT_ADDR.SLOT, SMP_SLOT_DATA.USED, SMP_SLOT_DATA.OVERFLOW]

def smpPRegs (p : Nat) : List Fld :=
    [SMP_LOGIT.LOGIT_BASE p, SMP_LOGIT.FMT p, SMP_LOGIT_LD.LOGIT_LD p, SMP_VOCAB.VOCAB p, SMP_VSHARD.VSHARD p, SMP_COUNT_BASE.BASE p,
    SMP_TREE_ADDR.NODE p, SMP_TREE_DATA.PARENT p, SMP_TREE_LOC.LOC p, SMP_COMMIT.COMMIT p, SMP_PSTAT.CFG_BUSY_WR p, SMP_PSTAT.CFG_MISMATCH p,
    SMP_PSTAT.CFG_RULE p, SMP_PSTAT.PENDING p, SMP_JMAX.JMAX p, SMP_DRAWS.COUNT p, SMP_DRAFTED.COUNT p, SMP_ACCEPTED.COUNT p]

def memBRegs (n : Nat) : List Fld :=
    [MEM_STAT.STATE n, MEM_STAT.RATE n, MEM_STAT.CFG_BUSY_WR n, MEM_STAT.SPARES_USED n, MEM_CFG.SCRUB_PERIOD n, MEM_CFG.RETIRE_CE n, MEM_CFG.AUTO_SR
    n, MEM_COMMIT.COMMIT n, MEM_COMMIT.CFG_MISMATCH n, MEM_ERR_STAT.CE n, MEM_ERR_STAT.UE n, MEM_ERR_STAT.SCRUB_UE n, MEM_ERR_STAT.RETIRED n,
    MEM_ERR_STAT.RETIRE_FULL n, MEM_ERR_STAT.TRAIN_FAIL n, MEM_ERR_STAT.WR_UE n, MEM_ERR_STAT.REGION_FAULT n, MEM_ERR_STAT.PROV_FAULT n,
    MEM_ERR_STAT.CE_COUNT n, MEM_ERR_ADDR.UNIT n, MEM_ERR_SYN.SYMBOL n, MEM_ERR_SYN.BEAT n, MEM_ERR_SYN.SYNDROME n, MEM_INJ.CE n, MEM_INJ.UE n,
    MEM_INJ.TRAIN n, MEM_INJ.SYM n, MEM_RETIRE.BLOCK n, MEM_RET_ADDR.SPARE n, MEM_RET_DATA.BLOCK n, MEM_RET_DATA.VALID n, MEM_SCRUB_POS.UNIT n]

def keyBRegs : List Fld :=
    [KEY_ERR_STAT.CE, KEY_ERR_STAT.UE, KEY_ERR_STAT.KAT_FAIL, KEY_ERR_STAT.KEY_FAULT, KEY_INJ.CE, KEY_INJ.UE, KEY_INJ.KAT]

def keyPRegs (p : Nat) : List Fld :=
    [KEY_PSTAT.STATE p, KEY_PSTAT.LOADED0 p, KEY_PSTAT.LOADED1 p, KEY_PSTAT.CURRENT p, KEY_PSTAT.CFG_BUSY_WR p, KEY_PSTAT.CFG_MISMATCH p,
    KEY_PSTAT.CFG_RULE p, KEY_PSTAT.PENDING p, KEY_PSTAT.ENABLED p, KEY_PCFG.SWEEP_SHARE p, KEY_PCOMMIT.COMMIT p, KEY_PCOMMIT.ENABLE p,
    KEY_ROTATE.START p, KEY_INFLIGHT.SLOT0 p, KEY_INFLIGHT.SLOT1 p, KEY_LOST.UNITS p]

def keyRRegs (p r : Nat) : List Fld :=
    [KEY_RGN_BASE.PORT p r, KEY_RGN_BASE.BASE p r, KEY_RGN_BASE.VALID p r, KEY_RGN_SIZE.SIZE p r, KEY_RGN_SIZE.HOST p r, KEY_RGN_SIZE.FAB p r,
    KEY_RGN_STAT.SLOT p r, KEY_RGN_STAT.SWEEPING p r, KEY_RGN_STAT.NEW_SLOT p r, KEY_RGN_WM.UNIT p r]

def tdmaGRegs (g : Nat) : List Fld :=
    [TDMA_GRP_STAT.STOPPED g, TDMA_GRP_STAT.CAUSE g, TDMA_GRP_STAT.CHANNEL g, TDMA_GRP_STAT.CFG_BUSY_WR g, TDMA_GRP_STAT.CFG_MISMATCH g,
    TDMA_GRP_ADDR_LO.ADDR g, TDMA_GRP_ADDR_HI.ADDR g, TDMA_GRP_CTRL.CLEAR g, TDMA_INJ.BUS_ERR g]

def tdmaCRegs (g c : Nat) : List Fld :=
    [TDMA_CH_CTRL.ENABLE g c, TDMA_CH_CTRL.FENCE g c, TDMA_CH_STAT.STATE g c, TDMA_CH_STAT.DESC g c, TDMA_CH_KICK.TDESC_ADDR g c, TDMA_CH_KICK.GO g
    c, TDMA_CH_CFG.RATE g c, TDMA_CH_CFG.BURST g c, TDMA_CH_COMMIT.COMMIT g c, TDMA_CH_BYTES.UNITS g c]

def hdmaBRegs : List Fld :=
    [HDMA_ENG_STAT.STOPPED, HDMA_ENG_STAT.CAUSE, HDMA_ENG_ADDR_LO.ADDR, HDMA_ENG_ADDR_HI.ADDR, HDMA_ENG_CTRL.RESTART, HDMA_INJ.BUS_ERR]

def hdmaCRegs (c : Nat) : List Fld :=
    [HDMA_CH_PART.PART c, HDMA_CH_PART.ASSIGNED c, HDMA_CH_RING_LO.BASE c, HDMA_CH_RING_HI.BASE_HI c, HDMA_CH_RING_CFG.RING_LOG2 c,
    HDMA_CH_RING_CFG.SPACE c, HDMA_CH_RING_CFG.VECTOR c, HDMA_CH_CTRL.ENABLE c, HDMA_CH_CTRL.FENCE c, HDMA_CH_CTRL.RESUME c, HDMA_CH_DB.RING c,
    HDMA_CH_STAT.STATE c, HDMA_CH_STAT.DB_PENDING c, HDMA_CH_STAT.HEAD c, HDMA_CH_STAT.LAST_CODE c, HDMA_CH_STAT.CFG_BUSY_WR c,
    HDMA_CH_STAT.CFG_MISMATCH c, HDMA_CH_CFG.RATE c, HDMA_CH_CFG.BURST c, HDMA_CH_COMMIT.COMMIT c]

def arbIRegs (i : Nat) : List Fld :=
    [ARB_ID.INDEX i, ARB_ID.REQS i, ARB_STAT.CFG_MISMATCH i, ARB_STAT.CFG_RULE i, ARB_STAT.OWNED i, ARB_STAT.OWNER i, ARB_COMMIT.COMMIT i,
    ARB_MASK.REQ i, ARB_PEND.REQ i, ARB_EVENTS.FORCED i, ARB_EVENTS.PREEMPTS i] ++ (List.range (arbReqs i)).flatMap (fun r => [ARB_REQ.CLASS i r,
    ARB_REQ.LIMIT i r, ARB_REQ.RATE i r, ARB_REQ.BURST i r, ARB_BOUND.BOUND i r])

def vidERegs (e : Nat) : List Fld :=
    [VID_ENG_PART.PART e, VID_ENG_PART.ASSIGNED e, VID_ENG_STAT.ENABLED e, VID_ENG_STAT.LOAD e, VID_ENG_STAT.READY e, VID_ENG_STAT.CFG_BUSY_WR e,
    VID_ERR_STAT.SRAM_CE e, VID_ERR_STAT.SRAM_UE e, VID_ERR_STAT.MEM_UE e, VID_ERR_STAT.ACCESS e, VID_ERR_STAT.STREAM_ERR e, VID_ERR_STAT.UNSUPPORTED
    e, VID_ERR_STAT.CE_COUNT e, VID_INJ.SRAM_CE e, VID_INJ.SRAM_UE e, VID_INJ.MEM_UE e, VID_INJ.STREAM e]

def vidCRegs (e k : Nat) : List Fld :=
    [VID_CTX_CFG.MODE e k, VID_CTX_CFG.CODEC e k, VID_CTX_CFG.DEPTH10 e k, VID_CTX_CFG.OUT_FMT e k, VID_CTX_CFG.SCALE e k, VID_CTX_CFG.CSC_DEFAULT e
    k, VID_CTX_CFG.RANGE_DEFAULT e k, VID_CTX_CFG.OVERRUN e k, VID_CTX_CFG.FPS e k, VID_CTX_DIM.WIDTH e k, VID_CTX_DIM.HEIGHT e k, VID_CTX_POOL.BASE
    e k, VID_CTX_POOL.LSLOT e k, VID_CTX_POOL.COUNT e k, VID_CTX_QUEUE.BASE e k, VID_CTX_QUEUE.LSLOT e k, VID_CTX_QUEUE.COUNT e k,
    VID_CTX_FRAMES.BASE e k, VID_CTX_FRAMES.LSLOT e k, VID_CTX_FRAMES.COUNT e k, VID_CTX_SIZES.FRAMES e k, VID_CTX_SIZES.BUF_4K e k,
    VID_CTX_SIZES.LD64 e k, VID_CTX_SLOT_SIZE.SLOT_4K e k, VID_CTX_TAKERS.TAKERS e k, VID_CTX_ENC.QUALITY e k, VID_CTX_ENC.QMAX_Q e k,
    VID_CTX_ENC.SEARCH e k, VID_CTX_ENC.RANGE8 e k, VID_CTX_ENC.SLICE_ROWS e k, VID_CTX_ENC.LTREF e k, VID_CTX_RC.MAX_KBPS e k, VID_CTX_RC.WINDOW e
    k, VID_CTX_GOP.GOP e k, VID_CTX_COMMIT.COMMIT e k, VID_CTX_COMMIT.ENABLE e k, VID_CTX_STAT.STATE e k, VID_CTX_STAT.CFG_BUSY_WR e k,
    VID_CTX_STAT.CFG_MISMATCH e k, VID_CTX_STAT.CFG_RULE e k] ++ [VID_CTX_STAT.CAUSE e k, VID_CTX_STAT.SRC_BAD e k, VID_CTX_CTRL.FLUSH e k,
    VID_CTX_CTRL.RESUME e k, VID_CTX_SRC.SLOT e k, VID_CTX_SRC.ROWS16 e k, VID_CTX_SRC.LAST e k, VID_CTX_SRC.FORCE_I e k, VID_CTX_SEQ.SEQ e k,
    VID_CTX_COUNTS.DROPS e k, VID_CTX_COUNTS.CONCEALED e k, VID_CTX_COUNTS.CAP_OVER e k, VID_CTX_COUNTS.FG_SKIPPED e k]

def fabBRegs : List Fld :=
    [FAB_ID.MODULE_ID, FAB_ID.ID_VALID, FAB_ID.DOMAIN, FAB_CFG.EN_A, FAB_CFG.EN_B, FAB_CFG.FEC_PREF, FAB_CFG.E2E_TIMEOUT, FAB_COMMIT.COMMIT,
    FAB_COMMIT.CFG_MISMATCH] ++ (List.range 2).flatMap (fun pl => [FAB_PLANE.STATE pl, FAB_PLANE.LL pl, FAB_PLANE.PORT pl, FAB_PLANE.LANES_OK pl,
    FAB_PLANE.DOWNS pl]) ++ (List.range 2).flatMap (fun pl => (List.range 4).flatMap (fun w => [FAB_REACH.REACH pl w])) ++ [FAB_ERR_STAT.PLANE_DOWN,
    FAB_ERR_STAT.ID_CONFLICT, FAB_ERR_STAT.PEER_LOST, FAB_ERR_STAT.SEND_ERR, FAB_ERR_STAT.CFG_BUSY_WR, FAB_ERR_INFO.PEER, FAB_ERR_INFO.STATUS,
    FAB_ERR_INFO.PART, FAB_INJ.CW_CE, FAB_INJ.CW_UE, FAB_INJ.CRC, FAB_INJ.STALE, FAB_INJ.COMP_DROP, FAB_INJ.DOWN, FAB_INJ.PLANE, FAB_CNT_ADDR.INDEX,
    FAB_CNT_DATA.COUNT]

def fabPRegs (p : Nat) : List Fld :=
    [FAB_PTEN.TENANT p, FAB_PTEN.EPOCH p, FAB_PWIN.LBASE p, FAB_PWIN.LSIZE p, FAB_PWIN.WBASE p, FAB_PWIN.WSIZE p] ++ (List.range 4).flatMap (fun w =>
    [FAB_PEERS.PEERS p w]) ++ [FAB_PCOMMIT.COMMIT p, FAB_PCOMMIT.ENABLE p, FAB_PSTAT.ENABLED p, FAB_PSTAT.CFG_MISMATCH p, FAB_PSTAT.CFG_RULE p,
    FAB_CK_LIST_LO.LIST p, FAB_CK_LIST_HI.LIST p, FAB_CK_CTRL.COUNT p, FAB_CK_CTRL.PEER p, FAB_CK_CTRL.DIR p, FAB_CK_CTRL.QUIESCE p,
    FAB_CK_CTRL.START p, FAB_CK_STAT.STATE p, FAB_CK_STAT.STATUS p, FAB_CK_STAT.ENTRY p, FAB_CK_BYTES.UNITS p] ++ (List.range 16).flatMap (fun b =>
    [FAB_BAR.ROOT p b, FAB_BAR.EXPECT p b, FAB_BAR.EVT p b, FAB_BAR.VALID p b, FAB_BSTAT.COUNT p b, FAB_BSTAT.GEN p b])

def glbBRegs : List Fld :=
    [PCI_LINK.SPEED, PCI_LINK.WIDTH, PCI_LINK.FLIT, PCI_LINK.UP, PCI_LINK.DOWNS, PCI_ERR_STAT.UR, PCI_ERR_STAT.CA, PCI_ERR_STAT.POISON_RX,
    PCI_ERR_STAT.ECRC, PCI_ERR_STAT.CTO, PCI_ERR_STAT.UC_RX, PCI_ERR_STAT.LINK_CHG, PCI_ERR_STAT.PF_RST, PCI_ERR_STAT.VF_FLR, PCI_INJ.ECRC,
    PCI_INJ.CTO, PCI_INJ.UR, PCI_INJ.LINK, PCI_APER0.PORT, PCI_PF_VEC.MBX, GLB_DEVID_LO.DEVID, GLB_DEVID_HI.DEVID, GLB_SEC_STAT.PF_DENIED,
    GLB_SEC_STAT.DBG_FRAM_FAIL, GLB_DBG_CTRL.OPEN, GLB_DBG_CTRL.CLOSE, GLB_DBG_STAT.OPEN, GLB_DBG_COUNT.SESSIONS, GLB_DBG_WAY_ADDR.ADDR,
    GLB_DBG_WAY_DATA.DATA] ++ (List.range 8).flatMap (fun p => [GLB_PART_STAT.STATE p, GLB_PART_STAT.TD_STEP p, GLB_PART_STAT.GRANULES p]) ++
    [GLB_LIFE.RUN, GLB_LIFE.OTP_LIFE, GLB_LIFE.BANK, GLB_LIFE.TRIAL, GLB_LIFE.RST_BAD, GLB_LIFE.RESET_CAUSE, GLB_LIFE.DEAD_CAUSE, GLB_RST.KEY,
    GLB_UPD.SESSION, GLB_UPD.COMPONENT, GLB_UPD.LAST_RESULT, GLB_UPD.PAGES, GLB_FALLBACKS.COUNT, GLB_FALLBACKS.TRIAL_HOURS, GLB_LED.LOCATE,
    GLB_LED.LOCATE_PIN, GLB_LED.STATUS_ROW]

def vfBRegs (v : Nat) : List Fld :=
    [PCI_SQ_LO.ADDR v, PCI_SQ_HI.ADDR v, PCI_OQ_LO.ADDR v, PCI_OQ_HI.ADDR v, PCI_EQ_LO.ADDR v, PCI_EQ_HI.ADDR v, PCI_EQW_LO.ADDR v, PCI_EQW_HI.ADDR
    v, PCI_RING_CFG.SQ_LOG2 v, PCI_RING_CFG.OQ_LOG2 v, PCI_RING_CFG.OQ_ENT v, PCI_RING_CFG.EQ_LOG2 v, PCI_RING_CFG.OQ_IRQ v, PCI_RING_CFG.EQ_IRQ v,
    PCI_RING_CFG.ENABLE v, PCI_SQ_TAIL.INDEX v, PCI_OQ_FREE.INDEX v, PCI_EQ_HEAD.INDEX v, PCI_SQ_HEAD.INDEX v, PCI_OQ_NEXT.INDEX v, PCI_EQ_TAIL.INDEX
    v, PCI_RING_STAT.SQ_FAULT v, PCI_RING_STAT.CFG_BUSY_WR v, PCI_RING_STAT.CFG_MISMATCH v, PCI_RING_STAT.CFG_RULE v, PCI_RING_STAT.OQ_WAIT v,
    PCI_RING_STAT.EQ_WAIT v, PCI_RING_STAT.EQ_QUEUED v, PCI_VEC.OQ v, PCI_VEC.EQ v, PCI_VEC.MBX v, PCI_APER.WIN v]

def mbxTRegs (t : Nat) : List Fld :=
    [MBX_IN_FROM.FROM t, MBX_IN_FROM.FULL t, MBX_IN_DATA.DATA t, MBX_STAT.DROPPED t, MBX_STAT.ABORTED t, MBX_STAT.DENIED t, MBX_STAT.TARGET t,
    MBX_DB_PEND.PEND t, MBX_DB_MASK.MASK t] ++ (List.range 12).flatMap (fun u => [MBX_SEND.WORD t u, MBX_RING.BITS t u])

def irqBRegs : List Fld :=
    (List.range 4).flatMap (fun w => [IRQ_PEND.PEND w, IRQ_LEVEL.LEVEL w]) ++ (List.range 3).flatMap (fun p => (List.range 4).flatMap (fun w =>
    [IRQ_MASK.MASK p w])) ++ (List.range 3).flatMap (fun p => [IRQ_CLAIM.SOURCE p, IRQ_CLAIM.IN_SERVICE p, IRQ_DONE.DONE p]) ++ (List.range
    112).flatMap (fun src => [IRQ_FILT.COUNT src])

def bar4BRegs : List Fld :=
    [MBX_DICT_CTRL.GO, MBX_DICT_STAT.BUSY, MBX_DICT_STAT.DONE, MBX_DICT_STAT.CFG_BUSY_WR]

def thmBRegs : List Fld :=
    [THM_STAT.TRIP, THM_STAT.FLOW_STOP, THM_STAT.LEVEL_CHG, THM_STAT.PAIR_FAULT, THM_STAT.HUB_ALARM, THM_STAT.PAIR_WIDE, THM_STAT.COOL_DERATE,
    THM_STAT.NO_FLOW_START, THM_STAT.TRIPPED, THM_STAT.NO_RESTART, THM_CFG.THROTTLE_C, THM_CFG.FLOOR, THM_CFG.KW_EN, THM_CFG.AUTO_RESTART,
    THM_CFG.VALVE_MIN, THM_COMMIT.COMMIT, THM_COMMIT.CFG_MISMATCH, THM_COMMIT.CFG_RULE, THM_MODULE.LEVEL, THM_MODULE.POWER, THM_MODULE.COOL,
    THM_MODULE.IODIE, THM_MODULE.BRAKE, THM_MODULE.STOP, THM_MODULE.NO_OWNER, THM_MODULE.KW, THM_MODULE.VALVE, THM_COOL.INLET, THM_COOL.OUTLET,
    THM_FLOW.FLOW, THM_SENS_ADDR.SENSOR, THM_SENS_DATA.TEMP, THM_SENS_DATA.VALID, THM_SENS_DATA.FAULTS, THM_INJ.TRIP, THM_INJ.FLOW, THM_INJ.PAIR,
    THM_INJ.BAD, THM_INJ.SENS] ++ (List.range 16).flatMap (fun n => [THM_LATHE.LEVEL n, THM_LATHE.EFFECTIVE n, THM_LATHE.TCTRL n, THM_LATHE.LIMIT n])
    ++ [PWR_STAT.HOLDUP_OK, PWR_STAT.INPUT_LOST, PWR_STAT.BRAKE_HIT, PWR_STAT.RAIL_FAIL, PWR_STAT.RAIL, PWR_STAT.GROUP_I, PWR_STAT.GROUP_C,
    PWR_STAT.LOSSES, PWR_INPUT.VOLTS, PWR_INPUT.WATTS, PWR_INJ.BRAKE, PWR_INJ.LOSS, PWR_INJ.HOLDUP, PWR_RAIL_ADDR.RAIL, PWR_RAIL_DATA.MEASURED,
    PWR_RAIL_DATA.SETPOINT, TDM_STAT.OWNER_VALID, TDM_STAT.OWNER, TDM_STAT.A_STATE, TDM_STAT.B_STATE, TDM_STAT.WIRE_MISS, TDM_STAT.MBX_MISS,
    TDM_STAT.NONOWNER_WR, TDM_COUNTS.TAKEOVERS, TDM_COUNTS.RETURNS, TDM_INJ.WIRE, TDM_INJ.MBX, TDM_INJ.BOTH, TDM_INJ.WDOG]

def errBRegs : List Fld :=
    [ERR_STAT.LASTING, ERR_STAT.SUSPECT, ERR_STAT.LOG_FULL, ERR_STAT.RESTORE_ABORTED, ERR_STAT.OTP_FAIL, ERR_STAT.KAT_MISSED, ERR_CFG.WINDOW,
    ERR_CFG.CE_LIMIT, ERR_CFG.UE_LIMIT, ERR_CFG.KAT_LIMIT, ERR_CFG2.KAT_PERIOD, ERR_CFG2.RETIRE_POLICY, ERR_CFG2.LIFE_PERIOD, ERR_COMMIT.COMMIT,
    ERR_COMMIT.CFG_MISMATCH, ERR_COMMIT.CFG_RULE, ERR_INJ.LINK_CE, ERR_INJ.LINK_UE, ERR_INJ.WAY_CE, ERR_INJ.WAY_UE, ERR_INJ.SITE, ERR_SITE_ADDR.SITE,
    ERR_SITE_DATA.CE_WIN, ERR_SITE_DATA.UE_WIN, ERR_SITE_DATA.LASTING, ERR_LOG_LO.OFFSET, ERR_LOG_LO.VALID, ERR_LOG_HI.SITE, ERR_LOG_HI.TIME,
    ERR_LATHE.SUSPECT, ERR_LATHE.RETIRED]

/-- The fields of the register at an address; none where no block has a register. -/
def regFields (a : Nat) : List Fld :=
  let inst (lo size count : Nat) (f : Nat → List Fld) : List Fld := if lo ≤ a ∧ (a - lo) / size < count then f ((a - lo) / size) else []
  List.filter (fun f => f.addr = a)
    (if a < 0x01000000 then glbBRegs
     else if a < 0x02000000 then inst 0x01000000 0x00100000 16 lthBRegs
     else if a < pltB then inst 0x02000000 0x00010000 16 atsBRegs
     else if a < smpB then pltBRegs ++ inst (pltB + 0x1000) 0x100 8 pltPRegs
     else if a < pftB then smpBRegs ++ inst (smpB + 0x1000) 0x100 8 smpPRegs
     else if a < 0x03000000 then pftBRegs ++ inst (pftB + 0x1000) 0x100 8 pftPRegs
     else if a < keyB then inst 0x03000000 0x00010000 16 memBRegs
     else if a < 0x04000000 then
       keyBRegs ++ inst (keyB + 0x1000) 0x1000 8 (fun p => keyPRegs p ++ inst (keyP p + 0x100) 0x10 64 (fun r => keyRRegs p r))
     else if a < hdmaB then inst 0x04000000 0x1000 16 (fun g => tdmaGRegs g ++ inst (tdmaG g + 0x100) 0x40 4 (fun c => tdmaCRegs g c))
     else if a < 0x04200000 then hdmaBRegs ++ inst (hdmaB + 0x1000) 0x100 32 hdmaCRegs
     else if a < 0x05000000 then inst 0x04200000 0x1000 52 arbIRegs
     else if a < 0x06000000 then inst 0x05000000 0x00010000 4 (fun e => vidERegs e ++ inst (vidE e + 0x1000) 0x100 16 (fun k => vidCRegs e k))
     else if a < 0x07000000 then fabBRegs ++ inst (fabB + 0x1000) 0x100 8 fabPRegs
     else if a < thmB then irqBRegs
     else if a < errB then thmBRegs
     else if a < 0x10000000 then errBRegs
     else if a < bar4B then inst 0x10000000 0x01000000 8 vfBRegs
     else if a < 0x30000000 then bar4BRegs
     else inst 0x30000000 0x1000 12 mbxTRegs)

end Sys2Proof.Machine
end

