-- ==== Sys2Proof/Machine/HostOps.lean ====
section
/-! DEFINITION. Mailboxes, interrupt lines, ring settings, function resets (R349, R350, R354, R357 to R369). -/

namespace Sys2Proof.Machine
open Reg

/-! Mailboxes (R360 to R363). -/

/-- Receiver t is held in reset. -/
def State.recvReset (s : State) (t : Nat) : Bool := Cells.get false s.host.inReset t

/-- The targets that a sender may name (Table 12.9). -/
def mbxAllowed (sender target : Nat) : Bool :=
  sender = 0 || (sender = 1 && (target = 0 || target = 2)) || (sender = 2 && (target = 0 || target = 1)) ||
  (sender = 3 && (target = 0 || 4 ≤ target)) || (4 ≤ sender && (target = 0 || target = 3))

/-- A receiver's notification is active (R363). -/
def State.mbxActive (s : State) (t : Nat) : Bool :=
  s.flag (MBX_IN_FROM.FULL t) || (s.rd (MBX_DB_PEND.PEND t) &&& (s.rd (MBX_DB_MASK.MASK t) ^^^ 0xFFFFFFFF)) ≠ 0

/-- A change of receiver t's mailbox or doorbells: a host function gets its MSI-X message when the notification becomes active (R363). -/
def State.mbxChange (s : State) (t : Nat) (f : State → State) : State :=
  let s1 := f s
  if s1.mbxActive t && !s.mbxActive t then
    (if t = 3 then s1.sendVec 0 (s1.rd PCI_PF_VEC.MBX) else if 4 ≤ t then s1.sendVec (t - 3) (s1.rd (PCI_VEC.MBX (t - 4))) else s1)
  else s1

/-- A receiver's mailbox is reset: FULL, DB_PEND and DB_MASK clear, and the sender of a discarded message gets ABORTED (R361). -/
def State.mbxReset (s : State) (t : Nat) : State :=
  let s1 := s.raiseIf (s.flag (MBX_IN_FROM.FULL t)) (MBX_STAT.ABORTED (s.rd (MBX_IN_FROM.FROM t)))
  ((s1.wr (MBX_IN_FROM.FULL t) 0).wr (MBX_DB_PEND.PEND t) 0).wr (MBX_DB_MASK.MASK t) 0

/-! Interrupts (R364 to R367). -/

/-- Some W1C bit of the register at an address is 1. -/
def State.anyW1c (s : State) (a : Nat) : Bool := (regFields a).any (fun f => f.acc = .w1c && s.rd f ≠ 0)

/-- The raw level of an interrupt source (Table 12.10). -/
def State.irqRaw (s : State) (src : Nat) : Bool :=
  let line := Cells.get false s.host.line src
  if src = 0 then false
  else if src ≤ 3 then s.mbxActive (src - 1)
  else if src = 4 then s.flag THM_STAT.TRIP
  else if src = 5 then s.flag THM_STAT.FLOW_STOP
  else if src = 6 then s.flag PWR_STAT.INPUT_LOST
  else if src = 7 then s.flag TDM_STAT.WIRE_MISS || line
  else if src ≤ 11 then line
  else if src = 12 then s.flag PCI_ERR_STAT.LINK_CHG
  else if src = 13 then [PCI_ERR_STAT.UR, PCI_ERR_STAT.CA, PCI_ERR_STAT.POISON_RX, PCI_ERR_STAT.ECRC, PCI_ERR_STAT.CTO, PCI_ERR_STAT.UC_RX].any (fun f => s.flag f)
  else if src = 14 then line
  else if src ≤ 30 then s.anyW1c (LTH_ERR_STAT.DESC_BAD (src - 15)).addr
  else if src ≤ 46 then s.anyW1c (MEM_ERR_STAT.CE (src - 31)).addr
  else if src = 47 then s.anyW1c KEY_ERR_STAT.CE.addr
  else if src = 48 then s.anyW1c PFT_ERR_STAT.MEM_UE.addr
  else if src = 49 then s.anyW1c PLT_ERR_STAT.SRAM_UE.addr
  else if src = 50 then s.anyW1c SMP_ERR_STAT.SRAM_UE.addr
  else if src ≤ 66 then s.anyW1c (TDMA_GRP_STAT.CFG_BUSY_WR (src - 51)).addr
  else if src = 67 then s.anyW1c HDMA_ENG_STAT.STOPPED.addr
  else if src ≤ 71 then s.anyW1c (VID_ERR_STAT.SRAM_UE (src - 68)).addr
  else if src = 72 then s.anyW1c FAB_ERR_STAT.PLANE_DOWN.addr
  else if src = 73 then s.flag THM_STAT.LEVEL_CHG
  else if src = 74 then s.flag THM_STAT.PAIR_FAULT
  else if src ≤ 77 then bit (s.rd THM_STAT.HUB_ALARM) (src - 75)
  else if src = 78 then s.anyW1c ERR_STAT.LASTING.addr
  else if src = 79 then s.flag PCI_ERR_STAT.PF_RST
  else if src ≤ 87 then bit (s.rd PCI_ERR_STAT.VF_FLR) (src - 80)
  else false

/-- Every KCLK cycle a pending bit is set while its filtered level is 1 (R365): what happens before the next access of the controller. -/
def State.irqTick (s : State) : State :=
  (List.range 4).foldl (fun st w => st.wr (IRQ_PEND.PEND w) (st.rd (IRQ_PEND.PEND w) ||| st.rd (IRQ_LEVEL.LEVEL w))) s

/-- The lowest source that is pending and not masked at processor p (R366). -/
def State.irqLowest (s : State) (p : Nat) : Option Nat :=
  ((List.range 112).drop 1).find? (fun i => bit (s.rd (IRQ_PEND.PEND (i / 32))) (i % 32) && !bit (s.rd (IRQ_MASK.MASK p (i / 32))) (i % 32))

/-- The processor's request line (R366). -/
def State.irqLine (s : State) (p : Nat) : Bool := !s.flag (IRQ_CLAIM.IN_SERVICE p) && (s.irqLowest p).isSome

/-- A write of IRQ_PEND or IRQ_MASK: lines that it withdraws are remembered (R367). -/
def State.irqWrite (s : State) (f : State → State) : State :=
  let s1 := f s
  { s1 with host := { s1.host with withdrawn := (List.range 3).foldl (fun m p => Cells.set false m p (s.irqLine p && !s1.irqLine p)) s1.host.withdrawn } }

/-! Serving rings (R350, R354, R369). -/

/-- The rules of Table 12.11 for VF v, whose partition is v (R371). -/
def State.ringRules (s : State) (v : Nat) : List Bool :=
  let sq := s.rd (PCI_RING_CFG.SQ_LOG2 v)
  let oq := s.rd (PCI_RING_CFG.OQ_LOG2 v)
  let ent := s.rd (PCI_RING_CFG.OQ_ENT v)
  let eq := s.rd (PCI_RING_CFG.EQ_LOG2 v)
  [4 ≤ sq && sq ≤ 12 && 2 ≤ oq && oq ≤ 10 && 8 ≤ ent && ent ≤ 20 && 4 ≤ eq && eq ≤ 14,
   80 * s.inEff (PLT_SLOTS.SLOT_COUNT v) ≤ min 255 (2 ^ oq) * (2 ^ ent - 144),
   s.rd (PCI_SQ_LO.ADDR v) % 4096 = 0 && s.rd (PCI_OQ_LO.ADDR v) % 4096 = 0 && s.rd (PCI_EQ_LO.ADDR v) % 4096 = 0 && s.rd (PCI_EQW_LO.ADDR v) % 64 = 0,
   s.rd (GLB_PART_STAT.STATE v) ≠ 0]

/-- The fields of PCI_RING_CFG other than ENABLE. -/
def ringCfgFields (v : Nat) : List Fld :=
  [PCI_RING_CFG.SQ_LOG2 v, PCI_RING_CFG.OQ_LOG2 v, PCI_RING_CFG.OQ_ENT v, PCI_RING_CFG.EQ_LOG2 v, PCI_RING_CFG.OQ_IRQ v, PCI_RING_CFG.EQ_IRQ v]

/-- The rings of VF v are enabled: every index 0, SQ_FAULT clear (R350). -/
def State.ringsOn (s : State) (v : Nat) : State :=
  [PCI_SQ_TAIL.INDEX v, PCI_OQ_FREE.INDEX v, PCI_EQ_HEAD.INDEX v, PCI_SQ_HEAD.INDEX v, PCI_OQ_NEXT.INDEX v, PCI_EQ_TAIL.INDEX v, PCI_RING_STAT.SQ_FAULT v].foldl
    (fun st f => st.wr f 0) (s.wr (PCI_RING_CFG.ENABLE v) 1)

/-! Resets (R357, R358). -/

/-- The MSI-X table and pending bits of a function at reset (0 PF0, 1 + n VF n). -/
def State.msixReset (s : State) (fn : Nat) : State :=
  { s with host := { s.host with msix := Cells.clear s.host.msix (fn * 4096) (fn * 4096 + 4096), pba := Cells.clear s.host.pba (fn * 256) (fn * 256 + 256) } }

/-- A host/video channel is fenced; one that still runs when the reset completes is disabled (R278, R279, R357). -/
def State.flrChannel (s : State) (c : Nat) : State :=
  let s1 := s.hostFence c
  if s1.hState c = 2 then s1.hostDisable c else s1

/-- An FLR of VF v (R357). -/
def State.flr (s : State) (v : Nat) : State :=
  let s1 := ((List.range 32).filter (fun c => s.hPart c = some v)).foldl (fun st c => st.flrChannel c) s
  (((s1.clearRegs (vfB v) (vfB v + 0x1000)).msixReset (1 + v)).mbxReset (4 + v)).wr PCI_ERR_STAT.VF_FLR (s.rd PCI_ERR_STAT.VF_FLR ||| 2 ^ v)

end Sys2Proof.Machine
end

