-- ==== Sys2Proof/Machine/BootBase.lean ====
section
/-! DEFINITION. What start-up, death and the loss of the compute rails share: run states, rails, lost state (R427, R431, R454, R459, R471). -/

namespace Sys2Proof.Machine
open Reg

/-- The run state (Table 15.3). -/
def State.run (s : State) : Nat := s.rd GLB_LIFE.RUN
def State.setRun (s : State) (v : Nat) : State := s.wr GLB_LIFE.RUN v

/-- The rails of groups I (4 to 10) and C (11 to 16) in their order of raising (Table 16.1), with their nominal setpoints in mV. -/
def railsI : List Nat := [4, 5, 6, 7, 8, 9, 10]
def railsC : List Nat := [11, 12, 13, 14, 15, 16]
def railNominal (r : Nat) : Nat :=
  [12000, 800, 800, 1800, 800, 800, 900, 1800, 1050, 900, 500, 750, 800, 720, 720, 720, 720].getD r 0

/-- Rails are removed. -/
def State.railsOff (s : State) (rs : List Nat) : State :=
  let s1 := { s with thm := { s.thm with railUp := rs.foldl (fun m r => Cells.set false m r false) s.thm.railUp,
                                         railMv := rs.foldl (fun m r => Cells.set 0 m r 0) s.thm.railMv } }
  let s2 := if rs.any (fun r => railsC.contains r) then s1.wr PWR_STAT.GROUP_C 0 else s1
  if rs.any (fun r => railsI.contains r) then s2.wr PWR_STAT.GROUP_I 0 else s2

/-- Every state on the compute die is lost: its blocks stand at their reset values (Table 1.1, R471). -/
def State.computeLost (s : State) : State :=
  let s1 := ((s.clearRegs (lthB 0) (lthB 16)).clearRegs (atsB 0) (pftB + 0x10000)).clearRegs keyB (tdmaG 16)
  { s1 with lathe := [], plt := {}, smp := {}, pft := {}, keys := {}, tdma := [], atsBytes := [], cyc := [], now := 0
            mem := { s1.mem with lsram := [], lsramErr := [], way := [], wayErr := [], scrubPos := [] } }

/-- The compute rails are removed. -/
def State.computeOff (s : State) : State := (s.railsOff railsC).computeLost

/-- The module is DEAD: compute rails off, the link in Detect, DEAD_CAUSE in FRAM (R454). -/
def State.die (s : State) (cause : Nat) : State :=
  let s1 := ((s.computeOff.setRun 7).wr GLB_LIFE.DEAD_CAUSE cause).wr PCI_LINK.UP 0
  { s1 with boot := { s1.boot with deadCause := cause } }

/-- A port is held in FAILED until the next module reset (R431). -/
def State.portHeld (s : State) (n : Nat) : State := s.wr (MEM_STAT.STATE n) 5

/-- Phases 8 to 10: when every port is READY or FAILED the qualification results apply: READY, or DEAD when no granule qualifies (R429, R431). -/
def State.bootReady (s : State) : State :=
  if s.run ≠ 2 ∨ !(List.range 16).all (fun n => s.rd (MEM_STAT.STATE n) = 3 || s.rd (MEM_STAT.STATE n) = 5) then s
  else
    let s1 := ((List.range 16).filter (fun n => !bit s.boot.qualified n)).foldl (fun st n => st.portHeld n) s
    if (List.range 16).all (fun n => s1.rd (MEM_STAT.STATE n) = 5) then s1.die 4 else s1.setRun 3

end Sys2Proof.Machine
end

