-- ==== Sys2Proof/Machine/KeyOps.lean ====
section
/-! DEFINITION. The key engine: slots, regions, rotations and commits (R250 to R260). -/

namespace Sys2Proof.Machine
open Reg

def KEY_LOADED (p k : Nat) : Fld := if k = 0 then KEY_PSTAT.LOADED0 p else KEY_PSTAT.LOADED1 p

/-- The valid regions of partition p, in effect. -/
def State.validRegions (s : State) (p : Nat) : List Nat := (List.range 64).filter (fun r => s.flagEff (KEY_RGN_BASE.VALID p r))

/-- Slot k of partition p is named by a valid region, or by one whose sweep runs toward it (R250). -/
def State.slotNamed (s : State) (p k : Nat) : Bool :=
  (s.validRegions p).any (fun r => s.rd (KEY_RGN_STAT.SLOT p r) = k || (s.flag (KEY_RGN_STAT.SWEEPING p r) && s.rd (KEY_RGN_STAT.NEW_SLOT p r) = k))

/-- A word of key storage is written: its stored error goes, and an armed injection acts on it, the UE one first (Table 8.4, R105). -/
def State.writeKeyWord (s : State) (w : Nat) : State :=
  let put (st : State) (v : Nat) : State := { st with keys := { st.keys with slotErr := Cells.set 0 st.keys.slotErr w v } }
  if s.flag KEY_INJ.UE then (put s 2).wr KEY_INJ.UE 0
  else if s.flag KEY_INJ.CE then (put s 1).wr KEY_INJ.CE 0
  else put s 0

/-- Slot k of partition p is destroyed: zeros, LOADED cleared (R250). -/
def State.destroySlot (s : State) (p k : Nat) : State :=
  ({ s with keys := { s.keys with slot := Cells.set (List.replicate 64 0) s.keys.slot (2 * p + k) (List.replicate 64 0),
                                  slotErr := Cells.set 0 s.keys.slotErr (2 * p + k) 0 } }).wr (KEY_LOADED p k) 0

/-- 64 bytes are written into slot k of partition p. -/
def State.keyPut (s : State) (p k : Nat) (b : List Byte) : State :=
  (({ s with keys := { s.keys with slot := Cells.set (List.replicate 64 0) s.keys.slot (2 * p + k) b } }).writeKeyWord (2 * p + k)).wr (KEY_LOADED p k) 1

/-- A key load, refused for a slot that a valid region names or that a rotation leaves, after a failed known-answer test (2), and for two equal
halves (4) (R250, R258, R383). -/
def State.keyLoad (s : State) (p k : Nat) (key : List Byte) : State × Nat :=
  let b := (List.range 64).map (fun i => key.getD i 0)
  if s.slotNamed p k ∨ (s.rd (KEY_PSTAT.STATE p) ≠ 0 ∧ s.rd (KEY_PSTAT.CURRENT p) ≠ k) ∨ s.flag KEY_ERR_STAT.KAT_FAIL then (s, 2)
  else if b.take 32 = b.drop 32 then (s, 4)
  else (s.keyPut p k b, 0)

/-- The top of a region's units, in effect. -/
def State.regionTop (s : State) (p r : Nat) : Nat := (s.inEff (KEY_RGN_BASE.BASE p r) + s.inEff (KEY_RGN_SIZE.SIZE p r)) * 2 ^ 14

/-- Every sweep of partition p has ended: DRAINING (R252). -/
def State.sweepsDone (s : State) (p : Nat) : State :=
  if (s.validRegions p).any (fun r => s.flag (KEY_RGN_STAT.SWEEPING p r)) then s else s.wr (KEY_PSTAT.STATE p) 2

/-- The rules of Table 8.15 on the shadows. -/
def State.keyRules (s : State) (p : Nat) : List Bool :=
  let vs := (List.range 64).filter (fun r => s.flag (KEY_RGN_BASE.VALID p r))
  let port (r : Nat) : Nat := s.rd (KEY_RGN_BASE.PORT p r)
  let lo (r : Nat) : Nat := s.rd (KEY_RGN_BASE.BASE p r)
  let hi (r : Nat) : Nat := lo r + s.rd (KEY_RGN_SIZE.SIZE p r)
  let slot (r : Nat) : Nat := if s.flagEff (KEY_RGN_BASE.VALID p r) then s.rd (KEY_RGN_STAT.SLOT p r) else s.rd (KEY_PSTAT.CURRENT p)
  [vs.all (fun r => s.partOf (port r) = some p),
   vs.all (fun r => lo r < hi r && hi r ≤ s.portCap / 2 ^ 21 - 1),
   vs.all (fun r => vs.all (fun q => q = r || port q ≠ port r || hi q ≤ lo r || hi r ≤ lo q)),
   vs.all (fun r => s.flag (KEY_LOADED p (slot r))),
   1 ≤ s.rd (KEY_PCFG.SWEEP_SHARE p)]

/-- The shadowed fields of a region. -/
def keyRegionFields (p r : Nat) : List Fld :=
  [KEY_RGN_BASE.PORT p r, KEY_RGN_BASE.BASE p r, KEY_RGN_BASE.VALID p r, KEY_RGN_SIZE.SIZE p r, KEY_RGN_SIZE.HOST p r, KEY_RGN_SIZE.FAB p r]

/-- A key commit applies: a region newly validated takes the current slot; entries are written; which entry an armed injection meets first
is not stated, a free value (R260, Tables 8.4, 8.26). -/
def State.keyApply (s : State) (p : Nat) (enable : Bool) : State :=
  let fresh := (List.range 64).filter (fun r => s.flag (KEY_RGN_BASE.VALID p r) && !s.flagEff (KEY_RGN_BASE.VALID p r))
  let s1 := fresh.foldl (fun st r => st.wr (KEY_RGN_STAT.SLOT p r) (st.rd (KEY_PSTAT.CURRENT p))) s
  let s2 := s1.applyShadows (KEY_PCFG.SWEEP_SHARE p :: (List.range 64).flatMap (keyRegionFields p))
  let vs := s2.validRegions p
  let w := 16 + 64 * p + vs.getD (s2.free % max 1 vs.length) 0
  let s3 := { s2 with keys := { s2.keys with slotErr := Cells.clear s2.keys.slotErr (16 + 64 * p) (16 + 64 * p + 64) } }
  ((s3.writeKeyWord w).drew).wr (KEY_PSTAT.ENABLED p) (b2n enable)

/-- A key commit is checked and applied, or refused (R260). -/
def State.keyCheckApply (s : State) (p : Nat) (enable : Bool) : State :=
  match failingRule (s.keyRules p) with
  | some r => (s.raise (KEY_PSTAT.CFG_MISMATCH p)).wr (KEY_PSTAT.CFG_RULE p) r
  | none => s.keyApply p enable

/-- A staged key commit meets the step epoch open (R201). -/
def State.keyEpoch (s : State) (p : Nat) : State :=
  match Cells.get none s.keys.staged p with
  | none => s
  | some e =>
    ({ s with keys := { s.keys with staged := Cells.set none s.keys.staged p none } }.wr (KEY_PSTAT.PENDING p) 0).keyCheckApply p (e = 1)

end Sys2Proof.Machine
end

