-- ==== Sys2Proof/Machine/Memory.lean ====
section
/-! DEFINITION. The commands of the memory ports, the scrubbers, retirement and the key engine (R230 to R260). -/

namespace Sys2Proof.Machine
open Reg

/-- A port fails (R238). -/
def State.portFail (s : State) (n : Nat) : State := (s.wr (MEM_STAT.STATE n) 5).raise (MEM_ERR_STAT.TRAIN_FAIL n)

/-- PORT_TRAINING_DONE: the channels that failed a step, bit 4 the check channel; a failed check channel fails all four ports of its
package, and an armed MEM_INJ.TRAIN fails the pattern test (R238, Table 8.4). -/
def execPortTrainingDone (n : Lathe) (failed : Fin 32) (s : State) : Next :=
  .next (State.bootReady (if s.rd (MEM_STAT.STATE n) ≠ 1 then s
    else
      let inj := s.flag (MEM_INJ.TRAIN n)
      let s1 := s.wr (MEM_INJ.TRAIN n) 0
      if bit failed.val 4 then ((List.range 4).map (· + n.val / 4 * 4)).foldl (fun st m => st.portFail m) s1
      else if failed.val ≠ 0 ∨ inj then s1.portFail n
      else s1.wr (MEM_STAT.STATE n) 2))

/-- PORT_ZEROING_DONE (R238). -/
def execPortZeroingDone (n : Lathe) (s : State) : Next :=
  .next (if s.rd (MEM_STAT.STATE n) = 2 then State.bootReady ((s.zeroPort n).wr (MEM_STAT.STATE n) 3) else s)

/-- REFRESH_RATE_UPDATE: `modes` holds the rate that each of the five channels requires; the fastest applies (R239). -/
def execRefreshRateUpdate (n : Lathe) (modes : List (Fin 3)) (s : State) : Next :=
  .next (s.wr (MEM_STAT.RATE n) ((modes.take 5).foldl (fun m x => max m x.val) 0))

/-- SELF_REFRESH_ENTRY (R240). -/
def execSelfRefreshEntry (n : Lathe) (s : State) : Next :=
  .next (if s.rd (MEM_STAT.STATE n) = 3 ∧ (s.partOf n).isNone ∧ s.flagEff (MEM_CFG.AUTO_SR n) then s.wr (MEM_STAT.STATE n) 4 else s)

/-- The state in which a port serves accesses. -/
def State.portUp (s : State) (n : Nat) : Bool := s.rd (MEM_STAT.STATE n) = 3 || s.rd (MEM_STAT.STATE n) = 4

/-- PORT_ACCESS: a read of `len` bytes, or a write of `data`, at port-local `addr` (R231, R246, R247). -/
def execPortAccess (rq : Requester) (n : Lathe) (addr : BitVec 36) (len : Fin 16777216) (data : Option (List Byte)) (s : State) : Next :=
  if !s.portUp n then .next s
  else
    match data with
    | some d =>
      let (s1, e) := s.portWrite rq n addr.toNat d
      .next (s1.send (.portDone (e = .ok) []))
    | none =>
      let (s1, e, b) := s.portRead rq n addr.toNat len.val
      .next (s1.send (.portDone (e = .ok) b))

/-- Words of a scrubbed unit: corrected ones are written back. -/
def scrubWords (cells : Cells Byte) (errs : Cells Nat) (ws : List Nat) : Cells Byte × Cells Nat :=
  ws.foldl (fun (acc : Cells Byte × Cells Nat) w =>
    match decodeWord (Cells.get 0 errs w) with
    | .corrected _ _ => (Cells.setList 0 acc.1 (8 * w) (decodedBytes cells errs (8 * w) 8), Cells.set 0 acc.2 w 0)
    | .clean => acc
    | .uncorrectable => acc) (cells, errs)

/-- The words of a unit are scrubbed, and the scrubber moves on: Lathe SRAM, shared SRAM. -/
def State.scrubLsram (s : State) (unit next : Nat) (ws : List Nat) : State :=
  let x := scrubWords s.mem.lsram s.mem.lsramErr ws
  { s with mem := { s.mem with lsram := x.1, lsramErr := x.2, scrubPos := Cells.set 0 s.mem.scrubPos unit next } }
def State.scrubWay (s : State) (unit next : Nat) (ws : List Nat) : State :=
  let x := scrubWords s.mem.way s.mem.wayErr ws
  { s with mem := { s.mem with way := x.1, wayErr := x.2, scrubPos := Cells.set 0 s.mem.scrubPos unit next } }

/-- SRAM_SCRUB_WORD: the scrubber of Lathe SRAM n (0 to 15) or of way n (16 + n) reads its next word or unit (R237). -/
def execSramScrubWord (unit : Fin 32) (s : State) : Next :=
  let i := Cells.get 0 s.mem.scrubPos unit
  if unit.val < 16 then
    let n := unit.val
    let ws := wordsOf (n * 2 ^ 24 + 64 * i) 64
    let s1 := s.lsramCe n (fixable s.mem.lsramErr ws)
    let s2 := caseOf (lostWord s.mem.lsramErr ws) s1 (fun w => s1.reportUe n (w * 8 - n * 2 ^ 24))
    .next (s2.scrubLsram unit ((i + 1) % (lsramSize / 64)) ws)
  else
    let n := unit.val - 16
    let ws := wordsOf (n * 2 ^ 22 + 128 * i) 128
    let k := fixable s.mem.wayErr ws
    let s1 := if k = 0 then s else s.reportCe (16 + n) k
    let s2 := caseOf (lostWord s.mem.wayErr ws) s1 (fun w => s1.reportUe (16 + n) (w * 8 - n * 2 ^ 22))
    .next (s2.scrubWay unit ((i + 1) % (waySize / 128)) ws)

/-- A new patrol pass: the running counts become those of the previous pass (R242). -/
def State.patrolWrap (s : State) (n : Nat) : State :=
  let mine := Cells.within s.mem.ceCount (n * 2 ^ 24) ((n + 1) * 2 ^ 24)
  { s with mem := { s.mem with ceCount := mine.foldl (fun m x => Cells.set (0, 0) m x.1 (x.2.2, 0)) s.mem.ceCount } }

/-- PATROL_SCRUB_UNIT: the patrol reads the next unit raw, writes corrections back, and reports a lost unit (R241, R242, R257). -/
def execPatrolScrubUnit (n : Lathe) (s : State) : Next :=
  if !s.portUp n then .next s
  else
    let s0 := s.wakePort n
    let u := s0.rd (MEM_SCRUB_POS.UNIT n)
    let pl := s0.place n (u * 128)
    let s1 :=
      if s0.unitLost pl then (s0.reportLost n u (MEM_ERR_STAT.SCRUB_UE n)).memLost n u
      else
        let fixed := (s0.unitErrs pl).map correctWord
        let st := s0.countFixes n u
        { st with mem := { st.mem with portErr := Cells.setList 0 st.mem.portErr (pl / 8) fixed } }
    .next (if (u + 1) * 128 < s1.portCap then s1.wr (MEM_SCRUB_POS.UNIT n) (u + 1)
      else (s1.wr (MEM_SCRUB_POS.UNIT n) 0).patrolWrap n)

/-- The spares of port n that are not in use. -/
def State.freeSpares (s : State) (n : Nat) : List Nat := (List.range 512).filter (fun j => (Cells.get none s.mem.spare (n * 512 + j)).isNone)

/-- RETIRE_BLOCK: the oldest block that waits starts being copied into a spare, or sets RETIRE_FULL; which free spare is not stated, a free
value (R242). -/
def execRetireBlock (n : Lathe) (s : State) : Next :=
  match Cells.get [] s.mem.retQueue n with
  | [] => .next s
  | b :: rest =>
    if (Cells.get none s.mem.retCopy n).isSome then .next s
    else
      let s1 := { s with mem := { s.mem with retQueue := Cells.set [] s.mem.retQueue n rest } }
      let fs := s1.freeSpares n
      match fs[s1.free % fs.length]? with
      | none => .next (s1.raise (MEM_ERR_STAT.RETIRE_FULL n))
      | some j => .next ({ s1 with mem := { s1.mem with retCopy := Cells.set none s1.mem.retCopy n (some (b, j)) } }).drew

/-- MEM_RETIRE: a PF0 write (R242, Table 8.5). -/
def execMemRetire (n : Lathe) (block : Fin 16777216) (s : State) : Next :=
  .next (if s.rd (MEM_STAT.STATE n) ≠ 3 then s.raise (MEM_STAT.CFG_BUSY_WR n) else s.queueRetire n block)

/-- RETIRE_COPY_DONE: the stored codewords stand in the spare, corrected where they are correctable, and later accesses go there
(R242). -/
def execRetireCopyDone (n : Lathe) (s : State) : Next :=
  match Cells.get none s.mem.retCopy n with
  | none => .next s
  | some (b, j) =>
    let src := n.val * 2 ^ 36 + b * 4096
    let dst := n.val * 2 ^ 36 + (s.portCap - 2 ^ 21 + j * 4096)
    let errs := (Cells.getList 0 s.mem.portErr (src / 8) 512).map correctWord
    let m := s.mem
    let m1 : MemSt := { m with port := Cells.copy m.port src dst 4096, sealedBy := Cells.copy m.sealedBy (src / 128) (dst / 128) 32,
                               portErr := Cells.setList 0 m.portErr (dst / 8) errs, retCopy := Cells.set none m.retCopy n none,
                               spare := Cells.set none m.spare (n.val * 512 + j) (some b) }
    let s1 := { s with mem := m1 }
    .next ((s1.raise (MEM_ERR_STAT.RETIRED n)).wr (MEM_STAT.SPARES_USED n) (s1.rd (MEM_STAT.SPARES_USED n) + 1))

/-- A commit of MEM_CFG (R259, Table 8.7). -/
def State.memCommit (s : State) (n : Nat) : State :=
  if s.rd (MEM_CFG.SCRUB_PERIOD n) = 0 ∨ s.rd (MEM_CFG.RETIRE_CE n) = 0 then s.raise (MEM_COMMIT.CFG_MISMATCH n)
  else s.applyShadows [MEM_CFG.SCRUB_PERIOD n, MEM_CFG.RETIRE_CE n, MEM_CFG.AUTO_SR n]

/-- MEM_COMMIT. -/
def execMemCommit (n : Lathe) (s : State) : Next := .next (s.memCommit n)

/-- KEY_LOAD: 64 bytes into slot k of partition p (R250, R258). -/
def execKeyLoad (p : Part) (k : Fin 2) (key : List Byte) (s : State) : Next := .next (s.keyLoad p k key).1

/-- A rotation starts, or is refused with false (R252, R255). -/
def State.rotateStart (s : State) (p : Nat) : State × Bool :=
  let new := 1 - s.rd (KEY_PSTAT.CURRENT p)
  if s.rd (KEY_PSTAT.STATE p) ≠ 0 then (s.raise (KEY_PSTAT.CFG_BUSY_WR p), false)
  else if s.inEff (PLT_LIMITS.PORT_RES p) < s.inEff (KEY_PCFG.SWEEP_SHARE p) ∨ !s.flag (KEY_LOADED p new) then (s.raise (KEY_PSTAT.CFG_MISMATCH p), false)
  else
    let s1 := (s.validRegions p).foldl (fun st r =>
      ((st.wr (KEY_RGN_STAT.NEW_SLOT p r) new).wr (KEY_RGN_STAT.SWEEPING p r) 1).wr (KEY_RGN_WM.UNIT p r) (st.inEff (KEY_RGN_BASE.BASE p r) * 2 ^ 14)) s
    (((s1.wr (KEY_PSTAT.CURRENT p) new).wr (KEY_PSTAT.STATE p) 1).sweepsDone p, true)

/-- KEY_ROTATE_START: a PF0 write of KEY_ROTATE.START (R252, R255). -/
def execKeyRotateStart (p : Part) (s : State) : Next := .next (s.rotateStart p).1

/-- The region of partition p on port n that the sweep works on: the lowest whose sweep runs. -/
def State.sweepRegion (s : State) (p n : Nat) : Option Nat :=
  let rs := (s.validRegions p).filter (fun r => s.inEff (KEY_RGN_BASE.PORT p r) = n && s.flag (KEY_RGN_STAT.SWEEPING p r))
  rs.find? (fun r => rs.all (fun q => s.inEff (KEY_RGN_BASE.BASE p r) ≤ s.inEff (KEY_RGN_BASE.BASE p q)))

/-- ROTATION_SWEEP_UNIT: the next unit is read under the previous key and written under the current one, or as zeros when it is lost
(R252, R253, R256). -/
def execRotationSweepUnit (n : Lathe) (s : State) : Next :=
  match s.partOf n with
  | none => .next s
  | some p =>
    if s.rd (KEY_PSTAT.STATE p) ≠ 1 then .next s
    else
      match s.sweepRegion p n with
      | none => .next s
      | some r =>
        let s0 := ((s.readKeyWord p (16 + 64 * p + r)).readKeyWord p (2 * p)).readKeyWord p (2 * p + 1)
        if s0.keyFault p then .next s0
        else
          let u := s0.rd (KEY_RGN_WM.UNIT p r)
          let new := s0.rd (KEY_RGN_STAT.NEW_SLOT p r)
          let key := some (s0.keyBytes p new)
          let s1 :=
            if s0.unitLost (s0.place n (u * 128)) then
              (((s0.reportLost n u (MEM_ERR_STAT.UE n)).storeUnit n u key (List.replicate 128 0)).bump (KEY_LOST.UNITS p) 1).memLost n u
            else
              let st := s0.countFixes n u
              st.storeUnit n u key (st.viewUnit n u (some (st.keyBytes p (st.rd (KEY_RGN_STAT.SLOT p r)))))
          let s2 := (s1.injectUnit n u).wr (KEY_RGN_WM.UNIT p r) (u + 1)
          .next (if u + 1 < s2.regionTop p r then s2
            else ((s2.wr (KEY_RGN_STAT.SLOT p r) new).wr (KEY_RGN_STAT.SWEEPING p r) 0).sweepsDone p)

/-- ROTATION_DRAIN_DONE: no access tagged with the previous slot is in flight; it is destroyed (R252, R254). -/
def execRotationDrainDone (p : Part) (s : State) : Next :=
  .next (if s.rd (KEY_PSTAT.STATE p) = 2 then (s.destroySlot p (1 - s.rd (KEY_PSTAT.CURRENT p))).wr (KEY_PSTAT.STATE p) 0 else s)

/-- KEY_PCOMMIT: at once when no step of the partition runs, staged otherwise, or refused (R255, R260). -/
def execKeyPcommit (p : Part) (commit enable : Bool) (s : State) : Next :=
  .next (if !commit then s
    else if s.tearing p ∨ s.rd (KEY_PSTAT.STATE p) ≠ 0 then s.raise (KEY_PSTAT.CFG_BUSY_WR p)
    else if !s.stepRuns p then s.keyCheckApply p enable
    else
      match failingRule (s.keyRules p) with
      | some r => (s.raise (KEY_PSTAT.CFG_MISMATCH p)).wr (KEY_PSTAT.CFG_RULE p) r
      | none => ({ s with keys := { s.keys with staged := Cells.set none s.keys.staged p (some (b2n enable)) } }).wr (KEY_PSTAT.PENDING p) 1)

end Sys2Proof.Machine
end

