-- ==== Sys2Proof/Machine/Operators.lean ====
section
/-! DEFINITION. The operator classes on Spindles and vector unit (R48 to R54, R64 to R66, R111 to R134, R517): for each class
what a repetition touches, and what it computes and writes. -/

namespace Sys2Proof.Machine
open Reg

/-! Class parameters (Table 3.6). -/

def Desc.mM (d : Desc) : Nat := d.fld 0x60 0 20
def Desc.mN (d : Desc) : Nat := d.fld 0x64 0 20
def Desc.mK (d : Desc) : Nat := d.fld 0x68 0 20
def Desc.mALd (d : Desc) : Nat := d.fld 0x6C 0 24
def Desc.mBLd (d : Desc) : Nat := d.fld 0x70 0 24
def Desc.mOutLd (d : Desc) : Nat := d.fld 0x74 0 24
def Desc.rowMajorB (d : Desc) : Bool := d.fld 0x78 0 1 = 1
def Desc.hOut (d : Desc) : Nat := d.fld 0x60 0 16
def Desc.wOut (d : Desc) : Nat := d.fld 0x60 16 16
def Desc.cIn (d : Desc) : Nat := d.fld 0x64 0 16
def Desc.cOut (d : Desc) : Nat := d.fld 0x64 16 16
def Desc.fh (d : Desc) : Nat := d.fld 0x68 0 4 + 1
def Desc.fw (d : Desc) : Nat := d.fld 0x68 4 4 + 1
def Desc.sh (d : Desc) : Nat := d.fld 0x68 8 4 + 1
def Desc.sw (d : Desc) : Nat := d.fld 0x68 12 4 + 1
def Desc.padT (d : Desc) : Nat := d.fld 0x68 16 4
def Desc.padL (d : Desc) : Nat := d.fld 0x68 20 4
def Desc.dwCh (d : Desc) : Nat := d.fld 0x68 24 6 + 1
def Desc.poolKind (d : Desc) : Nat := d.fld 0x68 30 2
def Desc.row0 (d : Desc) : Nat := d.fld 0x6C 0 16
def Desc.hIn (d : Desc) : Nat := d.fld 0x6C 16 16
def Desc.cALd (d : Desc) : Nat := d.fld 0x70 0 24
def Desc.cOutLd (d : Desc) : Nat := d.fld 0x74 0 24
def Desc.wIn (d : Desc) : Nat := d.fld 0x78 0 16
def Desc.padB (d : Desc) : Nat := d.fld 0x78 16 4
def Desc.padR (d : Desc) : Nat := d.fld 0x78 20 4
def Desc.winoTile (d : Desc) : Nat := d.fld 0x78 24 1
def Desc.ewOp (d : Desc) : Nat := d.fld 0x60 0 8
def Desc.count (d : Desc) : Nat := d.fld 0x64 0 28
def Desc.cAddr (d : Desc) : Nat := d.word 0x68
def Desc.imm (d : Desc) : Nat := d.word 0x6C
def Desc.cRstep (d : Desc) : Int := sgn 32 (d.word 0x70)
def Desc.rows (d : Desc) : Nat := d.fld 0x64 0 20
def Desc.len (d : Desc) : Nat := d.fld 0x68 0 20
def Desc.rowLd (d : Desc) : Nat := d.fld 0x78 0 24
def Desc.topk (d : Desc) : Nat := d.fld 0x60 0 4
def Desc.experts (d : Desc) : Nat := d.fld 0x60 16 9
def Desc.gateTokens (d : Desc) : Nat := d.fld 0x64 0 20
def Desc.idxAddr (d : Desc) : Nat := d.word 0x68
def Desc.gateWgt (d : Desc) : Nat := d.word 0x6C
def Desc.moeTokens (d : Desc) : Nat := d.fld 0x60 0 20
def Desc.rowBytes (d : Desc) : Nat := d.fld 0x64 0 20
def Desc.expert (d : Desc) : Nat := d.fld 0x6C 0 8
def Desc.countAddr (d : Desc) : Nat := d.word 0x70
def Desc.moeWgt (d : Desc) : Nat := d.word 0x74
def Desc.slots (d : Desc) : Nat := d.fld 0x60 0 5
def Desc.partStride (d : Desc) : Nat := d.fld 0x68 0 24

def Desc.fA (d : Desc) : Fmt := fmtOf d.aFmt
def Desc.fB (d : Desc) : Fmt := fmtOf d.bFmt
def Desc.fO (d : Desc) : Fmt := fmtOf d.outFmt

/-- What one repetition reads, or writes. -/
structure Touch where
  reads : List Span
  writes : List Span
deriving DecidableEq, Repr

/-- What one repetition does: bytes written (address field, distance, bytes), flags by Spindle, vector-unit flags, and the
accumulators that stay for the next repetition of a chain. -/
structure Res where
  writes : List (Nat × Int × List Byte)
  spd : List (Nat × Exc)
  vec : Exc
  acc : Cells Nat

/-- A repetition that does nothing. -/
def Res.none : Res := ⟨[], [], {}, []⟩

/-! Spindles. -/

/-- The pairings of Table 2.4 (R47). -/
def pairOk (a b : Fmt) : Bool := (a.isMx && b.isMx) || (a.isInt && b.isInt) || (a = .bf16 && b = .bf16)

/-- Kt of Table 3.2. -/
def tileRows (a b : Fmt) : Nat := if (a = .e2m1 && b = .e2m1) || (a = .int4 && b = .int4) then 64 else 32

/-- t_B of R115: the bytes of a tile of Kt × 128 elements. -/
def tileBytes (b : Fmt) (kt : Nat) : Nat := kt * 128 * b.bits / 8

/-- The bytes of a row of 128 elements of a tile. -/
def tileRowBytes (b : Fmt) : Nat := 16 * b.bits

/-- The Spindles of group j (R111). -/
def groupSpindles (mask ks j : Nat) : List Nat := (((List.range 8).filter (bit mask)).drop (j * 2 ^ ks)).take (2 ^ ks)

/-- The number of Spindle groups G (R111). -/
def groupCount (mask ks : Nat) : Nat := ((List.range 8).filter (bit mask)).length / 2 ^ ks

/-- The value of an accumulator and the flags it has met. -/
abbrev Acc32 := Nat × Exc

/-- Add one exact term, a block sum or a BF16 product, to an accumulator (R48 to R51); `nanIn` says that a NaN entered. -/
def accAdd (acc : Acc32) (nanIn : Bool) (fin : Bool) (p : Val) : Acc32 :=
  let r := rne32 (sumV [f32 acc.1, p])
  (r, acc.2.or { nanIn := nanIn
                 invalid := (f32 r).isNan && !nanIn && !(f32 acc.1).isNan
                 ovf := (f32 r).isInf && fin && (f32 acc.1).finite })

/-- One block of 32 products summed exactly and added with one rounding (R48, R49). -/
def blockStep (acc : Acc32) (ps : List (Val × Val)) : Acc32 :=
  accAdd acc (ps.any (fun p => p.1.isNan || p.2.isNan)) (ps.all (fun p => p.1.finite && p.2.finite)) (sumV (ps.map (fun p => mulV p.1 p.2)))

/-- One BF16 product added with one rounding (R50). -/
def prodStep (acc : Acc32) (p : Val × Val) : Acc32 :=
  accAdd acc (p.1.isNan || p.2.isNan) (p.1.finite && p.2.finite) (mulV p.1 p.2)

/-- One tile of the K walk: products one by one for BF16, blocks of 32 otherwise, ascending (R48 to R50). Missing rows of the
tile count as zeros (R45). -/
def tileStep (bf : Bool) (kt : Nat) (acc : Acc32) (ps : List (Val × Val)) : Acc32 :=
  let full := (List.range kt).map (fun k => ps.getD k (Val.zero, Val.zero))
  if bf then full.foldl prodStep acc
  else (List.range (kt / 32)).foldl (fun a b => blockStep a ((full.drop (32 * b)).take 32)) acc

/-- The partial accumulators of an output after its tiles, by member of the group; none for a member without tiles (R112). -/
def memberSums (bf : Bool) (kt ks : Nat) (init : Nat → Nat) (tiles : List (List (Val × Val))) : List (Option Acc32) :=
  let ts := ceilDiv tiles.length (2 ^ ks)
  (List.range (2 ^ ks)).map (fun j =>
    let mine := (tiles.drop (j * ts)).take ts
    if mine.isEmpty then none else some (mine.foldl (tileStep bf kt) (init j, {})))

/-- The pairwise tree of R52 over the members' values. -/
def combine (ks : Nat) (l : List (Option Nat)) : Nat := (treeFold fadd ks l).getD 0

/-- Flags of the additions of the tree. -/
def combineExc (ks : Nat) (l : List (Option Nat)) : Exc :=
  let vs := l.filterMap id
  let r := combine ks l
  { invalid := (f32 r).isNan && !vs.any (fun v => (f32 v).isNan), ovf := (f32 r).isInf && vs.all (fun v => (f32 v).finite) }

/-- The Spindle of a group that combines the members' sums and converts them: which one is open (log 41). -/
def State.leadOf (s : State) (g : List Nat) : Nat := g.getD (s.free % max 1 g.length) 0

/-- Flags gathered under a Spindle. -/
def spdFlag (sp : Nat) (e : Exc) : List (Nat × Exc) := if e = {} then [] else [(sp, e)]

/-! Rows of output. -/

/-- A dense piece of output that lies in one item: its place (element and scale distances), the logical positions, the channel
of its first value, its values as FP32 codes and the Spindle whose output stage converts it. -/
structure Piece where
  delta : Int
  sdelta : Int
  pos : Nat
  chan : Nat
  vals : List Nat
  spindle : Nat

/-- A piece converted and written (R55 to R58); `perChannel` tells whether the multiplier vector has one entry per channel
or a single one (R58, R517). -/
def emitPiece (s : State) (n : Nat) (d : Desc) (perChannel : Bool) (p : Piece) : List (Nat × Int × List Byte) × Exc :=
  let f := d.fO
  let q (i : Nat) : Val := if f.isInt then s.vecEntry n d.outScale (if perChannel then p.chan + i else 0) else .zero
  let (eb, sb, e) := convertRun d f (fun i => p.pos + i) q (p.vals.map f32)
  ((d.outAddr, p.delta, eb) :: (if f.isMx then [(d.outScale, p.sdelta, sb)] else []), e)

/-- The distance of scale bytes that follow an element distance (R83). -/
def scaleDist (f : Fmt) (delta : Int) : Int := if f.isMx then delta / (f.blockBytes : Int) else 0

/-- A block of 32 rows of one column, for an output whose blocks run along the rows (OUT_BAXIS not 0): element codes, scale
byte and flags. Missing rows are written as +0 (R45). -/
def emitColumn (d : Desc) (m ncols pos0 i0 j : Nat) (val : Nat → Nat → Nat) : Nat × List Nat × Exc :=
  toMxBlock d.fO ((List.range 32).map (fun t => d.rounding (pos0 + (i0 + t) * ncols + j)))
    ((List.range 32).map (fun t => if i0 + t < m then f32 (val (i0 + t) j) else .zero))

/-- A matrix of FP32 results in rows of pitch `ld`, whose MX blocks run along the rows (axis 1). -/
def emitAxis1 (d : Desc) (m ncols ld pos0 : Nat) (delta : Int) (val : Nat → Nat → Nat) : List (Nat × Int × List Byte) × Exc :=
  let f := d.fO
  let gs := (List.range (ceilDiv m 32)).map (fun g =>
    let cols := (List.range ncols).map (fun j => emitColumn d m ncols pos0 (32 * g) j val)
    let rows := (List.range 32).map (fun t =>
      (d.outAddr, delta + ((32 * g + t) * ld : Nat), packCodes f (cols.map (fun c => c.2.1.getD t 0))))
    let sc := (d.outScale, scaleDist f delta + ((32 * g * ld : Nat) : Int) / (f.blockBytes : Int), cols.map (fun c => BitVec.ofNat 8 c.1))
    (rows ++ [sc], cols.foldl (fun e c => e.or c.2.2) ({} : Exc)))
  (gs.flatMap (·.1), gs.foldl (fun e g => e.or g.2) {})

/-! MATMUL (R73, R85, R111, R112). -/

/-- Distance of element B in tile order: row k of column group g. -/
def Desc.tileDelta (d : Desc) (g k : Nat) : Int := ((g * d.mBLd + k * tileRowBytes d.fB : Nat) : Int)

/-- The distance of repetition r of A, B and OUT (R83). -/
def Desc.dA (d : Desc) (r : Nat) : Int := d.aRstep * r
def Desc.dB (d : Desc) (r : Nat) : Int := d.bRstep * r
def Desc.dO (d : Desc) (r : Nat) : Int := d.outRstep * r

/-- An element of a tile, or of another dense run of B whose blocks run along the rows: element and scale distances given. -/
def State.tileElem (s : State) (n : Nat) (d : Desc) (delta sdelta : Int) (col : Nat) : Val :=
  let v := elemVal d.fB (s.elemCode n d.fB d.bAddr delta col)
  if d.fB.isMx then scaleE8 v (s.peekWord n d.bScale sdelta 1) else v

/-- B[k][j] of a MATMUL (R85). -/
def State.matB (s : State) (n : Nat) (d : Desc) (r k j : Nat) : Val :=
  if d.rowMajorB then
    s.arrVal n ⟨d.bAddr, d.bScale, d.fB, d.dB r, d.mBLd, if d.bBaxis = 0 then 0 else 1⟩ j k
  else
    let g := j / 128
    s.tileElem n d (d.dB r + d.tileDelta g k)
      (scaleDist d.fB (d.dB r + ((g * d.mBLd : Nat) : Int)) + (k / 32 * 128 + j % 128 : Nat)) (j % 128)

/-- The operand A of a MATMUL as an array. -/
def Desc.matArrA (d : Desc) (r : Nat) : Arr := ⟨d.aAddr, d.aScale, d.fA, d.dA r, d.mALd, if d.aBaxis = 0 then 0 else 1⟩

/-- The K walk of output (i, j) of a MATMUL: tiles of Kt products in ascending K (Table 4.1). -/
def State.matTiles (s : State) (n : Nat) (d : Desc) (r i j : Nat) : List (List (Val × Val)) :=
  let kt := tileRows d.fA d.fB
  (List.range (ceilDiv d.mK kt)).map (fun t =>
    ((List.range kt).filter (fun k => t * kt + k < d.mK)).map (fun k =>
      (s.arrVal n (d.matArrA r) i (t * kt + k), s.matB n d r (t * kt + k) j)))

/-- The output stage of INT operands: RNE(RNE(y·sb)·sa) (R49); other formats pass unchanged. -/
def Desc.outScaleInt (s : State) (n : Nat) (d : Desc) (i j y : Nat) : Nat :=
  if d.fA.isInt then
    rne32 (mulV (f32 (rne32 (mulV (f32 y) (s.vecEntry n d.bScale j)))) (s.vecEntry n d.aScale (if d.aScaleTensor then 0 else i)))
  else y

/-- The place of a chained accumulator: output (i, j) of `ncols` columns, member. -/
def accKey (ncols i j mem : Nat) : Nat := (i * ncols + j) * 8 + mem

/-- The matrix part of a repetition over `m` × `ncols` outputs: member sums of every output (kept when the chain goes on),
or the combined and scaled values with the flags by Spindle. `grp i j` is the item's Spindle group. -/
def matSums (d : Desc) (m ncols : Nat) (tiles : Nat → Nat → List (List (Val × Val))) (grp : Nat → Nat → Nat)
    (init : Nat → Nat → Nat → Nat) : List ((Nat × Nat) × List (Option Acc32) × List (Nat × Exc)) :=
  let kt := tileRows d.fA d.fB
  ((List.range m).flatMap (fun i => (List.range ncols).map (fun j => (i, j)))).map (fun ij =>
    let ms := memberSums (d.fA = .bf16) kt d.kSplit (init ij.1 ij.2) (tiles ij.1 ij.2)
    let sp := groupSpindles d.spdMask d.kSplit (grp ij.1 ij.2)
    (ij, ms, ((List.range ms.length).flatMap (fun k =>
      match ms.getD k none with
      | some a => spdFlag (sp.getD k 0) a.2
      | none => []))))

/-- The repetition starts its accumulators: the first of a chain, or every one without a chain. -/
def Desc.startsAcc (d : Desc) (r : Nat) : Bool := !d.accChain || r = 0
/-- The repetition drains its accumulators. -/
def Desc.drains (d : Desc) (r : Nat) : Bool := !d.accChain || r + 1 = d.reps

/-- The initial accumulator of a member (R112, Table 3.4): kept by the chain, loaded from ACC_ADDR by member 0, or +0. -/
def Desc.initAcc (s : State) (n : Nat) (d : Desc) (r : Nat) (acc : Cells Nat) (ncols : Nat) (accDelta : Nat → Nat → Int) (i j mem : Nat) : Nat :=
  if !d.startsAcc r then Cells.get 0 acc (accKey ncols i j mem)
  else if d.accInit = 1 ∧ mem = 0 then s.peekWord n d.accAddr (accDelta i j) 4
  else 0

/-- A Spindle class without transforms (MATMUL, CONV, DWCONV): sums, chain, output stage, and the pieces of output. `piece i g`
is the place of row i's run of columns from `g × width`; positions by R84. -/
def spindleRes (s : State) (n : Nat) (d : Desc) (r : Nat) (acc : Cells Nat) (m ncols width : Nat)
    (tiles : Nat → Nat → List (List (Val × Val))) (grp : Nat → Nat → Nat) (accDelta : Nat → Nat → Int) (rowDelta : Nat → Int) (axis1Ld : Option Nat) : Res :=
  let sums := matSums d m ncols tiles grp (Desc.initAcc s n d r acc ncols accDelta)
  let flags := sums.flatMap (fun x => x.2.2)
  if !d.drains r then
    ⟨[], flags, {}, sums.foldl (fun c x => (List.range x.2.1.length).foldl (fun c k =>
      match x.2.1.getD k none with
      | some a => Cells.set 0 c (accKey ncols x.1.1 x.1.2 k) a.1
      | none => c) c) []⟩
  else
    let mem (i j : Nat) : List (Option Nat) := ((sums.getD (i * ncols + j) ((0, 0), [], [])).2.1).map (fun o => o.map (·.1))
    let val (i j : Nat) : Nat := Desc.outScaleInt s n d i j (combine d.kSplit (mem i j))
    let lead (i j : Nat) : Nat := s.leadOf (groupSpindles d.spdMask d.kSplit (grp i j))
    let cflags := ((List.range m).flatMap (fun i => (List.range ncols).flatMap (fun j =>
      let y := combine d.kSplit (mem i j)
      spdFlag (lead i j) ((combineExc d.kSplit (mem i j)).or
        { invalid := (f32 (val i j)).isNan && !(f32 y).isNan, ovf := (f32 (val i j)).isInf && (f32 y).finite }))))
    let pos0 := if d.accChain then 0 else r * m * ncols
    match axis1Ld with
    | some ld =>
      let (w, e) := emitAxis1 d m ncols ld pos0 (d.dO r) val
      ⟨w, flags ++ cflags ++ spdFlag (lead 0 0) e, {}, []⟩
    | none =>
      let ps := (List.range m).flatMap (fun i => (List.range (ceilDiv ncols width)).map (fun g =>
        emitPiece s n d true { delta := d.dO r + rowDelta i + (runBytes d.fO (g * width) : Nat)
                               sdelta := scaleDist d.fO (d.dO r + rowDelta i) + (g * width / 32 : Nat)
                               pos := pos0 + i * ncols + g * width
                               chan := g * width
                               vals := ((List.range width).filter (fun c => g * width + c < ncols)).map (fun c => val i (g * width + c))
                               spindle := lead i (g * width) } |> fun w => (w, lead i (g * width))))
      ⟨ps.flatMap (·.1.1), flags ++ cflags ++ ps.flatMap (fun p => spdFlag p.2 p.1.2), {}, []⟩

/-- MATMUL (R73, R74, R85). -/
def matmulRes (s : State) (n : Nat) (d : Desc) (r : Nat) (acc : Cells Nat) : Res :=
  let rb := ceilDiv d.mM 256
  spindleRes s n d r acc d.mM d.mN 128 (fun i j => s.matTiles n d r i j)
    (fun i j => (j / 128 * rb + i / 256) % max 1 (groupCount d.spdMask d.kSplit))
    (fun i j => ((i * d.accLd + 4 * j : Nat) : Int)) (fun i => ((i * d.mOutLd : Nat) : Int))
    (if d.fO.isMx && d.outBaxis ≠ 0 then some d.mOutLd else none)

/-- The spans of one operand array of rows: elements and MX scales. -/
def rowSpans (a : Arr) (rows cols : Nat) : List Span :=
  let f := a.fmt
  let er := if a.axis = 0 ∨ !f.isMx then rows else ceilDiv rows 32 * 32
  (List.range er).map (fun i => ⟨a.addr, a.delta + (i * a.ld : Nat), if a.axis = 0 then runBytes f cols else ceilDiv (cols * f.bits) 8⟩) ++
  (if f.isMx then
    if a.axis = 0 then (List.range rows).map (fun i => ⟨a.saddr, a.scaleDelta i 0, ceilDiv cols 32⟩)
    else (List.range (ceilDiv rows 32)).map (fun g => ⟨a.saddr, a.scaleDelta (32 * g) 0, cols⟩)
   else [])

/-- The FP32 vector that an INT operand or output names (R46, R49, R58). -/
def intVec (f : Fmt) (addr k : Nat) : List Span := if f.isInt then [⟨addr, 0, 4 * k⟩] else []

/-- Whole tiles and their scales: `t` tiles from a distance (R85, R115). -/
def tileSpans (d : Desc) (delta : Int) (t : Nat) : List Span :=
  let kt := tileRows d.fA d.fB
  ⟨d.bAddr, delta, t * tileBytes d.fB kt⟩ ::
  (if d.fB.isMx then [⟨d.bScale, scaleDist d.fB delta, t * (kt / 32) * 128⟩] else [])

/-- What repetition r of a MATMUL touches. -/
def matmulTouch (d : Desc) (r : Nat) : Touch :=
  let kt := tileRows d.fA d.fB
  let tk := ceilDiv d.mK kt
  { reads := rowSpans (d.matArrA r) d.mM d.mK ++ intVec d.fA d.aScale (if d.aScaleTensor then 1 else d.mM) ++
      (if d.rowMajorB then rowSpans ⟨d.bAddr, d.bScale, d.fB, d.dB r, d.mBLd, if d.bBaxis = 0 then 0 else 1⟩ d.mN d.mK
       else (List.range (ceilDiv d.mN 128)).flatMap (fun g => tileSpans d (d.dB r + ((g * d.mBLd : Nat) : Int)) tk)) ++
      intVec d.fB d.bScale d.mN ++ (if d.drains r then intVec d.fO d.outScale d.mN else []) ++
      (if d.accInit = 1 ∧ d.startsAcc r then (List.range d.mM).map (fun i => ⟨d.accAddr, ((i * d.accLd : Nat) : Int), 4 * d.mN⟩) else [])
    writes := if d.drains r then
        rowSpans ⟨d.outAddr, d.outScale, d.fO, d.dO r, d.mOutLd, if d.fO.isMx && d.outBaxis ≠ 0 then 1 else 0⟩ d.mM d.mN
      else [] }

/-! Tensors of pixels (R114). -/

/-- The input place of output pixel (y, x) under a tap: row from r_lo and column; none when it is padding (R114). -/
def Desc.tap (d : Desc) (y x fh fw : Nat) : Option (Nat × Nat) :=
  let row : Int := ((d.row0 + y) * d.sh + fh : Nat) - (d.padT : Int)
  let col : Int := (x * d.sw + fw : Nat) - (d.padL : Int)
  let rlo := d.row0 * d.sh - d.padT
  if 0 ≤ row ∧ row < d.hIn ∧ 0 ≤ col ∧ col < d.wIn then some (row.toNat - rlo, col.toNat) else none

/-- The distance of an input pixel (R114). -/
def Desc.pixDelta (d : Desc) (r : Nat) (rc : Nat × Nat) : Int := d.dA r + ((rc.1 * d.cALd + rc.2 * pixelPitch d.fA d.cIn : Nat) : Int)

/-- Channel c of a pixel of A, with its MX scale; INT elements without scale. -/
def State.pixVal (s : State) (n : Nat) (d : Desc) (r : Nat) (rc : Nat × Nat) (c : Nat) : Val :=
  let delta := d.pixDelta r rc
  let v := elemVal d.fA (s.elemCode n d.fA d.aAddr delta c)
  if d.fA.isMx then scaleE8 v (s.peekWord n d.aScale (scaleDist d.fA delta + (c / 32 : Nat)) 1) else v

/-- The taps in order, fh major (Table 4.1). -/
def Desc.taps (d : Desc) : List (Nat × Nat) := (List.range d.fh).flatMap (fun a => (List.range d.fw).map (fun b => (a, b)))

/-- The spans of a pixel run of A. -/
def Desc.pixSpans (d : Desc) (r : Nat) (rc : Nat × Nat) : List Span :=
  ⟨d.aAddr, d.pixDelta r rc, runBytes d.fA d.cIn⟩ ::
  (if d.fA.isMx then [⟨d.aScale, scaleDist d.fA (d.pixDelta r rc), ceilDiv d.cIn 32⟩] else [])

/-- Every input pixel that the stripe reads. -/
def Desc.pixels (d : Desc) : List (Nat × Nat) :=
  ((List.range d.hOut).flatMap (fun y => (List.range d.wOut).flatMap (fun x => d.taps.filterMap (fun t => d.tap y x t.1 t.2)))).eraseDups

/-- The row distance of output pixel p of the stripe. -/
def Desc.outPix (d : Desc) (p : Nat) : Int := ((p / d.wOut * d.cOutLd + p % d.wOut * pixelPitch d.fO d.cOut : Nat) : Int)

/-- The distance of the initial value of channel j of output pixel p: the FP32 layout of R114. -/
def Desc.accPix (d : Desc) (p j : Nat) : Int := ((p / d.wOut * d.accLd + p % d.wOut * pixelPitch .fp32 d.cOut + 4 * j : Nat) : Int)

/-- The spans of the output pixels. -/
def Desc.outPixSpans (d : Desc) (r : Nat) : List Span :=
  (List.range (d.hOut * d.wOut)).flatMap (fun p =>
    ⟨d.outAddr, d.dO r + d.outPix p, runBytes d.fO d.cOut⟩ ::
    (if d.fO.isMx then [⟨d.outScale, scaleDist d.fO (d.dO r + d.outPix p), ceilDiv d.cOut 32⟩] else []))

/-- The spans of the initial values of a convolution. -/
def Desc.accPixSpans (d : Desc) (r : Nat) : List Span :=
  if d.accInit = 1 ∧ d.startsAcc r then
    (List.range (d.hOut * d.wOut)).map (fun p => ⟨d.accAddr, d.accPix p 0, 4 * d.cOut⟩)
  else []

/-- The K walk of output channel j at pixel p of a CONV: taps, and channel tiles ascending within a tap (Table 4.1, R115). -/
def State.convTiles (s : State) (n : Nat) (d : Desc) (r p j : Nat) : List (List (Val × Val)) :=
  let kt := tileRows d.fA d.fB
  let tb := tileBytes d.fB kt
  let tc := ceilDiv d.cIn kt
  let tk := d.fh * d.fw * tc
  (d.taps.zip (List.range d.taps.length)).flatMap (fun tp =>
    (List.range tc).map (fun u =>
      let base : Int := d.dB r + (((j / 128 * tk + tp.2 * tc + u) * tb : Nat) : Int)
      ((List.range kt).filter (fun k => u * kt + k < d.cIn)).map (fun k =>
        (match d.tap (p / d.wOut) (p % d.wOut) tp.1.1 tp.1.2 with
         | some rc => s.pixVal n d r rc (u * kt + k)
         | none => Val.zero,
         s.tileElem n d (base + (k * tileRowBytes d.fB : Nat)) (scaleDist d.fB base + (k / 32 * 128 + j % 128 : Nat)) (j % 128)))))

/-- CONV (R111, R114, R115). -/
def convRes (s : State) (n : Nat) (d : Desc) (r : Nat) (acc : Cells Nat) : Res :=
  let rb := ceilDiv (d.hOut * d.wOut) 256
  spindleRes s n d r acc (d.hOut * d.wOut) d.cOut 128 (fun p j => s.convTiles n d r p j)
    (fun p j => (j / 128 * rb + p / 256) % max 1 (groupCount d.spdMask d.kSplit)) d.accPix d.outPix none

/-- What repetition r of a CONV touches. -/
def convTouch (d : Desc) (r : Nat) : Touch :=
  let kt := tileRows d.fA d.fB
  let tk := d.fh * d.fw * ceilDiv d.cIn kt
  { reads := d.pixels.flatMap (d.pixSpans r) ++ intVec d.fA d.aScale (if d.aScaleTensor then 1 else d.hOut * d.wOut) ++
      (List.range (ceilDiv d.cOut 128)).flatMap (fun g => tileSpans d (d.dB r + ((g * tk * tileBytes d.fB kt : Nat) : Int)) tk) ++
      intVec d.fB d.bScale d.cOut ++ (if d.drains r then intVec d.fO d.outScale d.cOut else []) ++ d.accPixSpans r
    writes := if d.drains r then d.outPixSpans r else [] }

/-- The K walk of output channel j at pixel p of a DWCONV: one tile per tap, of the 32 channels of the group (R124). -/
def State.dwTiles (s : State) (n : Nat) (d : Desc) (r p j : Nat) : List (List (Val × Val)) :=
  let kt := tileRows d.fA d.fB
  let tb := tileBytes d.fB kt
  let h := j / 32
  (d.taps.zip (List.range d.taps.length)).map (fun tp =>
    let base : Int := d.dB r + (((h * d.fh * d.fw + tp.2) * tb : Nat) : Int)
    (List.range 32).map (fun k =>
      (if 32 * h + k < d.cIn then
        match d.tap (p / d.wOut) (p % d.wOut) tp.1.1 tp.1.2 with
        | some rc => s.pixVal n d r rc (32 * h + k)
        | none => Val.zero
       else Val.zero,
       s.tileElem n d (base + (k * tileRowBytes d.fB : Nat)) (scaleDist d.fB base + (j % 32 : Nat)) (j % 32))))

/-- DWCONV: the diagonal mapping (R124). -/
def dwconvRes (s : State) (n : Nat) (d : Desc) (r : Nat) (acc : Cells Nat) : Res :=
  let rb := ceilDiv (d.hOut * d.wOut) 256
  spindleRes s n d r acc (d.hOut * d.wOut) d.cOut 32 (fun p j => s.dwTiles n d r p j)
    (fun p j => (j / 32 * rb + p / 256) % max 1 (groupCount d.spdMask d.kSplit)) d.accPix d.outPix none

/-- What repetition r of a DWCONV touches. -/
def dwconvTouch (d : Desc) (r : Nat) : Touch :=
  let kt := tileRows d.fA d.fB
  { reads := d.pixels.flatMap (d.pixSpans r) ++ intVec d.fA d.aScale (if d.aScaleTensor then 1 else d.hOut * d.wOut) ++
      (List.range (ceilDiv d.cIn 32)).flatMap (fun h => tileSpans d (d.dB r + ((h * d.fh * d.fw * tileBytes d.fB kt : Nat) : Int)) (d.fh * d.fw)) ++
      intVec d.fB d.bScale d.cOut ++ (if d.drains r then intVec d.fO d.outScale d.cOut else []) ++ d.accPixSpans r
    writes := if d.drains r then d.outPixSpans r else [] }

/-! Winograd (R120, R121). -/

/-- Bᵀ of Table 4.5. -/
def winoBT (t : Nat) : List (List Int) :=
  if t = 0 then [[1, 0, -1, 0], [0, 1, 1, 0], [0, -1, 1, 0], [0, 1, 0, -1]]
  else [[4, 0, -5, 0, 1, 0], [0, -4, -4, 1, 1, 0], [0, 4, -4, -1, 1, 0], [0, -2, -1, 2, 1, 0], [0, 2, -1, -2, 1, 0], [0, 4, 0, -5, 0, 1]]

/-- Aᵀ of Table 4.5. -/
def winoAT (t : Nat) : List (List Int) :=
  if t = 0 then [[1, 1, 1, 0], [0, 1, -1, -1]]
  else [[1, 1, 1, 1, 1, 0], [0, 1, -1, 2, -2, 0], [0, 1, 1, 4, 4, 0], [0, 1, -1, 8, -8, 1]]

/-- Output tile edge, input tile edge. -/
def winoE (t : Nat) : Nat := if t = 0 then 2 else 4
def winoI (t : Nat) : Nat := if t = 0 then 4 else 6

/-- An integer multiple of a value. -/
def smulV (c : Int) (v : Val) : Val := mulV (.num (c < 0) c.natAbs 0) v

/-- A sum of integer multiples in FP32 (R64). The order of its operations is not stated: where every order gives the same
result (each partial sum is exact in FP32, or a NaN enters) that is the result; otherwise it is a fixed but open function of
the operands (R54). -/
def orderFree (fn : Nat) (ts : List (Int × Nat)) : Nat :=
  let used := ts.filter (fun t => t.1 ≠ 0)
  let vs := used.map (fun t => smulV t.1 (f32 t.2))
  let sum := sumV vs
  if vs.any Val.isNan then nan32
  else
    let q := (minExpo vs).getD 0
    let total := vs.foldl (fun a v => a + (mantAt v q).natAbs) 0
    if vs.all Val.finite && -149 ≤ q && total < 2 ^ 24 then rne32 sum
    else Config.winoSum fn (used.map (fun t => (t.1, t.2))) % 2 ^ 32

/-- An FP32 load of a vector-unit operand element: its exact value rounded once (R55, R63). -/
def load32 (v : Val) : Nat := rne32 v

/-- The FP32 input d[a][b] of tile (ty, tx), channel c; padding is zero (R114, R120). -/
def State.winoIn (s : State) (n : Nat) (d : Desc) (r ty tx c a b : Nat) : Nat :=
  let e := winoE d.winoTile
  let row : Int := (d.row0 + e * ty + a : Nat) - (d.padT : Int)
  let col : Int := (e * tx + b : Nat) - (d.padL : Int)
  let rlo := d.row0 - d.padT
  if 0 ≤ row ∧ row < d.hIn ∧ 0 ≤ col ∧ col < d.wIn then
    let v := s.pixVal n d r (row.toNat - rlo, col.toNat) c
    load32 (if d.fA.isInt then mulV v (s.vecEntry n d.aScale 0) else v)
  else 0

/-- V[a][b] = (Bᵀ d B)[a][b] of a tile and channel in FP32. -/
def State.winoV (s : State) (n : Nat) (d : Desc) (r ty tx c a b : Nat) : Nat :=
  let m := winoBT d.winoTile
  let w := winoI d.winoTile
  orderFree 0 ((List.range w).flatMap (fun i => (List.range w).map (fun j =>
    (((m.getD a []).getD i 0) * ((m.getD b []).getD j 0), s.winoIn n d r ty tx c i j))))

/-- The channels of plane (a, b) of a tile, converted into A_FMT (R55) and as the Spindles read them. The multiplier of a conversion into
INT8 or INT4 is not stated (log 201). -/
def State.winoRow (s : State) (n : Nat) (d : Desc) (r ty tx a b : Nat) : List Val :=
  let vals := (List.range d.cIn).map (fun c => f32 (s.winoV n d r ty tx c a b))
  let f := d.fA
  if f.isMx then
    (blocks32 vals).flatMap (fun blk =>
      let q := toMxBlock f (blk.map (fun _ => Rnd.rne)) blk
      q.2.1.map (fun c => scaleE8 (elemVal f c) q.1))
  else vals.map (fun v => elemVal f (if f.isInt then (toInt f .rne (f32 (Config.winoMult (s.peekWord n d.aScale 0 4) % 2 ^ 32)) v).1
    else (toFloat f .rne v).1))

/-- The FP32 product of plane p for output channel j of a tile (R121). -/
def State.winoPlane (s : State) (n : Nat) (d : Desc) (r j p : Nat) (row : List Val) : List (Option Acc32) :=
  let kt := tileRows d.fA d.fB
  let tb := tileBytes d.fB kt
  let tc := ceilDiv d.cIn kt
  let planes := winoI d.winoTile * winoI d.winoTile
  memberSums (d.fA = .bf16) kt d.kSplit (fun _ => 0) ((List.range tc).map (fun u =>
    let base : Int := d.dB r + ((((j / 128 * planes + p) * tc + u) * tb : Nat) : Int)
    ((List.range kt).filter (fun k => u * kt + k < d.cIn)).map (fun k =>
      (row.getD (u * kt + k) .zero,
       s.tileElem n d (base + (k * tileRowBytes d.fB : Nat)) (scaleDist d.fB base + (k / 32 * 128 + j % 128 : Nat)) (j % 128)))))

/-- WINO: V converted into A_FMT, the planes' products on the Spindles, Aᵀ · A in the vector unit (R120, R121). -/
def winoRes (s : State) (n : Nat) (d : Desc) (r : Nat) : Res :=
  let t := d.winoTile
  let e := winoE t
  let w := winoI t
  let tw := ceilDiv d.wOut e
  let nt := ceilDiv d.hOut e * tw
  let mmax := if t = 0 then 256 else 64
  let rb := ceilDiv nt mmax
  let tilesOut := (List.range nt).map (fun ti =>
    let rows := (List.range (w * w)).map (fun p => s.winoRow n d r (ti / tw) (ti % tw) (p / w) (p % w))
    (List.range d.cOut).map (fun j =>
      let ms := (List.range (w * w)).map (fun p => s.winoPlane n d r j p (rows.getD p []))
      let ys := ms.map (fun m => Desc.outScaleInt s n d 0 j (combine d.kSplit (m.map (fun o => o.map (·.1)))))
      let sp (p : Nat) : List Nat := groupSpindles d.spdMask d.kSplit (((j / 128 * rb + ti / mmax) * (w * w) + p) % max 1 (groupCount d.spdMask d.kSplit))
      let fl := (List.range (w * w)).flatMap (fun p => (List.range (2 ^ d.kSplit)).flatMap (fun k =>
        match (ms.getD p []).getD k none with
        | some a => spdFlag ((sp p).getD k 0) a.2
        | none => [])) ++ (List.range (w * w)).flatMap (fun p =>
          let mv := (ms.getD p []).map (fun o => o.map (·.1))
          let y := combine d.kSplit mv
          spdFlag (s.leadOf (sp p)) ((combineExc d.kSplit mv).or
            { invalid := (f32 (ys.getD p 0)).isNan && !(f32 y).isNan, ovf := (f32 (ys.getD p 0)).isInf && (f32 y).finite }))
      let out (a b : Nat) : Nat := orderFree 1 ((List.range w).flatMap (fun i => (List.range w).map (fun k =>
        ((((winoAT t).getD a []).getD i 0) * (((winoAT t).getD b []).getD k 0), ys.getD (i * w + k) 0))))
      ((List.range e).flatMap (fun a => (List.range e).map (fun b => out a b)), fl)))
  let val (p j : Nat) : Nat :=
    let y := p / d.wOut
    let x := p % d.wOut
    (((tilesOut.getD (y / e * tw + x / e) []).getD j ([], [])).1).getD (y % e * e + x % e) 0
  let ps := (List.range (d.hOut * d.wOut)).map (fun p => emitPiece s n d true
    { delta := d.dO r + d.outPix p, sdelta := scaleDist d.fO (d.dO r + d.outPix p), pos := r * (d.hOut * d.wOut) * d.cOut + p * d.cOut,
      chan := 0, vals := (List.range d.cOut).map (val p), spindle := 0 })
  ⟨ps.flatMap (·.1), (tilesOut.flatMap (fun l => l.flatMap (·.2))), ps.foldl (fun e p => e.or p.2) {}, []⟩

/-- The bytes of the staging area of a WINO (R121). -/
def winoStaging (d : Desc) : Nat :=
  let t := d.winoTile
  let pa := pixelPitch d.fA d.cIn + (if d.fA.isMx then ceilDiv d.cIn 32 else 0)
  2 * (winoI t * winoI t) * (if t = 0 then 256 else 64) * (pa + 512)

/-- What repetition r of a WINO touches; the staging area is among what it writes. -/
def winoTouch (d : Desc) (r : Nat) : Touch :=
  let kt := tileRows d.fA d.fB
  let t := d.winoTile
  let e := winoE t
  let w := winoI t
  let tc := ceilDiv d.cIn kt
  let rlo := d.row0 - d.padT
  let pix := ((List.range (ceilDiv d.hOut e)).flatMap (fun ty => (List.range (ceilDiv d.wOut e)).flatMap (fun tx =>
    (List.range w).flatMap (fun a => (List.range w).filterMap (fun b =>
      let row : Int := (d.row0 + e * ty + a : Nat) - (d.padT : Int)
      let col : Int := (e * tx + b : Nat) - (d.padL : Int)
      if 0 ≤ row ∧ row < d.hIn ∧ 0 ≤ col ∧ col < d.wIn then some (row.toNat - rlo, col.toNat) else none))))).eraseDups
  { reads := pix.flatMap (d.pixSpans r) ++ intVec d.fA d.aScale 1 ++
      (List.range (ceilDiv d.cOut 128)).flatMap (fun g => tileSpans d (d.dB r + ((g * (w * w) * tc * tileBytes d.fB kt : Nat) : Int)) (w * w * tc)) ++
      intVec d.fB d.bScale d.cOut ++ intVec d.fO d.outScale d.cOut
    writes := d.outPixSpans r ++ [⟨d.accAddr, 0, winoStaging d⟩] }

/-! Vector-unit classes. -/

/-- An element of a run operand of the vector unit, with its scale: one FP32 scale for the whole of an INT run (R517). -/
def State.runVal (s : State) (n : Nat) (f : Fmt) (addr saddr : Nat) (delta : Int) (i : Nat) : Val :=
  let v := elemVal f (s.elemCode n f addr delta i)
  if f.isMx then scaleE8 v (s.peekWord n saddr (scaleDist f delta + (i / 32 : Nat)) 1)
  else if f.isInt then mulV v (s.vecEntry n saddr 0)
  else v

/-- Flags of the load of a value into FP32 (Table 2.10). -/
def loadExc (v : Val) : Exc := { nanIn := v.isNan, ovf := (f32 (load32 v)).isInf && v.finite }

/-- The spans of a run operand. -/
def runSpans (f : Fmt) (addr saddr : Nat) (delta : Int) (k : Nat) : List Span :=
  ⟨addr, delta, runBytes f k⟩ ::
  (if f.isMx then [⟨saddr, scaleDist f delta, ceilDiv k 32⟩] else if f.isInt then [⟨saddr, 0, 4⟩] else [])

/-- The spans of a run that is written, and of the multiplier that its conversion reads. -/
def outRunSpans (d : Desc) (delta : Int) (k : Nat) : List Span :=
  ⟨d.outAddr, delta, runBytes d.fO k⟩ :: (if d.fO.isMx then [⟨d.outScale, scaleDist d.fO delta, ceilDiv k 32⟩] else [])

def outMult (d : Desc) (k : Nat) : List Span := if d.fO.isInt then [⟨d.outScale, 0, 4 * k⟩] else []

/-- EW_OP reads B (Table 3.7). -/
def ewUsesB (op : Nat) : Bool := (1 ≤ op && op ≤ 6) || op = 0x1A || op = 0x1B
/-- The codes of Table 3.7. -/
def ewOk (op : Nat) : Bool := op ≤ 8 || (0x10 ≤ op && op ≤ 0x14) || (0x18 ≤ op && op ≤ 0x1B)

/-- One elementwise result in FP32 with its flags (Table 3.7, R64 to R67). -/
def ewApply (op a b c imm : Nat) : Nat × Exc :=
  let bin (r : Nat) (xs : List Nat) : Nat × Exc := (r, opExc (xs.map f32) r)
  if op = 1 then bin (fadd a b) [a, b]
  else if op = 2 then bin (fsub a b) [a, b]
  else if op = 3 then bin (fmul a b) [a, b]
  else if op = 4 then bin (ffma a b c) [a, b, c]
  else if op = 5 then bin (fmax a b) [a, b]
  else if op = 6 then bin (fmin a b) [a, b]
  else if op = 7 then bin (fmul a imm) [a, imm]
  else if op = 8 then bin (fadd a imm) [a, imm]
  else if op = 0x10 then frecip a
  else if op = 0x11 then frsqrt a
  else if op = 0x12 then fexp a
  else if op = 0x13 then fexp2 a
  else if op = 0x14 then flog2 a
  else
    let p := fpoly (if op = 0x18 ∨ op = 0x1A then 0 else 1) a
    if op = 0x18 ∨ op = 0x19 then p
    else
      let r := fmul p.1 b
      (r, p.2.or (opExc [f32 p.1, f32 b] r))

/-- A run of values in the descriptor's output format, written at a distance of OUT (R517: one multiplier). -/
def emitRun (s : State) (n : Nat) (d : Desc) (delta : Int) (pos : Nat) (vals : List Val) : List (Nat × Int × List Byte) × Exc :=
  let q : Val := if d.fO.isInt then s.vecEntry n d.outScale 0 else .zero
  let (eb, sb, e) := convertRun d d.fO (fun i => pos + i) (fun _ => q) vals
  ((d.outAddr, delta, eb) :: (if d.fO.isMx then [(d.outScale, scaleDist d.fO delta, sb)] else []), e)

/-- A conversion between equal MX formats copies codes and scale of a block without NaN or infinity (Table 2.5). -/
def State.copyMxBlocks (s : State) (n : Nat) (d : Desc) (r : Nat) : List (Nat × Int × List Byte) × Exc :=
  let f := d.fA
  let k := d.count
  let bs := (List.range (ceilDiv k 32)).map (fun b =>
    let idx := (List.range 32).map (fun i => 32 * b + i)
    let vals := idx.map (fun i => if i < k then s.runVal n f d.aAddr d.aScale (d.dA r) i else Val.zero)
    if vals.any (fun v => v.isNan || v.isInf) then toMxBlock f (idx.map (fun _ => Rnd.rne)) vals
    else (s.peekWord n d.aScale (scaleDist f (d.dA r) + (b : Nat)) 1,
          idx.map (fun i => if i < k then s.elemCode n f d.aAddr (d.dA r) i else 0), {}))
  ([(d.outAddr, d.dO r, packCodes f (bs.flatMap (fun x => x.2.1))), (d.outScale, scaleDist f (d.dO r), bs.map (fun x => BitVec.ofNat 8 x.1))],
   bs.foldl (fun e x => e.or x.2.2) {})

/-- VEC_EW (R85, R517). -/
def vecEwRes (s : State) (n : Nat) (d : Desc) (r : Nat) : Res :=
  let k := d.count
  let av (i : Nat) : Val := s.runVal n d.fA d.aAddr d.aScale (d.dA r) i
  if d.ewOp = 0 then
    if d.fA.isMx && d.aFmt = d.outFmt then
      let (w, e) := s.copyMxBlocks n d r
      ⟨w, [], e, []⟩
    else
      let (w, e) := emitRun s n d (d.dO r) (r * k) ((List.range k).map av)
      ⟨w, [], e, []⟩
  else
    let rs := (List.range k).map (fun i =>
      let a := av i
      let b := if ewUsesB d.ewOp then s.runVal n d.fB d.bAddr d.bScale (d.dB r) i else .zero
      let c := if d.ewOp = 4 then s.peekWord n d.cAddr (d.cRstep * r + (4 * i : Nat)) 4 else 0
      let x := ewApply d.ewOp (load32 a) (load32 b) c d.imm
      (f32 x.1, (x.2.or (loadExc a)).or (loadExc b)))
    let (w, e) := emitRun s n d (d.dO r) (r * k) (rs.map (·.1))
    ⟨w, [], rs.foldl (fun acc x => acc.or x.2) e, []⟩

/-- What repetition r of a VEC_EW touches. -/
def vecEwTouch (d : Desc) (r : Nat) : Touch :=
  { reads := runSpans d.fA d.aAddr d.aScale (d.dA r) d.count ++
      (if ewUsesB d.ewOp then runSpans d.fB d.bAddr d.bScale (d.dB r) d.count else []) ++
      (if d.ewOp = 4 then [⟨d.cAddr, d.cRstep * r, 4 * d.count⟩] else []) ++ outMult d 1
    writes := outRunSpans d (d.dO r) d.count }

/-- The operand A of NORM and SOFTMAX. -/
def Desc.rowArr (d : Desc) (r : Nat) : Arr := ⟨d.aAddr, d.aScale, d.fA, d.dA r, d.rowLd, if d.aBaxis = 0 then 0 else 1⟩

/-- Row i of A loaded into FP32. -/
def State.rowVals (s : State) (n : Nat) (d : Desc) (r i : Nat) : List Val :=
  (List.range d.len).map (fun j =>
    let v := s.arrVal n (d.rowArr r) i j
    if d.fA.isInt then mulV v (s.vecEntry n d.aScale 0) else v)

/-- The reductions of R65; an empty lane contributes nothing. -/
def redSum (xs : List Nat) : Nat := (vreduce id fadd fadd xs).getD 0
def redSumSq (xs : List Nat) : Nat := (vreduce (fun x => fmul x x) (fun a x => ffma x x a) fadd xs).getD 0
def redMax (xs : List Nat) : Nat := (vreduce id fmax fmax xs).getD 0xFF800000

/-- Flags of a value computed from operands. -/
def stepExc (xs : List Nat) (r : Nat) : Exc := opExc (xs.map f32) r

/-- A natural number as FP32. -/
def natF32 (k : Nat) : Nat := rne32 (.num false k 0)

/-- One row of NORM (R126). -/
def normRow (s : State) (n : Nat) (d : Desc) (xs : List Nat) : List Nat × Exc :=
  let inv := (frecip (natF32 d.len)).1
  let eps := d.word 0x6C
  let gamma (i : Nat) : Nat := s.peekWord n (d.word 0x70) (4 * i : Nat) 4
  let beta (i : Nat) : Nat := s.peekWord n (d.word 0x74) (4 * i : Nat) 4
  if d.fld 0x60 0 1 = 0 then
    let q := redSumSq xs
    let ms := fmul q inv
    let t := fadd ms eps
    let rr := frsqrt t
    let ys := (xs.zip (List.range xs.length)).map (fun p =>
      let u := fmul p.1 rr.1
      let y := fmul u (gamma p.2)
      (y, (stepExc [p.1, rr.1] u).or (stepExc [u, gamma p.2] y)))
    (ys.map (·.1), ys.foldl (fun e y => e.or y.2) ((stepExc xs q).or ((stepExc [q, inv] ms).or ((stepExc [ms, eps] t).or rr.2))))
  else
    let sum := redSum xs
    let mean := fmul sum inv
    let dv := xs.map (fun x => fsub x mean)
    let q := redSumSq dv
    let ms := fmul q inv
    let t := fadd ms eps
    let rr := frsqrt t
    let ys := (dv.zip (List.range dv.length)).map (fun p =>
      let u := fmul p.1 rr.1
      let y := ffma u (gamma p.2) (beta p.2)
      (y, (stepExc [p.1, rr.1] u).or (stepExc [u, gamma p.2, beta p.2] y)))
    (ys.map (·.1), ys.foldl (fun e y => e.or y.2)
      (((stepExc xs sum).or (stepExc [sum, inv] mean)).or (((stepExc dv q).or ((stepExc [q, inv] ms).or (stepExc [ms, eps] t))).or (((xs.map (fun x => stepExc [x, mean] (fsub x mean))).foldl Exc.or {}).or rr.2))))

/-- One row of SOFTMAX (R126): the values z are given. -/
def softmaxRow (zs : List Nat) : List Nat × Exc :=
  let mx := redMax zs
  if mx = 0xFF800000 then (zs.map (fun _ => 0), {})
  else
    let ps := zs.map (fun z => let t := fsub z mx; let p := fexp t; (p.1, (stepExc [z, mx] t).or p.2))
    let sum := redSum (ps.map (·.1))
    let inv := frecip sum
    let ys := ps.map (fun p => let y := fmul p.1 inv.1; (y, (stepExc [p.1, inv.1] y).or p.2))
    (ys.map (·.1), ys.foldl (fun e y => e.or y.2) ((stepExc (ps.map (·.1)) sum).or inv.2))

/-- The distance of mask element (i, j): dense rows of LEN words (log 12). -/
def maskDelta (d : Desc) (i j : Nat) : Int := ((4 * (i * d.len + j) : Nat) : Int)

/-- The rows of NORM or SOFTMAX with their flags. -/
def rowsOut (s : State) (n : Nat) (d : Desc) (r : Nat) : List (List Nat × Exc) :=
  (List.range d.rows).map (fun i =>
    let vs := s.rowVals n d r i
    let le := vs.foldl (fun e v => e.or (loadExc v)) ({} : Exc)
    let xs := vs.map load32
    if d.opcode = 7 then let y := normRow s n d xs; (y.1, y.2.or le)
    else
      let masked := addrSpace (d.word 0x70) ≠ 3
      let zs := (xs.zip (List.range xs.length)).map (fun p =>
        let m := if masked then s.peekWord n (d.word 0x70) (maskDelta d i p.2) 4 else 0
        let z := ffma p.1 (d.word 0x6C) m
        (z, stepExc [p.1, d.word 0x6C, m] z))
      let y := softmaxRow (zs.map (·.1))
      (y.1, zs.foldl (fun e z => e.or z.2) (y.2.or le)))

/-- NORM and SOFTMAX (R126). -/
def rowsRes (s : State) (n : Nat) (d : Desc) (r : Nat) : Res :=
  let rows := rowsOut s n d r
  let e0 := rows.foldl (fun e x => e.or x.2) ({} : Exc)
  let val (i j : Nat) : Nat := ((rows.getD i ([], {})).1).getD j 0
  if d.fO.isMx && d.outBaxis ≠ 0 then
    let (w, e) := emitAxis1 d d.rows d.len d.rowLd (r * d.rows * d.len) (d.dO r) val
    ⟨w, [], e0.or e, []⟩
  else
    let ps := (List.range d.rows).map (fun i => emitRun s n d (d.dO r + (i * d.rowLd : Nat)) (r * d.rows * d.len + i * d.len)
      ((List.range d.len).map (fun j => f32 (val i j))))
    ⟨ps.flatMap (·.1), [], ps.foldl (fun e p => e.or p.2) e0, []⟩

/-- What repetition r of a NORM or SOFTMAX touches. -/
def rowsTouch (d : Desc) (r : Nat) : Touch :=
  { reads := rowSpans (d.rowArr r) d.rows d.len ++ (if d.fA.isInt then [⟨d.aScale, 0, 4⟩] else []) ++ outMult d 1 ++
      (if d.opcode = 7 then
        ⟨d.word 0x70, 0, 4 * d.len⟩ :: (if d.fld 0x60 0 1 = 1 then [⟨d.word 0x74, 0, 4 * d.len⟩] else [])
       else if addrSpace (d.word 0x70) ≠ 3 then [⟨d.word 0x70, 0, 4 * d.rows * d.len⟩] else [])
    writes := rowSpans ⟨d.outAddr, d.outScale, d.fO, d.dO r, d.rowLd, if d.fO.isMx && d.outBaxis ≠ 0 then 1 else 0⟩ d.rows d.len }

/-- POOL (R127, R517). -/
def poolRes (s : State) (n : Nat) (d : Desc) (r : Nat) : Res :=
  let cell (p c : Nat) : Nat × Exc :=
    let ts := d.taps.map (fun t => (d.tap (p / d.wOut) (p % d.wOut) t.1 t.2).map (fun rc =>
      let v := s.pixVal n d r rc c
      if d.fA.isInt then mulV v (s.vecEntry n d.aScale c) else v))
    let ins := ts.filterMap id
    let le := ins.foldl (fun e v => e.or (loadExc v)) ({} : Exc)
    if d.poolKind = 0 then
      match ins.map load32 with
      | [] => (0, le)
      | x :: xs => (xs.foldl fmax x, le)
    else
      let xs := ts.map (fun o => match o with | some v => load32 v | none => 0)
      let sum := match xs with | [] => 0 | x :: t => t.foldl fadd x
      let k := if d.poolKind = 1 then d.fh * d.fw else ins.length
      let inv := frecip (natF32 k)
      let y := fmul sum inv.1
      (y, le.or ((stepExc xs sum).or ((stepExc [sum, inv.1] y).or inv.2)))
  let ps := (List.range (d.hOut * d.wOut)).map (fun p =>
    let cs := (List.range d.cOut).map (cell p)
    let w := emitPiece s n d true { delta := d.dO r + d.outPix p, sdelta := scaleDist d.fO (d.dO r + d.outPix p),
                                    pos := r * (d.hOut * d.wOut) * d.cOut + p * d.cOut, chan := 0, vals := cs.map (·.1), spindle := 0 }
    (w.1, cs.foldl (fun e c => e.or c.2) w.2))
  ⟨ps.flatMap (·.1), [], ps.foldl (fun e p => e.or p.2) {}, []⟩

/-- What repetition r of a POOL touches. -/
def poolTouch (d : Desc) (r : Nat) : Touch :=
  { reads := d.pixels.flatMap (d.pixSpans r) ++ intVec d.fA d.aScale d.cIn ++ intVec d.fO d.outScale d.cOut
    writes := d.outPixSpans r }

/-! Mixture of experts (R128, R129). -/

/-- The row pitch of the logits (R128). -/
def gatePitch (d : Desc) : Nat := 64 * ceilDiv (d.experts * 4) 64

/-- Expert a is chosen before expert b: larger logit, NaN below −∞, ties to the lower index (R128). -/
def gateBefore (x y : Nat) : Bool :=
  if (f32 x).isNan then false else if (f32 y).isNan then true else valLt (f32 y) (f32 x) && !((f32 x).isZero && (f32 y).isZero)

/-- The best expert of those not yet chosen. -/
def gateBest (logits : List Nat) (done : List Nat) : Nat :=
  ((List.range logits.length).filter (fun e => !done.contains e)).foldl (fun best e =>
    match best with
    | none => some e
    | some b => if gateBefore (logits.getD e 0) (logits.getD b 0) then some e else some b) (none : Option Nat) |>.getD 0

/-- The chosen experts in order. -/
def gatePick (logits : List Nat) : Nat → List Nat
  | 0 => []
  | k + 1 => let l := gatePick logits k; l ++ [gateBest logits l]

/-- MOE_GATE (R128). -/
def gateRes (s : State) (n : Nat) (d : Desc) (r : Nat) : Res :=
  let rs := (List.range d.gateTokens).map (fun t =>
    let lg := (List.range d.experts).map (fun e => s.peekWord n d.aAddr (d.dA r + ((t * gatePitch d + 4 * e : Nat) : Int)) 4)
    let pick := gatePick lg d.topk
    let sel := pick.map (fun e => lg.getD e 0)
    let z := sel.map (fun x => ffma x 0x3F800000 0)
    let (ws, e) := softmaxRow z
    ([(d.idxAddr, ((t * 8 : Nat) : Int), (List.range 8).map (fun i => BitVec.ofNat 8 (if i < d.topk then pick.getD i 0 else 255))),
      (d.gateWgt, ((t * 32 : Nat) : Int), ws.flatMap (leBytes 4))],
     lg.foldl (fun (a : Exc) x => a.or { nanIn := (f32 x).isNan }) e))
  ⟨rs.flatMap (·.1), [], rs.foldl (fun e x => e.or x.2) {}, []⟩

def gateTouch (d : Desc) (r : Nat) : Touch :=
  { reads := (List.range d.gateTokens).map (fun t => ⟨d.aAddr, d.dA r + ((t * gatePitch d : Nat) : Int), 4 * d.experts⟩)
    writes := (List.range d.gateTokens).flatMap (fun t =>
      [⟨d.idxAddr, ((t * 8 : Nat) : Int), 8⟩, ⟨d.gateWgt, ((t * 32 : Nat) : Int), 4 * d.topk⟩]) }

/-- The matches of an expert in scan order: token and rank (R129). -/
def State.moeMatches (s : State) (n : Nat) (d : Desc) : List (Nat × Nat) :=
  (List.range d.moeTokens).flatMap (fun t =>
    ((List.range 8).filter (fun i => s.peekWord n d.idxAddr ((t * 8 + i : Nat) : Int) 1 = d.expert)).map (fun i => (t, i)))

/-- The scale bytes of a row of A (R83). -/
def rowScales (d : Desc) : Nat := if d.fA.isMx then d.rowBytes / d.fA.blockBytes else 0

/-- MOE_GATHER (R129). -/
def gatherRes (s : State) (n : Nat) (d : Desc) (r : Nat) : Res :=
  let ms := s.moeMatches n d
  let row (j : Nat) : List (Nat × Int × List Byte) :=
    let (e, sc) : List Byte × List Byte :=
      match ms[j]? with
      | some m => (s.peek n d.aAddr (d.dA r + ((m.1 * d.rowBytes : Nat) : Int)) d.rowBytes,
                   s.peek n d.aScale (scaleDist d.fA (d.dA r) + ((m.1 * rowScales d : Nat) : Int)) (rowScales d))
      | none => (List.replicate d.rowBytes 0, List.replicate (rowScales d) 0x7F)
    (d.outAddr, d.dO r + ((j * d.rowBytes : Nat) : Int), e) ::
    (if d.fA.isMx then [(d.outScale, scaleDist d.fA (d.dO r) + ((j * rowScales d : Nat) : Int), sc)] else [])
  ⟨(List.range d.moeTokens).flatMap row ++ [(d.countAddr, 0, leBytes 4 ms.length)], [], {}, []⟩

/-- MOE_SCATTER (R129): the matches of a token add to its row in scan order. A holds TOKENS rows: a match beyond them has none. -/
def scatterRes (s : State) (n : Nat) (d : Desc) (r : Nat) : Res :=
  let nrow := d.rowBytes * 8 / d.fA.bits
  let ms := (s.moeMatches n d).zip (List.range d.moeTokens)
  let rs : List ((Nat × Int × List Byte) × Exc) := ((List.range d.moeTokens).filter (fun t => ms.any (fun mj => mj.1.1 = t))).map (fun t =>
    let ys : List (Nat × Exc) := (List.range nrow).map (fun k =>
      (ms.filter (fun mj => mj.1.1 = t)).foldl (fun (o : Nat × Exc) mj =>
        let w := s.peekWord n d.moeWgt ((t * 32 + 4 * mj.1.2 : Nat) : Int) 4
        let v := s.runVal n d.fA d.aAddr d.aScale (d.dA r + ((mj.2 * d.rowBytes : Nat) : Int)) k
        let y := ffma w (load32 v) o.1
        (y, o.2.or ((stepExc [w, load32 v, o.1] y).or (loadExc v))))
        (s.peekWord n d.outAddr (d.dO r + ((4 * (t * nrow + k) : Nat) : Int)) 4, {}))
    ((d.outAddr, d.dO r + ((4 * (t * nrow) : Nat) : Int), ys.flatMap (fun (y : Nat × Exc) => leBytes 4 y.1)), ys.foldl (fun (e : Exc) (y : Nat × Exc) => e.or y.2) {}))
  ⟨rs.map (·.1), [], rs.foldl (fun e x => e.or x.2) {}, []⟩

def moeTouch (d : Desc) (r : Nat) : Touch :=
  let nrow := d.rowBytes * 8 / d.fA.bits
  let idx : List Span := [⟨d.idxAddr, 0, 8 * d.moeTokens⟩]
  let a : List Span := [⟨d.aAddr, d.dA r, d.moeTokens * d.rowBytes⟩] ++
    (if d.fA.isMx then [⟨d.aScale, scaleDist d.fA (d.dA r), d.moeTokens * rowScales d⟩] else [])
  if d.opcode = 9 then
    { reads := idx ++ a
      writes := [⟨d.outAddr, d.dO r, d.moeTokens * d.rowBytes⟩, ⟨d.countAddr, 0, 4⟩] ++
        (if d.fA.isMx then [⟨d.outScale, scaleDist d.fA (d.dO r), d.moeTokens * rowScales d⟩] else []) }
  else
    { reads := idx ++ a ++ (if d.fA.isInt then [⟨d.aScale, 0, 4⟩] else []) ++ [⟨d.moeWgt, 0, 32 * d.moeTokens⟩, ⟨d.outAddr, d.dO r, 4 * nrow * d.moeTokens⟩]
      writes := [⟨d.outAddr, d.dO r, 4 * nrow * d.moeTokens⟩] }

/-- REDUCE: partials in ascending slot, the first one the starting value (R53, R134). -/
def reduceRes (s : State) (n : Nat) (d : Desc) (r : Nat) : Res :=
  let part (k i : Nat) : Nat := s.peekWord n d.aAddr (d.dA r + ((k * d.partStride + 4 * i : Nat) : Int)) 4
  let ys : List (Val × Exc) := (List.range d.count).map (fun i =>
    let xs := (List.range d.slots).map (fun k => part k i)
    let y := match xs with | [] => 0 | x :: t => t.foldl fadd x
    ((f32 y, stepExc xs y) : Val × Exc))
  let (w, e) := emitRun s n d (d.dO r) (r * d.count) (ys.map (·.1))
  ⟨w, [], ys.foldl (fun (a : Exc) y => a.or y.2) e, []⟩

def reduceTouch (d : Desc) (r : Nat) : Touch :=
  { reads := (List.range d.slots).map (fun k => ⟨d.aAddr, d.dA r + ((k * d.partStride : Nat) : Int), 4 * d.count⟩) ++ outMult d 1
    writes := outRunSpans d (d.dO r) d.count }

/-! The classes together. -/

/-- What repetition r of a compute class touches; NOP, KAT and DMA_KICK name no operand, the attention classes are those of
the streamer. -/
def Desc.touch (d : Desc) (r : Nat) : Touch :=
  let op := d.opcode
  if op = 1 then matmulTouch d r else if op = 2 then convTouch d r else if op = 3 then winoTouch d r
  else if op = 4 then dwconvTouch d r else if op = 5 then poolTouch d r else if op = 6 then vecEwTouch d r
  else if op = 7 ∨ op = 8 then rowsTouch d r else if op = 9 ∨ op = 10 then moeTouch d r
  else if op = 11 then gateTouch d r else if op = 15 then reduceTouch d r else ⟨[], []⟩

/-- What repetition r of a compute class computes, from the accumulators the chain keeps. -/
def Desc.result (s : State) (n : Nat) (d : Desc) (r : Nat) (acc : Cells Nat) : Res :=
  let op := d.opcode
  if op = 1 then matmulRes s n d r acc else if op = 2 then convRes s n d r acc else if op = 3 then winoRes s n d r
  else if op = 4 then dwconvRes s n d r acc else if op = 5 then poolRes s n d r else if op = 6 then vecEwRes s n d r
  else if op = 7 ∨ op = 8 then rowsRes s n d r else if op = 9 then gatherRes s n d r else if op = 10 then scatterRes s n d r
  else if op = 11 then gateRes s n d r else if op = 15 then reduceRes s n d r else Res.none

end Sys2Proof.Machine
end

