-- ==== Sys2Proof/Machine/PageTables.lean ====
section
/-! DEFINITION. The commands of the page-frame table unit (R150 to R157, R168, R169). -/

namespace Sys2Proof.Machine
open Reg

/-! Queues and responses (R150, R151). -/

/-- PFT_CMD_STAT shows the PF0 queue (Table 5.20). -/
def State.showPftQueue (s : State) : State :=
  (s.wr PFT_CMD_STAT.DEPTH s.pft.pfQueue.length).wr PFT_CMD_STAT.FULL (b2n (16 ≤ s.pft.pfQueue.length))

/-- The command the unit takes next: the two queues in turn, the Peloton first when both wait. True: from PF0. -/
def State.pftNext (s : State) : Option (Bool × List Nat) :=
  match s.pft.pltQueue, s.pft.pfQueue with
  | [], [] => none
  | a :: _, [] => some (false, a)
  | [], b :: _ => some (true, b)
  | a :: _, b :: _ => if s.pft.turnPf then some (true, b) else some (false, a)

/-- The command leaves its queue. -/
def State.pftPop (s : State) (fromPf : Bool) : State :=
  (if fromPf then { s with pft := { s.pft with pfQueue := s.pft.pfQueue.drop 1, turnPf := false } }
   else { s with pft := { s.pft with pltQueue := s.pft.pltQueue.drop 1, turnPf := true } }).showPftQueue

/-- The response of a command (R151): [15:0] TAG, [23:16] STATUS, [24] GEN, [31] VALID. The Peloton takes its own at once: of a
RELEASE that it issued, the end of CLOSING (Table 6.2). -/
def State.pftAnswer (s : State) (fromPf : Bool) (w : List Nat) (status gen : Nat) : State :=
  if fromPf then
    { s with pft := { s.pft with resp := s.pft.resp ++ [bits (w.getD 0 0) 16 16 + status * 2 ^ 16 + gen % 2 * 2 ^ 24 + 2 ^ 31] } }
  else if bits (w.getD 0 0) 0 8 = 6 then s.slotReleased (bits (w.getD 1 0) 0 13) else s

/-- A failed command leaves tables, frames and records as they were; error records, flags and counts of the failing state stay
(R150). -/
def State.pftUndo (s0 s1 : State) (p : Nat) : State :=
  (({ s1 with pft := s0.pft, mem := { s1.mem with port := s0.mem.port, portErr := s0.mem.portErr, sealedBy := s0.mem.sealedBy } }).wr
    (PFT_FREE.FRAMES p) (s0.rd (PFT_FREE.FRAMES p))).showWalks p

/-- The unit executes its next command when that is of operation `op`; a reserved OP is refused by whichever execution meets
it (Tables 5.5, 5.6). `body` gets partition, slot and words, and answers the state and GEN. -/
def State.runPft (s : State) (op : Nat) (body : State → Nat → Nat → List Nat → PftRes (State × Nat)) : State :=
  match s.pftNext with
  | none => s
  | some (pf, w) =>
    let o := bits (w.getD 0 0) 0 8
    let p := bits (w.getD 0 0) 8 3
    if o = 0 ∨ 10 < o then (s.pftPop pf).pftAnswer pf w 6 0
    else if o ≠ op then s
    else
      let s0 := s.pftPop pf
      if !s0.flag (PFT_PART_STAT.ENABLED p) then s0.pftAnswer pf w 6 0
      else if s0.pftFaulted p then s0.pftAnswer pf w 9 0
      else
        match body s0 p (bits (w.getD 1 0) 0 13) w with
        | .ok (s1, g) => s1.pftAnswer pf w 0 g
        | .error (st, s1) => (s0.pftUndo s1 p).pftAnswer pf w st 0

/-- The slot is open and belongs to the partition; otherwise BAD_SLOT. -/
def State.needOpen (s : State) (p slot : Nat) : PftRes Unit :=
  if (s.kvRec slot).isOpen && (s.kvRec slot).part = p then .ok () else .error (3, s)

/-- A condition or a status. -/
def State.need (s : State) (b : Bool) (status : Nat) : PftRes Unit := if b then .ok () else .error (status, s)

/-- 1,048,576 positions (R148). -/
def maxPos : Nat := 1048576

/-- PFT_CMD_QUEUE: a write of PFT_CMD3 queues the PF0 command, or is discarded with OVERRUN when 16 wait (R150). -/
def execPftCmdQueue (w3 : Word) (s : State) : Next :=
  .next (if 16 ≤ s.pft.pfQueue.length then s.raise PFT_CMD_STAT.OVERRUN
    else ({ s with pft := { s.pft with pfQueue := s.pft.pfQueue ++
      [[s.rd (PFT_CMD.WORD 0), s.rd (PFT_CMD.WORD 1), s.rd (PFT_CMD.WORD 2), w3.toNat]] } }).showPftQueue)

/-- PFT_RESP_READ: the oldest response is returned and removed; with none the word is 0 (R151, Table 5.21). -/
def execPftRespRead (s : State) : Next :=
  .next (({ s with pft := { s.pft with resp := s.pft.resp.drop 1 } }).send (.readData (leBytes 4 (s.pft.resp.headD 0))))

/-- A provisional area: P frames of the region (R144). -/
def State.allocProv (s : State) (p : Nat) : PftRes (State × List Nat) :=
  (List.range (s.provPer p)).foldlM (fun (acc : State × List Nat) _ => do
    let (st, f) ← acc.1.allocFrame p true 3 2
    .ok (st, acc.2 ++ [f])) (s, [])

/-- OPEN (Table 5.6). -/
def pftOpen (s : State) (p slot : Nat) (w : List Nat) : PftRes (State × Nat) := do
  s.need (!(s.kvRec slot).isOpen) 3
  let spec := bit (w.getD 3 0) 0
  -- the first table-area word read is the frame state array's (Table 5.11)
  let (s0, _) ← s.frameRead p 0
  let (s1, tail) ← (if s0.kvFmt p = .bf16 then .ok (s0, 0) else s0.allocFrame p false 1 1)
  let (s2, prov) ← (if spec then s1.allocProv p else .ok (s1, []))
  let (s3, t, l) ← s2.allocLine p
  let s4 ← s3.tableWrite p (t * 4096 + l * 64) t (List.replicate 64 0)
  .ok (s4.setRec slot { rootFrame := t, rootLine := l, isOpen := true, len := 0, part := p, spec := spec, tail := tail, prepLen := 0,
                        prov := (prov ++ [0, 0, 0, 0]).take 4 }, 0)

def execSlotOpen (s : State) : Next := .next (s.runPft 1 pftOpen)

/-- Copy every slice of a frame into another, unit by unit, on each port of the partition (R153); a unit that cannot be read
ends the command (log 14). -/
def State.copyFrame (s : State) (p src dst : Nat) : PftRes State :=
  (s.lathesOf p).foldlM (fun (st : State) n =>
    (List.range (st.frameBytes p / 128)).foldlM (fun (st : State) i =>
      match st.sliceRead p n src (128 * i) 128 with
      | (s1, .bad, _) => .error (9, s1.pftFault p src PFT_ERR_STAT.MEM_UE)
      | (s1, .ok, b) =>
        let b' := if i = 0 then (s1.sliceHeader p dst 0) ++ b.drop 64 else b
        match s1.sliceWrite p n dst (128 * i) b' with
        | (s2, .bad) => .error (9, s2.pftFault p dst PFT_ERR_STAT.MEM_UE)
        | (s2, .ok) => .ok s2) st) s

/-- The pages that hold a position of `[a, b)`. -/
def pagesOf (a b : Nat) : List Nat := if a < b then (List.range ((b - 1) / 64 + 1 - a / 64)).map (· + a / 64) else []

/-- PREPARE: fresh frames for the pages without a valid entry, copy-on-write of a shared page that holds position record LEN,
append locks, PREP_LEN (Table 5.6, R152, R153). -/
def pftPrepare (s : State) (p slot : Nat) (w : List Nat) : PftRes (State × Nat) := do
  s.needOpen p slot
  let len := bits (w.getD 2 0) 0 21
  s.need (len ≤ maxPos) 4
  let r := s.kvRec slot
  s.need (r.len ≤ len) 7
  let (s1, edits, frames, drops) ← (pagesOf r.len len).foldlM (fun (acc : State × List (Nat × Option Nat) × List Nat × List Nat) pg => do
    let (st, e) ← acc.1.pageRead p r pg
    match e with
    | none =>
      let (st1, f) ← st.allocFrame p false 1 0
      .ok (st1, acc.2.1 ++ [(pg, some f)], acc.2.2.1 ++ [f], acc.2.2.2)
    | some f =>
      let (st1, fw) ← st.frameRead p f
      if pg = r.len / 64 ∧ 1 < fw % 2 ^ 16 then
        let (st2, g) ← st1.allocFrame p false 1 0
        let st3 ← st2.copyFrame p f g
        .ok (st3, acc.2.1 ++ [(pg, some g)], acc.2.2.1 ++ [g], acc.2.2.2 ++ [f])
      else .ok (st1, acc.2.1, acc.2.2.1 ++ [f], acc.2.2.2)) (s, [], [], [])
  let s2 ← s1.editTable p slot edits
  let s3 ← drops.foldlM (fun (st : State) f => st.dropFrame p f) s2
  let s4 := { s3 with pft := { s3.pft with locks := s3.pft.locks ++ (frames.filter (fun f => !s3.pft.locks.contains (slot, f))).map (fun f => (slot, f)) } }
  .ok (s4.setRec slot { s4.kvRec slot with prepLen := len }, 0)

def execSlotPrepare (s : State) : Next := .next (s.runPft 2 pftPrepare)

/-- The effect of COMMIT_LEN. -/
def State.commitLenTo (s : State) (slot len : Nat) : State :=
  (s.setRec slot { s.kvRec slot with len := len, prepLen := len }).unlockSlot slot

/-- COMMIT_LEN (Table 5.6). -/
def pftCommitLen (s : State) (p slot : Nat) (w : List Nat) : PftRes (State × Nat) := do
  s.needOpen p slot
  let len := bits (w.getD 2 0) 0 21
  s.need (len ≤ maxPos) 4
  s.need ((s.kvRec slot).len ≤ len && len ≤ (s.kvRec slot).prepLen) 7
  let (s1, _) ← s.frameRead p 0
  .ok (s1.commitLenTo slot len, 0)

def execCommitLen (s : State) : Next := .next (s.runPft 3 pftCommitLen)

/-- The tail rows of the open sub-block below LEN are copied (Table 5.6, FORK). -/
def State.copyTail (s : State) (p src dst len : Nat) : PftRes State :=
  if len % 32 = 0 ∨ s.kvFmt p = .bf16 then .ok s
  else
    (s.lathesOf p).foldlM (fun (st : State) n =>
      (List.range (st.kvLayers p)).foldlM (fun (st : State) layer =>
        (List.range (st.kvHeads p)).foldlM (fun (st : State) h =>
          match st.sliceRead p n src (st.tailOff p layer h 0) (2 * st.kvDim p * (len % 32)) with
          | (s1, .bad, _) => .error (9, s1.pftFault p src PFT_ERR_STAT.MEM_UE)
          | (s1, .ok, b) =>
            match s1.sliceWrite p n dst (s1.tailOff p layer h 0) b with
            | (s2, .bad) => .error (9, s2.pftFault p dst PFT_ERR_STAT.MEM_UE)
            | (s2, .ok) => .ok s2) st) st) s

/-- FORK (Table 5.6, R152). -/
def pftFork (s : State) (p slot : Nat) (w : List Nat) : PftRes (State × Nat) := do
  let src := bits (w.getD 1 0) 16 13
  s.needOpen p slot
  s.needOpen p src
  let len := bits (w.getD 2 0) 0 21
  s.need (len ≤ maxPos) 4
  let r := s.kvRec slot
  let q := s.kvRec src
  s.need (r.len = 0 && r.prepLen = 0 && len ≤ q.len) 7
  let (s1, mine) ← s.mappedPages p r
  s1.need mine.isEmpty 7
  let (s2, shared) ← (pagesOf 0 len).foldlM (fun (acc : State × List (Nat × Nat)) pg => do
    let (st, e) ← acc.1.pageRead p q pg
    .ok (st, match e with | some f => acc.2 ++ [(pg, f)] | none => acc.2)) (s1, [])
  s2.need (shared.all (fun x => !s2.frameLocked p x.2)) 8
  let s3 ← shared.foldlM (fun (st : State) x => do
    let (st1, fw) ← st.frameRead p x.2
    st1.need (fw % 2 ^ 16 < 65535) 5
    st1.frameWrite p x.2 (fw % 2 ^ 16 + 1) (bits fw 16 2)) s2
  let s4 ← s3.editTable p slot (shared.map (fun x => (x.1, some x.2)))
  let s5 ← s4.copyTail p q.tail r.tail len
  .ok (s5.setRec slot { s5.kvRec slot with len := len, prepLen := len }, 0)

def execSlotFork (s : State) : Next := .next (s.runPft 4 pftFork)

/-- TRUNCATE (Table 5.6). -/
def pftTruncate (s : State) (p slot : Nat) (w : List Nat) : PftRes (State × Nat) := do
  s.needOpen p slot
  let len := bits (w.getD 2 0) 0 21
  let r := s.kvRec slot
  s.need (len ≤ maxPos) 4
  s.need (len ≤ r.len && r.prepLen = r.len) 7
  let (s1, all) ← s.mappedPages p r
  let gone := all.filter (fun x => len ≤ 64 * x.1)
  s1.need (gone.all (fun x => !s1.frameLocked p x.2)) 7
  let s2 ← s1.editTable p slot (gone.map (fun x => (x.1, none)))
  let s3 ← gone.foldlM (fun (st : State) x => st.dropFrame p x.2) s2
  .ok (s3.setRec slot { s3.kvRec slot with len := len, prepLen := len }, 0)

def execSlotTruncate (s : State) : Next := .next (s.runPft 5 pftTruncate)

/-- RELEASE (Table 5.6): pages, tail frame, provisional area, table; the slot closes. -/
def pftRelease (s : State) (p slot : Nat) (_w : List Nat) : PftRes (State × Nat) := do
  s.needOpen p slot
  let r := s.kvRec slot
  let (s1, all) ← s.mappedPages p r
  s1.need (all.all (fun x => !s1.frameLocked p x.2)) 7
  let s2 ← all.foldlM (fun (st : State) x => st.dropFrame p x.2) s1
  let s3 ← (if s2.kvFmt p = .bf16 then .ok s2 else s2.dropFrame p r.tail)
  let s4 ← (if r.spec then (r.prov.take (s3.provPer p)).foldlM (fun (st : State) f => st.dropFrame p f) s3 else .ok s3)
  let (s5, leaves) ← (List.range 16).foldlM (fun (acc : State × List Nat) i => do
    let (st, e) ← acc.1.dirRead p r i
    .ok (st, acc.2 ++ e.toList)) (s4, [])
  let s6 := (leaves.foldl (fun (st : State) t => st.retireItem p (.leaf t)) s5).retireItem p (.line r.rootFrame r.rootLine)
  .ok ((s6.setRec slot {}).unlockSlot slot, 0)

def execSlotRelease (s : State) : Next := .next (s.runPft 6 pftRelease)

/-- PIN (Table 5.6, R157). -/
def pftPin (s : State) (p _slot : Nat) (_w : List Nat) : PftRes (State × Nat) := do
  let g := s.pftGen p
  s.need (s.pinCnt p g < 65535) 5
  .ok ((s.takePin p).setPins p g (s.pinPins p g + 1), g)

def execPinTake (s : State) : Next := .next (s.runPft 7 pftPin)

/-- UNPIN (Table 5.6, R157). -/
def pftUnpin (s : State) (p _slot : Nat) (w : List Nat) : PftRes (State × Nat) := do
  let g := bits (w.getD 3 0) 0 1
  s.need (0 < s.pinPins p g) 10
  .ok ((s.endPin p g).setPins p g (s.pinPins p g - 1), 0)

def execPinEnd (s : State) : Next := .next (s.runPft 8 pftUnpin)

/-- ABORT_STEP (Table 5.6): PREP_LEN back to LEN, locks released, mapped frames stay. -/
def pftAbortStep (s : State) (p slot : Nat) (_w : List Nat) : PftRes (State × Nat) := do
  s.needOpen p slot
  let (s1, _) ← s.frameRead p 0
  .ok ((s1.setRec slot { s1.kvRec slot with prepLen := (s1.kvRec slot).len }).unlockSlot slot, 0)

def execAbortStep (s : State) : Next := .next (s.runPft 9 pftAbortStep)

/-- The K row and V row of a provisional node on the port of Lathe n (R144). -/
def State.provRows (s : State) (p n : Nat) (r : KvRec) (layer h node : Nat) : State × SliceEnd × List Nat × List Nat :=
  let dim := s.kvDim p
  let f := r.prov.getD (node % s.provPer p) 0
  match s.sliceRead p n f (s.provOff p layer h node) (4 * dim) with
  | (s1, .bad, _) => (s1, .bad, [], [])
  | (s1, .ok, b) => (s1, .ok, unpackRun .bf16 (b.take (2 * dim)) dim, unpackRun .bf16 (b.drop (2 * dim)) dim)

/-- RELINK: the accepted path's nodes become positions LEN, LEN + 1, …, then COMMIT_LEN (Table 5.6, R146). -/
def pftRelink (s : State) (p slot : Nat) (w : List Nat) : PftRes (State × Nat) := do
  s.needOpen p slot
  let r := s.kvRec slot
  s.need r.spec 3
  let count := bits (w.getD 3 0) 0 6
  let path := Cells.get [] s.smp.path slot
  s.need (r.len + count ≤ maxPos) 4
  s.need (r.len + count ≤ r.prepLen) 7
  let (s0, _) ← s.frameRead p 0
  let s1 ← (List.range count).foldlM (fun (st : State) i => do
    let pos := r.len + i
    let (st1, e) ← st.pageRead p r (pos / 64)
    let f := e.getD 0
    (st1.lathesOf p).foldlM (fun (st : State) n =>
      (List.range (st.kvLayers p)).foldlM (fun (st : State) layer =>
        (List.range (st.kvHeads p)).foldlM (fun (st : State) h =>
          match st.provRows p n r layer h (path.getD i 0) with
          | (x, .bad, _, _) => .error (9, x.pftFault p (r.prov.getD 0 0) PFT_ERR_STAT.MEM_UE)
          | (x, .ok, k, v) =>
            let a := x.putK p n f layer h (pos % 64) k
            let b := a.1.putV p n f r.tail layer h pos v
            if a.2.1 = .ok ∧ b.2.1 = .ok then .ok b.1 else .error (9, b.1.pftFault p f PFT_ERR_STAT.MEM_UE)) st) st) st1) s0
  .ok (s1.commitLenTo slot (r.len + count), 0)

def execRelink (s : State) : Next := .next (s.runPft 10 pftRelink)

/-- PIN_GENERATION_FLIP: the flip of R155, when its condition holds. -/
def execPinGenerationFlip (p : Part) (s : State) : Next :=
  let g := s.pftGen p
  let x := 1 - g
  .next (if s.pinCnt p x = 0 ∧ (s.retired p x).isEmpty ∧ ¬ (s.retired p g).isEmpty then
    ({ s with pft := { s.pft with gen := Cells.set 0 s.pft.gen p x } }).showWalks p else s)

/-- RETIRED_ITEMS_FREE: the items retired in the other generation return to the free pool when it has no pin (R155, R156). -/
def execRetiredItemsFree (p : Part) (s : State) : Next :=
  let x := 1 - s.pftGen p
  .next (if s.pinCnt p x = 0 then
    (match (s.retired p x).foldlM (fun (st : State) it => st.freeItem p it) s with
     | .ok s1 => s1.setRetired p x []
     | .error (_, s1) => s1.setRetired p x [])
    else s)

/-! Configuration (R169). -/

/-- The shadowed registers of a partition of the unit. -/
def pftShadows (p : Nat) : List Fld :=
  [PFT_POOL_BASE.BASE p, PFT_POOL_FRAMES.FRAMES p, PFT_FRAME_SIZE.FRAME_4K p, PFT_GEOM.KV_FMT p, PFT_GEOM.LAYERS p, PFT_GEOM.HL p,
   PFT_GEOM.DIM32 p, PFT_TABLE_BASE.BASE p, PFT_TABLE_BASE.TABLE_PORT p, PFT_TABLE_SIZE.SIZE p, PFT_PROV_FRAMES.PROV p]

/-- The rules of Table 5.12 on the shadows. -/
def State.pftRules (s : State) (p : Nat) : List Bool :=
  let fmt := s.rd (PFT_GEOM.KV_FMT p)
  let layers := s.rd (PFT_GEOM.LAYERS p)
  let hl := s.rd (PFT_GEOM.HL p)
  let dim := s.rd (PFT_GEOM.DIM32 p)
  let fr := s.rd (PFT_POOL_FRAMES.FRAMES p)
  let fb := s.rd (PFT_FRAME_SIZE.FRAME_4K p) * 4096
  let base := s.rd (PFT_POOL_BASE.BASE p) * 4096
  let tb := s.rd (PFT_TABLE_BASE.BASE p) * 4096
  let ts := s.rd (PFT_TABLE_SIZE.SIZE p) * 4096
  [fmt = 1 || fmt = 2 || fmt = 3 || fmt = 6,
   1 ≤ layers && layers ≤ 256 && 1 ≤ hl && hl ≤ 255 && 1 ≤ dim && dim ≤ 8,
   64 + layers * hl * headBytes ((Fmt.ofCode fmt).getD .e4m3) (32 * dim) ≤ fb,
   base + fr * fb ≤ s.portCap,
   s.rd (PFT_PROV_FRAMES.PROV p) < fr,
   (s.partOf (s.rd (PFT_TABLE_BASE.TABLE_PORT p)) = some p) && (tb + ts ≤ base || base + fr * fb ≤ tb),
   4 * fr + 65536 ≤ ts]

/-- Partition p is empty (R169). -/
def State.pftEmpty (s : State) (p : Nat) : Bool :=
  s.pft.recs.all (fun x => !(x.2.isOpen && x.2.part = p)) &&
  (!s.flag (PFT_PART_STAT.READY p) || (List.range (s.poolFrames p)).all (fun f => bits (s.tablePeek p (4 * f)) 16 2 = 0)) &&
  (Cells.within s.pft.lines (p * 2 ^ 32) ((p + 1) * 2 ^ 32)).isEmpty

/-- PFT_COMMIT (R169): refused while the partition is not empty or a rule fails; otherwise the shadows take effect and ENABLED
takes the value of ENABLE. -/
def execPftCommit (p : Part) (commit enable : Bool) (s : State) : Next :=
  .next (if !commit then s
    else if s.tearing p || !s.pftEmpty p then s.raise (PFT_PART_STAT.CFG_BUSY_WR p)
    else match failingRule (s.pftRules p) with
      | some k => (s.raise (PFT_PART_STAT.CFG_MISMATCH p)).wr (PFT_PART_STAT.CFG_RULE p) k
      | none => ((s.applyShadows (pftShadows p)).wr (PFT_PART_STAT.ENABLED p) (b2n enable)).wr (PFT_PART_STAT.READY p) 0)

/-- PFT_POOL_READY: the frame state array has been written as all free (R169). -/
def execPftPoolReady (p : Part) (s : State) : Next :=
  .next (if s.flag (PFT_PART_STAT.ENABLED p) && !s.flag (PFT_PART_STAT.READY p) then
    let s1 := (s.portWrite .engine (s.tablePort p) (s.tableAddr p 0) (List.replicate (4 * s.poolFrames p) 0)).1
    ((s1.wr (PFT_PART_STAT.READY p) 1).wr (PFT_FREE.FRAMES p) (s1.provFirst p))
    else s)

end Sys2Proof.Machine
end

