-- ==== Sys2Proof/Machine/Streamer.lean ====
section
/-! DEFINITION. The attention streamer: descriptor fields and legality, latch, append, walk, masks and the arithmetic of attention
(R158 to R167). -/

namespace Sys2Proof.Machine
open Reg

/-! Fields (Tables 3.6, 5.9, 5.10). -/

def Desc.reqFirst (d : Desc) : Nat := d.fld 0x60 0 13
def Desc.reqCount (d : Desc) : Nat := d.fld 0x60 16 13 + 1
def Desc.lenTable (d : Desc) : Nat := d.word 0x64
def Desc.qHeads (d : Desc) : Nat := d.fld 0x68 0 8
def Desc.kvHeads (d : Desc) : Nat := d.fld 0x68 8 8
def Desc.headDim32 (d : Desc) : Nat := d.fld 0x68 16 4
def Desc.layer (d : Desc) : Nat := d.fld 0x68 24 8
def Desc.attScale (d : Desc) : Nat := d.word 0x6C
def Desc.maskKind (d : Desc) : Nat := d.fld 0x70 0 2
def Desc.skipMasked (d : Desc) : Bool := d.fld 0x70 2 1 = 1
def Desc.treeAddr (d : Desc) : Nat := d.word 0x74
def Desc.qLd (d : Desc) : Nat := d.fld 0x78 0 24

/-- The class is one of the three attention classes. -/
def Desc.isAttn (d : Desc) : Bool := d.opcode = 0x0C || d.opcode = 0x0D || d.opcode = 0x0E
def Desc.isTree (d : Desc) : Bool := d.opcode = 0x0E

/-- The elements of a query or output row. -/
def Desc.rowElems (d : Desc) : Nat := d.qHeads * (32 * d.headDim32)

/-- The requirements of Table 5.9 and R158. -/
def State.attnOk (s : State) (n : Nat) (d : Desc) : Bool :=
  match s.partOf n with
  | none => false
  | some p =>
    (d.fA.isMx || d.fA = .bf16) && pairOk d.fA d.fB && d.accInit = 0 && !d.accChain && d.kSplit = 0 && d.haloMode = 0 &&
    d.reps = 1 && d.spdMask = 0xFF && d.reqFirst + d.reqCount ≤ 8192 && d.kvHeads = s.kvHeads p && 1 ≤ d.kvHeads && 1 ≤ d.qHeads &&
    d.qHeads % d.kvHeads = 0 && 32 * d.headDim32 = s.kvDim p && 1 ≤ d.headDim32 && d.headDim32 ≤ 8 && d.layer < s.kvLayers p &&
    (if d.isTree then d.maskKind = 2 else d.maskKind ≤ 1) &&
    (d.fA.isMx || addrSpace d.aScale = 3) && addrSpace d.bScale = 3 && (d.fO.isMx || d.fO.isInt || addrSpace d.outScale = 3) &&
    runBytes d.fA d.rowElems ≤ d.qLd && runBytes d.fO d.rowElems ≤ d.qLd

/-- A length-table entry (Table 5.10): position, query tokens, first row. -/
structure LenEntry where
  pos0 : Nat
  qlen : Nat
  qrow : Nat
deriving DecidableEq, Repr

def State.lenEntry (s : State) (n : Nat) (d : Desc) (i : Nat) : LenEntry :=
  let w (k : Nat) : Nat := s.peekWord n d.lenTable ((16 * i + 4 * k : Nat) : Int) 4
  let q := bits (w 1) 0 16
  ⟨bits (w 0) 0 21, if d.isTree then min 64 q else q, bits (w 2) 0 20⟩

/-- The entries that are not skipped, with their index (R159). -/
def State.lenEntries (s : State) (n : Nat) (d : Desc) : List (Nat × LenEntry) :=
  ((List.range d.reqCount).map (fun i => (i, s.lenEntry n d i))).filter (fun e => e.2.qlen ≠ 0)

/-- The format in which K and V reach the Spindles (R63, R164). -/
def Desc.delivered (d : Desc) (kv : Fmt) : Fmt := if pairOk d.fA kv then kv else d.fB

/-- The staging area (Table 5.9). -/
def State.stagingBytes (s : State) (p : Nat) (d : Desc) : Nat :=
  32 * d.reqCount + 4 * headBytes (d.delivered (s.kvFmt p)) (s.kvDim p)

/-- What an attention descriptor touches in Lathe SRAM and ways, by the length table as it stands. -/
def State.attnTouch (s : State) (n : Nat) (d : Desc) : Touch :=
  let p := (s.partOf n).getD 0
  let rows := (s.lenEntries n d).flatMap (fun e => (List.range e.2.qlen).map (fun k => e.2.qrow + k))
  let sc (f : Fmt) (a r : Nat) : List Span := if f.isMx then [⟨a, scaleDist f ((r * d.qLd : Nat) : Int), ceilDiv d.rowElems 32⟩] else []
  { reads := ⟨d.lenTable, 0, 16 * d.reqCount⟩ :: rows.flatMap (fun r =>
      ⟨d.aAddr, ((r * d.qLd : Nat) : Int), runBytes d.fA d.rowElems⟩ :: ⟨d.bAddr, ((r * (4 * d.kvHeads * (32 * d.headDim32)) : Nat) : Int), 4 * d.kvHeads * (32 * d.headDim32)⟩ ::
      sc d.fA d.aScale r) ++ (if d.isTree then [⟨d.treeAddr, 0, 128⟩] else []) ++ intVec d.fO d.outScale d.rowElems
    writes := rows.flatMap (fun r => ⟨d.outAddr, ((r * d.qLd : Nat) : Int), runBytes d.fO d.rowElems⟩ :: sc d.fO d.outScale r) ++
      [⟨d.accAddr, 0, s.stagingBytes p d⟩] }

/-! Reads and their errors (R141, R160, R167). -/

/-- A streamer error: its flag in ATS_ERR_STAT, the slot and the page. -/
abbrev AtsRes (α : Type) := Except (Fld × Nat × Nat × State) α

/-- The error is recorded: the flag, and slot and page of the first one since the flags were all clear (Tables 5.14, 5.15). -/
def State.atsError (s : State) (n : Nat) (f : Fld) (slot page : Nat) : State :=
  let clear := [ATS_ERR_STAT.HDR_BAD n, ATS_ERR_STAT.LEN_MISMATCH n, ATS_ERR_STAT.BAD_SLOT n, ATS_ERR_STAT.NO_FRAME n,
    ATS_ERR_STAT.MEM_UE n, ATS_ERR_STAT.TABLE_UE n, ATS_ERR_STAT.POS_LIMIT n].all (fun x => s.rd x = 0)
  let s1 := if clear then (s.wr (ATS_ERR_INFO.SLOT n) slot).wr (ATS_ERR_INFO.PAGE n) page else s
  (s1.raise f).wr (ATS_STAT.STATE n) 5

/-- A directory or leaf word read by a walk. -/
def State.atsTable (s : State) (n p off slot page : Nat) : AtsRes (State × Nat) :=
  if s.flag (ATS_INJ.TUE n) then .error (ATS_ERR_STAT.TABLE_UE n, slot, page, s.wr (ATS_INJ.TUE n) 0)
  else
    match s.portRead .engine (s.tablePort p) (s.tableAddr p off) 4 with
    | (s1, .ok, b) =>
      if s1.flag (ATS_INJ.NOFRAME n) then .ok (s1.wr (ATS_INJ.NOFRAME n) 0, 0) else .ok (s1, leVal b)
    | (s1, .refused, _) => .error (ATS_ERR_STAT.TABLE_UE n, slot, page, s1)
    | (s1, .uncorrectable, _) => .error (ATS_ERR_STAT.TABLE_UE n, slot, page, s1)

/-- The frame of a page by the latched record; an entry that is not VALID sets NO_FRAME (R161). -/
def State.atsPage (s : State) (n p slot : Nat) (r : KvRec) (pg : Nat) : AtsRes (State × Nat) := do
  let (s1, e) ← s.atsTable n p (r.rootFrame * 4096 + r.rootLine * 64 + 4 * (pg / 1024)) slot pg
  if !bit e 24 then .error (ATS_ERR_STAT.NO_FRAME n, slot, pg, s1)
  else
    let (s2, w) ← s1.atsTable n p (e % 2 ^ 24 * 4096 + 4 * (pg % 1024)) slot pg
    if !bit w 24 then .error (ATS_ERR_STAT.NO_FRAME n, slot, pg, s2) else .ok (s2, w % 2 ^ 24)

/-- Bytes the streamer has moved (Table 5.16). -/
def State.atsCount (s : State) (n k : Nat) : State := { s with atsBytes := Cells.set 0 s.atsBytes n (Cells.get 0 s.atsBytes n + k) }

/-- Bytes of a slice on the Lathe's own port. -/
def State.atsSlice (s : State) (n p f off len slot page : Nat) : AtsRes (State × List Byte) :=
  if s.flag (ATS_INJ.UE n) then .error (ATS_ERR_STAT.MEM_UE n, slot, page, s.wr (ATS_INJ.UE n) 0)
  else
    match s.sliceRead p n f off len with
    | (s1, .ok, b) => .ok (s1.atsCount n len, b)
    | (s1, .bad, _) => .error (ATS_ERR_STAT.MEM_UE n, slot, page, s1)

/-- The slice header is what the walk expects (R141). -/
def State.atsHeader (s : State) (n p f kind slot page : Nat) : AtsRes State := do
  let (s1, b) ← s.atsSlice n p f 0 64 slot page
  let w0 := leVal (b.take 4)
  let good := bits w0 0 4 = s1.inEff (PFT_GEOM.KV_FMT p) && bits w0 8 2 = kind && bits w0 10 3 = p && bits (leVal ((b.drop 4).take 4)) 0 24 = f
  if s1.flag (ATS_INJ.HDR n) then .error (ATS_ERR_STAT.HDR_BAD n, slot, page, s1.wr (ATS_INJ.HDR n) 0)
  else if good then .ok s1 else .error (ATS_ERR_STAT.HDR_BAD n, slot, page, s1)

/-- A write of the append that does not end well ends the descriptor with MEM_UE. -/
def atsPut (n slot page : Nat) (r : State × SliceEnd × Exc) : AtsRes (State × Exc) :=
  match r.2.1 with
  | .ok => .ok (r.1, r.2.2)
  | .bad => .error (ATS_ERR_STAT.MEM_UE n, slot, page, r.1)

/-! Keys and values as the Spindles take them. -/

/-- A block of 32 values in the delivered format (R63): unchanged when it comes in that format, else converted by
round-to-nearest-even. -/
def deliver (same : Bool) (f : Fmt) (vals : List Val) : List Val × Exc :=
  let nan : Exc := { nanIn := vals.any Val.isNan }
  if same then (vals, nan)
  else if f.isMx then
    let b := convBlock f vals
    (b.2.1.map (fun c => scaleE8 (elemVal f c) b.1), b.2.2)
  else
    let cs := vals.map (fun v => toFloat f .rne v)
    (cs.map (fun c => elemVal f c.1), cs.foldl (fun e c => e.or c.2) {})

/-- A row of D values delivered block by block along D. -/
def deliverRow (same : Bool) (f : Fmt) (vals : List Val) : List Val × Exc :=
  let bs := (blocks32 vals).map (deliver same f)
  (bs.flatMap (·.1), bs.foldl (fun e b => e.or b.2) {})

/-- One unit of a walk for a KV head: K rows by position, V columns by dimension over the positions, and flags. -/
structure KvUnit where
  base : Nat
  tree : Bool
  k : List (List Val)
  v : List (List Val)
  exc : Exc

/-- Rows of packed MX or BF16 elements with their scales: `k` values of row i. -/
def kvRow (f : Fmt) (elems : List Byte) (scales : List Byte) (k i : Nat) : List Val :=
  let cs := unpackRun f (elems.drop (i * (k * f.bits / 8))) k
  (List.range k).map (fun j =>
    let v := elemVal f (cs.getD j 0)
    if f.isMx then scaleE8 v ((scales.getD (i * (k / 32) + j / 32) 0).toNat) else v)

/-- A page for a local head: the K part, and each V sub-block from the page when it lies wholly below E, from the tail when it
holds E − 1 (R143). -/
def State.readPage (s : State) (n p slot : Nat) (d : Desc) (r : KvRec) (f pg h e : Nat) : AtsRes (State × KvUnit) := do
  let kv := s.kvFmt p
  let dim := s.kvDim p
  let df := d.delivered kv
  let off := s.headOff p d.layer h
  let (s1, kb) ← s.atsSlice n p f off (kPartBytes kv dim) slot pg
  let rows := (List.range 64).map (fun t =>
    if 64 * pg + t < e then deliverRow (df = kv) df (kvRow kv kb (kb.drop (64 * kRowBytes kv dim)) dim t)
    else (List.replicate dim Val.zero, {}))
  let (s2, subs) ← (List.range 2).foldlM (fun (acc : State × List (List (List Val × Exc))) j => do
    let lo := 64 * pg + 32 * j
    if lo + 32 ≤ e ∨ (kv = .bf16 ∧ lo < e) then
      let (st, vb) ← acc.1.atsSlice n p f (off + kPartBytes kv dim + j * vSubBytes kv dim) (vSubBytes kv dim) slot pg
      .ok (st, acc.2 ++ [(List.range dim).map (fun x =>
        let vals := kvRow kv vb (vb.drop (dim * vRowBytes kv)) 32 x
        deliver (df = kv) df ((List.range 32).map (fun i => if lo + i < e then vals.getD i .zero else Val.zero)))])
    else if lo < e then
      let st0 ← acc.1.atsHeader n p r.tail 1 slot pg
      let (st, tb) ← st0.atsSlice n p r.tail (st0.tailOff p d.layer h 0) (2 * dim * (e - lo)) slot pg
      .ok (st, acc.2 ++ [(List.range dim).map (fun x => deliver (df = .bf16) df ((List.range 32).map (fun i =>
        if lo + i < e then floatVal .bf16 (leVal ((tb.drop (2 * (i * dim + x))).take 2)) else Val.zero)))])
    else .ok (acc.1, acc.2 ++ [(List.range dim).map (fun _ => (List.replicate 32 Val.zero, {}))])) (s1, [])
  let v := (List.range dim).map (fun x => subs.flatMap (fun sb => (sb.getD x ([], {})).1))
  let exc := (rows.map (·.2)).foldl Exc.or ((subs.flatMap (fun sb => sb.map (·.2))).foldl Exc.or {})
  .ok (s2, { base := 64 * pg, tree := false, k := rows.map (·.1), v := v, exc := exc })

/-- The tree nodes 0 to q − 1 for a local head (R161). -/
def State.readNodes (s : State) (n p slot : Nat) (d : Desc) (r : KvRec) (q h : Nat) : AtsRes (State × KvUnit) := do
  let dim := s.kvDim p
  let df := d.delivered (s.kvFmt p)
  let s0 ← (r.prov.take (min q (s.provPer p))).foldlM (fun (st : State) f => st.atsHeader n p f 2 slot 0) s
  let (s1, rows) ← (List.range q).foldlM (fun (acc : State × List (List Val × List Val)) i => do
    let f := r.prov.getD (i % s.provPer p) 0
    let (st, b) ← acc.1.atsSlice n p f (acc.1.provOff p d.layer h i) (4 * dim) slot 0
    let k := (unpackRun .bf16 (b.take (2 * dim)) dim).map (floatVal .bf16)
    let v := (unpackRun .bf16 (b.drop (2 * dim)) dim).map (floatVal .bf16)
    .ok (st, acc.2 ++ [(k, v)])) (s0, [])
  let ks := rows.map (fun x => deliverRow (df = .bf16) df x.1)
  let vs := (List.range dim).map (fun x =>
    let bs := (blocks32 (rows.map (fun y => y.2.getD x .zero))).map (deliver (df = .bf16) df)
    (bs.flatMap (·.1), bs.foldl (fun e b => e.or b.2) ({} : Exc)))
  .ok (s1, { base := 0, tree := true, k := ks.map (·.1), v := vs.map (·.1), exc := (ks.map (·.2)).foldl Exc.or ((vs.map (·.2)).foldl Exc.or {}) })

/-! Masks (R162). -/

/-- The nodes on the path from a node to the root, itself included: the tree record's parents (R216). -/
def treePath (parents : List Nat) : Nat → Nat → List Nat
  | 0, _ => []
  | fuel + 1, i => i :: (if i = 0 then [] else treePath parents fuel (parents.getD i 0))

/-- Position t of a unit is visible to query token k of a request at pos0. -/
def visible (d : Desc) (parents : List Nat) (pos0 e k : Nat) (u : KvUnit) (t : Nat) : Bool :=
  if u.tree then (treePath parents 64 k).contains t
  else if d.maskKind = 0 then u.base + t ≤ pos0 + k && u.base + t < e
  else u.base + t < e

/-! The arithmetic of R164. -/

/-- The running state of a query row: m, l, the output accumulator, Spindle and vector flags. -/
structure AttAcc where
  m : Nat
  l : Nat
  acc : List Nat
  spd : Exc
  vec : Exc

/-- −∞ in FP32. -/
def negInf : Nat := 0xFF800000

/-- A Spindle sum of products from +0 in the tiles of the pairing. -/
def spindleDot (a b : Fmt) (ps : List (Val × Val)) : Acc32 :=
  let kt := tileRows a b
  (List.range (ceilDiv ps.length kt)).foldl (fun acc t => tileStep (a = .bf16) kt acc ((ps.drop (t * kt)).take kt)) (0, {})

/-- One unit of the walk for a query row. -/
def attUnit (d : Desc) (df : Fmt) (q : List Val) (vis : Nat → Bool) (u : KvUnit) (st : AttAcc) : AttAcc :=
  let s0 := (List.range u.k.length).map (fun t => spindleDot d.fA df (q.zip (u.k.getD t [])))
  let sv := (List.range u.k.length).map (fun t => if vis t then fmul (s0.getD t (0, {})).1 d.attScale else negInf)
  let mp := redMax sv
  let spd := (s0.map (·.2)).foldl Exc.or st.spd
  if mp = negInf then { st with spd := spd }
  else
    let mn := fmax st.m mp
    let a := fexp (fsub st.m mn)
    let p := sv.map (fun x => fexp (fsub x mn))
    let pd := (blocks32 (p.map (fun x => f32 x.1))).map (deliver false d.fA)
    let pv := (pd.flatMap (·.1)).take p.length
    let rs := redSum (pv.map load32)
    let l := fadd (fmul st.l a.1) rs
    let dv := (List.range st.acc.length).map (fun j => spindleDot d.fA df (pv.zip (u.v.getD j [])))
    let acc := (List.range st.acc.length).map (fun j => fadd (fmul (st.acc.getD j 0) a.1) (dv.getD j (0, {})).1)
    { m := mn, l := l, acc := acc
      spd := (dv.map (·.2)).foldl Exc.or ((pd.map (·.2)).foldl Exc.or spd)
      vec := (st.vec.or (stepExc [st.m, mp] mn)).or ((p.map (·.2)).foldl Exc.or ((stepExc [st.l, a.1, rs] l).or
        ((List.range acc.length).foldl (fun e j => e.or (stepExc [st.acc.getD j 0, a.1, (dv.getD j (0, {})).1] (acc.getD j 0))) {}))) }

/-- A query row over the units of its KV head: the output values and flags. -/
def attRow (d : Desc) (df : Fmt) (dim : Nat) (q : List Val) (vis : KvUnit → Nat → Bool) (us : List KvUnit) : List Nat × Exc × Exc :=
  let r := us.foldl (fun st u => attUnit d df q (vis u) u st) ⟨negInf, 0, List.replicate dim 0, {}, {}⟩
  if r.m = negInf then (List.replicate dim 0, r.spd, r.vec)
  else
    let inv := frecip r.l
    let ys := r.acc.map (fun x => fmul x inv.1)
    (ys, r.spd, (r.vec.or inv.2).or ((List.range ys.length).foldl (fun e j => e.or (stepExc [r.acc.getD j 0, inv.1] (ys.getD j 0))) {}))

/-! One request. -/

/-- The append phase of an entry (R161): K and V of its tokens on the Lathe's own port. -/
def State.atsAppend (s : State) (n p slot : Nat) (d : Desc) (r : KvRec) (en : LenEntry) : AtsRes (State × Exc) :=
  let dim := s.kvDim p
  (List.range en.qlen).foldlM (fun (acc : State × Exc) j => do
    let (st, ex) := acc
    let row : Int := (((en.qrow + j) * (4 * d.kvHeads * dim) : Nat) : Int)
    let elem (k : Nat) : List Nat := (List.range dim).map (fun x => st.peekWord n d.bAddr (row + (2 * (k * dim + x) : Nat)) 2)
    let pos := en.pos0 + j
    let (st1, f) ← (if d.isTree then .ok (st, 0) else st.atsPage n p slot r (pos / 64))
    (List.range d.kvHeads).foldlM (fun (a : State × Exc) h => do
      if d.isTree then
        let w := a.1.sliceWrite p n (r.prov.getD (j % a.1.provPer p) 0) (a.1.provOff p d.layer h j) (packRun .bf16 (elem h ++ elem (d.kvHeads + h)))
        let (x, e1) ← atsPut n slot 0 (w.1, w.2, {})
        .ok (x.atsCount n (4 * dim), a.2.or e1)
      else
        let (x, e1) ← atsPut n slot (pos / 64) (a.1.putK p n f d.layer h (pos % 64) (elem h))
        let (y, e2) ← atsPut n slot (pos / 64) (x.putV p n f r.tail d.layer h pos (elem (d.kvHeads + h)))
        .ok (y.atsCount n (ceil64 (kRowBytes (y.kvFmt p) dim) + 128 + 2 * dim +
          (if pos % 32 = 31 ∧ y.kvFmt p ≠ .bf16 then 64 * dim + vSubBytes (y.kvFmt p) dim else 0)), (a.2.or e1).or e2)) (st1, ex)) (s, {})

/-- Query token and head of a query row's output (R163): row k × g + j of KV head h. -/
def Desc.groupSize (d : Desc) : Nat := d.qHeads / d.kvHeads

/-- The pages that some row of a tile of query tokens `[k0, k1]` sees. -/
def Desc.pageSeen (d : Desc) (pos0 k1 pg : Nat) : Bool := d.maskKind ≠ 0 || 64 * pg ≤ pos0 + k1

/-- The tiles of a request: first and last query token of each run of 256 query rows (R163). -/
def Desc.queryTiles (d : Desc) (qlen : Nat) : List (Nat × Nat) :=
  let g := max 1 d.groupSize
  (List.range (ceilDiv (qlen * g) 256)).map (fun t => (256 * t / g, (min (qlen * g) (256 * (t + 1)) - 1) / g))

/-- One request: append, walk, finish (R161). The result is the state, the writes of its output rows, and flags. -/
def State.atsRequest (s : State) (n p slot : Nat) (d : Desc) (r : KvRec) (en : LenEntry) (parents : List Nat) :
    AtsRes (State × List (Nat × Int × List Byte) × Exc × Exc) := do
  let e := if d.isTree then en.pos0 else en.pos0 + en.qlen
  if maxPos < e ∨ (d.isTree ∧ maxPos ≤ en.pos0 + 15) then .error (ATS_ERR_STAT.POS_LIMIT n, slot, e / 64, s)
  else
    let dim := s.kvDim p
    let df := d.delivered (s.kvFmt p)
    let (s1, ax) ← (s.wr (ATS_STAT.STATE n) 2).atsAppend n p slot d r en
    let tiles := d.queryTiles en.qlen
    let pages := List.range (ceilDiv e 64)
    let seen (pg : Nat) : Bool := !d.skipMasked || tiles.any (fun t => d.pageSeen en.pos0 t.2 pg)
    let skips := if d.skipMasked then (tiles.map (fun t => (pages.filter (fun pg => !d.pageSeen en.pos0 t.2 pg)).length)).foldl (· + ·) 0 else 0
    let s2 := (s1.bump (ATS_SKIPPED.COUNT n) skips).wr (ATS_STAT.STATE n) 3
    let (s3, frames) ← (pages.filter seen).foldlM (fun (acc : State × List (Nat × Nat)) pg => do
      let (st, f) ← (acc.1.wr (ATS_STAT.PAGE n) pg).atsPage n p slot r pg
      let st1 ← st.atsHeader n p f 0 slot pg
      .ok (st1, acc.2 ++ [(pg, f)])) (s2, [])
    let (s4, units) ← (List.range d.kvHeads).foldlM (fun (acc : State × List (List KvUnit)) h => do
      let (st, us) ← frames.foldlM (fun (a : State × List KvUnit) pf => do
        let (x, u) ← a.1.readPage n p slot d r pf.2 pf.1 h e
        .ok (x, a.2 ++ [u])) (acc.1, [])
      if d.isTree then
        let (x, u) ← st.readNodes n p slot d r en.qlen h
        .ok (x, acc.2 ++ [us ++ [u]])
      else .ok (st, acc.2 ++ [us])) (s3, [])
    let g := max 1 d.groupSize
    let rows := (List.range en.qlen).map (fun k =>
      let heads := (List.range d.qHeads).map (fun hq =>
        let q := (List.range dim).map (fun x =>
          let delta : Int := (((en.qrow + k) * d.qLd : Nat) : Int)
          s4.runVal n d.fA d.aAddr d.aScale delta (hq * dim + x))
        attRow d df dim q (fun u t => visible d parents en.pos0 e k u t) (units.getD (hq / g) []))
      let w := emitPiece s4 n d true
        { delta := (((en.qrow + k) * d.qLd : Nat) : Int), sdelta := scaleDist d.fO (((en.qrow + k) * d.qLd : Nat) : Int),
          pos := (en.qrow + k) * d.rowElems, chan := 0, vals := heads.flatMap (·.1), spindle := 0 }
      (w.1, heads.foldl (fun x y => x.or y.2.1) w.2, heads.foldl (fun x y => x.or y.2.2) ({} : Exc)))
    let ux := (units.flatMap (fun us => us.map (·.exc))).foldl Exc.or ax
    .ok (s4.wr (ATS_STAT.STATE n) 4, rows.flatMap (·.1), rows.foldl (fun x y => x.or y.2.1) ux, rows.foldl (fun x y => x.or y.2.2) {})

/-- The parents of the tree record (R216). -/
def State.treeParents (s : State) (n : Nat) (d : Desc) : List Nat :=
  (List.range 64).map (fun i => bits (s.peekWord n d.treeAddr ((2 * i : Nat) : Int) 1) 0 6)

/-- An attention descriptor over its latched records (R161): the state after appends and walk, its output writes, flags. -/
def State.atsRun (s : State) (n p : Nat) (d : Desc) (recs : List (Nat × KvRec)) :
    AtsRes (State × List (Nat × Int × List Byte) × Exc × Exc) := do
  let parents := if d.isTree then s.treeParents n d else []
  (s.lenEntries n d).foldlM (fun (acc : State × List (Nat × Int × List Byte) × Exc × Exc) e => do
    let slot := d.reqFirst + e.1
    let r := ((recs.find? (fun x => x.1 = slot)).map (·.2)).getD {}
    let (st, w, sx, vx) ← (acc.1.wr (ATS_STAT.ENTRY n) e.1).atsRequest n p slot d r e.2 parents
    .ok (st, acc.2.1 ++ w, acc.2.2.1.or sx, acc.2.2.2.or vx)) (s, [], {}, {})

/-! The latch (R160). -/

/-- The latch of the records of every entry with QLEN above 0, in ascending entry. -/
def State.atsLatch (s : State) (n p : Nat) (d : Desc) : AtsRes (State × List (Nat × KvRec)) :=
  (s.lenEntries n d).foldlM (fun (acc : State × List (Nat × KvRec)) e => do
    let st := acc.1
    let slot := d.reqFirst + e.1
    let r := st.kvRec slot
    if !r.isOpen ∨ r.part ≠ p ∨ st.pftFaulted p then .error (ATS_ERR_STAT.BAD_SLOT n, slot, 0, st)
    else
      let inj := st.flag (ATS_INJ.LEN n)
      let st1 := if inj then st.wr (ATS_INJ.LEN n) 0 else st
      let len := if inj then e.2.pos0 + 1 else r.len
      if len ≠ e.2.pos0 then .error (ATS_ERR_STAT.LEN_MISMATCH n, slot, 0, st1)
      else .ok (st1, acc.2 ++ [(slot, r)])) (s, [])

end Sys2Proof.Machine
end

