-- ==== Sys2Proof/Machine/LatheOps.lean ====
section
/-! DEFINITION. What the sequencer's commands share: plans, the decode checks (R82, R83, R86, R95, R135), waits and signals (R94), the
ends of descriptors (R90, R91), commits (R98, R100) and the clock fields (R101, R103). -/

namespace Sys2Proof.Machine
open Reg

/-- LTH_SEQ_STAT.STATE (Table 3.9). -/
def State.seq (s : State) (n : Nat) : Nat := s.rd (LTH_SEQ_STAT.STATE n)

/-! Clock and commits. -/

/-- The clock follows a change of the effective ceiling: CEIL_CODE, BELOW_FLOOR, and a code that the margins of the Lathe allow, a
free value from the floor to the ceiling (R101 to R103). -/
def State.reclock (s : State) (n : Nat) : State :=
  let ceil := min (s.rd (LTH_CLK_STAT.FMAX_EFF n)) (Cells.get 16 s.thm.ceil n)
  let lo := min (s.rd (LTH_CLK_STAT.FMIN_EFF n)) ceil
  ((((s.wr (LTH_CLK_STAT.CEIL_CODE n) ceil).wr (LTH_CLK_STAT.CUR_CODE n) (lo + s.free % (ceil - lo + 1))).wr
    (LTH_CLK_STAT.BELOW_FLOOR n) (b2n (ceil < s.rd (LTH_CLK_STAT.FMIN_EFF n) || s.rd (LTH_CLK_STAT.DUTY n) < 8))).drew)

/-- The level that the Tandem has set reaches the clock controller: after Lathe reset too (R103, R470). -/
def State.throttle (s : State) (n : Nat) : State :=
  if Cells.get 8 s.thm.duty n = 8 ∧ Cells.get 16 s.thm.ceil n = 16 then s
  else (s.wr (LTH_CLK_STAT.DUTY n) (Cells.get 8 s.thm.duty n)).reclock n

/-- The rules of Table 3.11 on the shadows. -/
def State.lthRules (s : State) (n : Nat) : List Bool :=
  [s.rd (LTH_CLK_CFG.FMIN_CODE n) ≤ 16 && s.rd (LTH_CLK_CFG.FMAX_CODE n) ≤ 16,
   s.rd (LTH_CLK_CFG.FMIN_CODE n) ≤ s.rd (LTH_CLK_CFG.FMAX_CODE n),
   s.rd (LTH_WAIT_LIMIT.LIMIT n) ≠ 0]

/-- A staged commit applies, or fails and sets CFG_MISMATCH and CFG_RULE (R98, R100). -/
def State.lthApply (s : State) (n : Nat) : State :=
  let s0 := s.wr (LTH_CFG_STAT.PENDING n) 0
  match failingRule (s.lthRules n) with
  | some k => (s0.raise (LTH_CFG_STAT.CFG_MISMATCH n)).wr (LTH_CFG_STAT.CFG_RULE n) k
  | none =>
    let s1 := s0.applyShadows [LTH_CLK_CFG.FMIN_CODE n, LTH_CLK_CFG.FMAX_CODE n, LTH_WAIT_LIMIT.LIMIT n]
    ((s1.wr (LTH_CLK_STAT.FMIN_EFF n) (s.rd (LTH_CLK_CFG.FMIN_CODE n))).wr (LTH_CLK_STAT.FMAX_EFF n) (s.rd (LTH_CLK_CFG.FMAX_CODE n))).reclock n

/-- A descriptor boundary, or a state in which a commit applies at once, is reached (R98). -/
def State.lthBoundary (s : State) (n : Nat) : State := if s.rd (LTH_CFG_STAT.PENDING n) = 1 then s.lthApply n else s

/-- The step epoch open takes place on Lathe n, which is in IDLE, DONE or HALTED (R97): event counters 0, commits staged for the
epoch, STEP_EPOCH, the tensor DMA group leaves STOPPED (R281), IDLE. -/
def State.epochOpen (s : State) (n : Nat) : State :=
  let s0 := (List.range 32).foldl (fun st c => st.wr (LTH_EVT_CNT.COUNT n c) 0) (s.tdmaUnstop n)
  let s1 := if s0.rd (LTH_CFG_STAT.PENDING n) = 2 then s0.lthApply n else s0
  let s2 := (s1.wr (LTH_EPOCH.STEP_EPOCH n) (s1.rd (LTH_EPOCH.STEP_EPOCH n) + 1)).wr (LTH_SEQ_STAT.STATE n) 1
  s2.setLth n { s2.lth n with epochHeld := false }

/-! Plans (R77, R88). -/

/-- The byte offset of plan buffer b. -/
def State.planBase (s : State) (n b : Nat) : Nat :=
  128 * s.rd (LTH_PLAN_BASE.BASE n b)

/-- The sequencer comes to fetch descriptor i; a STOP that stands takes effect here (R89). -/
def State.toFetch (s : State) (n i : Nat) : State :=
  let s1 := (s.setLth n { s.lth n with desc := none, issued := 0, kicked := 0, latched := none, fail := 0 }).wr (LTH_SEQ_STAT.DESC_IDX n) i
  if s.flag (LTH_SEQ_CTRL.STOP n) then
    ((s1.setLth n { s1.lth n with stoppedFrom := 2 }).wr (LTH_SEQ_STAT.STATE n) 7).lthBoundary n
  else s1.wr (LTH_SEQ_STAT.STATE n) 2

/-- The cells of Lathe SRAM at offsets from `lo` to below `hi`. -/
def State.lsramCells (s : State) (n lo hi : Nat) : Cells Byte :=
  s.mem.lsram.filter (fun c => n * 2 ^ 24 + lo ≤ c.1 && c.1 < n * 2 ^ 24 + hi)

/-- A plan starts (R88). -/
def State.startPlan (s : State) (n len base buf : Nat) : State :=
  ((s.setLth n { s.lth n with len := len, base := base, flights := [], tdmaHit := false, report := none,
                              plan := some (s.lsramCells n base (base + 128 * len)) }).wr (LTH_SEQ_STAT.BUF n) buf).toFetch n 0

/-- Descriptor i of the running plan has been overwritten since the plan started, STATUS apart (R80). -/
def State.overwritten (s : State) (n i : Nat) : Bool :=
  match (s.lth n).plan with
  | none => false
  | some p =>
    let lo := n * 2 ^ 24 + (s.lth n).base + 128 * i
    p.filter (fun c => lo ≤ c.1 && c.1 < lo + 0x7C) ≠ s.lsramCells n ((s.lth n).base + 128 * i) ((s.lth n).base + 128 * i + 0x7C)

/-- GO (R88): started, held as pending, or refused. -/
def State.goPlan (s : State) (n len buf : Nat) : State :=
  let base := s.planBase n buf
  let st := s.seq n
  if len = 0 ∨ lsramSize < base + 128 * len then s.raise (LTH_ERR_STAT.GO_REFUSED n)
  else if st = 1 ∨ st = 5 then s.startPlan n len base buf
  else if st = 2 ∨ st = 3 ∨ st = 4 then
    if s.flag (LTH_SEQ_STAT.GO_PENDING n) then s.raise (LTH_ERR_STAT.GO_OVERRUN n)
    else (s.setLth n { s.lth n with pendLen := len, pendBase := base, pendBuf := buf }).wr (LTH_SEQ_STAT.GO_PENDING n) 1
  else s.raise (LTH_ERR_STAT.GO_REFUSED n)

/-- The plan is complete: DONE, the held epoch open, the pending GO (R88, R97). -/
def State.planDone (s : State) (n : Nat) : State :=
  let s1 := (s.wr (LTH_SEQ_STAT.STATE n) 5).lthBoundary n
  let s2 := if (s1.lth n).epochHeld then s1.epochOpen n else s1
  if s2.flag (LTH_SEQ_STAT.GO_PENDING n) then
    (s2.wr (LTH_SEQ_STAT.GO_PENDING n) 0).startPlan n (s2.lth n).pendLen (s2.lth n).pendBase (s2.lth n).pendBuf
  else s2

/-! Decode checks. -/

/-- The wait and signal slots are legal (R86, R94). -/
def State.slotOk (s : State) (n kind ctr : Nat) : Bool :=
  kind = 0 || (kind = 1 && ctr < 32) || (kind = 2 && ctr < 2 ^ 14 && bit (s.rd (LTH_PART.WAY_MASK n)) (bits ctr 10 4))

/-- HALO_MODE is legal (R95); 3 is reserved. -/
def Desc.haloOk (d : Desc) : Bool :=
  d.haloMode = 0 || (d.haloMode = 1 && d.wKind 1 = 2) || (d.haloMode = 2 && d.wKind 0 ≠ 2 && d.wKind 1 ≠ 2)

/-- The class works on the Spindles. -/
def Desc.isSpindle (d : Desc) : Bool := 1 ≤ d.opcode && d.opcode ≤ 4

/-- The class converts into OUT_FMT and reads in A_FMT. -/
def Desc.usesA (d : Desc) : Bool := (1 ≤ d.opcode && d.opcode ≤ 10) || d.isAttn
def Desc.usesB (d : Desc) : Bool := d.isSpindle || (d.opcode = 6 && ewUsesB d.ewOp) || d.isAttn
def Desc.usesOut (d : Desc) : Bool := (1 ≤ d.opcode && d.opcode ≤ 10) || d.isAttn || d.opcode = 15

/-- Every format field that the class uses holds a code of Table 2.1, and RND a mode of R39. -/
def Desc.fmtOk (d : Desc) : Bool :=
  (!d.usesA || (Fmt.ofCode d.aFmt).isSome) && (!d.usesB || (Fmt.ofCode d.bFmt).isSome) && (!d.usesOut || (Fmt.ofCode d.outFmt).isSome) &&
  d.rnd ≤ 1 && (!d.isSpindle || pairOk d.fA d.fB)

/-- SPD_MASK and K_SPLIT (R86): whole aligned groups. -/
def Desc.spindlesOk (d : Desc) : Bool :=
  d.spdMask ≠ 0 && (d.kSplit = 0 || (List.range (8 / 2 ^ d.kSplit)).all (fun g =>
    let m := bits d.spdMask (g * 2 ^ d.kSplit) (2 ^ d.kSplit)
    m = 0 || m = 2 ^ 2 ^ d.kSplit - 1))

/-- The K tiles of an item, and a group of B in tile order (R85, R115). -/
def Desc.fullH (d : Desc) : Nat := (d.hIn + d.padT + d.padB - d.fh) / d.sh + 1
def Desc.fullW (d : Desc) : Nat := (d.wIn + d.padL + d.padR - d.fw) / d.sw + 1

/-- The rows of Table 4.7 common to CONV, WINO, DWCONV and POOL. -/
def Desc.convFields (d : Desc) (maxF : Nat) : Bool :=
  1 ≤ d.hOut && 1 ≤ d.wOut && 1 ≤ d.cIn && 1 ≤ d.cOut && d.fh ≤ maxF && d.fw ≤ maxF && d.sh ≤ 8 && d.sw ≤ 8 &&
  d.padT < d.fh && d.padB < d.fh && d.padL < d.fw && d.padR < d.fw && d.fh ≤ d.hIn + d.padT + d.padB && d.fw ≤ d.wIn + d.padL + d.padR &&
  d.row0 + d.hOut ≤ d.fullH && d.wOut = d.fullW && d.aBaxis = 0 && d.outBaxis = 0

/-- Items per repetition (R111, Table 4.1): at most two in each Spindle group is what ACC_CHAIN asks. -/
def Desc.itemsOf (d : Desc) : Nat :=
  if d.opcode = 1 then ceilDiv d.mN 128 * ceilDiv d.mM 256
  else if d.opcode = 2 then ceilDiv d.cOut 128 * ceilDiv (d.hOut * d.wOut) 256
  else if d.opcode = 4 then ceilDiv d.cOut 32 * ceilDiv (d.hOut * d.wOut) 256
  else
    let t := ceilDiv d.hOut (winoE d.winoTile) * ceilDiv d.wOut (winoE d.winoTile)
    ceilDiv d.cOut 128 * (winoI d.winoTile * winoI d.winoTile) * ceilDiv t (if d.winoTile = 0 then 256 else 64)

/-- The class fields lie within Tables 3.6, 4.7 and 5.9 (R85, R135, R158, R491). -/
def State.classOk (s : State) (n : Nat) (d : Desc) : Bool :=
  let op := d.opcode
  let chainOk := !d.accChain || ceilDiv d.itemsOf (max 1 (groupCount d.spdMask d.kSplit)) ≤ 2
  let accRow := if op = 1 then 4 * d.mN else d.wOut * pixelPitch .fp32 d.cOut
  let accOk := d.accInit = 0 || accRow ≤ d.accLd
  if op = 0 then true
  else if op = 1 then
    1 ≤ d.mM && 1 ≤ d.mN && 1 ≤ d.mK && runBytes d.fA d.mK ≤ d.mALd && runBytes d.fO d.mN ≤ d.mOutLd &&
    (if d.rowMajorB then runBytes d.fB d.mK ≤ d.mBLd else ceilDiv d.mK (tileRows d.fA d.fB) * tileBytes d.fB (tileRows d.fA d.fB) ≤ d.mBLd) &&
    chainOk && accOk
  else if op = 2 then d.convFields 4 && chainOk && accOk
  else if op = 3 then
    d.convFields 4 && d.fh = 3 && d.fw = 3 && d.sh = 1 && d.sw = 1 && d.accInit = 0 && (d.winoTile = 0 || (d.fA = .bf16 && d.fB = .bf16)) && chainOk
  else if op = 4 then d.convFields 4 && d.cOut = d.cIn && [1, 2, 4, 8, 16, 32].contains d.dwCh && d.kSplit = 0 && chainOk && accOk
  else if op = 5 then d.convFields 8 && d.cOut = d.cIn && d.poolKind ≤ 2
  else if op = 6 then ewOk d.ewOp && 1 ≤ d.count
  else if op = 7 ∨ op = 8 then 1 ≤ d.rows && 1 ≤ d.len && runBytes d.fA d.len ≤ d.rowLd && runBytes d.fO d.len ≤ d.rowLd
  else if op = 9 ∨ op = 10 then
    1 ≤ d.moeTokens && 64 ≤ d.rowBytes && d.rowBytes % 64 = 0 && d.rowBytes % d.fA.blockBytes = 0 && (op = 9 || d.fO = .fp32)
  else if op = 11 then 1 ≤ d.experts && d.experts ≤ 256 && 1 ≤ d.topk && d.topk ≤ min 8 d.experts && 1 ≤ d.gateTokens
  else if op = 15 then 2 ≤ d.slots && d.slots ≤ 16 && 1 ≤ d.count && 4 * d.count ≤ d.partStride
  else if op = 16 then
    1 ≤ d.fld 0x60 0 8 && d.fld 0x60 0 8 ≤ 7 &&
    [0x40, 0x44, 0x48, 0x4C, 0x50, 0x54, 0x58].all (fun o => addrSpace (d.word o) = 3)
  else if op = 17 then true
  else d.isAttn && s.attnOk n d

/-- DESC_BAD (R86). -/
def State.descOk (s : State) (n : Nat) (d : Desc) : Bool :=
  d.version = 1 && d.opcode ≤ 0x11 && d.fmtOk && d.accInit ≤ 1 && (!d.isSpindle || d.spindlesOk) &&
  [0, 1].all (fun i => s.slotOk n (d.wKind i) (d.wCtr i) && s.slotOk n (d.sKind i) (d.sCtr i)) && d.haloOk && s.classOk n d

/-- A format's distance rule: multiples of its block size for MX (R83). -/
def distOk (f : Fmt) (x : Int) : Bool := !f.isMx || x % (f.blockBytes : Int) = 0

/-- Pitches and steps keep R82, R83 and R135: pitches multiples of 64, and those of MX operands and their steps multiples of the block. -/
def Desc.pitchOk (d : Desc) : Bool :=
  let op := d.opcode
  let step (f : Fmt) (x : Int) : Bool := d.reps = 1 || (x % 64 = 0 && distOk f x)
  let pitch (f : Fmt) (x : Nat) : Bool := x % 64 = 0 && distOk f (x : Int)
  (!d.usesA || step d.fA d.aRstep) && (!d.usesB || step d.fB d.bRstep) && (!d.usesOut || step d.fO d.outRstep) &&
  (if op = 1 then pitch d.fA d.mALd && pitch d.fB d.mBLd && pitch d.fO d.mOutLd && (d.accInit = 0 || d.accLd % 64 = 0)
   else if 2 ≤ op ∧ op ≤ 5 then pitch d.fA d.cALd && pitch d.fO d.cOutLd && (op = 5 || d.accInit = 0 || d.accLd % 64 = 0)
   else if op = 7 ∨ op = 8 then pitch d.fA d.rowLd && pitch d.fO d.rowLd
   else if op = 6 then d.ewOp ≠ 4 || d.reps = 1 || d.cRstep % 64 = 0
   else if op = 15 then d.partStride % 64 = 0
   else if d.isAttn then pitch d.fA d.qLd && pitch d.fO d.qLd
   else true)

/-- The addresses of element arrays are 64-byte aligned, those of scales and FP32 parameters 4-byte aligned (R82). -/
def Desc.alignOk (d : Desc) : Bool :=
  let el (used : Bool) (a : Nat) : Bool := !used || addrSpace a = 3 || a % 64 = 0
  let op := d.opcode
  el (d.usesA || op = 11 || op = 15) d.aAddr && el (d.usesB) d.bAddr && el d.usesOut d.outAddr && el (d.isSpindle || d.isAttn) d.accAddr &&
  el (op = 6) d.cAddr &&
  (op = 0 || op = 16 || op = 17 || [d.aScale, d.bScale, d.outScale].all (fun a => addrSpace a = 3 || a % 4 = 0)) &&
  (if op = 7 ∨ op = 8 then (d.word 0x70) % 4 = 0 ∧ (d.word 0x74) % 4 = 0
   else if op = 11 then d.gateWgt % 4 = 0 else if op = 10 then d.moeWgt % 4 = 0 ∧ d.countAddr % 4 = 0 else if op = 9 then d.countAddr % 4 = 0
   else if d.isAttn then d.lenTable % 4 = 0 else true)

/-- Every span of the first and the last repetition lies where R82 lets it: offsets move evenly with the repetition, so the ones
between lie between. -/
def State.spansOk (s : State) (n : Nat) (d : Desc) : Bool :=
  [0, d.reps - 1].all (fun r =>
    let t := if d.isAttn then s.attnTouch n d else d.touch r
    (t.reads ++ t.writes).all (fun p => p.len = 0 || s.spanOk n p))

/-- ADDR_FAULT (R82, R83, R86); a DMA_KICK entry names a descriptor on a 128-byte boundary in Lathe SRAM, which the channel checks. -/
def State.addrOk (s : State) (n : Nat) (d : Desc) : Bool := d.pitchOk && d.alignOk && s.spansOk n d

/-! Waits, signals, kicks (R94, R265). -/

/-- Wait slot i is met for repetition r (R94). -/
def State.waitMet (s : State) (n : Nat) (d : Desc) (i r : Nat) : Bool :=
  let thr := min (2 ^ 32 - 1) (d.wThr i + r * d.wStep i)
  if d.wKind i = 1 then thr ≤ s.rd (LTH_EVT_CNT.COUNT n (d.wCtr i))
  else if d.wKind i = 2 then thr ≤ s.progress (bits (d.wCtr i) 10 4) (bits (d.wCtr i) 0 10)
  else true

def State.waitsMet (s : State) (n : Nat) (d : Desc) (r : Nat) : Bool := s.waitMet n d 0 r && s.waitMet n d 1 r

/-- The DMA_KICK entries from `i` on start in order; a busy channel holds the rest back (R265). The state, and how many are done. -/
def State.kickFrom (s : State) (n : Nat) (d : Desc) : Nat → Nat → State × Nat
  | 0, i => (s, i)
  | k + 1, i =>
    let w := d.word (0x60 + 4 * i)
    if bits w 31 1 = 0 then s.kickFrom n d k (i + 1)
    else if s.rd (TDMA_CH_STAT.STATE n (bits w 28 2)) = 1 then (s.tdmaStart n (bits w 28 2) (bits w 0 24)).kickFrom n d k (i + 1)
    else (s, i)

/-- A progress publish (R93, R516): the way merges the word of the larger value; a lower value sets PROG_REGRESS; false: the word was
uncorrectable. -/
def State.publishAt (s : State) (n ctr v : Nat) : State × Bool :=
  let w := bits ctr 10 4
  let i := bits ctr 0 10
  let r := s.wayRead w (progressBase + 4 * i) 4
  if !r.2.1 then (r.1, false)
  else if v < leVal r.2.2 then (r.1.raise (LTH_ERR_STAT.PROG_REGRESS n), true)
  else r.1.wayWrite w (progressBase + 4 * i) (leBytes 4 v)

/-- Signal slot i fires for repetition r (R92, R94); false: a publish met an uncorrectable word. -/
def State.signal (s : State) (n : Nat) (d : Desc) (i r : Nat) (last : Bool) : State × Bool :=
  if d.sWhen i = 1 ∧ !last then (s, true)
  else if d.sKind i = 1 then (s.evtAdd n (d.sCtr i) (d.sVal i), true)
  else if d.sKind i = 2 then s.publishAt n (d.sCtr i) (min (2 ^ 32 - 1) (d.sVal i + r * d.sStep i))
  else (s, true)

/-! Ends of descriptors. -/

/-- The STATUS word of descriptor i (Table 3.4): the code and the repetitions completed. -/
def State.putStatus (s : State) (n i code done : Nat) : State :=
  (s.lsramWrite n ((s.lth n).base + 128 * i + 0x7C) (leBytes 4 (code + done % 65536 * 2 ^ 16))).1

/-- The flag of LTH_ERR_STAT for a status code (Table 3.25). -/
def codeFlag (n code : Nat) : Option Fld :=
  if code = 0x10 then some (LTH_ERR_STAT.DESC_BAD n) else if code = 0x11 then some (LTH_ERR_STAT.ADDR_FAULT n)
  else if code = 0x20 then some (LTH_ERR_STAT.LSRAM_UE n) else if code = 0x21 then some (LTH_ERR_STAT.SHARED_UE n)
  else if code = 0x22 then some (LTH_ERR_STAT.TDMA_STOP n) else if code = 0x23 then some (LTH_ERR_STAT.STREAMER_FAULT n)
  else if code = 0x30 then some (LTH_ERR_STAT.WAIT_TIMEOUT n) else if code = 0x32 then some (LTH_ERR_STAT.KAT_MISCOMPARE n)
  else none

/-- A descriptor-status error is flagged; the first since bits [7:0] were all clear is recorded (Tables 3.25, 3.26). -/
def State.flagCode (s : State) (n i code : Nat) : State :=
  match codeFlag n code with
  | none => s
  | some f =>
    let clear := [0x10, 0x11, 0x20, 0x21, 0x22, 0x23, 0x30, 0x32].all (fun c => match codeFlag n c with | some g => s.rd g = 0 | none => true)
    let s1 := if clear then
        ((s.wr (LTH_ERR_INFO.DESC_IDX n) i).wr (LTH_ERR_INFO.BUF n) (s.rd (LTH_SEQ_STAT.BUF n))).wr (LTH_ERR_INFO.STEP_EPOCH n) (s.rd (LTH_EPOCH.STEP_EPOCH n))
      else s
    s1.raise f

/-- The pins of walks that a Lathe drops end (R155). -/
def State.dropPins (s : State) (n : Nat) (fs : List Flight) : State :=
  let s1 := fs.foldl (fun st f => match f.pin with | some (p, g) => st.endPin p g | none => st) s
  match (s1.lth n).latched with
  | some (g, p, _) => s1.endPin p g
  | none => s1

/-- Descriptor i ends in error or with ABORTED (R90): STATUS, CANCELLED for the later ones, HALTED, the pending GO discarded, the
Peloton notified. Repetitions of earlier descriptors go on to complete. -/
def State.endDesc (s : State) (n i code done : Nat) : State :=
  let l := s.lth n
  let s1 := (s.dropPins n (l.flights.filter (fun f => i ≤ f.idx))).putStatus n i code done
  let s2 := (List.range l.len).foldl (fun st j => if i < j then st.putStatus n j 2 0 else st) s1
  let s3 := (s2.flagCode n i code).wr (LTH_SEQ_STAT.DESC_IDX n) i
  let s4 := if s3.flag (LTH_SEQ_STAT.GO_PENDING n) then (s3.wr (LTH_SEQ_STAT.GO_PENDING n) 0).raise (LTH_ERR_STAT.GO_REFUSED n) else s3
  let s5 := (s4.setLth n { s4.lth n with flights := l.flights.filter (fun f => f.idx < i), desc := none, latched := none, fail := 0,
                                         tdmaHit := false, report := some (i, code) }).wr (LTH_SEQ_STAT.STATE n) 6
  let s6 := s5.lthBoundary n
  if (s6.lth n).epochHeld then s6.epochOpen n else s6

/-- The index of the current descriptor. -/
def State.descIdx (s : State) (n : Nat) : Nat := s.rd (LTH_SEQ_STAT.DESC_IDX n)

/-- The repetitions of descriptor i that have completed, by what is still in flight. -/
def State.repsDone (s : State) (n i : Nat) : Nat :=
  match (s.lth n).flights.find? (fun f => f.idx = i) with
  | some f => f.rep
  | none => (s.lth n).issued

/-- Descriptor i's running repetitions: those issued and not complete. -/
def State.running (s : State) (n i : Nat) : Bool := (s.lth n).flights.any (fun f => f.idx = i)

/-- A STOP that stands takes effect in RUN once no repetition of the current descriptor is running (R89). -/
def State.stopInRun (s : State) (n : Nat) : State :=
  if s.seq n = 4 && s.flag (LTH_SEQ_CTRL.STOP n) && !s.running n (s.descIdx n) then
    ((s.setLth n { s.lth n with stoppedFrom := 4 }).wr (LTH_SEQ_STAT.STATE n) 7).lthBoundary n
  else s

/-- The first descriptor of the plan with every repetition issued and complete is the last one: the plan is complete. -/
def State.planEnded (s : State) (n : Nat) : Bool :=
  let l := s.lth n
  s.seq n = 4 && s.descIdx n + 1 = l.len && l.flights.isEmpty &&
  (match l.desc with | some d => l.issued = Desc.reps d | none => false)

/-! Writes of a repetition. -/

/-- Free values in the bytes of the spans given (R20): what an interrupted descriptor leaves in its output. -/
def State.scramble (s : State) (n : Nat) (ps : List Span) : State :=
  ps.foldl (fun st p =>
    let bs := (List.range p.len).map (fun i => BitVec.ofNat 8 (Config.freeValue (st.freeCtr + i)))
    ({ (st.writeSpan n p.addr p.delta bs).1 with freeCtr := st.freeCtr + p.len })) s

/-- Every operand of a repetition is read through the symbol code: the state, and the status code of the first uncorrectable word. -/
def State.readOperands (s : State) (n : Nat) (ps : List Span) : State × Nat :=
  ps.foldl (fun (acc : State × Nat) p =>
    let r := acc.1.touchSpan n p
    (r.1, if acc.2 ≠ 0 ∨ r.2 then acc.2 else if addrSpace p.addr = 0 then 0x20 else 0x21)) (s, 0)

/-- The results are written; a merge that meets an uncorrectable word gives the status code (R516). -/
def State.writeResults (s : State) (n : Nat) (ws : List (Nat × Int × List Byte)) : State × Nat :=
  ws.foldl (fun (acc : State × Nat) w =>
    let r := acc.1.writeSpan n w.1 w.2.1 w.2.2
    (r.1, if acc.2 ≠ 0 ∨ r.2 then acc.2 else if addrSpace w.1 = 0 then 0x20 else 0x21)) (s, 0)

/-- SPD_EXC_STAT gains the flags of Spindle sp (Table 2.9). -/
def State.spdExc (s : State) (n sp : Nat) (e : Exc) : State :=
  let s1 := ((((s.raiseIf e.nanIn (SPD_EXC_STAT.NAN_IN n)).raiseIf e.invalid (SPD_EXC_STAT.INVALID n)).raiseIf e.ovf (SPD_EXC_STAT.OVF n)).raiseIf
    e.sat (SPD_EXC_STAT.SAT n)).raiseIf e.clamp (SPD_EXC_STAT.SCALE_CLAMP n)
  if e = {} then s1 else s1.wr (SPD_EXC_STAT.SPD_MASK n) (s1.rd (SPD_EXC_STAT.SPD_MASK n) ||| 2 ^ sp)

/-- VEC_EXC_STAT gains flags (Table 2.10). -/
def State.vecExc (s : State) (n : Nat) (e : Exc) : State :=
  ((((s.raiseIf e.nanIn (VEC_EXC_STAT.NAN_IN n)).raiseIf e.invalid (VEC_EXC_STAT.INVALID n)).raiseIf e.ovf (VEC_EXC_STAT.OVF n)).raiseIf
    e.sat (VEC_EXC_STAT.SAT n)).raiseIf e.clamp (VEC_EXC_STAT.SCALE_CLAMP n)

/-- The pipeline in which a class completes in issue order (R78). -/
def Desc.pipe (d : Desc) : Nat :=
  if d.isSpindle then 0 else if d.isAttn then 2 else if d.opcode = 0 ∨ d.opcode = 16 ∨ d.opcode = 17 then 3 else 1

/-- The spans that a repetition of a descriptor writes. -/
def State.writesOf (s : State) (n : Nat) (d : Desc) (r : Nat) : List Span := if d.isAttn then (s.attnTouch n d).writes else (d.touch r).writes

/-- Repetition r is interrupted by an error: its output, and that of the descriptor's repetitions whose drain it overlapped, hold
free values (R91). -/
def State.interrupted (s : State) (n : Nat) (d : Desc) (r : Nat) : State :=
  let others := (s.lth n).flights.filter (fun f => f.idx = s.descIdx n)
  s.scramble n (s.writesOf n d r ++ others.flatMap (fun f => s.writesOf n d f.rep))

/-- The spans that a repetition of a descriptor reads as operands. -/
def State.readsOf (s : State) (n : Nat) (d : Desc) (r : Nat) : List Span := if d.isAttn then (s.attnTouch n d).reads else (d.touch r).reads

/-- The state as a repetition reads it: what a repetition of an earlier descriptor in flight writes holds free values, since nothing
checks that hazard (R79). The length table was latched before. -/
def State.asRead (s : State) (n : Nat) (d : Desc) (r : Nat) : State :=
  s.scramble n (Span.meets ((s.readsOf n d r).filter (fun p => !(d.isAttn && p.addr = d.lenTable)))
    (((s.lth n).flights.filter (fun f => f.idx < s.descIdx n)).flatMap (fun f => s.writesOf n f.words f.rep)))

/-- The free values that a state drew are drawn. -/
def State.drawnAs (s t : State) : State := { s with freeCtr := t.freeCtr }

/-- The state with the Lathe SRAM and the shared SRAM of another. -/
def State.withSrams (s t : State) : State :=
  { s with mem := { s.mem with lsram := t.mem.lsram, lsramErr := t.mem.lsramErr, way := t.mem.way, wayErr := t.mem.wayErr } }

/-- The spans of a repetition's output array: what it writes at OUT_ADDR and at its scales, and both arrays of MOE_GATE. -/
def State.outOf (s : State) (n : Nat) (d : Desc) (r : Nat) : List Span :=
  (s.writesOf n d r).filter (fun p => d.opcode = 11 || p.addr = d.outAddr || p.addr = d.outScale)

/-- The operand arrays whose overlap with the output is no matter: the initial values under ACC_ADDR that R117 admits, and the array
that MOE_SCATTER adds to. -/
def Desc.mayShare (d : Desc) (p : Span) : Bool :=
  (d.isSpindle && d.accAddr = d.outAddr && d.fO = .fp32 && p.addr = d.accAddr && d.aAddr ≠ d.accAddr && d.bAddr ≠ d.accAddr &&
    d.accLd = (if d.opcode = 1 then d.mOutLd else d.cOutLd)) ||
  (d.opcode = 10 && p.addr = d.outAddr)

/-- The output of the descriptor is undefined: it overlaps an operand array (R117), or the descriptor was overwritten while its plan
ran (R80). -/
def State.outOpen (s : State) (n : Nat) (d : Desc) : Bool :=
  s.overwritten n (s.descIdx n) ||
  !(Span.meets ((List.range d.reps).flatMap (s.outOf n d))
    (((List.range d.reps).flatMap (s.readsOf n d)).filter (fun p => !d.mayShare p))).isEmpty

/-- The output of a repetition, when it is undefined, holds free values. -/
def State.openOut (s : State) (n : Nat) (d : Desc) (r : Nat) : State := if s.outOpen n d then s.scramble n (s.outOf n d r) else s

/-- A repetition of a compute class runs: operands, results, exception flags, accumulators. The state and the status code. -/
def State.runCompute (s : State) (n : Nat) (d : Desc) (r : Nat) : State × Nat :=
  let (s1, bad) := s.readOperands n (d.touch r).reads
  if bad ≠ 0 then (s1.interrupted n d r, bad)
  else
    let seen := s1.asRead n d r
    let res := d.result seen n r (s1.lth n).acc
    let s1' := (s1.drawnAs seen).drew
    let s2 := if d.opcode = 3 then s1'.scramble n [⟨d.accAddr, 0, winoStaging d⟩] else s1'
    let (s3, code) := (fun x => (x.1.openOut n d r, x.2)) (s2.writeResults n res.writes)
    let s4 := res.spd.foldl (fun st x => st.spdExc n x.1 x.2) (s3.vecExc n res.vec)
    (s4.setLth n { s4.lth n with acc := res.acc }, code)

/-- The attention streamer runs an attention descriptor over its latched records (R160 to R167). The state and the status code. -/
def State.runAttention (s : State) (n : Nat) (d : Desc) (p : Nat) (recs : List (Nat × KvRec)) : State × Nat :=
  let t := s.attnTouch n d
  let (s1, bad) := s.readOperands n t.reads
  if bad ≠ 0 then (s1.interrupted n d 0, bad)
  else
    match (s1.asRead n d 0).atsRun n p d recs with
    | .error (f, slot, page, s2) => (((s2.withSrams s1).atsError n f slot page).interrupted n d 0, 0x23)
    | .ok (s2, ws, sx, vx) =>
      let s3 := (s2.withSrams s1).scramble n [⟨d.accAddr, 0, s2.stagingBytes p d⟩]
      let (s4, code) := (fun x => (x.1.openOut n d 0, x.2)) (s3.writeResults n ws)
      (((s4.spdExc n (s4.free % 8) sx).vecExc n vx).drew, code)

end Sys2Proof.Machine
end

