-- ==== Sys2Proof/Machine/Lathe.lean ====
section
/-! DEFINITION. The commands of a Lathe's sequencer (R87 to R107, R160). -/

namespace Sys2Proof.Machine
open Reg

/-- SEQ_GO: a write of LTH_SEQ_GO (R88). A write from PF0 to a Lathe that the Peloton drives is refused (Table 3.15). -/
def execSeqGo (n : Lathe) (by' : Driver) (len : Fin 4096) (buf : Bool) (s : State) : Next :=
  .next (if by' = .pf0 ∧ s.flag (LTH_PART.PLT_OWNED n) then s.raise (LTH_ERR_STAT.GO_REFUSED n) else s.goPlan n len (b2n buf))

/-- SEQ_STOP (R89): at once in FETCH and WAIT, after the running repetition in RUN, else it stands. A STOP to a Lathe with PLT_OWNED 1
is a debug access: it is counted, or, when the count's FRAM write fails, not taken (R388). -/
def execSeqStop (n : Lathe) (framOk : Bool) (s : State) : Next :=
  let (s0, ok) := if s.flag (LTH_PART.PLT_OWNED n) then s.debugAccess (s.rd (LTH_PART.PART n)) framOk else (s, true)
  if !ok then .next (s0.raise (LTH_ERR_STAT.DBG_DENIED n))
  else
    let s1 := s0.raise (LTH_SEQ_CTRL.STOP n)
    let st := s1.seq n
    .next (if st = 2 ∨ st = 3 then ((s1.setLth n { s1.lth n with stoppedFrom := st }).wr (LTH_SEQ_STAT.STATE n) 7).lthBoundary n
      else s1.stopInRun n)

/-- SEQ_RESUME (R89): STOP reads 0, and a stopped sequencer goes on where the stop took effect. -/
def execSeqResume (n : Lathe) (s : State) : Next :=
  let s1 := s.wr (LTH_SEQ_CTRL.STOP n) 0
  .next (if s1.seq n = 7 then s1.wr (LTH_SEQ_STAT.STATE n) (s1.lth n).stoppedFrom else s1)

/-- Lathe reset begins: what the sequencer and the streamer held is dropped (R104). -/
def State.lresetStart (s : State) (n : Nat) : State :=
  ((s.dropPins n (s.lth n).flights).setLth n {}).wr (LTH_SEQ_STAT.STATE n) 0

/-- LRESET (R104): accepted in IDLE, DONE, HALTED, STOPPED and OFFLINE. -/
def execLreset (n : Lathe) (s : State) : Next :=
  let st := s.seq n
  .next (if st = 1 ∨ st = 5 ∨ st = 6 ∨ st = 7 ∨ st = 8 then s.lresetStart n else s.raise (LTH_CFG_STAT.CFG_BUSY_WR n))

/-- The end of Lathe reset (R104): registers but LTH_ID, LTH_PART and the cycle count at their reset values, accumulators and Lathe
SRAM zero, the tensor DMA group in its reset state (R281), IDLE or, while retired, OFFLINE. -/
def State.latheClear (s : State) (n : Nat) : State :=
  let keep := [LTH_ID.LATHE n, LTH_ID.RETIRED n, LTH_ID.REPAIRS n, LTH_PART.WAY_MASK n, LTH_PART.PART n, LTH_PART.ASSIGNED n, LTH_PART.PLT_OWNED n,
    LTH_CYC_HI.CYC n]
  let s1 := keep.foldl (fun st f => st.wr f (s.rd f)) (s.clearRegs (lthB n) (lthB n + 0x100000))
  ((((s1.zeroLsram n).tdmaGroupReset n).setLth n {})).wr (LTH_SEQ_STAT.STATE n) (if s.flag (LTH_ID.RETIRED n) then 8 else 1)

/-- LATHE_RESET_DONE. -/
def execLatheResetDone (n : Lathe) (s : State) : Next := .next (if s.seq n = 0 then (s.latheClear n).throttle n else s)

/-- A step abort (R90): in FETCH, WAIT, RUN and STOPPED the current descriptor ends with ABORTED. -/
def State.stepAbort (s : State) (n : Nat) : State :=
  let st := s.seq n
  if st = 2 ∨ st = 3 ∨ st = 4 ∨ st = 7 then s.endDesc n (s.descIdx n) 0x31 (s.repsDone n (s.descIdx n)) else s

/-- STEP_ABORT (R90, Table 3.16). -/
def execStepAbort (n : Lathe) (s : State) : Next := .next (s.stepAbort n)

/-- DESCRIPTOR_DECODE (R86, R98): in FETCH, the boundary's commit, the descriptor's 128 bytes, the checks, and RUN or WAIT. -/
def execDescriptorDecode (n : Lathe) (s : State) : Next :=
  let i := s.descIdx n
  if s.seq n ≠ 2 then .next s
  else if (s.lth n).tdmaHit then .next (s.endDesc n i 0x22 0)
  else
    let s1 := s.lthBoundary n
    let r := s1.lsramRead n ((s1.lth n).base + 128 * i) 128
    if !r.2.1 then .next (r.1.endDesc n i 0x20 0)
    else
      let d : Desc := wordsOfBytes 32 r.2.2
      if !r.1.descOk n d then .next (r.1.endDesc n i 0x10 0)
      else if !r.1.addrOk n d then .next (r.1.endDesc n i 0x11 0)
      else .next ((r.1.setLth n { r.1.lth n with desc := some d, issued := 0, kicked := 0, latched := none, fail := 0 }).wr (LTH_SEQ_STAT.STATE n)
        (if r.1.waitsMet n d 0 then 4 else 3))

/-- A repetition issues: what its class does, and its entry among the repetitions in flight. -/
def State.issueRep (s : State) (n : Nat) (d : Desc) (r : Nat) : State :=
  let l := s.lth n
  let p := (s.partOf n).getD 0
  let (s1, code, cell) : State × Nat × Nat :=
    if d.opcode = 16 then
      let (t, dg) := s.katRun n (d.fld 0x60 0 8)
      let (t1, c) := t.katCell n
      let t2 := t1.katCount n (d.fld 0x60 0 8) c (dg = katDigest (d.fld 0x60 0 8)) true
      (t2, if dg = d.word 0x64 then 0 else 0x32, c)
    else if d.isAttn then
      match l.latched with
      | some (_, _, recs) => let x := s.runAttention n d p recs; (x.1, x.2, 0)
      | none => (s, 0, 0)
    else
      let s0 := if d.startsAcc r then s.setLth n { l with acc := [] } else s
      let x := s0.runCompute n d r
      (x.1, x.2, 0)
  let pin := l.latched.map (fun x => (x.2.1, x.1))
  let fl : Flight := { idx := s.descIdx n, rep := r, words := d, pipe := d.pipe, last := r + 1 = d.reps, err := code, pin := pin, cell := cell }
  let s2 := s1.setLth n { s1.lth n with issued := r + 1, kicked := 0, latched := none, flights := (s1.lth n).flights ++ [fl] }
  let s3 := s2.wr (LTH_SEQ_STAT.STATE n) 4
  if r + 1 = d.reps ∧ s.descIdx n + 1 < l.len ∧ code = 0 then s3.toFetch n (s.descIdx n + 1) else s3

/-- REPETITION_ISSUE (R78): with both wait slots met the next repetition issues; a DMA_KICK waits for its channels, an attention
descriptor for its latch. Nothing issues behind an error, a group stop or a STOP. -/
def execRepetitionIssue (n : Lathe) (s : State) : Next :=
  let l := s.lth n
  let st := s.seq n
  match l.desc with
  | none => .next s
  | some d =>
    let r := l.issued
    if !(st = 3 ∨ st = 4) ∨ Desc.reps d ≤ r ∨ l.tdmaHit ∨ l.fail ≠ 0 ∨ l.flights.any (fun f => f.err ≠ 0) ∨ (st = 4 ∧ s.flag (LTH_SEQ_CTRL.STOP n))
    then .next s
    else if !s.waitsMet n d r then .next (s.wr (LTH_SEQ_STAT.STATE n) 3)
    else if Desc.opcode d = 17 then
      let (s1, k) := s.kickFrom n d (4 - l.kicked) l.kicked
      .next (if k < 4 then (s1.setLth n { s1.lth n with kicked := k }).wr (LTH_SEQ_STAT.STATE n) 3 else s1.issueRep n d r)
    else if Desc.isAttn d && l.latched.isNone then .next (s.wr (LTH_SEQ_STAT.STATE n) 4)
    else .next (s.issueRep n d r)

/-- KV_LATCH (R160): the page-frame table unit serves the latch of Lathe n's attention descriptor whole. A latch that would exceed
65,535 pins waits (R157). -/
def execKvLatch (n : Lathe) (s : State) : Next :=
  let l := s.lth n
  match l.desc, s.partOf n with
  | some d, some p =>
    if s.seq n ≠ 4 ∨ !Desc.isAttn d ∨ l.latched.isSome ∨ l.fail ≠ 0 ∨ 1 ≤ l.issued then .next s
    else
      let g := s.pftGen p
      if 65535 ≤ s.pinCnt p g then .next s
      else
        let (s1, bad) := s.readOperands n [⟨Desc.lenTable d, 0, 16 * Desc.reqCount d⟩]
        if bad ≠ 0 then .next (s1.setLth n { s1.lth n with fail := bad })
        else
          match (s1.wr (ATS_STAT.STATE n) 1).atsLatch n p d with
          | .ok (s2, recs) => .next ((s2.takePin p).setLth n { s2.lth n with latched := some (g, p, recs) })
          | .error (f, slot, page, s2) => let s3 := s2.atsError n f slot page; .next (s3.setLth n { s3.lth n with fail := 0x23 })
  | _, _ => .next s

/-- The signals of a repetition, slot 0 then slot 1; false: a publish met an uncorrectable word. -/
def State.signals (s : State) (n : Nat) (f : Flight) : State × Bool :=
  let a := s.signal n f.words 0 f.rep f.last
  let b := a.1.signal n f.words 1 f.rep f.last
  (b.1, a.2 && b.2)

/-- REPETITION_COMPLETE (R94): the oldest repetition in flight of a pipeline is complete: its signals fire, its walk's pin ends, after
the last one STATUS is written with OK, and the plan may be complete. -/
def execRepetitionComplete (n : Lathe) (pipe : Fin 4) (s : State) : Next :=
  match (s.lth n).flights.find? (fun f => f.pipe = pipe.val) with
  | none => .next s
  | some f =>
    if f.err ≠ 0 then .next s
    else
      let (s1, ok) := s.signals n f
      let fs := (s1.lth n).flights
      if !ok then .next (s1.setLth n { s1.lth n with flights := fs.map (fun g => if g = f then { g with err := 0x21 } else g) })
      else
        let s2 := s1.setLth n { s1.lth n with flights := fs.erase f }
        let s3 := match f.pin with
          | some (p, g) => (s2.endPin p g).wr (ATS_STAT.STATE n) 0
          | none => s2
        let s4 := if f.last then s3.putStatus n f.idx 1 (f.rep + 1) else s3
        .next (if s4.planEnded n then s4.planDone n else s4.stopInRun n)

/-- DESCRIPTOR_ERROR (R90, R91): a repetition in flight that met an error, a failed latch or a tensor DMA group stop ends its
descriptor. A group stop ends a running descriptor once its running repetition is complete. -/
def execDescriptorError (n : Lathe) (s : State) : Next :=
  let l := s.lth n
  let st := s.seq n
  match l.flights.find? (fun f => f.err ≠ 0) with
  | some f =>
    if st = 2 ∨ st = 3 ∨ st = 4 then .next (s.endDesc n f.idx f.err (s.repsDone n f.idx))
    else if st = 6 then
      let s1 := ((s.dropPins n [f]).putStatus n f.idx f.err (s.repsDone n f.idx)).flagCode n f.idx f.err
      .next (s1.setLth n { s1.lth n with flights := l.flights.filter (fun g => g.idx ≠ f.idx) })
    else .next s
  | none =>
    if !(st = 2 ∨ st = 3 ∨ st = 4) then .next s
    else if l.fail ≠ 0 then .next (s.endDesc n (s.descIdx n) l.fail l.issued)
    else if l.tdmaHit ∧ (st ≠ 4 ∨ !s.running n (s.descIdx n)) then .next (s.endDesc n (s.descIdx n) 0x22 (s.repsDone n (s.descIdx n)))
    else .next s

/-- WAIT_TIMEOUT (R87): a wait of the repetition to issue has exceeded LTH_WAIT_LIMIT. -/
def execWaitTimeout (n : Lathe) (s : State) : Next :=
  .next (if s.seq n = 3 then s.endDesc n (s.descIdx n) 0x30 (s.repsDone n (s.descIdx n)) else s)

/-- STEP_EPOCH_OPEN (R97): taken in IDLE, DONE and HALTED, held in FETCH, WAIT, RUN and STOPPED, not acknowledged in OFFLINE. -/
def execStepEpochOpen (n : Lathe) (s : State) : Next :=
  let st := s.seq n
  .next (if st = 1 ∨ st = 5 ∨ st = 6 then s.epochOpen n
    else if st = 2 ∨ st = 3 ∨ st = 4 ∨ st = 7 then s.setLth n { s.lth n with epochHeld := true }
    else s)

/-- A commit of a Lathe (R98): staged for the next boundary or the next epoch open, or applied at once where no descriptor runs. -/
def State.lthCommit (s : State) (n : Nat) (atEpoch : Bool) : State :=
  let st := s.seq n
  let s1 := s.wr (LTH_CFG_STAT.PENDING n) (if atEpoch then 2 else 1)
  if !atEpoch ∧ (st = 1 ∨ st = 5 ∨ st = 6 ∨ st = 7 ∨ st = 8) then s1.lthApply n else s1

/-- LTH_COMMIT. -/
def execLthCommit (n : Lathe) (atEpoch : Bool) (s : State) : Next := .next (s.lthCommit n atEpoch)

/-- EVT_INC (R92): a write of LTH_EVT_INC. -/
def execEvtInc (n : Lathe) (ctr : Fin 32) (amount : Fin 256) (s : State) : Next := .next (s.evtAdd n ctr amount)

/-- LTH_DBG_DATA_ACCESS (R107, R387, R388): a read, or a write of a word, of LTH_DBG_DATA. What a read of an uncorrectable word
returns is not stated: a free value. -/
def execLthDbgDataAccess (n : Lathe) (write : Option Word) (framOk : Bool) (s : State) : Next :=
  let a := s.rd (LTH_DBG_ADDR.ADDR n) / 4 * 4
  let asg := s.flag (LTH_PART.ASSIGNED n)
  let served := a ≤ 0xBFFFFC && (s.seq n = 7 || (s.seq n = 1 && !asg))
  let (s0, ok) := if served && asg then s.debugAccess (s.rd (LTH_PART.PART n)) framOk else (s, served)
  if !ok then
    let s1 := s0.raise (LTH_ERR_STAT.DBG_DENIED n)
    .next (if write.isSome then s1 else s1.send (.readData (leBytes 4 0)))
  else
    match write with
    | some w => .next (s0.lsramWrite n a (leBytes 4 w.toNat)).1
    | none =>
      let r := s0.lsramRead n a 4
      .next (if r.2.1 then r.1.send (.readData r.2.2) else (r.1.send (.readData (leBytes 4 r.1.free))).drew)

/-- DROOP_STRETCH (R102): a stretch is counted in DROOPS; it is the one that an armed LTH_INJ.DROOP forces. -/
def execDroopStretch (n : Lathe) (s : State) : Next := .next ((s.bump (LTH_CLK_STAT.DROOPS n) 1).wr (LTH_INJ.DROOP n) 0)

end Sys2Proof.Machine
end

