-- ==== Sys2Proof/Machine/Cost.lean ====
section
/-! DEFINITION. What work costs: time conversions (R171, R172), descriptor costs (R113, R122, R125, R132), the cost table (R180),
charges (R165, R186) and the reserved step (R187). -/

namespace Sys2Proof.Machine
open Reg

/-! Conversions (R171, R172, R194). -/

/-- conv(C) for Lathe n. -/
def State.conv (s : State) (n c : Nat) : Nat :=
  let k := s.rd (LTH_CLK_STAT.FMIN_EFF n)
  if s.flag (LTH_CLK_STAT.BELOW_FLOOR n) then
    ceilDiv (c * 384) (max 1 ((48 + min k (s.rd (LTH_CLK_STAT.CEIL_CODE n))) * s.rd (LTH_CLK_STAT.DUTY n)))
  else ceilDiv (c * 48) (48 + k)

/-- port(b) under a port reservation. -/
def portTime (res b : Nat) : Nat := ceilDiv (b * 24) (25 * (64 - res))

/-- The partition's settings that the cost model uses. -/
structure PltCfg where
  cadence : Nat
  chunk : Nat
  chunkRes : Nat
  nodes : Nat
  qmax : Nat
  portRes : Nat
  maxLen : Nat
  base : Nat
  count : Nat
  allow : Nat
deriving DecidableEq, Repr

def State.pltCfgOf (p : Nat) (r : Fld → Nat) : PltCfg :=
  { cadence := r (PLT_CADENCE.CADENCE p), chunk := 64 * r (PLT_LIMITS.CHUNK64 p), chunkRes := r (PLT_LIMITS.CHUNK_RES p),
    nodes := r (PLT_LIMITS.SPEC_NODES p), qmax := r (PLT_LIMITS.QMAX p), portRes := r (PLT_LIMITS.PORT_RES p),
    maxLen := r (PLT_MAXLEN.MAX_LEN p), base := r (PLT_SLOTS.SLOT_BASE p), count := r (PLT_SLOTS.SLOT_COUNT p),
    allow := r (PLT_PFT_ALLOW.PFT_ALLOW p) }

/-- The settings in effect, and those of the shadows. -/
def State.pltCfg (s : State) (p : Nat) : PltCfg := State.pltCfgOf p s.inEff
def State.pltNew (s : State) (p : Nat) : PltCfg := State.pltCfgOf p s.rd

/-! Spindle classes (R111 to R113, R122). -/

/-- c, Kt is `tileRows`, L (Table 3.2); D (R75) over `cols` columns. -/
def tileC (a : Fmt) : Nat := if a = .bf16 then 4 else 1
def tileL (a : Fmt) : Nat := if a = .bf16 then 64 else 32
def drainD (o : Fmt) (cols : Nat) : Nat := ceilDiv (cols * o.bits) 512

/-- Rows in all, and the row blocks of an item list of one column group. -/
def Desc.itemRows (d : Desc) : Nat := if d.opcode = 1 then d.mM else d.hOut * d.wOut

/-- The rows m_q of every item of a repetition in order (Table 4.1; WINO: R121). -/
def Desc.items (d : Desc) : List Nat :=
  let blocks (rows mx : Nat) : List Nat := (List.range (ceilDiv rows mx)).map (fun b => min mx (rows - b * mx))
  if d.opcode = 3 then
    let e := winoE d.winoTile
    let t := ceilDiv d.hOut e * ceilDiv d.wOut e
    let planes := winoI d.winoTile * winoI d.winoTile
    (List.range (ceilDiv d.cOut 128)).flatMap (fun _ => (blocks t (if d.winoTile = 0 then 256 else 64)).flatMap (fun m => List.replicate planes m))
  else
    let groups := if d.opcode = 1 then ceilDiv d.mN 128 else if d.opcode = 4 then ceilDiv d.cIn 32 else ceilDiv d.cOut 128
    (List.range groups).flatMap (fun _ => blocks d.itemRows 256)

/-- T_K (Table 4.1). -/
def Desc.walkTiles (d : Desc) : Nat :=
  let kt := tileRows d.fA d.fB
  if d.opcode = 1 then ceilDiv d.mK kt else if d.opcode = 2 then d.fh * d.fw * ceilDiv d.cIn kt
  else if d.opcode = 4 then d.fh * d.fw else ceilDiv d.cIn kt

/-- s_q, d_q and i_q of an item of m rows (Table 4.2), before the rules of ACC_CHAIN. -/
def Desc.streamOf (d : Desc) (m : Nat) : Nat := ceilDiv d.walkTiles (2 ^ d.kSplit) * max (m * tileC d.fA) (tileL d.fA)
def Desc.drainOf (d : Desc) (m : Nat) : Nat :=
  m * drainD (if d.opcode = 3 then .fp32 else d.fO) (if d.opcode = 4 then 32 else 128) + 8 + 2 * d.kSplit
def Desc.loadOf (d : Desc) (m : Nat) : Nat := if d.accInit = 1 then m * 8 + 8 else 0

/-- A Spindle group on its way: the end of its last item's streaming, and the times at which the banks of the next item and of the one
after it have been drained. -/
structure GroupTime where
  e : Nat := 0
  free0 : Nat := 0
  free1 : Nat := 0
deriving DecidableEq, Repr

/-- One repetition on a group from its issue (R113): the group after it and the latest completion. -/
def Desc.groupRep (d : Desc) (first lastRep : Bool) (issue : Nat) (ms : List Nat) (g : GroupTime) : GroupTime × Nat :=
  let r := ms.foldl (fun (acc : GroupTime × Nat × Bool) m =>
    let a := if acc.2.2 then issue + tileL d.fA + 12 else acc.1.e
    let i := if d.accChain && !first then 0 else d.loadOf m
    let dr := if d.accChain && !lastRep then 0 else d.drainOf m
    let e := max a (acc.1.free0 + i) + d.streamOf m
    (⟨e, acc.1.free1, e + dr⟩, max acc.2.1 (e + dr), false)) (g, 0, true)
  (r.1, r.2.1)

/-- The items of group j among the items of a repetition. -/
def groupItems (G j : Nat) (ms : List Nat) : List Nat := ((List.range ms.length).filter (fun q => q % G = j)).map (fun q => ms.getD q 0)

/-- Issue and completion times of repetition after repetition, from issue 0: pairs (gap to the next issue, completion after the
issue). -/
def Desc.spindleTimes (d : Desc) (ms : List Nat) : Nat → Nat → Nat → List GroupTime → List (Nat × Nat)
  | 0, _, _, _ => []
  | k + 1, r, issue, gs =>
    let G := groupCount d.spdMask d.kSplit
    let xs := (List.range G).map (fun j => d.groupRep (r = 0) (k = 0) issue (groupItems G j ms) (gs.getD j {}))
    let next := xs.foldl (fun m x => max m x.1.e) issue
    let done := xs.foldl (fun m x => max m x.2) issue
    (next - issue, done - issue) :: d.spindleTimes ms k (r + 1) next (xs.map (·.1))

/-- The cost of a WINO repetition (R122). -/
def Desc.winoCost (d : Desc) : Nat :=
  let ms := d.items
  let G := groupCount d.spdMask d.kSplit
  let e := winoE d.winoTile
  let ain := if d.winoTile = 0 then 16 else 72
  let aout := if d.winoTile = 0 then 4 else 24
  let t := ceilDiv d.hOut e * ceilDiv d.wOut e
  let tin := t * ceilDiv d.cIn 256 * ain
  let tout := t * ceilDiv d.cOut 128 * aout
  let S := (List.range G).foldl (fun m j => max m ((groupItems G j ms).foldl (fun a x => a + d.streamOf x) 0)) 0
  let m0 := ms.headD 0
  let ml := ms.getLastD 0
  tileL d.fA + 12 + m0 * ceilDiv d.cIn 256 * ain + max S (tin + tout) + d.drainOf ml + ml * aout

/-! Vector-unit classes (R125, R132). -/

/-- e of a pass: operation weight, bits read, bits written (0 none). -/
def passE (w r o : Nat) : Nat := max 1 (min (512 / w) (min (if r = 0 then 512 else 8192 / r) (if o = 0 then 512 else 4096 / o)))

/-- Table 4.6. -/
def Desc.vecCost (d : Desc) : Nat :=
  let a := d.fA.bits
  let o := d.fO.bits
  let op := d.opcode
  if op = 6 then
    let w := if 0x10 ≤ d.ewOp ∧ d.ewOp ≤ 0x14 then 2 else if 0x18 ≤ d.ewOp ∧ d.ewOp ≤ 0x1B then 4 else 1
    16 + ceilDiv d.count (passE w (a + (if ewUsesB d.ewOp then d.fB.bits else 0) + (if d.ewOp = 4 then 32 else 0)) o)
  else if op = 7 then
    if d.fld 0x60 0 1 = 0 then 16 + d.rows * (ceilDiv d.len (passE 1 a 0) + ceilDiv d.len (passE 1 (a + 32) o) + 20)
    else 16 + d.rows * (2 * ceilDiv d.len (passE 1 a 0) + ceilDiv d.len (passE 1 (a + 64) o) + 32)
  else if op = 8 then
    let r := a + (if addrSpace (d.word 0x70) = 3 then 0 else 32)
    16 + d.rows * (ceilDiv d.len (passE 1 r 0) + ceilDiv d.len (passE 2 r 0) + ceilDiv d.len (passE 3 r o) + 28)
  else if op = 5 then 16 + d.hOut * d.wOut * (d.fh * d.fw * ceilDiv d.cIn (passE 1 a 0) + ceilDiv d.cIn (passE 1 0 o))
  else if op = 11 then 16 + d.gateTokens * (d.topk * ceilDiv d.experts 256 + 12)
  else if op = 9 then 16 + d.moeTokens * ceilDiv d.rowBytes 512
  else if op = 10 then 16 + d.moeTokens * ceilDiv (d.rowBytes * 8 / a) (min 512 (min (8192 / (a + 32)) 128))
  else 16 + ceilDiv d.count 128

/-- The cost of a known-answer test (Table 17.2). -/
def katCost (t : Nat) : Nat := [0, 6196, 6196, 6196, 18516, 8192, 2048, 1024].getD t 0

/-- The bytes of shared SRAM that a repetition reads or writes. -/
def sharedBytes (t : Touch) : Nat := (t.reads ++ t.writes).foldl (fun a p => if addrSpace p.addr = 1 then a + p.len else a) 0

/-- rep(e, r) and done(e, r) of every repetition, NCLK cycles of the Peloton's conversion (R180). `c` is SLOT_COUNT. -/
def State.repTimes (s : State) (n : Nat) (c : Nat) (d : Desc) : List (Nat × Nat) :=
  let op := d.opcode
  if d.isAttn then let x := s.conv n 40 + 8 + ceilDiv c 4 + 600; List.replicate d.reps (x, x)
  else if op = 3 then let x := s.conv n d.winoCost; List.replicate d.reps (x, x)
  else if d.isSpindle then (d.spindleTimes d.items d.reps 0 0 []).map (fun x => (s.conv n x.1, s.conv n x.2))
  else if op = 16 then let x := s.conv n (katCost (d.fld 0x60 0 8)); List.replicate d.reps (x, x)
  else if op = 0 ∨ op = 17 then List.replicate d.reps (0, 0)
  else (List.range d.reps).map (fun r =>
    let b := sharedBytes (d.touch r)
    let x := s.conv n d.vecCost + (if b = 0 then 0 else ceilDiv b 128 + s.arbBound (32 + n) 0)
    (x, x))

/-! Templates (R177, R178). -/

/-- An entry: descriptor words, PATCH, PHASE_START, MULT. -/
structure TEntry where
  words : List Nat
  patch : Nat
  start : Bool
  mult : Nat
deriving DecidableEq, Repr

/-- A template: header words and the entries of each slot. -/
structure Tmpl where
  version : Nat
  slots : Nat
  ltab : List Nat
  rowtab : Nat
  entries : List (List TEntry)
deriving DecidableEq, Repr

/-- A list with place i replaced. -/
def setAt (l : List Nat) (i v : Nat) : List Nat := (List.range l.length).map (fun k => if k = i then v else l.getD k 0)
/-- Bits `[lo + w - 1 : lo]` of a word replaced. -/
def putBits (x lo w v : Nat) : Nat := x - bits x lo w * 2 ^ lo + v % 2 ^ w * 2 ^ lo
/-- A descriptor with a field replaced. -/
def Desc.put (d : Desc) (off lo w v : Nat) : Desc := setAt d (off / 4) (putBits (d.word off) lo w v)

/-- The row field of a class (Table 6.5): offset and width. -/
def rowField (op : Nat) : Option (Nat × Nat) :=
  if op = 1 then some (0x60, 20) else if op = 6 ∨ op = 15 then some (0x64, 28) else if op = 7 ∨ op = 8 ∨ op = 11 then some (0x64, 20)
  else if op = 9 ∨ op = 10 then some (0x60, 20) else none

/-- The attention class of PATCH 3, 4 and 5. -/
def patchClass (k : Nat) : Nat := if k = 3 then 0x0D else if k = 4 then 0x0C else 0x0E

/-- The patch of an entry can be made: a reserved PATCH, a PATCH that the class has no field for, or a value beyond its field cannot. -/
def TEntry.patchOk (e : TEntry) (rows : Nat) : Bool :=
  let d : Desc := e.words
  if e.patch = 0 then true
  else if e.patch = 1 then (match rowField d.opcode with | some (_, w) => e.mult ≠ 0 && rows * e.mult < 2 ^ w | none => false)
  else if e.patch = 2 then e.mult ≠ 0 && rows * e.mult - 1 < 2 ^ 16
  else if e.patch ≤ 5 then d.opcode = patchClass e.patch else false

/-- The descriptor of an entry, patched for a number of rows (R178). -/
def TEntry.patched (t : Tmpl) (c : PltCfg) (rows : Nat) (e : TEntry) : Desc :=
  let d : Desc := setAt e.words 31 0
  if e.patch = 1 then (match rowField d.opcode with | some (off, w) => d.put off 0 w (rows * e.mult) | none => d)
  else if e.patch = 2 then d.put 0x08 0 16 (rows * e.mult - 1)
  else if 3 ≤ e.patch ∧ e.patch ≤ 5 then
    ((d.put 0x60 0 13 c.base).put 0x60 16 13 (c.count - 1)).put 0x64 0 32 (t.ltab.getD (e.patch - 3) 0)
  else d

/-- The entries of a slot cut into phases. -/
def phasesOf : List TEntry → List (List TEntry)
  | [] => []
  | e :: rest =>
    match phasesOf rest with
    | [] => [[e]]
    | ph :: more => if (ph.headD e).start then [e] :: ph :: more else (e :: ph) :: more

/-! The cost table (R180). -/

/-- The running quantities of one phase of one slot. -/
structure PhaseTime where
  t : Nat := 0
  mem : Nat := 0
  lnk : Nat := 0
  last : Nat := 0
  /-- Increments of counter c in order: time and how many. -/
  inc : Cells (List (Nat × Nat)) := []
  /-- Index of the entry at which the phase failed: a wait that no earlier increment meets, or a chain without end. -/
  bad : Option Nat := none
deriving DecidableEq, Repr

/-- The time of the n-th increment of a list. -/
def nthInc : List (Nat × Nat) → Nat → Option Nat
  | [], _ => none
  | (t, k) :: rest, n => if n ≤ k then some t else nthInc rest (n - k)

def PhaseTime.add (x : PhaseTime) (c t k : Nat) : PhaseTime :=
  if k = 0 then x else { x with inc := Cells.set [] x.inc c (Cells.get [] x.inc c ++ [(t, k)]) }

/-- Wait slot i of repetition r: the time of the increment it waits for. -/
def PhaseTime.waitTime (x : PhaseTime) (d : Desc) (i r : Nat) : Option Nat :=
  let thr := min (2 ^ 32 - 1) (d.wThr i + r * d.wStep i)
  if d.wKind i ≠ 1 ∨ thr = 0 then some 0 else nthInc (Cells.get [] x.inc (d.wCtr i)) thr

/-- One repetition: waits, issue, completion, signals. -/
def State.phaseRep (s : State) (n : Nat) (d : Desc) (idx : Nat) (x : PhaseTime) (r : Nat) (rep dn : Nat) : PhaseTime :=
  match x.waitTime d 0 r, x.waitTime d 1 r with
  | some w0, some w1 =>
    let w := max w0 w1
    let issue := max x.t (w + s.conv n 2)
    let done := issue + dn
    let x1 := { x with t := issue + rep, last := max x.last done }
    [0, 1].foldl (fun (y : PhaseTime) i =>
      if d.sKind i = 1 ∧ (d.sWhen i = 0 ∨ r + 1 = d.reps) then y.add (d.sCtr i) (done + s.conv n 4) (d.sVal i) else y) x1
  | _, _ => { x with bad := x.bad.orElse (fun _ => some idx) }

/-- The descriptors of a chain of tensor DMA as Lathe SRAM holds them; none: longer than the SRAM, so without end. -/
def State.chainOf (s : State) (n : Nat) : Nat → Nat → Option (List (List Nat))
  | 0, _ => none
  | k + 1, a =>
    let w := wordsOfBytes 32 (decodedBytes s.mem.lsram s.mem.lsramErr (n * 2 ^ 24 + a) 128)
    if dfld w 0 16 1 = 1 then (s.chainOf n k (dfld w 4 0 24)).map (fun l => w :: l) else some [w]

/-- One transfer (R180). -/
def State.phaseXfer (s : State) (n res : Nat) (x : PhaseTime) (w : List Nat) : PhaseTime :=
  let b := (tdmaDst w).bytes
  let isMem := dfld w 0 0 4 = 2 || dfld w 0 4 4 = 2
  let mem := if isMem then max x.mem x.t + portTime res b else x.mem
  let lnk := if isMem then x.lnk else max x.lnk x.t + ceilDiv b 128 + s.arbBound (32 + n) 0
  let d := if isMem then mem else lnk
  let x1 := { x with mem := mem, lnk := lnk }
  if dfld w 0 8 1 = 1 then x1.add (dfld w 0 9 5) (d + s.conv n 4) 1 else x1

/-- The transfers that an entry starts, then the descriptor boundary. -/
def State.phaseEntry (s : State) (n : Nat) (c : PltCfg) (x : PhaseTime) (idx : Nat) (d : Desc) : PhaseTime :=
  let ts := s.repTimes n c.count d
  let x1 := (List.range d.reps).foldl (fun (y : PhaseTime) r => s.phaseRep n d idx y r (ts.getD r (0, 0)).1 (ts.getD r (0, 0)).2) x
  let kicks := if d.opcode = 17 then (List.range d.reps).flatMap (fun _ => (List.range 4).filterMap (fun i =>
      if d.fld (0x60 + 4 * i) 31 1 = 1 then some (d.fld (0x60 + 4 * i) 0 24) else none)) else []
  let x2 := kicks.foldl (fun (y : PhaseTime) a =>
    match s.chainOf n (lsramSize / 128) a with
    | some l => l.foldl (fun y w => s.phaseXfer n c.portRes y w) y
    | none => { y with bad := y.bad.orElse (fun _ => some idx) }) x1
  { x2 with t := x2.t + s.conv n 4 }

/-- phase[s] of a phase, `idx` being the index of its first entry; or the entry at which it fails. -/
def State.phaseTime (s : State) (n : Nat) (t : Tmpl) (c : PltCfg) (q idx : Nat) (ph : List TEntry) : Except Nat Nat :=
  let x := ((List.range ph.length).zip ph).foldl (fun (y : PhaseTime) p => s.phaseEntry n c y (idx + p.1) (p.2.patched t c (32 * q)))
    { t := s.conv n 8 }
  match x.bad with
  | some i => .error i
  | none => .ok (max (max x.t x.last) (max x.mem x.lnk) + 1200)

/-- The phase times of a slot. -/
def State.slotPhases (s : State) (n : Nat) (t : Tmpl) (c : PltCfg) (q : Nat) : Nat → List (List TEntry) → Except Nat (List Nat)
  | _, [] => .ok []
  | idx, ph :: rest => do
    let a ← s.phaseTime n t c q idx ph
    let b ← s.slotPhases n t c q (idx + ph.length) rest
    .ok (a :: b)

/-! Sampling (R226). -/

/-- Bytes of a logit, P, the row charge j and J_p of a partition. -/
def State.logitBytes (s : State) (p : Nat) : Nat := if s.flagEff (SMP_LOGIT.FMT p) then 2 else 4
def State.logitP (s : State) (p : Nat) : Nat := ceilDiv (s.inEff (SMP_VOCAB.VOCAB p) * s.logitBytes p) 128
def State.rowCharge (s : State) (p res : Nat) : Nat :=
  32 + 2 * portTime res 16384 + max (96 + 2 * s.logitP p) (224 + s.logitP p) + s.arbBound 38 7
def State.jmax (s : State) (p : Nat) : Nat := 64 + 32 * s.inEff (PLT_LIMITS.QMAX p) * s.rowCharge p (s.inEff (PLT_LIMITS.PORT_RES p))

/-- W(q) of one q from the phase times of every slot: the sum over the phases of the longest one, 32 each, and the row-dependent parts
of Build and Sample. -/
def State.wOf (s : State) (p : Nat) (c : PltCfg) (q : Nat) (slots : List (List Nat)) : Nat :=
  let k := (slots.headD []).length
  (List.range k).foldl (fun a i => a + slots.foldl (fun m l => max m (l.getD i 0)) 0 + 32) 0 + 4 * q * slots.length +
    32 * q * s.rowCharge p c.portRes

/-! Charges (R165, R186). -/

/-- u_t of a tile of m rows (R165). -/
def unitCost (a b : Fmt) (dim m : Nat) : Nat :=
  let kt := tileRows a b
  max (max (ceilDiv dim (4 * kt)) (ceilDiv (ceilDiv 64 kt * ceilDiv dim 128) 4) * max (m * tileC a) (tileL a))
    (12 + 3 * ceilDiv (64 * m) 512 + ceilDiv (m * dim) 512)

/-- C_r and B_r of a request with `q` rows at effective length e for an attention descriptor of its kind (R165, R186). -/
def State.attnTerms (s : State) (p : Nat) (d : Desc) (q e : Nat) : Nat × Nat :=
  let f := s.kvFmt p
  let dim := s.kvDim p
  let hl := s.kvHeads p
  let sg := ceilDiv (q + 31) 32
  let rows := q * d.groupSize
  let units := ceilDiv e 64 + (if d.isTree then 1 else 0)
  let tiles := (List.range (ceilDiv rows 256)).map (fun b => min 256 (rows - 256 * b))
  let c := 16 + 8 * q * hl + 96 * sg * hl + tiles.foldl (fun a m =>
    a + 60 + m * ceilDiv dim 128 * drainD d.fO 128 + units * (unitCost d.fA (d.delivered f) dim m * hl)) 0
  let b := ceilDiv e 64 * (64 + headBytes f dim * hl) + hl * (31 * 2 * dim + q * (ceil64 (kRowBytes f dim) + 128 + 2 * dim) +
    sg * (64 * dim + vSubBytes f dim) + (if d.isTree then q * 4 * dim else 0))
  (c, b)

/-- PREPARE and COMMIT_LEN (or RELINK) latencies of R186. -/
def State.groupLatency (s : State) (p : Nat) (c : PltCfg) (tree : Bool) (q : Nat) : Nat :=
  let pages := ceilDiv (q + 63) 64
  let commit := 24 + 4 * pages
  60 + 40 * pages + 120 * (pages + 1) +
    (if tree then 60 + (48 * min 16 c.nodes + 120 * ceilDiv (q + 31) 32) * s.kvLayers p * s.kvHeads p + commit else commit)

/-- A request's or chunk's charge for `q` rows at effective length e; `op` is the class of its attention entries. -/
def State.chargeOf (s : State) (p : Nat) (c : PltCfg) (op q e : Nat) : Nat :=
  let n := (s.latheAt p 0).getD 0
  ((s.loop p).attn.filter (fun w => Desc.opcode w = op)).foldl (fun a w =>
    let x := s.attnTerms p w q e
    a + max (s.conv n x.1) (portTime c.portRes x.2)) 0 + s.groupLatency p c (op = 0x0E) q

/-- a_r of a request of total length L, and a_c. -/
def State.reqCharge (s : State) (p : Nat) (c : PltCfg) (spec : Bool) (l : Nat) : Nat :=
  if spec then s.chargeOf p c 0x0E c.nodes l else s.chargeOf p c 0x0D 1 l
def State.chunkCharge (s : State) (p : Nat) (c : PltCfg) : Nat :=
  s.chargeOf p c 0x0C c.chunk c.maxLen + portTime c.portRes (2 * s.frameBytes p) + 200

/-! The reserved step (R187, R194). -/

/-- The other enabled partitions. -/
def State.pltOthers (s : State) (p : Nat) : List Nat := (List.range 8).filter (fun q => q ≠ p && s.rd (PLT_PSTAT.STATE q) ≠ 0)

def State.largestGroup (s : State) (q : Nat) : Nat :=
  let c := s.pltCfg q
  Config.largestGroup [c.count, c.chunk, c.chunkRes, c.nodes, c.portRes, s.frameBytes q]

/-- FIX: Select, Release, and the fixed parts of Build, Sample and Commit; the record is taken at its largest. The egress arbitration bound, which
counts PCLK, is taken as the NCLK cycles that cover it (log 36). -/
def State.pltFix (s : State) (p : Nat) (c : PltCfg) : Nat :=
  let ents := (s.loop p).ents
  64 + ceilDiv c.count 8 + 160 + (128 + ceilDiv (128 * ents.foldl (· + ·) 0 + 48 * c.count * ents.length) 128) +
    (64 + (s.pltOthers p).foldl (fun a q => a + s.jmax q) 0) + (400 + ceilDiv (64 + 80 * c.count) 48 + ceilDiv (s.arbBound 51 1 * 6) 5) +
    2 * (c.allow + (s.pltOthers p).foldl (fun a q => a + s.largestGroup q) 0)

/-- W(q) as it stands under derating (R194). -/
def State.wNow (s : State) (p q : Nat) : Nat :=
  let w := Cells.get 0 s.plt.cost (256 * p + q)
  (s.lathesOf p).foldl (fun m n =>
    if s.flag (LTH_CLK_STAT.BELOW_FLOOR n) then
      let k := s.rd (LTH_CLK_STAT.FMIN_EFF n)
      max m (ceilDiv (w * (48 + k) * 8) (max 1 ((48 + min k (s.rd (LTH_CLK_STAT.CEIL_CODE n))) * s.rd (LTH_CLK_STAT.DUTY n))))
    else m) w

/-- The slot records of partition p that are not FREE, in slot order. -/
def State.slotsOf (s : State) (p : Nat) : List (Nat × SlotRec) := s.plt.slots.filter (fun x => x.2.state ≠ 0 && x.2.part = p)

/-- The live requests, guaranteed or DEMOTED. -/
def State.live (s : State) (p : Nat) (demoted : Bool) : List (Nat × SlotRec) :=
  (s.slotsOf p).filter (fun x => (x.2.state = 1 || x.2.state = 2) && x.2.demoted = demoted)

/-- The rows of a request in GENERATE. -/
def rowsOf (c : PltCfg) (r : SlotRec) : Nat := if r.spec then c.nodes else 1

/-- T_res and q_res (R187), with a request that is not yet counted: its record. -/
def State.tRes (s : State) (p : Nat) (c : PltCfg) (extra : Option SlotRec) : Nat × Nat :=
  let rs := (s.live p false).map (·.2) ++ extra.toList
  let q := ceilDiv (rs.foldl (fun a r => a + rowsOf c r) 0 + c.chunkRes * c.chunk) 32
  (s.pltFix p c + s.wNow p q + (if rs.any (fun r => r.state = 1) then c.chunkRes * s.chunkCharge p c else 0) +
    rs.foldl (fun a r => a + s.reqCharge p c r.spec (r.promptLen + r.maxNew)) 0 + s.rd (PLT_ALLOW.VALUE p), q)

/-- T_res and q_res stay within the Cadence and QMAX. -/
def State.fits (s : State) (p : Nat) (c : PltCfg) (extra : Option SlotRec) : Bool :=
  let x := s.tRes p c extra
  x.1 ≤ c.cadence * 1024 && x.2 ≤ c.qmax

/-- The prefill queue: by class and then ADMIT_SEQ ascending (R183). -/
def queueBefore (a b : SlotRec) : Bool := a.cls < b.cls || (a.cls = b.cls && a.admitSeq ≤ b.admitSeq)
def insertBy (before : SlotRec → SlotRec → Bool) (x : Nat × SlotRec) : List (Nat × SlotRec) → List (Nat × SlotRec)
  | [] => [x]
  | y :: t => if before x.2 y.2 then x :: y :: t else y :: insertBy before x t
def sortBy (before : SlotRec → SlotRec → Bool) (l : List (Nat × SlotRec)) : List (Nat × SlotRec) := l.foldr (insertBy before) []

/-- The prompt chunks that a request still has. -/
def chunksLeft (c : PltCfg) (r : SlotRec) : Nat := ceilDiv (r.promptLen - r.promptDone) (max 1 c.chunk)

/-- R188 holds for every request of a queue in order; a request whose deadline was missed has no bound any more (R196). -/
def State.boundsHold (s : State) (c : PltCfg) : Nat → List (Nat × SlotRec) → Bool
  | _, [] => true
  | ahead, x :: rest =>
    let n := chunksLeft c x.2
    let bu := ceilDiv (s.now.toNat + (n + ceilDiv ahead (max 1 c.chunkRes) + 1) * c.cadence * 1024) 1024
    (x.2.missed || (1 ≤ c.chunkRes && (x.2.ttftT + 2 ^ 32 - bu % 2 ^ 32) % 2 ^ 32 < 2 ^ 31)) && s.boundsHold c (ahead + n) rest

/-- R188 for the guaranteed prefill queue, with a request placed in it. -/
def State.deadlinesHold (s : State) (p : Nat) (c : PltCfg) (extra : Option (Nat × SlotRec)) : Bool :=
  s.boundsHold c 0 (sortBy queueBefore (((s.live p false) ++ extra.toList).filter (fun x => x.2.state = 1)))

/-- Check 7 of Table 6.8: the frames reserved for guaranteed requests lie within the pool outside the provisional region. -/
def State.framesHold (s : State) (p : Nat) (extra : Option SlotRec) : Bool :=
  ((s.live p false).map (·.2) ++ extra.toList).foldl (fun a r => a + ceilDiv (r.promptLen + r.maxNew) 64 + 1) 0 ≤ s.provFirst p

end Sys2Proof.Machine
end

