-- ==== Sys2Proof/Machine/PelotonOps.lean ====
section
/-! DEFINITION. What the Peloton's commands share: slot records, buckets, breach records, closings, demotion and restoration (R173,
R174, R191 to R196, R198, R200, R225). -/

namespace Sys2Proof.Machine
open Reg

/-! The Peloton's SRAM (R173, R191, R200). -/

def State.bucket (s : State) (b : Nat) : Bucket := Cells.get {} s.plt.bkt b

def State.setBucket (s : State) (b : Nat) (x : Bucket) : State :=
  ({ s with plt := { s.plt with bkt := Cells.set {} s.plt.bkt b x } }).writePltWord (8192 + b)

/-- A use of a word: a correctable error is corrected and counted; true: the word is uncorrectable (R200). -/
def State.usePltWord (s : State) (w : Nat) : State × Bool :=
  let e := Cells.get 0 s.plt.sramErr w
  if e = 0 then (s, false)
  else
    let s1 := { s with plt := { s.plt with sramErr := Cells.set 0 s.plt.sramErr w 0 } }
    if e = 1 then ((((s1.raise PLT_ERR_STAT.SRAM_CE).bump PLT_ERR_STAT.CE_COUNT 1).reportCe 90 1), false)
    else ((s1.raise PLT_ERR_STAT.SRAM_UE).reportUe 90 w, true)

/-! Records (R198, R225). -/

/-- A breach record about a request: counted for it and for the partition. -/
def State.breach (s : State) (p k typ reason detail : Nat) : State :=
  let r := s.slot k
  let s1 := s.record p (s.breachRecord p typ reason r.cls k r.reqId (s.stepOf p) detail)
  let s2 := s1.setLoop p { s1.loop p with breaches := (s1.loop p).breaches + 1 }
  s2.setSlot k { r with breaches := min 65535 (r.breaches + 1) }

/-- A breach record about the partition. -/
def State.breachPart (s : State) (p typ reason detail : Nat) : State :=
  let s1 := s.record p (s.breachRecord p typ reason 0 0x1FFF 0 (s.stepOf p) detail)
  s1.setLoop p { s1.loop p with breaches := (s1.loop p).breaches + 1 }

/-- A close or cancel record (Table 7.7). -/
def State.closeRecord (s : State) (p typ code slot reqId step gen : Nat) : State :=
  s.record p (leBytes 4 (typ + code * 2 ^ 8 + p * 2 ^ 16) ++ leBytes 4 slot ++ leBytes 4 reqId ++ leBytes 8 step ++ leBytes 4 s.timeWord ++
    leBytes 4 gen ++ leBytes 4 0)

/-- A submission record (Table 12.8). -/
def State.submitRecord (s : State) (p typ code slot reqId sq st : Nat) : State :=
  s.record p (leBytes 4 (typ + code * 2 ^ 8 + p * 2 ^ 16) ++ leBytes 4 slot ++ leBytes 4 reqId ++ leBytes 4 sq ++ leBytes 4 st ++
    leBytes 4 s.timeWord)

/-! Buckets (R192). -/

/-- The hold of a request moves: `used` tokens to CONSUMED, and, at close, the rest back to BALANCE, even above CAP. -/
def State.moveHold (s : State) (k used : Nat) (close : Bool) : State :=
  let r := s.slot k
  let u := min used r.hold
  let back := if close then r.hold - u else 0
  let b := s.bucket r.bucket
  let s1 := s.setBucket r.bucket { b with held := b.held - (u + back), consumed := min (2 ^ 32 - 1) (b.consumed + u),
                                          balance := min (2 ^ 32 - 1) (b.balance + back) }
  s1.setSlot k { r with hold := r.hold - (u + back) }

/-! Closing (R174, R182, R189, R225). -/

/-- The words of a command of the Peloton to the page-frame table unit (Table 5.5). -/
def pftWords (op p slot w2 w3 : Nat) : List Nat := [op + p * 2 ^ 8, slot, w2, w3]

/-- A command joins the Peloton's queue. -/
def State.pltCmd (s : State) (w : List Nat) : State := { s with pft := { s.pft with pltQueue := s.pft.pltQueue ++ [w] } }

/-- A command of a group, or of a decision, is executed at once (R181, R189): the state and its status. -/
def State.pftNow (s : State) (p slot : Nat) (w : List Nat) (body : State → Nat → Nat → List Nat → PftRes (State × Nat)) : State × Nat :=
  if !s.flag (PFT_PART_STAT.ENABLED p) then (s, 6)
  else if s.pftFaulted p then (s, 9)
  else match body s p slot w with
    | .ok (s1, _) => (s1, 0)
    | .error (st, s1) => (s.pftUndo s1 p, st)

/-- Cancels that wait for a request complete with a code, one record each. -/
def State.cancelsDone (s : State) (p k code step gen : Nat) : State :=
  let r := s.slot k
  (List.range r.cancels).foldl (fun st _ => st.closeRecord p 0x21 code k r.reqId step gen) (s.setSlot k { r with cancels := 0, cancel := false })

/-- A request enters CLOSING with an END code: its hold returns, RELEASE is issued, after ABORT_STEP where its step is not committed, and what the
slot remembers of it (R174, R182, R192, R207, R223). -/
def State.closeSlot (s : State) (p k endCode : Nat) : State :=
  let s1 := s.moveHold k 0 true
  let r := s1.slot k
  let s2 := s1.setSlot k { r with state := 3, endCode := endCode, lastReq := some (r.reqId, endCode, r.genDone), draft := none }
  (if endCode = 1 ∨ endCode = 2 ∨ endCode = 4 then s2 else s2.pltCmd (pftWords 9 p k 0 0)).pltCmd (pftWords 6 p k 0 0)

/-- A close that no output entry reports: the CLOSED record; cancels that wait find the request closed (R223, R225). -/
def State.closeSilent (s : State) (p k endCode step : Nat) : State :=
  let gen := (s.slot k).genDone
  ((s.closeSlot p k endCode).closeRecord p 0x20 endCode k (s.slot k).reqId step gen).cancelsDone p k 3 0 gen

/-! Demotion and restoration (R187, R195, R196). -/

/-- PLT_COUNTS, DERATED, PLT_LOAD and PLT_FIX show what stands. -/
def State.showPlt (s : State) (p : Nat) : State :=
  let c := s.pltCfg p
  let d := (s.live p true).length
  let fix := s.pltFix p c
  ((((s.wr (PLT_COUNTS.GUARANTEED p) (s.live p false).length).wr (PLT_COUNTS.DEMOTED p) d).wr (PLT_PSTAT.DERATED p) (b2n (d ≠ 0))).wr
    (PLT_LOAD.VALUE p) (ceilDiv (s.tRes p c none).1 1024)).wr (PLT_FIX.VALUE p) fix

/-- One request is marked DEMOTED, with its record. -/
def State.demote (s : State) (p k reason : Nat) : State :=
  (s.setSlot k { s.slot k with demoted := true }).breach p k 1 reason 0

/-- Demotion order: PREFILL before GENERATE, class 3 first, the highest ADMIT_SEQ first (R195). -/
def demoteBefore (a b : SlotRec) : Bool :=
  a.state < b.state || (a.state = b.state && (b.cls < a.cls || (a.cls = b.cls && b.admitSeq ≤ a.admitSeq)))

/-- Requests are demoted one at a time until T_res and R188 hold again. -/
def State.demoteUntil (s : State) (p reason : Nat) : Nat → State
  | 0 => s
  | n + 1 =>
    let c := s.pltCfg p
    if s.fits p c none && s.deadlinesHold p c none then s
    else match sortBy demoteBefore (s.live p false) with
      | [] => s
      | x :: _ => (s.demote p x.1 reason).demoteUntil p reason n

/-- DEMOTED is lifted in the reverse order while each request passes checks 7 to 9. -/
def State.restoreMany (s : State) (p : Nat) : Nat → State
  | 0 => s
  | n + 1 =>
    let c := s.pltCfg p
    match (sortBy demoteBefore (s.live p true)).getLast? with
    | none => s
    | some x =>
      let r := { x.2 with demoted := false }
      if s.framesHold p (some r) && s.fits p c (some r) && s.deadlinesHold p c (some (x.1, r)) then
        ((s.setSlot x.1 { s.slot x.1 with demoted := false }).breach p x.1 2 5 0).restoreMany p n
      else s

/-- T_res is computed anew: requests are demoted for a reason, or restored (R194 to R196). -/
def State.reassess (s : State) (p reason : Nat) : State :=
  let s1 := s.demoteUntil p reason (s.live p false).length
  (if (s1.live p true).length ≠ (s.live p true).length then s1 else s1.restoreMany p (s1.live p true).length).showPlt p

/-- Capacity has returned since the counts were last shown: a request has closed, or one of `before` has left PREFILL (R195, R196; log 42). -/
def State.capacityBack (s : State) (p : Nat) (before : List (Nat × SlotRec)) : Bool :=
  (s.live p false).length + (s.live p true).length < s.rd (PLT_COUNTS.GUARANTEED p) + s.rd (PLT_COUNTS.DEMOTED p) ||
  before.any (fun x => x.2.state = 1 && (s.slot x.1).state ≠ 1)

/-- The promises after a step or a close: what no longer holds demotes, and capacity that has come back restores. -/
def State.settle (s : State) (p : Nat) (before : List (Nat × SlotRec)) : State :=
  if s.capacityBack p before then s.reassess p 3 else (s.demoteUntil p 3 (s.live p false).length).showPlt p

/-! Stopping a partition (R201). -/

/-- Lathes of partition p are lost: LATHE_LOST for each, every guaranteed request demoted, PARTITION_STOPPED, STOPPED; the requests
close (Tables 6.2, 7.5). -/
def State.partitionStop (s : State) (p : Nat) (lost : List Nat) : State :=
  let s1 := lost.foldl (fun st n => st.record p (errorRecord p 0x11 0 (st.slotOfLathe p n) 0xFFF (st.stepOf p) 0x1FFF 0 0 [])) s
  let s2 := (sortBy demoteBefore (s1.live p false)).foldl (fun st x => st.demote p x.1 2) s1
  let s3 := (s2.breachPart p 5 2 0).wr (PLT_PSTAT.STATE p) 3
  let s4 := s3.wr PLT_ERR_STAT.STOPPED (s3.rd PLT_ERR_STAT.STOPPED ||| 2 ^ p)
  let s5 := s4.setLoop p { s4.loop p with phase := .none, reqs := [], unacked := [], smpAck := false, abort := none }
  (((s5.live p false) ++ (s5.live p true)).foldl (fun st x => st.closeSilent p x.1 6 0) s5).showPlt p

/-! Errors of the Peloton's SRAM (R200). -/

/-- A PELOTON_UE record. -/
def State.pelotonUe (s : State) (p slot : Nat) : State := s.record p (errorRecord p 0x12 0 0 0xFFF (s.stepOf p) slot 0 0 [])

/-- An uncorrectable slot record closes its request. -/
def State.slotUe (s : State) (k : Nat) : State :=
  let r := s.slot k
  let p := r.part
  if r.state = 1 ∨ r.state = 2 then
    let s1 := (s.pelotonUe p k).closeSilent p k 5 0
    (s1.setLoop p { s1.loop p with reqs := (s1.loop p).reqs.map (fun q => if q.slot = k then { q with out := true } else q) }).settle p []
  else s

/-- An uncorrectable cost table returns the partition to DERIVING. -/
def State.costUe (s : State) (p : Nat) : State :=
  let s1 := s.pelotonUe p 0x1FFF
  if s1.rd (PLT_PSTAT.STATE p) = 2 then s1.wr (PLT_PSTAT.STATE p) 1 else s1

/-- An uncorrectable bucket is disabled. -/
def State.bucketUe (s : State) (b : Nat) : State :=
  (s.setBucket b { s.bucket b with enable := false }).pelotonUe (s.bucket b).owner 0x1FFF

/-- A bucket is used. -/
def State.useBucket (s : State) (b : Nat) : State :=
  let r := s.usePltWord (8192 + b)
  if r.2 then r.1.bucketUe b else r.1

/-- The Peloton's loop of partition p is held: 64 records wait (R356). -/
def State.loopHeld (s : State) (p : Nat) : Bool := s.queueFull p

end Sys2Proof.Machine
end

