-- ==== Sys2Proof/Machine/SamplingOps.lean ====
section
/-! DEFINITION. The sampling unit: profiles (R206), the draw (R208, R209, R214), counts (R211 to R213), the verified path (R218), commits
(R201, R229). -/

namespace Sys2Proof.Machine
open Reg

/-! Unit SRAM (R228). Places: profile r at r, slot s at 1,024 + s. -/

def State.setSmpErr (s : State) (w v : Nat) : State := { s with smp := { s.smp with sramErr := Cells.set 0 s.smp.sramErr w v } }

/-- A word of the unit's SRAM is written: its stored error goes, and an armed injection acts on it, the UE first (Table 7.8, R105). -/
def State.writeSmpWord (s : State) (w : Nat) : State :=
  if s.flag SMP_INJ.SRAM_UE then (s.setSmpErr w 2).wr SMP_INJ.SRAM_UE 0
  else if s.flag SMP_INJ.SRAM_CE then (s.setSmpErr w 1).wr SMP_INJ.SRAM_CE 0
  else s.setSmpErr w 0

/-- A use of a word: corrected and counted, or uncorrectable (true). -/
def State.useSmpWord (s : State) (w : Nat) : State × Bool :=
  let e := Cells.get 0 s.smp.sramErr w
  if e = 0 then (s, false)
  else
    let s1 := s.setSmpErr w 0
    if e = 1 then (((s1.raise SMP_ERR_STAT.SRAM_CE).bump SMP_ERR_STAT.CE_COUNT 1).reportCe 91 1, false)
    else ((s1.raise SMP_ERR_STAT.SRAM_UE).reportUe 91 w, true)

/-! Profiles (R206). -/

/-- Word j of profile r in effect. -/
def State.profWord (s : State) (r j : Nat) : Nat := Cells.get 0 s.smp.prof (16 * r + j)

/-- The rules of Table 7.2 on 16 words. -/
def State.profRules (s : State) (w : List Nat) : List Bool :=
  let x (j : Nat) : Nat := w.getD j 0
  let f (j : Nat) : Val := f32 (x j)
  let topk := bits (x 0) 16 11
  let pos (v : Val) : Bool := valLt .zero v
  let one : Val := f32 0x3F800000
  [topk ≤ 1024,
   pos (f 6) && !(f 6).isNan && !valLt one (f 6),
   !valLt (f 6) one || 1 ≤ topk,
   bit (x 0) 4 || ((f 5).finite && pos (f 5)),
   (f 2).finite && pos (f 2) && (f 1).finite && (f 3).finite && (f 4).finite,
   [8, 9, 10, 11].all (fun j => !bit (x j) 31 || bits (x j) 0 18 < s.inEff (SMP_VOCAB.VOCAB (bits (x 0) 1 3)))]

/-- A profile commit that fails a rule. -/
def State.profRefuse (s : State) (k : Nat) : State := (s.raise SMP_PROF_STAT.CFG_MISMATCH).wr SMP_PROF_STAT.CFG_RULE k

/-- The profiles staged for partition p meet its step epoch (R201, R206). -/
def State.profEpoch (s : State) (p : Nat) : State :=
  let mine := s.smp.profStaged.filter (fun x => bits (x.2.getD 0 0) 1 3 = p)
  let rest := s.smp.profStaged.filter (fun x => bits (x.2.getD 0 0) 1 3 ≠ p)
  let s1 := mine.foldl (fun (st : State) (x : Nat × List Nat) =>
    match failingRule (st.profRules x.2) with
    | some k => st.profRefuse k
    | none => ({ st with smp := { st.smp with prof := Cells.setList 0 st.smp.prof (16 * x.1) x.2 } }).writeSmpWord x.1) s
  ({ s1 with smp := { s1.smp with profStaged := rest } }).wr SMP_PROF_STAT.PENDING (b2n (!rest.isEmpty))

/-! Partition settings (R229). -/

def smpShadows (p : Nat) : List Fld :=
  [SMP_LOGIT.LOGIT_BASE p, SMP_LOGIT.FMT p, SMP_LOGIT_LD.LOGIT_LD p, SMP_VOCAB.VOCAB p, SMP_VSHARD.VSHARD p, SMP_COUNT_BASE.BASE p]

/-- The rules of Table 7.9 on the shadows. -/
def State.smpRules (s : State) (p : Nat) : List Bool :=
  let vocab := s.rd (SMP_VOCAB.VOCAB p)
  let vs := s.rd (SMP_VSHARD.VSHARD p)
  let ld := s.rd (SMP_LOGIT_LD.LOGIT_LD p)
  let base := s.rd (SMP_LOGIT.LOGIT_BASE p)
  let lb := if s.flag (SMP_LOGIT.FMT p) then 2 else 4
  [1 ≤ vocab && vocab ≤ 262144,
   vs % 64 = 0 && vocab ≤ vs * (s.lathesOf p).length,
   base % 64 = 0 && ld % 64 = 0 && vs * lb ≤ ld && base + 32 * s.inEff (PLT_LIMITS.QMAX p) * ld ≤ 0xC00000,
   s.rd (SMP_COUNT_BASE.BASE p) * 4096 + s.inEff (PLT_SLOTS.SLOT_COUNT p) * 16384 ≤ s.portCap]

/-- SMP_JMAX reports J_p of every partition under the settings in effect. -/
def State.showJmax (s : State) : State := (List.range 8).foldl (fun st p => st.wr (SMP_JMAX.JMAX p) (st.jmax p)) s

/-- A sampling commit is checked and applied, or refused. -/
def State.smpApply (s : State) (p : Nat) : State :=
  match failingRule (s.smpRules p) with
  | some k => (s.raise (SMP_PSTAT.CFG_MISMATCH p)).wr (SMP_PSTAT.CFG_RULE p) k
  | none => (s.applyShadows (smpShadows p)).showJmax

/-- A staged sampling commit meets the step epoch. -/
def State.smpEpoch (s : State) (p : Nat) : State :=
  if (s.loop p).smpStaged then ((s.setLoop p { s.loop p with smpStaged := false }).wr (SMP_PSTAT.PENDING p) 0).smpApply p else s

/-! Random numbers (R214). -/

def mix32 (z : Nat) : Nat :=
  let m := 2 ^ 32
  let a := (z ^^^ (z >>> 16)) * 0x85ebca6b % m
  let b := (a ^^^ (a >>> 13)) * 0xc2b2ae35 % m
  b ^^^ (b >>> 16)

/-- u of a draw: seed, REQ_ID, the position that the token takes. -/
def drawRandom (seed req pos : Nat) : Nat :=
  let m := 2 ^ 32
  let key := mix32 ((seed ^^^ (req * 0x9e3779b9 % m)) % m)
  mix32 ((key ^^^ (pos * 0x27d4eb2f % m)) % m) >>> 8

/-! The draw (R208, R209). -/

/-- z as it ranks: NaN counts as −∞. -/
def rankOf (z : Nat) : Nat := if (f32 z).isNan then negInf else z

/-- n[v] of a count table. -/
def countIn (tbl : List (Nat × Nat)) (v : Nat) : Nat := ((tbl.find? (fun x => x.1 = v)).map (·.2)).getD 0

/-- A token is added to a table of at most 2,048 entries (R212): the table, and whether the token found it full. -/
def countAdd (tbl : List (Nat × Nat)) (v : Nat) : List (Nat × Nat) × Bool :=
  if tbl.any (fun x => x.1 = v) then (tbl.map (fun x => if x.1 = v then (x.1, min 65535 (x.2 + 1)) else x), false)
  else if tbl.length < 2048 then (tbl ++ [(v, 1)], false)
  else (tbl, true)

/-- z of a token: scaling, penalties and, unless greedy, the temperature. `w` are the profile's words. -/
def drawZ (w : List Nat) (n logit : Nat) : Nat :=
  let x (j : Nat) : Nat := w.getD j 0
  let z := fmul logit (x 1)
  let z1 := if n = 0 then z else
    let a := if valLt .zero (f32 z) then fmul z (frecip (x 2)).1 else fmul z (x 2)
    fsub (fsub a (fmul (natF32 n) (x 3))) (x 4)
  if bit (x 0) 4 then z1 else fmul z1 (x 5)

/-- Offer (z, v) to a list of at most k, in descending z, ties to the lower token. -/
def topOffer (k : Nat) (l : List (Nat × Nat)) (zv : Nat × Nat) : List (Nat × Nat) :=
  (l.takeWhile (fun y => !valLt (f32 y.1) (f32 zv.1)) ++ zv :: l.dropWhile (fun y => !valLt (f32 y.1) (f32 zv.1))).take k

/-- The first pair of the largest z. -/
def largest : List (Nat × Nat) → Option (Nat × Nat)
  | [] => none
  | x :: t => some (t.foldl (fun m y => if valLt (f32 m.1) (f32 y.1) then y else m) x)

/-- Running sums of the weights. -/
def cumWeights (m : Nat) (cs : List (Nat × Nat)) : List (Nat × Nat) :=
  (cs.foldl (fun (acc : Nat × List (Nat × Nat)) c =>
    let t := fadd acc.1 (fexp (fsub c.1 m)).1
    (t, acc.2 ++ [(t, c.2)])) (0, [])).2

/-- The draw from the z values of a row, in token order: the token, and DEGENERATE. -/
def drawToken (w : List Nat) (u : Nat) (zs : List Nat) : Nat × Bool :=
  let cand := (zs.zip (List.range zs.length)).map (fun x => (rankOf x.1, x.2))
  let topk := bits (w.getD 0 0) 16 11
  match largest cand with
  | none => (0, true)
  | some best =>
    if bit (w.getD 0 0) 4 then (if best.1 = negInf then (0, true) else (best.2, false))
    else
      let cs := if topk = 0 then cand else cand.foldl (topOffer topk) []
      if best.1 = negInf then ((cs.headD (0, 0)).2, true)
      else
        let cum := cumWeights best.1 cs
        let total := (cum.getLastD (0, 0)).1
        let topp := w.getD 6 0
        let lim := fmul topp total
        let kept := if valLt (f32 topp) (f32 0x3F800000) then
            match cum.findIdx? (fun x => !valLt (f32 x.1) (f32 lim)) with
            | some j => cum.take (j + 1)
            | none => cum
          else cum
        let t := fmul (rne32 (.num false u (-24))) ((kept.getLastD (0, 0)).1)
        match kept.find? (fun x => valLt (f32 t) (f32 x.1)) with
        | some x => (x.2, false)
        | none => ((kept.getLastD (0, 0)).2, false)

/-! Rows and counts in memory (R204, R211). -/

/-- What ends a Sample phase: the step error's code and the Lathe slot (R228). -/
abbrev SmpRes := Except (Nat × Nat × State)

/-- One read of logit row r: the logits as FP32 codes, shards in slot order. -/
def State.readLogits (s : State) (p r : Nat) : SmpRes (State × List Nat) :=
  let vocab := s.inEff (SMP_VOCAB.VOCAB p)
  let vs := s.inEff (SMP_VSHARD.VSHARD p)
  let lb := s.logitBytes p
  if s.flag SMP_INJ.LOGIT_UE && vocab ≠ 0 then .error (0x20, 0, (s.wr SMP_INJ.LOGIT_UE 0).raise SMP_ERR_STAT.LOGIT_UE)
  else
    ((List.range (s.lathesOf p).length).zip (s.lathesOf p)).foldlM (fun (acc : State × List Nat) sn => do
      let k := min vs (vocab - sn.1 * vs)
      let r1 := acc.1.lsramRead sn.2 (s.inEff (SMP_LOGIT.LOGIT_BASE p) + r * s.inEff (SMP_LOGIT_LD.LOGIT_LD p)) (k * lb)
      if !r1.2.1 then .error (0x20, sn.1, r1.1.raise SMP_ERR_STAT.LOGIT_UE)
      else .ok (r1.1, acc.2 ++ (List.range k).map (fun i =>
        let c := leVal ((r1.2.2.drop (lb * i)).take lb)
        if lb = 2 then c * 2 ^ 16 else c))) (s, [])

/-- The place of a slot's count table: the port of Lathe slot 0, port-local. -/
def State.countAddr (s : State) (p k : Nat) : Nat := s.inEff (SMP_COUNT_BASE.BASE p) * 4096 + (k - s.inEff (PLT_SLOTS.SLOT_BASE p)) * 16384

/-- The count table of a slot. An access that its port refuses ends the phase as an uncorrectable word does (log 34). -/
def State.readCounts (s : State) (p k : Nat) : SmpRes (State × List (Nat × Nat)) :=
  let used := Cells.get 0 s.smp.used k
  let n := (s.latheAt p 0).getD 0
  if used = 0 then .ok (s, [])
  else if s.flag SMP_INJ.COUNT_UE then .error (0x21, 0, (s.wr SMP_INJ.COUNT_UE 0).raise SMP_ERR_STAT.COUNT_UE)
  else
    match s.portRead .engine n (s.countAddr p k) (8 * used) with
    | (s1, .ok, b) => .ok (s1, (List.range used).map (fun i =>
        (bits (leVal ((b.drop (8 * i)).take 4)) 0 18, bits (leVal ((b.drop (8 * i + 4)).take 4)) 0 16)))
    | (s1, .refused, _) => .error (0x21, 0, s1.raise SMP_ERR_STAT.COUNT_UE)
    | (s1, .uncorrectable, _) => .error (0x21, 0, s1.raise SMP_ERR_STAT.COUNT_UE)

/-- A count table is written back with USED and OVERFLOW. -/
def State.writeCounts (s : State) (p k : Nat) (tbl : List (Nat × Nat)) (ovf : Bool) : State :=
  let n := (s.latheAt p 0).getD 0
  let s1 := if tbl.isEmpty then s else (s.portWrite .engine n (s.countAddr p k) (tbl.flatMap (fun x => leBytes 4 x.1 ++ leBytes 4 x.2))).1
  let s2 := { s1 with smp := { s1.smp with used := Cells.set 0 s1.smp.used k tbl.length,
                                           ovf := Cells.set false s1.smp.ovf k (Cells.get false s1.smp.ovf k || ovf) } }
  (s2.raiseIf ovf SMP_ERR_STAT.COUNT_FULL).writeSmpWord (1024 + k)

/-- A draw for row `row` whose token takes position `pos` (R208): read once, and a second time for the weights when top-k is off. -/
def State.draw (s : State) (p row pos req : Nat) (w : List Nat) (tbl : List (Nat × Nat)) : SmpRes (State × Nat × Bool) := do
  let (s1, ls) ← s.readLogits p row
  let greedy := bit (w.getD 0 0) 4
  let s2 ← (if !greedy && bits (w.getD 0 0) 16 11 = 0 then (s1.readLogits p row).map (·.1) else .ok s1)
  let zero := !greedy && s2.flag SMP_INJ.RNG_ZERO
  let u := if zero then 0 else drawRandom (w.getD 7 0) req pos
  let s3 := if zero then s2.wr SMP_INJ.RNG_ZERO 0 else s2
  let zs := (ls.zip (List.range ls.length)).map (fun x => drawZ w (countIn tbl x.2) x.1)
  let t := drawToken w u zs
  .ok (s3.bump (SMP_DRAWS.COUNT p) 1, t.1, t.2)

/-- A valid stop token of the profile. -/
def isStop (w : List Nat) (t : Nat) : Bool := [8, 9, 10, 11].any (fun j => bit (w.getD j 0) 31 && bits (w.getD j 0) 0 18 = t)

/-- What a walk has gathered: tokens, nodes of the path, count table, flags, END. -/
structure Walk where
  tokens : List Nat := []
  path : List Nat := []
  tbl : List (Nat × Nat) := []
  ovf : Bool := false
  degen : Bool := false
  endCode : Nat := 0
deriving DecidableEq, Repr

/-- The walk of R218 from node `i`, one draw at a node; a request without a tree has its one row as node 0. `drafts` are the draft tokens
of nodes 1 to n, `par` the shape. -/
def State.walk (s : State) (p : Nat) (w : List Nat) (q : StepReq) (r : SlotRec) (par drafts : List Nat) : Nat → Nat → Walk → SmpRes (State × Walk)
  | 0, _, x => .ok (s, x)
  | fuel + 1, i, x => do
    let c := x.tokens.length
    let row := q.qrow + (if q.kind = 1 then q.rows - 1 else i)
    let pos := if q.kind = 1 then q.first + q.rows else q.first + c + 1
    let (s1, t, dg) ← s.draw p row pos r.reqId w x.tbl
    let a := countAdd x.tbl t
    let x1 : Walk := { x with tokens := x.tokens ++ [t], path := x.path ++ [i], tbl := a.1, ovf := x.ovf || a.2, degen := x.degen || dg }
    if isStop w t then .ok (s1, { x1 with endCode := 2 })
    else if r.genDone + c + 1 = r.maxNew then .ok (s1, { x1 with endCode := 1 })
    else
      match (List.range q.rows).find? (fun j => q.kind = 2 && j ≠ 0 && par.getD j 0x3F = i && drafts.getD (j - 1) 0 = t) with
      | some j => s1.walk p w q r par drafts fuel j x1
      | none => .ok (s1, x1)

end Sys2Proof.Machine
end

