-- ==== Sys2Proof/Machine/Template.lean ====
section
/-! DEFINITION. The template: reading it, its check (R179, R215), the derivation of the cost table (R180) and the tree record (R216). -/

namespace Sys2Proof.Machine
open Reg

/-- The template as memory holds it (R177); none when a word of it cannot be read. -/
def State.readTmpl (s : State) (p : Nat) : State × Option Tmpl :=
  match s.latheAt p 0 with
  | none => (s, none)
  | some n =>
    let a := s.inEff (PLT_TMPL.TMPL_ADDR p) * 4096
    match s.portRead .engine n a 64 with
    | (s1, .refused, _) => (s1, none)
    | (s1, .uncorrectable, _) => (s1, none)
    | (s1, .ok, h) =>
      let w (off : Nat) : Nat := leVal ((h.drop off).take 4)
      let ents := (List.range 16).map (fun i => leVal ((h.drop (0x20 + 2 * i)).take 2))
      let before (k : Nat) : Nat := (ents.take k).foldl (· + ·) 0
      match s1.portRead .engine n (a + 64) (144 * before 16) with
      | (s2, .refused, _) => (s2, none)
      | (s2, .uncorrectable, _) => (s2, none)
      | (s2, .ok, b) =>
        let entry (i : Nat) : TEntry :=
          let e := (b.drop (144 * i)).take 144
          let tr := leVal ((e.drop 0x80).take 4)
          ⟨wordsOfBytes 32 e, bits tr 0 4, bit tr 4, bits tr 16 16⟩
        (s2, some { version := bits (w 0) 0 4, slots := bits (w 0) 4 5, ltab := [bits (w 4) 0 24, bits (w 8) 0 24, bits (w 12) 0 24],
                    rowtab := bits (w 16) 0 24,
                    entries := (List.range 16).map (fun k => (List.range (ents.getD k 0)).map (fun i => entry (before k + i))) })

/-- An unused template has no entries beyond its slots. -/
def Tmpl.used (t : Tmpl) (k : Nat) : List (List TEntry) := t.entries.take k

/-! The tree shape (R215, R216). -/

/-- PARENT of node i of partition p. -/
def State.parent (s : State) (p i : Nat) : Nat := Cells.get 0 s.smp.tree (64 * p + i) ^^^ 0x3F

/-- The depth of a node, by at most `k` parents. -/
def State.treeDepth (s : State) (p : Nat) : Nat → Nat → Nat
  | 0, _ => 0
  | k + 1, i => if i = 0 then 0 else s.treeDepth p k (s.parent p i) + 1

/-- The shape keeps R215. -/
def State.treeOk (s : State) (p nodes : Nat) : Bool :=
  (List.range 64).all (fun i =>
    if i = 0 ∨ nodes ≤ i then s.parent p i = 0x3F else s.parent p i < i && s.treeDepth p 64 i ≤ 15)

/-- The tree record (R216). -/
def State.treeRecord (s : State) (p nodes : Nat) : List Byte :=
  (List.range 64).flatMap (fun i => [BitVec.ofNat 8 (s.parent p i), BitVec.ofNat 8 (if i < nodes then s.treeDepth p 64 i else 0)])

/-! The check (R179). -/

/-- The spans of an attention entry whose rows reach to `rows`: length table, first and last row, tree record, staging area. -/
def State.attnReach (s : State) (p : Nat) (d : Desc) (rows : Nat) : List Span :=
  let row (r : Nat) : List Span :=
    [⟨d.aAddr, ((r * d.qLd : Nat) : Int), runBytes d.fA d.rowElems⟩, ⟨d.outAddr, ((r * d.qLd : Nat) : Int), runBytes d.fO d.rowElems⟩,
     ⟨d.bAddr, ((r * (4 * d.kvHeads * (32 * d.headDim32)) : Nat) : Int), 4 * d.kvHeads * (32 * d.headDim32)⟩] ++
    (if d.fA.isMx then [⟨d.aScale, scaleDist d.fA ((r * d.qLd : Nat) : Int), ceilDiv d.rowElems 32⟩] else []) ++
    (if d.fO.isMx then [⟨d.outScale, scaleDist d.fO ((r * d.qLd : Nat) : Int), ceilDiv d.rowElems 32⟩] else [])
  [⟨d.lenTable, 0, 16 * d.reqCount⟩, ⟨d.accAddr, 0, s.stagingBytes p d⟩] ++ row 0 ++ row (rows - 1) ++
    (if d.isTree then [⟨d.treeAddr, 0, 128⟩] else []) ++ intVec d.fO d.outScale d.rowElems

/-- A patched descriptor passes R86 and R135 on its Lathe. -/
def State.entryRuns (s : State) (p n : Nat) (d : Desc) (rows : Nat) : Bool :=
  s.descOk n d && d.pitchOk && d.alignOk &&
  (if d.isAttn then (s.attnReach p d rows).all (fun x => s.spanOk n x) else s.spansOk n d)

/-- An entry passes the checks that look at it alone. -/
def State.entryOk (s : State) (p n : Nat) (t : Tmpl) (c : PltCfg) (e : TEntry) : Bool :=
  let d : Desc := e.words
  [32, 32 * c.qmax].all (fun rows => e.patchOk rows && s.entryRuns p n (e.patched t c rows) rows) &&
  (!d.isSpindle || [d.aAddr, d.bAddr, d.outAddr, d.aScale, d.bScale, d.outScale, d.accAddr].all (fun a => addrSpace a ≠ 1)) &&
  (e.start || (d.wKind 0 ≠ 2 && d.wKind 1 ≠ 2)) &&
  (!d.isTree || d.treeAddr = s.rd (SMP_TREE_LOC.LOC p))

/-- The kinds of the attention entries of each phase of a slot, in order. -/
def attnKinds (es : List TEntry) : List (List Nat) :=
  (phasesOf es).map (fun ph => (ph.map (fun e => Desc.opcode e.words)).filter (fun o => o = 0x0C || o = 0x0D || o = 0x0E))

/-- The kinds and the count of the attention entries of two slots agree phase by phase, in any order. -/
def sameKinds (a b : List (List Nat)) : Bool :=
  a.length = b.length && (a.zip b).all (fun x => [0x0C, 0x0D, 0x0E].all (fun o => x.1.count o = x.2.count o))

/-- The plan, the length tables and the row table lie in Lathe SRAM. -/
def State.tablesFit (s : State) (n : Nat) (t : Tmpl) (c : PltCfg) (len : Nat) : Bool :=
  [0, 1].all (fun b => s.planBase n b + 128 * len ≤ lsramSize) && t.ltab.all (fun a => a + 16 * c.count ≤ lsramSize) &&
  t.rowtab + 16 * (32 * c.qmax) ≤ lsramSize && s.rd (SMP_TREE_LOC.LOC ((s.partOf n).getD 0)) + 128 ≤ lsramSize

/-- The first entry at which the template fails R179 or R215, as (slot, entry); a failure of the header, of the tree shape or of a slot
as a whole names its entry 0. -/
def State.tmplFault (s : State) (p : Nat) (t : Tmpl) (c : PltCfg) : Option (Nat × Nat) :=
  let ls := s.lathesOf p
  let es := t.used t.slots
  let len (k : Nat) : Nat := (t.entries.getD k []).length
  if t.version ≠ 1 ∨ t.slots ≠ ls.length ∨ !s.treeOk p c.nodes then some (0, 0)
  else match (List.range 16).find? (fun k => !(if k < t.slots then 1 ≤ len k && len k ≤ 4095 else len k = 0)) with
  | some k => some (k, 0)
  | none =>
    (List.range t.slots).findSome? (fun k =>
      let n := ls.getD k 0
      let l := es.getD k []
      let whole := (l.map (·.start)).headD false && sameKinds (attnKinds l) (attnKinds (es.headD [])) && s.tablesFit n t c l.length
      if !whole then some (k, 0) else (l.findIdx? (fun e => !s.entryOk p n t c e)).map (fun i => (k, i)))

/-! The derivation (R180). -/

/-- W(1) to W(QMAX) as a running maximum, or the slot and entry at which a phase fails. -/
def State.deriveW (s : State) (p : Nat) (t : Tmpl) (c : PltCfg) : Except (Nat × Nat) (List Nat) :=
  let ls := s.lathesOf p
  (List.range c.qmax).foldlM (fun (acc : List Nat) i => do
    let ph ← (List.range t.slots).mapM (fun k =>
      match s.slotPhases (ls.getD k 0) t c (i + 1) 0 (phasesOf (t.entries.getD k [])) with
      | .ok l => Except.ok l
      | .error e => Except.error (k, e))
    .ok (acc ++ [max (acc.getLastD 0) (s.wOf p c (i + 1) ph)])) []

/-- The template is refused (R179). -/
def State.tmplBad (s : State) (p : Nat) (at_ : Nat × Nat) : State :=
  (((s.raise PLT_ERR_STAT.TMPL_BAD).raise (PLT_PSTAT.TMPL_BAD p)).wr (PLT_PSTAT.TMPL_SLOT p) at_.1).wr (PLT_PSTAT.TMPL_ENTRY p) at_.2

/-- TEMPLATE_DERIVED: the check and the derivation end (R179, R180, R215): the cost table and RUNNING, or TMPL_BAD, and the partition
stays in DERIVING. -/
def execTemplateDerived (p : Part) (s : State) : Next :=
  .next (
    if s.rd (PLT_PSTAT.STATE p) ≠ 1 ∨ s.stepRuns p then s
    else
      let c := s.pltCfg p
      match s.readTmpl p with
      | (s1, none) => s1.tmplBad p (0, 0)
      | (s1, some t) =>
        let s2 := (s1.lathesOf p).foldl (fun st n => (st.lsramWrite n (st.rd (SMP_TREE_LOC.LOC p)) (st.treeRecord p c.nodes)).1) s1
        match s2.tmplFault p t c with
        | some x => s1.tmplBad p x
        | none =>
          match s2.deriveW p t c with
          | .error x => s1.tmplBad p x
          | .ok ws =>
            let s3 := { s2 with plt := { s2.plt with cost := Cells.setList 0 (Cells.clear s2.plt.cost (256 * p) (256 * p + 256)) (256 * p + 1) ws } }
            let s4 := (s3.writePltWord (9216 + p)).setLoop p { s3.loop p with
              ents := (t.used t.slots).map List.length
              attn := (((t.entries.headD []).map (fun e => e.patched t c 32)).filter Desc.isAttn) }
            (s4.wr (PLT_PSTAT.STATE p) 2).reassess p 1)

end Sys2Proof.Machine
end

