-- ==== Sys2Proof/Machine/Sampling.lean ====
section
/-! DEFINITION. The commands of the sampling unit (R206, R226, R229). -/

namespace Sys2Proof.Machine
open Reg

/-- The phase of a partition's loop is set. -/
def State.toPhase (s : State) (p : Nat) (ph : StepPhase) : State := s.setLoop p { s.loop p with phase := ph }

/-- SMP_STAT shows the partitions that wait. -/
def State.showSmp (s : State) : State := s.wr SMP_STAT.WAITING (s.smp.queue.foldl (fun a p => a ||| 2 ^ p) 0)

/-- A request of the step is drawn for (R205, R207, R218). -/
def State.sampleReq (s : State) (p : Nat) (q : StepReq) : SmpRes (State × StepReq × Option Walk) :=
  let r := s.slot q.slot
  let ri := r.profile % 1024
  let yields := !q.out && !q.failed && (q.kind ≠ 1 || q.last)
  if !yields then .ok (s, q, none)
  else
    let (s0, bad) := s.useSmpWord ri
    let s1 := if bad then { s0 with smp := { s0.smp with prof := Cells.set 0 s0.smp.prof (16 * ri) (s0.profWord ri 0 / 2 * 2) } } else s0
    let (s2, lost) := s1.useSmpWord (1024 + q.slot)
    if lost then .ok ((s2.pelotonUe p q.slot), { q with failed := true }, none)
    else
      let w := (List.range 16).map (s2.profWord ri)
      if !bit (w.getD 0 0) 0 ∨ bits (w.getD 0 0) 1 3 ≠ p then .ok (s2, { q with endCode := 4 }, none)
      else do
        let s3 := if q.draft then s2.bump (SMP_DRAFTED.COUNT p) 1 else s2
        let (s4, tbl) ← s3.readCounts p q.slot
        let drafts := if q.draft then (match r.draft with | some (_, _, t) => t | none => []) else []
        let (s5, x) ← s4.walk p w q r ((List.range 64).map (s4.parent p)) drafts 16 0 { tbl := tbl }
        .ok (s5, { q with tokens := x.tokens, degen := x.degen, endCode := x.endCode }, some x)

/-- The requests of a SAMPLE phase in slot order, up to one that fails: those sampled, their walks, and the failure (R226, R228). -/
def State.sampleAll (s : State) (p : Nat) (qs : List StepReq) : State × List StepReq × List (Nat × Walk) × Option (Nat × Nat × Nat) :=
  qs.foldl (fun (acc : State × List StepReq × List (Nat × Walk) × Option (Nat × Nat × Nat)) q =>
    match acc.2.2.2 with
    | some _ => acc
    | none =>
      match acc.1.sampleReq p q with
      | .ok (st, q1, w) => (st, acc.2.1 ++ [q1], acc.2.2.1 ++ (w.map (fun x => (q.slot, x))).toList, none)
      | .error (code, ls, st) => (st, acc.2.1, acc.2.2.1, some (code, ls, q.slot))) (s, [], [], none)

/-- The walks' paths and the counts of those not cancelled. -/
def State.samplePaths (s : State) (p : Nat) (ws : List (Nat × Walk)) : State :=
  ws.foldl (fun (st : State) (x : Nat × Walk) =>
    let st1 := { st with smp := { st.smp with path := Cells.set [] st.smp.path x.1 x.2.path } }
    if (st1.slot x.1).cancel then st1 else st1.writeCounts p x.1 x.2.tbl x.2.ovf) s

/-- SAMPLE_PHASE: the oldest waiting partition's phase, whole, in ascending slot order; an error aborts its step (R226, R228). -/
def execSamplePhase (s : State) : Next :=
  .next (match s.smp.queue with
  | [] => s
  | p :: rest =>
    let s0 := ({ s with smp := { s.smp with queue := rest } }).showSmp
    let qs := (s0.loop p).reqs
    let r := s0.sampleAll p ((List.range 8192).filterMap (fun k => qs.find? (fun q => q.slot = k)))
    match r.2.2.2 with
    | some (code, ls, k) => r.1.setLoop p { r.1.loop p with phase := .abort, abort := some ([code, ls, 0xFFF, k, 0, 0], []) }
    | none =>
      let s2 := r.1.samplePaths p r.2.2.1
      s2.setLoop p { s2.loop p with phase := .commit
                                    reqs := qs.map (fun q => (r.2.1.find? (fun x => x.slot = q.slot)).getD q) })

/-- SMP_PROF_COMMIT: the shadow of a profile is checked and staged, or refused (R206, Table 7.14). -/
def execSmpProfCommit (profile : Fin 1024) (commit : Bool) (s : State) : Next :=
  .next (if !commit then s
    else
      let w := (List.range 16).map (fun j => Cells.get 0 s.smp.profShadow (16 * profile.val + j))
      match failingRule (s.profRules w) with
      | some k => s.profRefuse k
      | none => ({ s with smp := { s.smp with profStaged := s.smp.profStaged.filter (fun (x : Nat × List Nat) => x.1 ≠ profile.val) ++ [(profile.val, w)] } }).wr
          SMP_PROF_STAT.PENDING 1)

/-- SMP_COMMIT: checked; applied at once when no step of the partition runs, else staged (R229). -/
def execSmpCommit (p : Part) (commit : Bool) (s : State) : Next :=
  .next (if !commit then s
    else if s.tearing p then s.raise (SMP_PSTAT.CFG_BUSY_WR p)
    else if !s.stepRuns p then s.smpApply p
    else match failingRule (s.smpRules p) with
      | some k => (s.raise (SMP_PSTAT.CFG_MISMATCH p)).wr (SMP_PSTAT.CFG_RULE p) k
      | none => (s.setLoop p { s.loop p with smpStaged := true }).wr (SMP_PSTAT.PENDING p) 1)

end Sys2Proof.Machine
end

