-- ==== Sys2Proof/Machine/Steps.lean ====
section
/-! DEFINITION. The step of a partition: Select, Prepare, Build, Release, Run, Commit, and its errors (R178, R181 to R185, R199, R201,
R220 to R222). -/

namespace Sys2Proof.Machine
open Reg

/-! Settings that apply at a step epoch (R201, R202). -/

def pltShadows (p : Nat) : List Fld :=
  [PLT_CADENCE.CADENCE p, PLT_LIMITS.CHUNK64 p, PLT_LIMITS.CHUNK_RES p, PLT_LIMITS.SPEC_NODES p, PLT_LIMITS.QMAX p, PLT_LIMITS.PORT_RES p,
   PLT_MAXLEN.MAX_LEN p, PLT_SLOTS.SLOT_BASE p, PLT_SLOTS.SLOT_COUNT p, PLT_TMPL.TMPL_ADDR p, PLT_PFT_ALLOW.PFT_ALLOW p,
   PLT_TIMEOUTS.ACK_LIMIT p, PLT_TIMEOUTS.LATE_LIMIT p, PLT_TIMEOUTS.ERR_LIMIT p] ++
  (List.range 4).flatMap (fun c => [PLT_CLASS.TTFT p c, PLT_CLASS.ENABLE p c])

/-- The rules of Table 6.12 on the shadows. -/
def State.pltRules (s : State) (p : Nat) : List Bool :=
  let c := s.pltNew p
  let on (k : Nat) : Bool := s.flag (PLT_CLASS.ENABLE p k)
  let overlaps (q : Nat) : Bool := let o := s.pltCfg q; c.base < o.base + o.count && o.base < c.base + c.count
  [1 ≤ c.cadence,
   (!(List.range 4).any on || 1 ≤ c.chunkRes) && c.nodes ≤ 64 && (1 ≤ c.nodes || (s.slotsOf p).all (fun x => !x.2.spec)),
   (List.range 4).all (fun k => !on k || 2 * c.cadence ≤ s.rd (PLT_CLASS.TTFT p k) * 64),
   c.base + c.count ≤ 8192 && (s.pltOthers p).all (fun q => !overlaps q),
   c.chunk ≤ c.maxLen && c.maxLen ≤ 1048576,
   ceilDiv (c.chunkRes * c.chunk + max 1 c.nodes) 32 ≤ c.qmax,
   (s.tRes p c none).1 ≤ c.cadence * 1024]

/-- A commit of the partition's settings applies, or fails: a change of what W(q) depends on returns the partition to DERIVING
(R179, R202, log 32). -/
def State.pltApply (s : State) (p : Nat) (enable : Bool) : State :=
  match failingRule (s.pltRules p) with
  | some k => (s.raise (PLT_PSTAT.CFG_MISMATCH p)).wr (PLT_PSTAT.CFG_RULE p) k
  | none =>
    let old := s.pltCfg p
    let oldT := s.inEff (PLT_TMPL.TMPL_ADDR p)
    let s1 := (s.applyShadows (pltShadows p)).showJmax
    let new := s1.pltCfg p
    let st := s.rd (PLT_PSTAT.STATE p)
    let changed := oldT ≠ s1.inEff (PLT_TMPL.TMPL_ADDR p) ∨ old.qmax ≠ new.qmax ∨ old.portRes ≠ new.portRes ∨ old.base ≠ new.base ∨ old.count ≠ new.count
    let s2 := if (st = 0 ∧ enable) ∨ (st = 2 ∧ changed) then s1.wr (PLT_PSTAT.STATE p) 1 else s1
    if old.portRes ≠ new.portRes then s2.reassess p 4 else s2.showPlt p

/-- A staged commit meets the step epoch (R201). -/
def State.pltEpoch (s : State) (p : Nat) : State :=
  match (s.loop p).staged with
  | none => s
  | some e => ((s.setLoop p { s.loop p with staged := none }).wr (PLT_PSTAT.PENDING p) 0).pltApply p e

/-! Select (R183). -/

/-- The draft of a slot is valid for its step (R217). -/
def State.draftValid (s : State) (p : Nat) (c : PltCfg) (r : SlotRec) : Bool :=
  match r.draft with
  | some (base, req, toks) => req = r.reqId && base = r.genDone && toks.length + 1 = c.nodes && toks.all (fun t => t < s.inEff (SMP_VOCAB.VOCAB p))
  | none => false

/-- The part of a request in GENERATE, or a chunk of one in PREFILL. -/
def State.stepReq (s : State) (p : Nat) (c : PltCfg) (x : Nat × SlotRec) : StepReq :=
  let r := x.2
  if r.state = 1 then
    let k := min c.chunk (r.promptLen - r.promptDone)
    { slot := x.1, kind := 1, first := r.promptDone, rows := k, last := r.promptDone + k = r.promptLen }
  else if r.spec then { slot := x.1, kind := 2, first := (s.kvRec x.1).len, rows := c.nodes, draft := s.draftValid p c r }
  else { slot := x.1, kind := 0, first := (s.kvRec x.1).len, rows := 1 }

/-- Row quanta of a list of parts. -/
def quanta (qs : List StepReq) : Nat := max 1 (ceilDiv (qs.foldl (fun a q => a + q.rows) 0) 32)

/-- The step's bound with the requests' actual lengths (R183). -/
def State.stepBound (s : State) (p : Nat) (c : PltCfg) (qs : List StepReq) : Nat :=
  s.pltFix p c + s.wNow p (quanta qs) + qs.foldl (fun a q =>
    a + (if q.kind = 1 then s.chargeOf p c 0x0C q.rows (q.first + q.rows) + portTime c.portRes (2 * s.frameBytes p) + 200
         else s.chargeOf p c (if q.kind = 2 then 0x0E else 0x0D) q.rows (q.first + 1))) 0

/-- Further work is taken in order while the step's bound and QMAX allow it. -/
def State.takeWhileFits (s : State) (p : Nat) (c : PltCfg) (acc : List StepReq) : List StepReq → List StepReq
  | [] => acc
  | q :: rest =>
    let a := acc ++ [q]
    if s.stepBound p c a ≤ c.cadence * 1024 ∧ quanta a ≤ c.qmax then s.takeWhileFits p c a rest else acc

/-- The selection of a step (R183). -/
def State.selection (s : State) (p : Nat) : List StepReq :=
  let c := s.pltCfg p
  let req := s.stepReq p c
  let gen := (s.live p false).filter (fun x => x.2.state = 2)
  let pre := sortBy queueBefore ((s.live p false).filter (fun x => x.2.state = 1))
  let dgen := sortBy queueBefore ((s.live p true).filter (fun x => x.2.state = 2))
  let dpre := sortBy queueBefore ((s.live p true).filter (fun x => x.2.state = 1))
  s.takeWhileFits p c ((gen ++ pre.take c.chunkRes).map req) ((dgen ++ pre.drop c.chunkRes ++ dpre).map req)

/-- The slot records that a Select reads meet the symbol code (R200). -/
def State.useSlots (s : State) (p : Nat) : State :=
  (s.slotsOf p).foldl (fun st x => let r := st.usePltWord x.1; if r.2 then r.1.slotUe x.1 else r.1) s

/-- STEP_SELECT: a step starts when there is work (R181, R183). -/
def execStepSelect (p : Part) (s : State) : Next :=
  .next (
    if (s.loop p).phase ≠ .none ∨ s.rd (PLT_PSTAT.STATE p) ≠ 2 ∨ s.loopHeld p ∨ s.quiesced p then s
    else
      let s1 := s.useSlots p
      let (s2, bad) := s1.usePltWord (9216 + p)
      if bad then s2.costUe p
      else
        let qs := s2.selection p
        if qs.isEmpty then s2
        else
          let s3 := { s2 with plt := { s2.plt with step := Cells.set 0 s2.plt.step p (s2.stepOf p + 1) } }
          let guar (k : Nat) : Nat := ((s3.live p false).filter (fun x => x.2.state = 2 && x.2.cls = k)).length
          s3.setLoop p { s3.loop p with phase := .prepare, reqs := qs, waited := false, abort := none, guarGen := (List.range 4).map guar })

/-! Prepare (R182). -/

/-- The length that a part's PREPARE names: its positions, at most the request's whole length (log 35). -/
def StepReq.prepLen (q : StepReq) (r : SlotRec) : Nat := min (q.first + q.rows) (r.promptLen + r.maxNew)

/-- One PREPARE of the group. -/
def State.prepareReq (s : State) (p : Nat) (q : StepReq) : State × StepReq :=
  let r := s.slot q.slot
  if q.out then (s, q)
  else
    let x := s.pftNow p q.slot (pftWords 2 p q.slot (q.prepLen r) 0) pftPrepare
    if x.2 = 0 then (x.1, q)
    else if x.2 = 1 ∨ x.2 = 2 then ((if r.demoted then x.1 else x.1.demote p q.slot 6), { q with out := true })
    else (x.1, { q with out := true, failed := true })

/-- STEP_PREPARE_DONE: the Prepare group, whole (R181, R182). -/
def execStepPrepareDone (p : Part) (s : State) : Next :=
  .next (
    if (s.loop p).phase ≠ .prepare then s
    else
      let r := (s.loop p).reqs.foldl (fun (acc : State × List StepReq) q =>
        let x := acc.1.prepareReq p q
        (x.1, acc.2 ++ [x.2])) (s, [])
      (r.1.setLoop p { r.1.loop p with phase := .build, reqs := r.2 }).showPlt p)

/-! Build (R178, R184, R185). -/

/-- The first row of each part: generation rows in ascending slot, then chunks in selection order (R185). -/
def rowOrder (qs : List StepReq) : List StepReq :=
  let on := qs.filter (fun q => !q.out)
  (List.range 8192).filterMap (fun k => on.find? (fun q => q.slot = k && q.kind ≠ 1)) ++ on.filter (fun q => q.kind = 1)

def withRows : Nat → List StepReq → List StepReq
  | _, [] => []
  | n, q :: t => { q with qrow := n } :: withRows (n + q.rows) t

/-- The tokens of a part's rows; of a chunk the prompt's words, which may not be readable (R351): then they are open, and false. -/
def State.rowTokens (s : State) (p : Nat) (q : StepReq) : State × List Nat × Bool :=
  let r := s.slot q.slot
  if q.kind = 1 then
    match s.partRead .engine p (r.prompt + 4 * q.first) (4 * q.rows) with
    | (s1, .ok, b) => (s1, (List.range q.rows).map (fun i => bits (leVal ((b.drop (4 * i)).take 4)) 0 18), true)
    | (s1, .refused, _) => (s1.drewMany q.rows, (List.range q.rows).map (fun i => Config.freeValue (s1.freeCtr + i) % 2 ^ 18), false)
    | (s1, .uncorrectable, _) => (s1.drewMany q.rows, (List.range q.rows).map (fun i => Config.freeValue (s1.freeCtr + i) % 2 ^ 18), false)
  else if q.kind = 2 then
    (s, r.lastToken :: (List.range (q.rows - 1)).map (fun i => if q.draft then (match r.draft with | some (_, _, t) => t.getD i 0 | none => 0) else 0), true)
  else (s, [r.lastToken], true)

/-- The depth of a tree row's node; other rows stand at their index. -/
def State.rowPos (s : State) (p : Nat) (q : StepReq) (i : Nat) : Nat := if q.kind = 2 then q.first + s.treeDepth p 64 i else q.first + i

/-- Row-table bytes of a part (Table 6.7). -/
def State.rowBytes (s : State) (p : Nat) (q : StepReq) (toks : List Nat) : List Byte :=
  (List.range q.rows).flatMap (fun i =>
    leBytes 4 (toks.getD i 0) ++ leBytes 4 (s.rowPos p q i % 2 ^ 20) ++ leBytes 4 (q.slot + q.kind * 2 ^ 13) ++ leBytes 4 (if q.kind = 2 then i else 0))

/-- A pad row: token 0 at position 0. -/
def padRow : List Byte := leBytes 4 0 ++ leBytes 4 0 ++ leBytes 4 (0x1FFF + 3 * 2 ^ 13) ++ leBytes 4 0

/-- The length table of one kind (R184, Table 5.10). -/
def lenTableBytes (c : PltCfg) (kind : Nat) (qs : List StepReq) : List Byte :=
  (List.range c.count).flatMap (fun i =>
    match qs.find? (fun q => q.slot = c.base + i && q.kind = kind) with
    | some q => leBytes 4 q.first ++ leBytes 4 q.rows ++ leBytes 4 q.qrow ++ leBytes 4 0
    | none => List.replicate 16 0)

/-- The Build of one Lathe slot: row table, length tables, plan. A template that cannot be read leaves an open plan (log 33). -/
def State.buildLathe (s : State) (p n k buf rows : Nat) (c : PltCfg) (t : Option Tmpl) (rowtab : List Byte) (qs : List StepReq) : State :=
  match t with
  | none => s.undefLsram n (s.planBase n buf) (128 * (s.loop p).ents.getD k 0)
  | some t =>
    let w (st : State) (a : Nat) (d : List Byte) : State := (st.lsramWrite n a d).1
    let s1 := w s t.rowtab rowtab
    let s2 := w s1 (t.ltab.getD 0 0) (lenTableBytes c 0 qs)
    let s3 := w s2 (t.ltab.getD 1 0) (lenTableBytes c 1 qs)
    let s4 := w s3 (t.ltab.getD 2 0) (lenTableBytes c 2 qs)
    w s4 (s4.planBase n buf) ((t.entries.getD k []).flatMap (fun e => (e.patched t c rows).flatMap (leBytes 4)))

/-- STEP_BUILD: rows, length tables and plans for every Lathe of the partition. -/
def execStepBuild (p : Part) (s : State) : Next :=
  .next (
    if (s.loop p).phase ≠ .build then s
    else
      let l := s.loop p
      let c := s.pltCfg p
      let qs := withRows 0 (rowOrder l.reqs)
      let q := quanta qs
      let r := qs.foldl (fun (acc : State × List Byte × List Nat) x =>
        let y := acc.1.rowTokens p x
        (y.1, acc.2.1 ++ y.1.rowBytes p x y.2.1, if y.2.2 then acc.2.2 else acc.2.2 ++ [x.slot])) (s, [], [])
      let rowtab := r.2.1 ++ (List.range (32 * q - qs.foldl (fun a x => a + x.rows) 0)).flatMap (fun _ => padRow)
      let (s1, t) := r.1.readTmpl p
      let ls := s1.lathesOf p
      let buf := 1 - l.buf
      let s2 := ((List.range ls.length).zip ls).foldl (fun (st : State) kn => st.buildLathe p kn.2 kn.1 buf (32 * q) c t rowtab qs) s1
      let mark (x : StepReq) : StepReq := match qs.find? (fun y => y.slot = x.slot) with
        | some y => { x with qrow := y.qrow, failed := x.failed || r.2.2.contains x.slot }
        | none => x
      s2.setLoop p { s2.loop p with phase := .release, q := q, buf := buf, reqs := l.reqs.map mark })

/-! Release (R201). -/

/-- One Lathe's step epoch open: its acknowledgement is lost when it is in RESET or OFFLINE, or discarded by PLT_INJ.ACK_DROP; a busy
Lathe holds the open (R97). -/
def State.openOn (s : State) (p n : Nat) : State :=
  let st := s.seq n
  if st = 1 ∨ st = 5 ∨ st = 6 then
    let s1 := s.epochOpen n
    if s1.flag PLT_INJ.ACK_DROP then (s1.wr PLT_INJ.ACK_DROP 0).setLoop p { s1.loop p with unacked := (s1.loop p).unacked ++ [n] } else s1
  else if st = 0 ∨ st = 8 then s.setLoop p { s.loop p with unacked := (s.loop p).unacked ++ [n] }
  else s.setLth n { s.lth n with epochHeld := true }

/-- STEP_RELEASE: the epoch opens on the sampling unit and every Lathe; staged commits take effect. -/
def execStepRelease (p : Part) (s : State) : Next :=
  .next (
    if (s.loop p).phase ≠ .release then s
    else
      let s1 := (((s.pltEpoch p).smpEpoch p).keyEpoch p).profEpoch p
      let s2 := s1.setLoop p { s1.loop p with unacked := [], smpAck := true }
      let s3 := (s2.lathesOf p).foldl (fun st n => st.openOn p n) s2
      s3.toPhase p .ack)

/-- Every unit of the partition has acknowledged the epoch. -/
def State.allAcked (s : State) (p : Nat) : Bool :=
  (s.loop p).smpAck && (s.loop p).unacked.isEmpty && (s.lathesOf p).all (fun n => !(s.lth n).epochHeld)

/-- STEP_GO: GO to every Lathe of the partition (R88, R201). -/
def execStepGo (p : Part) (s : State) : Next :=
  .next (
    if (s.loop p).phase ≠ .ack ∨ !s.allAcked p then s
    else
      let l := s.loop p
      let ls := s.lathesOf p
      let s1 := ((List.range ls.length).zip ls).foldl (fun (st : State) kn => st.goPlan kn.2 (l.ents.getD kn.1 0) l.buf) s
      s1.toPhase p .run)

/-- ACK_TIMEOUT: the units that have not acknowledged are taken OFFLINE and the partition stops (R201). -/
def execAckTimeout (p : Part) (s : State) : Next :=
  .next (
    if (s.loop p).phase ≠ .ack ∨ s.allAcked p then s
    else
      let lost := (s.lathesOf p).filter (fun n => (s.loop p).unacked.contains n || (s.lth n).epochHeld)
      let s1 := lost.foldl (fun (st : State) n => ((st.dropPins n (st.lth n).flights).setLth n {}).wr (LTH_SEQ_STAT.STATE n) 8) s
      (s1.raise PLT_ERR_STAT.ACK_TIMEOUT).partitionStop p lost)

/-! Run and Sample. -/

/-- STEP_RUN_END: every Lathe has reached DONE; the Sample phase is queued (R204, R226). -/
def execStepRunEnd (p : Part) (s : State) : Next :=
  .next (
    if (s.loop p).phase ≠ .run ∨ !(s.lathesOf p).all (fun n => s.seq n = 5) then s
    else (({ s with smp := { s.smp with queue := s.smp.queue ++ [p.val] } }).showSmp).toPhase p .sample)

/-! Commit (R182, R192, R220 to R225). -/

/-- One command of the Commit group: COMMIT_LEN, or RELINK of the walk's path; a request with a cancel gets none. -/
def State.commitReq (s : State) (p : Nat) (q : StepReq) : State × StepReq :=
  let r := s.slot q.slot
  if q.out ∨ q.failed ∨ r.cancel then (s, q)
  else
    let x := if q.kind = 2 then s.pftNow p q.slot (pftWords 10 p q.slot 0 q.tokens.length) pftRelink
      else s.pftNow p q.slot (pftWords 3 p q.slot (q.first + q.rows) 0) pftCommitLen
    (x.1, if x.2 = 0 then q else { q with failed := true })

/-- STEP_COMMIT_GROUP_DONE: the Commit group, whole. -/
def execStepCommitGroupDone (p : Part) (s : State) : Next :=
  .next (
    if (s.loop p).phase ≠ .commit then s
    else
      let r := (s.loop p).reqs.foldl (fun (acc : State × List StepReq) q =>
        let x := acc.1.commitReq p q
        (x.1, acc.2 ++ [x.2])) (s, [])
      r.1.setLoop p { r.1.loop p with phase := .record, reqs := r.2 })

/-- What a step reports of a request: slot, tokens, END, DEGENERATE, tree, draft used. -/
structure OutEntry where
  slot : Nat
  tokens : List Nat := []
  endCode : Nat := 0
  degen : Bool := false
  tree : Bool := false
  draft : Bool := false
deriving DecidableEq, Repr

/-- The request entries of the record, in ascending slot order (R220, R223). -/
def State.outEntries (s : State) (p : Nat) : List OutEntry :=
  let qs := (s.loop p).reqs
  (s.slotsOf p).filterMap (fun x =>
    if !(x.2.state = 1 ∨ x.2.state = 2) then none
    else if x.2.cancel then
      some { slot := x.1, endCode := 3, draft := (qs.find? (fun q => q.slot = x.1 && !q.out)).any (·.draft) }
    else match qs.find? (fun q => q.slot = x.1) with
      | none => none
      | some q =>
        if q.out ∨ q.failed ∨ (q.tokens.isEmpty ∧ q.endCode = 0) then none
        else some { slot := x.1, tokens := q.tokens, endCode := q.endCode, degen := q.degen, tree := q.kind = 2, draft := q.draft })

def OutEntry.accept (e : OutEntry) : Nat := if e.tree then e.tokens.length - 1 else 0

/-- The bytes of a request entry (Table 7.4). -/
def State.entryBytes (s : State) (e : OutEntry) : List Byte :=
  let r := s.slot e.slot
  let n := e.tokens.length
  let w0 := e.slot + n * 2 ^ 13 + e.endCode * 2 ^ 18 + b2n (r.genDone = 0 && n ≠ 0) * 2 ^ 21 + b2n (Cells.get false s.smp.ovf e.slot) * 2 ^ 22 +
    b2n e.degen * 2 ^ 23 + b2n r.demoted * 2 ^ 24 + r.cls * 2 ^ 25
  leBytes 4 w0 ++ leBytes 4 r.reqId ++ leBytes 4 (r.genDone + n) ++ leBytes 4 (e.accept + b2n e.draft * 2 ^ 5) ++
    e.tokens.flatMap (leBytes 4) ++ List.replicate (16 * ceilDiv n 4 - 4 * n) 0

/-- The entries cut into parts from the front: each holds as many whole entries as its ring entry allows (R220). -/
def fillParts (room : Nat) (l : List (List Byte)) : List (List (List Byte)) :=
  (l.foldl (fun (acc : List (List (List Byte))) e =>
    match acc with
    | [] => [[e]]
    | ph :: more => if (ph ++ [e]).flatten.length ≤ room then (ph ++ [e]) :: more else [e] :: ph :: more) [[]]).reverse

/-- A part (Table 7.3). -/
def State.partBytes (s : State) (p : Nat) (late : Bool) (n i : Nat) (es : List (List Byte)) : List Byte :=
  let body := es.flatten
  leBytes 4 (1 * 2 ^ 4 + p * 2 ^ 8 + i * 2 ^ 16 + n * 2 ^ 24) ++ leBytes 4 (64 + body.length) ++ leBytes 8 (s.stepOf p) ++ leBytes 4 es.length ++
    leBytes 4 s.timeWord ++ leBytes 4 (b2n late + b2n (s.flag (PLT_PSTAT.DERATED p)) * 2 + b2n (s.loop p).waited * 4) ++
    List.replicate 36 0 ++ body

/-- The address of output entry i of VF p. -/
def State.outAddr (s : State) (p i : Nat) : Nat :=
  s.rd (PCI_OQ_LO.ADDR p) + s.rd (PCI_OQ_HI.ADDR p) * 2 ^ 32 + i % 2 ^ s.rd (PCI_RING_CFG.OQ_LOG2 p) * 2 ^ s.rd (PCI_RING_CFG.OQ_ENT p)

/-- The record's writes in the order of R221. -/
def State.sendRecord (s : State) (p : Nat) (parts : List (List Byte)) : State :=
  let next := s.rd (PCI_OQ_NEXT.INDEX p)
  let a (i : Nat) : Nat := s.outAddr p ((next + i) % 65536)
  let p0 := parts.headD []
  let s1 := (List.range (parts.length - 1)).foldl (fun st i => st.send (.hostWrite (1 + p) (a (i + 1)) (parts.getD (i + 1) []))) s
  let s2 := (s1.send (.hostWrite (1 + p) (a 0 + 4) (p0.drop 4))).send (.hostWrite (1 + p) (a 0) (p0.take 4))
  let s3 := s2.wr (PCI_OQ_NEXT.INDEX p) ((next + parts.length) % 65536)
  if s3.flag (PCI_RING_CFG.OQ_IRQ p) then s3.sendVec (1 + p) (s3.rd (PCI_VEC.OQ p)) else s3

/-- A request's slot record and budget move with what the step committed for it (R174, R192). -/
def State.commitSlot (s : State) (p : Nat) (q : StepReq) : State :=
  let r := s.slot q.slot
  if q.out ∨ q.failed ∨ r.cancel ∨ !(r.state = 1 ∨ r.state = 2) then s
  else
    let n := q.tokens.length
    let s1 := s.moveHold q.slot (n + (if q.kind = 1 then q.rows else 0)) false
    let r1 := s1.slot q.slot
    let first := q.kind = 1 && q.last
    let s2 := s1.setSlot q.slot { r1 with promptDone := if q.kind = 1 then r1.promptDone + q.rows else r1.promptDone
                                          genDone := r1.genDone + n
                                          lastToken := q.tokens.getLastD r1.lastToken
                                          lastT := if n = 0 then r1.lastT else s1.timeWord
                                          draft := if q.kind = 2 && q.draft then none else r1.draft
                                          state := if first then 2 else r1.state }
    if q.endCode ≠ 0 then s2.closeSlot p q.slot q.endCode else s2

/-- LATE and its consequences (R197): the record, the run of late steps, the allowance. -/
def State.lateStep (s : State) (p : Nat) (late : Bool) (excess : Nat) (counts : List Nat) : State :=
  let l := s.loop p
  let cur := s.rd (PLT_ALLOW.VALUE p)
  if late then
    let d := (List.range 4).foldl (fun a k => a + min 255 (counts.getD k 0) * 2 ^ (8 * k)) 0
    let s1 := s.breachPart p 4 0 d
    let mx := max l.lateMax excess
    if s.inEff (PLT_TIMEOUTS.LATE_LIMIT p) ≤ l.lateRun + 1 then
      ((s1.setLoop p { s1.loop p with lateRun := 0, lateMax := 0, onTime := 0 }).wr (PLT_ALLOW.VALUE p) (min (2 ^ 32 - 1) mx)).reassess p 3
    else s1.setLoop p { s1.loop p with lateRun := l.lateRun + 1, lateMax := mx, onTime := 0 }
  else
    let s1 := s.setLoop p { l with lateRun := 0, lateMax := 0, onTime := if l.onTime + 1 = 1024 then 0 else l.onTime + 1 }
    if l.onTime + 1 = 1024 then (s1.wr (PLT_ALLOW.VALUE p) (if cur / 2 < 1024 then 0 else cur / 2)).reassess p 3 else s1

/-- Requests whose first-token deadline has passed without a token, once each (R176, R196). -/
def State.ttftMissed (s : State) (p : Nat) (before : List (Nat × SlotRec)) : State :=
  before.foldl (fun (st : State) x =>
    let past := (st.timeWord + 2 ^ 32 - x.2.ttftT) % 2 ^ 32
    if x.2.genDone = 0 ∧ !x.2.missed ∧ 0 < past ∧ past < 2 ^ 31 then
      (st.setSlot x.1 { st.slot x.1 with missed := true }).breach p x.1 3 0 past
    else st) s

/-- COMMIT_POINT: once nothing waits on the record path and the ring has the entries, the record is written; at its last write slots,
budgets and the loop move (R192, R197, R221, R222). -/
def execCommitPoint (p : Part) (s : State) : Next :=
  .next (
    if (s.loop p).phase ≠ .record then s
    else
      let l := s.loop p
      let c := s.pltCfg p
      let es := s.outEntries p
      let span := match l.lastCommit with | some t => s.now.toNat - t | none => 0
      let inj := s.flag PLT_INJ.LATE
      let excess := if inj then c.cadence * 1024 else span - c.cadence * 1024
      let late := l.guarGen.any (· ≠ 0) && (inj || (l.lastCommit.isSome && c.cadence * 1024 < span))
      let groups := fillParts (2 ^ s.rd (PCI_RING_CFG.OQ_ENT p) - 64) (es.map s.entryBytes)
      let free := (s.rd (PCI_OQ_FREE.INDEX p) + 65536 - s.rd (PCI_OQ_NEXT.INDEX p)) % 65536
      if !s.flag (PCI_RING_CFG.ENABLE p) then s.setLoop p { l with waited := true }
      else if !(s.records p).isEmpty then s.setLoop p { l with waited := l.waited || s.eqWaits p }
      else if free < groups.length then (s.setLoop p { l with waited := true }).wr (PCI_RING_STAT.OQ_WAIT p) 1
      else
        let parts := ((List.range groups.length).zip groups).map (fun ig => s.partBytes p late groups.length ig.1 ig.2)
        let s1 := (s.sendRecord p parts).wr (PCI_RING_STAT.OQ_WAIT p) 0
        let s2 := s1.bump (SMP_ACCEPTED.COUNT p) (es.foldl (fun a e => a + e.accept) 0)
        let live := (s.live p false) ++ (s.live p true)
        let s3 := l.reqs.foldl (fun st q => st.commitSlot p q) s2
        let s4 := live.foldl (fun (st : State) x =>
          if x.2.cancel then ((st.closeSlot p x.1 3).cancelsDone p x.1 1 (st.stepOf p) x.2.genDone)
          else if l.reqs.any (fun q => q.slot = x.1 && q.failed) then st.closeSilent p x.1 5 (st.stepOf p)
          else st.setSlot x.1 { st.slot x.1 with errSteps := 0 }) s3
        let s5 := (s4.setLoop p { s4.loop p with phase := .none, reqs := [], lastCommit := some s.now.toNat }).wr (PLT_PERIOD.VALUE p) (min (2 ^ 32 - 1) span)
        let s6 := (s5.wr PLT_INJ.LATE 0).ttftMissed p live
        (s6.lateStep p late excess l.guarGen).settle p live)

/-! Errors (R199). -/

/-- STEP_ERROR_REPORT: a Lathe of a partition whose plans run reports a descriptor's end in error; the other Lathes are aborted. -/
def execStepErrorReport (n : Lathe) (s : State) : Next :=
  .next (
    match s.partOf n, (s.lth n).report with
    | some p, some (idx, code) =>
      if (s.loop p).phase ≠ .run then s
      else
        let d : Desc := wordsOfBytes 32 (decodedBytes s.mem.lsram s.mem.lsramErr (n * 2 ^ 24 + (s.lth n).base + 128 * idx) 128)
        let streamer := code = 0x23
        let regions := if code = 0x22 ∧ s.rd (TDMA_GRP_STAT.CAUSE n) = 2 then
            (match s.partAddr p (s.rd (TDMA_GRP_ADDR_LO.ADDR n) + s.rd (TDMA_GRP_ADDR_HI.ADDR n) * 2 ^ 32) with
             | some (m, a) => s.regionEntry p m a
             | none => [])
          else []
        let info := [code, s.slotOfLathe p n, idx, if streamer then s.rd (ATS_ERR_INFO.SLOT n) else 0x1FFF,
          if streamer then s.rd (ATS_ERR_INFO.PAGE n) else 0, if d.isAttn then d.layer else 0]
        let s1 := ((s.lathesOf p).filter (· ≠ n.val)).foldl (fun st m => st.stepAbort m) s
        s1.setLoop p { s1.loop p with phase := .abort, abort := some (info, regions) }
    | _, _ => s)

/-- STEP_ABORT_END: every Lathe has come to rest; ABORT_STEP for the prepared slots, the STEP_ERROR record, and the end of a request that
fails again and again. -/
def execStepAbortEnd (p : Part) (s : State) : Next :=
  .next (
    match (s.loop p).abort with
    | none => s
    | some (info, regions) =>
      if (s.loop p).phase ≠ .abort ∨ (s.lathesOf p).any (fun n => let st := s.seq n; st = 2 ∨ st = 3 ∨ st = 4 ∨ st = 7) then s
      else
        let x (i : Nat) : Nat := info.getD i 0
        let s1 := (s.loop p).reqs.foldl (fun (st : State) q => if q.out then st else (st.pftNow p q.slot (pftWords 9 p q.slot 0 0) pftAbortStep).1) s
        let s2 := s1.record p (errorRecord p 0x10 (x 0) (x 1) (x 2) (s1.stepOf p) (x 3) (x 4) (x 5) regions)
        let s3 := s2.setLoop p { s2.loop p with phase := .none, reqs := [], abort := none }
        let s4 := (s3.slotsOf p).foldl (fun (st : State) y =>
          if y.1 = x 3 then
            let r := st.slot y.1
            let k := min 15 (r.errSteps + 1)
            let st1 := st.setSlot y.1 { r with errSteps := k }
            if s.inEff (PLT_TIMEOUTS.ERR_LIMIT p) ≤ k ∧ (r.state = 1 ∨ r.state = 2) then st1.closeSilent p y.1 5 (st.stepOf p) else st1
          else st.setSlot y.1 { st.slot y.1 with errSteps := 0 }) s3
        s4.settle p ((s.live p false) ++ (s.live p true)))

end Sys2Proof.Machine
end

