-- ==== Sys2Proof/Machine/Serving.lean ====
section
/-! DEFINITION. Commits, submissions, cancels, budgets and derating of the Peloton (R186 to R196, R200, R202, R217, R223, R351, R352). -/

namespace Sys2Proof.Machine
open Reg

/-- A PLT commit: checked; applied at once when no step of the partition runs, else staged (R202, Table 6.27); refused in a teardown, and
with ENABLE 1 while a restore is not committed (R390, R500). -/
def State.pltCommit (s : State) (p : Nat) (enable : Bool) : State :=
  if s.tearing p || (enable && s.restoring p) then s.raise (PLT_PSTAT.CFG_BUSY_WR p)
  else if !s.stepRuns p then s.pltApply p enable
  else match failingRule (s.pltRules p) with
    | some k => (s.raise (PLT_PSTAT.CFG_MISMATCH p)).wr (PLT_PSTAT.CFG_RULE p) k
    | none => (s.setLoop p { s.loop p with staged := some enable }).wr (PLT_PSTAT.PENDING p) 1

/-- PLT_COMMIT. -/
def execPltCommit (p : Part) (commit enable : Bool) (s : State) : Next := .next (if commit then s.pltCommit p enable else s)

/-! The submission ring (R350, R351). -/

/-- `k` entries of VF p's submission ring can be taken: the ring is enabled and without fault, they lie below the tail, and no record holds
the loop. -/
def State.sqReady (s : State) (p k : Nat) : Bool :=
  s.flag (PCI_RING_CFG.ENABLE p) && !s.flag (PCI_RING_STAT.SQ_FAULT p) && !s.loopHeld p &&
  k ≤ (s.rd (PCI_SQ_TAIL.INDEX p) + 65536 - s.rd (PCI_SQ_HEAD.INDEX p)) % 65536

/-- PCI_SQ_HEAD moves past the entries taken. -/
def State.sqTake (s : State) (p k : Nat) : State := s.wr (PCI_SQ_HEAD.INDEX p) ((s.rd (PCI_SQ_HEAD.INDEX p) + k) % 65536)

/-- A submission read has failed: SQ_FAULT and a RING_FAULT record (R355, Table 12.8). -/
def State.sqFault (s : State) (p code : Nat) : State :=
  (s.wr (PCI_RING_STAT.SQ_FAULT p) 1).submitRecord p 0x24 code 0x1FFF 0 (s.rd (PCI_SQ_HEAD.INDEX p)) 0

/-- An armed PCI_INJ.CTO times the read of an entry out (Table 12.14). -/
def State.sqTimedOut (s : State) (p : Nat) : State := ((s.wr PCI_INJ.CTO 0).raise PCI_ERR_STAT.CTO).sqFault p 1

/-- SQ_TAIL_WRITE: new entries are available to the Peloton. -/
def execSqTailWrite (v : Part) (index : BitVec 16) (s : State) : Next := .next (s.wr (PCI_SQ_TAIL.INDEX v) index.toNat)

/-- The range of slots of partition p. -/
def State.inRange (s : State) (p k : Nat) : Bool :=
  let c := s.pltCfg p
  c.base ≤ k && k < c.base + c.count

/-! Admission (R186, R189, R192, Table 6.8). -/

/-- The record that an accepted request would have. -/
def State.newRecord (s : State) (p : Nat) (e : Submission) : SlotRec :=
  let c := s.pltCfg p
  { state := 1, spec := e.spec, part := p, cls := e.cls.val, bucket := e.bucket.val, reqId := e.reqId.toNat, promptLen := e.promptLen.val,
    maxNew := e.maxNew.val, promptDone := e.prefixLen.val, admitSeq := (s.loop p).admitSeq, admitT := s.timeWord,
    ttftT := (s.timeWord + 64 * s.inEff (PLT_CLASS.TTFT p e.cls.val)) % 2 ^ 32,
    charge := s.reqCharge p c e.spec (e.promptLen.val + e.maxNew.val) % 2 ^ 32, hold := e.promptLen.val - e.prefixLen.val + e.maxNew.val,
    prompt := e.prompt.toNat, profile := e.profile.toNat }

/-- The lowest FREE slot of the range. -/
def State.freeSlot (s : State) (p : Nat) : Option Nat :=
  let c := s.pltCfg p
  ((List.range c.count).find? (fun i => (s.slot (c.base + i)).state = 0)).map (· + c.base)

/-- Checks 1 to 9 of Table 6.8. -/
def State.admissionChecks (s : State) (p : Nat) (e : Submission) : List Bool :=
  let c := s.pltCfg p
  let r := s.newRecord p e
  let ps := s.slot e.prefixSlot.val
  let b := s.bucket e.bucket.val
  [e.promptLen.val ≠ 0 && e.maxNew.val ≠ 0 && e.promptLen.val + e.maxNew.val ≤ c.maxLen && e.prefixLen.val < e.promptLen.val && (!e.spec || c.nodes ≠ 0) &&
     (e.prefixLen.val = 0 || (s.inRange p e.prefixSlot.val && (ps.state = 2 || ps.state = 3) && e.prefixLen.val ≤ (s.kvRec e.prefixSlot.val).len)),
   s.flagEff (PLT_CLASS.ENABLE p e.cls.val),
   s.rd (PLT_PSTAT.STATE p) = 2,
   (s.live p true).isEmpty,
   (s.freeSlot p).isSome,
   b.enable && b.owner = p && r.hold ≤ b.balance,
   s.framesHold p (some r),
   s.fits p c (some r),
   s.deadlinesHold p c (some (8192, r))]

/-- A request is accepted into slot k (R189, R192, R211). -/
def State.accept (s : State) (p k : Nat) (r : SlotRec) : State :=
  let b := s.bucket r.bucket
  let s1 := s.setBucket r.bucket { b with balance := b.balance - r.hold, held := min (2 ^ 32 - 1) (b.held + r.hold) }
  let s2 := s1.setSlot k { r with lastReq := (s.slot k).lastReq }
  let s3 := s2.setLoop p { s2.loop p with admitSeq := ((s2.loop p).admitSeq + 1) % 2 ^ 32 }
  (({ s3 with smp := { s3.smp with used := Cells.set 0 s3.smp.used k 0, ovf := Cells.set false s3.smp.ovf k false } }).writeSmpWord (1024 + k)).showPlt p

/-- OPEN, and FORK with a prefix: the state and the status of the command that failed, 0 when none did. -/
def State.openSlot (s : State) (p k : Nat) (e : Submission) : State × Nat :=
  let x := s.pftNow p k (pftWords 1 p k 0 (b2n e.spec)) pftOpen
  if x.2 ≠ 0 ∨ e.prefixLen.val = 0 then x
  else
    let y := x.1.pftNow p k [4 + p * 2 ^ 8, k + e.prefixSlot.val * 2 ^ 16, e.prefixLen.val, 0] pftFork
    if y.2 = 0 then y else ((y.1.pftNow p k (pftWords 6 p k 0 0) pftRelease).1, y.2)

/-- A refusal is counted by its outcome (Table 6.33). -/
def State.countRefusal (s : State) (p code : Nat) : State :=
  s.setLoop p { s.loop p with refused := setAt (s.loop p).refused (code - 1) ((s.loop p).refused.getD (code - 1) 0 + 1) }

/-- SUBMIT: the entry at the head is decided (R189); with a prefix only between steps. -/
def execSubmit (p : Part) (e : Submission) (s : State) : Next :=
  .next (
    if !s.sqReady p 1 ∨ (0 < e.prefixLen.val ∧ s.stepRuns p) then s
    else if s.flag PCI_INJ.CTO then s.sqTimedOut p
    else
      let sq := s.rd (PCI_SQ_HEAD.INDEX p)
      let s1 := (s.sqTake p 1).useBucket e.bucket.val
      let done (st : State) (code slot status : Nat) : State := st.submitRecord p 0x22 code slot e.reqId.toNat sq status
      match failingRule (s1.admissionChecks p e), s1.freeSlot p with
      | some k, _ => done (s1.countRefusal p k) k 0x1FFF 0
      | none, none => done (s1.countRefusal p 5) 5 0x1FFF 0
      | none, some k =>
        let x := s1.openSlot p k e
        if x.2 = 0 then done (x.1.accept p k (s1.newRecord p e)) 0 k 0
        else done (x.1.countRefusal p 10) 10 0x1FFF x.2)

/-- DRAFT: taken outside the span from Select to the end of Build, it replaces the slot's draft (R217, R351). -/
def execDraft (p : Part) (slot : Fin 8192) (reqId : Word) (base : Fin 2097152) (tokens : List (Fin 262144)) (s : State) : Next :=
  let k := 1 + ceilDiv tokens.length 16
  let ph := (s.loop p).phase
  .next (if !s.sqReady p k ∨ ph = .prepare ∨ ph = .build ∨ !s.inRange p slot.val ∨ 63 < tokens.length then s
    else if s.flag PCI_INJ.CTO then s.sqTimedOut p
    else (s.sqTake p k).setSlot slot.val { s.slot slot.val with draft := some (base.val, reqId.toNat, tokens.map (·.val)) })

/-- CANCEL: pending until the next commit point, or done at once (R223, R225). -/
def execCancel (p : Part) (slot : Fin 8192) (reqId : Word) (s : State) : Next :=
  let ph := (s.loop p).phase
  .next (if !s.sqReady p 1 ∨ ph = .commit ∨ ph = .record then s
    else if s.flag PCI_INJ.CTO then s.sqTimedOut p
    else
      let s1 := s.sqTake p 1
      let r := s1.slot slot.val
      if !s1.inRange p slot.val then s1.closeRecord p 0x21 4 slot.val reqId.toNat 0 0
      else if (r.state = 1 ∨ r.state = 2) ∧ r.reqId = reqId.toNat then s1.setSlot slot.val { r with cancel := true, cancels := r.cancels + 1 }
      else match r.lastReq with
        | some (q, e, gen) =>
          if q = reqId.toNat then s1.closeRecord p 0x21 (if e = 1 ∨ e = 2 then 2 else 3) slot.val q 0 gen
          else s1.closeRecord p 0x21 4 slot.val reqId.toNat 0 0
        | none => s1.closeRecord p 0x21 4 slot.val reqId.toNat 0 0)

/-- ENTRY_BAD: an entry is refused and skipped, a DRAFT with all of its entries (R352). -/
def execEntryBad (p : Part) (bad : BadEntry) (s : State) : Next :=
  let sq := s.rd (PCI_SQ_HEAD.INDEX p)
  let skip (k code slot req : Nat) : State := if !s.sqReady p k then s else if s.flag PCI_INJ.CTO then s.sqTimedOut p else (s.sqTake p k).submitRecord p 0x23 code slot req sq 0
  .next (match bad with
    | .unknownType req => skip 1 1 0x1FFF req.toNat
    | .draftSlot slot req n => if s.inRange p slot.val then s else skip (1 + ceilDiv n.val 16) 2 slot.val req.toNat
    | .draftCount slot req n => if n.val ≤ 63 then s else skip (1 + ceilDiv n.val 16) 3 slot.val req.toNat)

/-! Derating and budgets. -/

/-- REASON of a recomputation (Table 6.10). -/
def derateReason : Derate → Nat
  | .clock => 1
  | .allowance => 3
  | .port => 4

/-- T_RES_RECOMPUTE (R194 to R196): charges and T_res anew, then demotions or restorations. -/
def execTResRecompute (p : Part) (why : Derate) (s : State) : Next :=
  let c := s.pltCfg p
  let s1 := (s.slotsOf p).foldl (fun (st : State) x =>
    st.setSlot x.1 { st.slot x.1 with charge := st.reqCharge p c x.2.spec (x.2.promptLen + x.2.maxNew) % 2 ^ 32 }) s
  .next (if s.rd (PLT_PSTAT.STATE p) = 0 then s else s1.reassess p (derateReason why))

/-- BUCKET_REFILL: the end of a period (R193). -/
def execBucketRefill (b : Fin 1024) (s : State) : Next :=
  let s1 := s.useBucket b.val
  let x := s1.bucket b.val
  .next (if !x.enable then s1
    else s1.setBucket b.val { x with balance := if x.cap ≤ x.balance then x.balance else min x.cap (x.balance + x.refill) })

/-- BUCKET_WRITE: a PF0 write of PLT_BKT_DATA (R191, R193, Tables 6.9, 6.17). -/
def execBucketWrite (value : Word) (s : State) : Next :=
  let a := s.rd PLT_BKT_ADDR.ADDR
  let b := a / 8
  let v := value.toNat
  let x := s.bucket b
  .next (match a % 8 with
    | 0 => s.setBucket b { x with balance := v }
    | 2 => s.setBucket b { x with cap := v }
    | 3 => s.setBucket b { x with refill := bits v 0 24 }
    | 4 => s.setBucket b { x with period := bits v 0 16, owner := bits v 16 3, enable := bit v 19, consumed := if bit v 19 && !x.enable then 0 else x.consumed }
    | _ => s)

/-- PELOTON_SRAM_UE (R200): an uncorrectable word is met. -/
def execPelotonSramUe (w : PltWord) (s : State) : Next :=
  let hit (place : Nat) : State :=
    (({ s with plt := { s.plt with sramErr := Cells.set 0 s.plt.sramErr place 0 } }).raise PLT_ERR_STAT.SRAM_UE).reportUe 90 place
  .next (match w with
    | .slot k => (hit k.val).slotUe k.val
    | .cost p => (hit (9216 + p.val)).costUe p.val
    | .bucket b => (hit (8192 + b.val)).bucketUe b.val)

end Sys2Proof.Machine
end

