-- ==== Sys2Proof/Machine/Video.lean ====
section
/-! DEFINITION. The commands of the video engines (R290 to R313). -/

namespace Sys2Proof.Machine
open Reg

/-- The service controller writes VID_ENG_PART; with a context enabled the write is ignored, and clearing ASSIGNED
starts zeroing the engine SRAM (R291). -/
def State.vidAssign (s : State) (e part : Nat) (assigned : Bool) : State :=
  if s.rd (VID_ENG_STAT.ENABLED e) ≠ 0 then s.raise (VID_ENG_STAT.CFG_BUSY_WR e)
  else
    let s1 := (s.wr (VID_ENG_PART.PART e) part).wr (VID_ENG_PART.ASSIGNED e) (if assigned then 1 else 0)
    if assigned then s1 else { s1 with vid := { s1.vid with clearing := Cells.set false s1.vid.clearing e true } }

/-- VIDEO_ENGINE_ASSIGN. -/
def execVideoEngineAssign (e : Fin 4) (part : Part) (assigned : Bool) (s : State) : Next := .next (s.vidAssign e part assigned)

/-- VIDEO_SRAM_CLEARED: every word of the engine's SRAM holds zero with valid check symbols (R291). -/
def execVideoSramCleared (e : Fin 4) (s : State) : Next :=
  .next (if Cells.get false s.vid.clearing e then
      { s with vid := { s.vid with clearing := Cells.set false s.vid.clearing e false, sramErr := Cells.clear s.vid.sramErr (16 * e) (16 * e + 16) } }
    else s)

/-- VID_CTX_COMMIT: a write of VID_CTX_COMMIT (R313). -/
def execVidCtxCommit (e : Fin 4) (k : Fin 16) (commit enable : Bool) (s : State) : Next :=
  .next (if !commit then s
    else if !enable then s.vidDisable e k
    else if s.vidOn e k && (vidFixedFields e k).any (fun f => s.rd f ≠ s.inEff f) then s.raise (VID_CTX_STAT.CFG_BUSY_WR e k)
    else
      match failingRule (s.vidRules e k) with
      | some r => (s.raise (VID_CTX_STAT.CFG_MISMATCH e k)).wr (VID_CTX_STAT.CFG_RULE e k) r
      | none =>
        if s.vidOn e k then s.applyShadows (vidRcFields e k)
        else
          let s1 := s.applyShadows (vidRcFields e k ++ vidFixedFields e k)
          let s2 := s1.wr (VID_ENG_STAT.ENABLED e) (s1.rd (VID_ENG_STAT.ENABLED e) ||| 2 ^ k.val)
          let s3 := ((s2.wr (VID_CTX_STAT.STATE e k) (if s2.inEff (VID_CTX_CFG.MODE e k) = 2 then 2 else 1)).wr (VID_CTX_STAT.CAUSE e k) 0).wr (VID_CTX_SEQ.SEQ e k) 0
          (s3.setVctx e k { totals := (s3.vctx e k).totals }).showLoad e)

/-- A row of a decode context: its bytes leave the queue, a picture starts, is concealed in part, or is complete, references end and
pictures leave for output (R296 to R298, R310). -/
def State.decodeRow (s : State) (e k : Nat) (r : DecRow) : VidRes State := do
  let s0 ← s.vidSram e k
  let x := s0.vctx e k
  if x.fill < r.used.val then .ok s0
  else
    let (s1, _) ← s0.queueRead e k (x.wr + s0.queueSize e k - x.fill % s0.queueSize e k) r.used.val
    let s2 := s1.setVctx e k { s1.vctx e k with fill := x.fill - r.used.val }
    if r.unsupported then .error (s2.vidHalt e k 1 0)
    else
      let key := match r.start with | some i => i.intra | none => false
      if s2.rd (VID_CTX_STAT.STATE e k) = 1 ∧ !key then .ok s2
      else
        let s3 := s2.wr (VID_CTX_STAT.STATE e k) 2
        let s4 ← match r.start with
          | none => Except.ok s3
          | some i =>
            let s31 := match (s3.vctx e k).cur with
              | some q => (s3.raise (VID_ERR_STAT.STREAM_ERR e)).vidFinish e k { q with concealed := true } r.keepRef r.waits
              | none => s3
            let s32 := s31.setVctx e k ((s31.vctx e k).leave (r.unref.map Fin.val) [])
            s32.vidStart e k i
        match (s4.vctx e k).cur with
        | none => .ok (s4.setVctx e k ((s4.vctx e k).leave (r.unref.map Fin.val) (r.shown.map Fin.val)))
        | some q =>
          let bad := r.corrupt || s4.flag (VID_INJ.STREAM e)
          let s5 := if bad then (s4.raise (VID_ERR_STAT.STREAM_ERR e)).wr (VID_INJ.STREAM e) 0 else s4
          let q1 := { q with concealed := q.concealed || bad, rows := q.rows + 1 }
          let s6 := if r.finish then s5.vidFinish e k q1 r.keepRef r.waits else s5.setVctx e k { s5.vctx e k with cur := some q1 }
          .ok ((s6.setVctx e k ((s6.vctx e k).leave (if r.start.isSome then [] else r.unref.map Fin.val) (r.shown.map Fin.val))).vidInject e k)

/-- The frame in progress of an encode context starts: its buffer, whether it is intra, its settings (R303, R304, R306). -/
def State.encFrameStart (s : State) (e k : Nat) (src : VidSrc) : VidRes State :=
  match s.freeBuf e k with
  | none => .error (s.vidHalt e k 2 0)
  | some b =>
    let x := s.vctx e k
    let gop := s.inEff (VID_CTX_GOP.GOP e k)
    .ok (s.setVctx e k { x.putMark b 0 true with
      encCur := b, intra := src.force || x.frame = 0 || (1 ≤ gop && x.frame % gop = 0),
      rc := [s.inEff (VID_CTX_ENC.QUALITY e k), s.inEff (VID_CTX_ENC.QMAX_Q e k), s.inEff (VID_CTX_RC.MAX_KBPS e k), s.inEff (VID_CTX_RC.WINDOW e k)] })

/-- The frame in progress is finished: its source slot is no longer read, and the references change (R303, R304). -/
def State.encFrameEnd (s : State) (e k : Nat) : State :=
  let x := s.vctx e k
  let lt := s.flagEff (VID_CTX_ENC.LTREF e k)
  let y0 := (x.putMark x.encCur 1 true).putMark x.encCur 0 false
  let y1 := match x.encPrev with | some b => if lt && x.encIntra = some b && !x.intra then y0 else y0.putMark b 1 false | none => y0
  let y2 := match x.encIntra with | some b => if lt && x.intra then y1.putMark b 1 false else y1 | none => y1
  let y3 := { y2 with encPrev := some x.encCur, encIntra := if x.intra then some x.encCur else x.encIntra, frame := x.frame + 1, rows := 0, srcs := x.srcs.drop 1 }
  ((s.setVctx e k (y3.count 0)).wr (VID_CTX_SEQ.SEQ e k) (x.frame + 1)).undefArea (s.vidPart e) (s.poolAddr e k + x.encCur * s.bufSize e k) (s.bufSize e k)

/-- The source rows of block row r of a slot are read: luma, then chroma (R303). -/
def State.encSource (s : State) (e k slot r : Nat) : VidRes State := do
  let h := s.inEff (VID_CTX_DIM.HEIGHT e k)
  let ld := 64 * s.inEff (VID_CTX_SIZES.LD64 e k)
  let base := s.frameAddr e k slot + 64
  let n := min 64 (h - 64 * r)
  let (s1, _) ← s.vidRead e k (base + ld * (64 * r)) (ld * n)
  let (s2, _) ← s1.vidRead e k (base + ld * h + ld * (32 * r)) (ld * (n / 2))
  .ok s2

/-- A row of an encode context: a slice starts when its rows have been reported, and the row that ends it emits its record, with a record
of parameter sets ahead of the first slice of an intra frame (R304, R306, R307). With no cap the fullness F is not stated: a free value. -/
def State.encodeRow (s : State) (e k : Nat) (payload params : List Byte) : VidRes State := do
  let s0 ← s.vidSram e k
  let x := s0.vctx e k
  match x.srcs with
  | [] => .ok s0
  | src :: _ =>
    let h := s0.inEff (VID_CTX_DIM.HEIGHT e k)
    let rows := ceilDiv h 64
    let sl := s0.inEff (VID_CTX_ENC.SLICE_ROWS e k)
    let first := x.rows / sl * sl
    let last := min rows (first + sl)
    let ends := x.rows + 1 = last
    let fits := x.fill + ceilDiv (32 + payload.length) 1024 * 1024 + ceilDiv (32 + params.length) 1024 * 1024 ≤ s0.queueSize e k
    if (!src.last && src.rows16 * 16 < min h (last * 64)) || (ends && !fits) then .ok s0
    else
      let s1 ← if x.rows = 0 then s0.encFrameStart e k src else Except.ok s0
      let s2 ← s1.encSource e k src.slot x.rows
      let y := s2.vctx e k
      let av1 := s2.inEff (VID_CTX_CFG.CODEC e k) = 1
      let fps := s2.inEff (VID_CTX_CFG.FPS e k)
      let kbps := y.rc.getD 2 0
      let cap := encCap kbps (y.rc.getD 3 0) fps
      let q := if x.rows = first then encQ av1 y.intra (y.rc.getD 0 0) (y.rc.getD 1 0) kbps cap y.full else y.q
      let s3 := s2.setVctx e k { y with q := q, rows := y.rows + 1 }
      if !ends then .ok (s3.vidInject e k)
      else
        let full := if kbps = 0 then s3.free else y.full + 8 * payload.length - encDrain kbps fps (s3.encSlices e k)
        let s4 := if kbps = 0 then s3.drew else s3
        let ovf := kbps ≠ 0 && cap < full
        let sets := if y.intra && first = 0 then [encRecord (1 + 64) params y.frame s4.free (s4.drew).free (s4.drew.drew).free] else []
        let s5 := if y.intra && first = 0 then s4.drew.drew.drew else s4
        let rec0 := encRecord (2 + (if first = 0 then 16 else 0) + (if last = rows then 32 else 0) + (if y.intra then 64 else 0)) payload y.frame
          (first / sl % 256 + q % 256 * 256) (first + (last - first) * 2 ^ 16) full
        let recs := sets ++ [rec0]
        let s6 ← recs.foldlM (fun (st : State) r => do
          let z := st.vctx e k
          let st1 ← st.queueWrite e k z.wr r
          .ok (st1.setVctx e k { st1.vctx e k with wr := (z.wr + r.length) % s5.queueSize e k, fill := z.fill + r.length })) s5
        let z := s6.vctx e k
        let s7 := s6.setVctx e k (if ovf then { z with full := full }.count 3 else { z with full := full })
        let s8 := if ovf then s7.bump (VID_CTX_COUNTS.CAP_OVER e k) 1 else s7
        .ok ((if last = rows then s8.encFrameEnd e k else s8).vidInject e k)

/-- VIDEO_ROW: engine e takes the next row of context k (R295). Which bits the stream holds, or the standards code, stands in `work`. -/
def execVideoRow (e : Fin 4) (k : Fin 16) (work : RowWork) (s : State) : Next :=
  let st := s.rd (VID_CTX_STAT.STATE e k)
  if !s.vidOn e k || (st ≠ 1 && st ≠ 2) then .next s
  else
    match work with
    | .decode r => if s.inEff (VID_CTX_CFG.MODE e k) = 1 then (match s.decodeRow e k r with | .ok s1 => .next s1 | .error s1 => .next s1) else .next s
    | .encode payload params =>
      if s.inEff (VID_CTX_CFG.MODE e k) = 2 then (match s.encodeRow e k payload params with | .ok s1 => .next s1 | .error s1 => .next s1) else .next s

/-- The converted frame goes into a slot: pixels first, header last; then it is reported (R299). -/
def State.reportFrame (s : State) (e k slot : Nat) (q : VidPic) : VidRes State := do
  let fmt := s.inEff (VID_CTX_CFG.OUT_FMT e k)
  let f := 2 ^ s.inEff (VID_CTX_CFG.SCALE e k)
  let csc := q.csc.getD (s.inEff (VID_CTX_CFG.CSC_DEFAULT e k))
  let full := q.full.getD (s.flagEff (VID_CTX_CFG.RANGE_DEFAULT e k))
  let (w1, h1, _, _) := outShape q.w q.h f fmt
  let ld := 64 * s.inEff (VID_CTX_SIZES.LD64 e k)
  let base := s.frameAddr e k slot
  let s0 ← s.vidSram e k
  let (s1, _) ← (q.frameRows fmt csc full f w1 h1).foldlM (fun (acc : State × Nat) row => do
    let st ← acc.1.vidWrite e k (base + 64 + ld * acc.2) row
    .ok (st, acc.2 + 1)) (s0, 0)
  let fseq := (s1.vctx e k).fseq
  let s2 ← s1.vidWrite e k base (frameHeader fseq w1 h1 fmt csc q.order (Cells.get 0 s1.aon 1 % 2 ^ 32) q.concealed q.intra full q.depth10)
  let x := s2.vctx e k
  let outs := x.outs.drop 1
  let y := if outs.any (fun o => o.buf = q.buf) then x else x.putMark q.buf 2 false
  let y1 : VidCtx := { y with outs := outs, fseq := fseq + 1, slots := y.slots.filter (fun t => t.slot ≠ slot) ++ [⟨slot, fseq, [], []⟩] }
  let y2 := y1.count 0
  let y3 := if q.concealed then y2.count 2 else y2
  let y4 := if q.grain then y3.count 4 else y3
  let s3 := (s2.setVctx e k y4).wr (VID_CTX_SEQ.SEQ e k) (fseq + 1)
  let s4 := if q.concealed then s3.bump (VID_CTX_COUNTS.CONCEALED e k) 1 else s3
  .ok (if q.grain then s4.bump (VID_CTX_COUNTS.FG_SKIPPED e k) 1 else s4)

/-- FRAME_REPORT: the output stage converts the next picture into a slot; with none free it waits, or overwrites the oldest slot that no
channel holds (R299, R301). Which free slot it takes is not stated: a free value. -/
def execFrameReport (e : Fin 4) (k : Fin 16) (s : State) : Next :=
  let st := s.rd (VID_CTX_STAT.STATE e k)
  let x := s.vctx e k
  if !s.vidOn e k || (st ≠ 1 && st ≠ 2) || s.inEff (VID_CTX_CFG.MODE e k) ≠ 1 then .next s
  else
    match x.outs with
    | [] => .next s
    | q :: _ =>
      let put (st : State) (slot : Nat) : Next :=
        let x1 := st.vctx e k
        match (st.setVctx e k { x1 with slots := x1.slots.filter (fun t => t.slot ≠ slot) }).reportFrame e k slot q with
        | .ok s1 => .next s1
        | .error s1 => .next s1
      let fs := s.freeSlots e k
      match fs[s.free % fs.length]? with
      | some slot => put s.drew slot
      | none =>
        if !s.flagEff (VID_CTX_CFG.OVERRUN e k) then .next s
        else
          match x.slots.find? (fun t => t.held.isEmpty) with
          | none => .next s
          | some t => put ((s.setVctx e k (x.count 1)).bump (VID_CTX_COUNTS.DROPS e k) 1) t.slot

/-- VID_FLUSH: VID_CTX_CTRL.FLUSH of a decode context (R297). -/
def execVidFlush (e : Fin 4) (k : Fin 16) (s : State) : Next :=
  let x := s.vctx e k
  .next (if !s.vidOn e k || s.inEff (VID_CTX_CFG.MODE e k) ≠ 1 then s
    else
      let y : VidCtx := { x with outs := x.outs ++ x.waiting, fill := 0, cur := none }
      let y1 := (List.range 17).foldl (fun (z : VidCtx) b => (z.putMark b 1 false).putMark b 0 false) y
      (s.setVctx e k y1).wr (VID_CTX_STAT.STATE e k) 1)

/-- A HALTED context returns to WAIT_SYNC (R310). -/
def State.vidResumed (s : State) (e k : Nat) : State :=
  ((s.setVctx e k { s.vctx e k with resume := false }).wr (VID_CTX_STAT.STATE e k) 1).wr (VID_CTX_STAT.CAUSE e k) 0

/-- VID_RESUME: VID_CTX_CTRL.RESUME; it waits while a VIDEO_ERROR record of the partition is held (R310, R356). -/
def execVidResume (e : Fin 4) (k : Fin 16) (s : State) : Next :=
  .next (if s.rd (VID_CTX_STAT.STATE e k) ≠ 3 then s
    else if s.holds (s.vidPart e) 0x15 then s.setVctx e k { s.vctx e k with resume := true }
    else s.vidResumed e k)

/-- A write of VID_CTX_SRC that names rows of a source frame (R304). -/
def State.vidSource (s : State) (e k slot rows16 : Nat) (last force : Bool) : State :=
  let x := s.vctx e k
  let bad := s.raise (VID_CTX_STAT.SRC_BAD e k)
  if !s.vidOn e k || s.inEff (VID_CTX_CFG.MODE e k) ≠ 2 then s
  else if s.slotCount e k ≤ slot then bad
  else
    match x.srcs.getLast? with
    | some p =>
      if p.last then s.setVctx e k { x with srcs := x.srcs ++ [⟨slot, rows16, last, force⟩] }
      else if p.slot ≠ slot ∨ rows16 < p.rows16 then bad
      else s.setVctx e k { x with srcs := x.srcs.dropLast ++ [⟨slot, rows16, last, p.force || force⟩] }
    | none => s.setVctx e k { x with srcs := [⟨slot, rows16, last, force⟩] }

/-- VID_CTX_SRC: by PF0, or by the VF of the partition that owns the engine; another VF finds nothing there (R304, R313). -/
def execVidCtxSrc (e : Fin 4) (k : Fin 16) (fn : Func) (slot : Fin 16) (rows16 : Fin 4096) (last force : Bool) (s : State) : Next :=
  .next (match fn with
    | .pf0 => s.vidSource e k slot rows16 last force
    | .vf v => if s.flag (VID_ENG_PART.ASSIGNED e) ∧ s.vidPart e = v.val then s.vidSource e k slot rows16 last force else s.logUr)

end Sys2Proof.Machine
end

