-- ==== Sys2Proof/Machine/HostIf.lean ====
section
/-! DEFINITION. The commands of the host interface: link, apertures, rings, resets, mailboxes, interrupts (R338 to R369). -/

namespace Sys2Proof.Machine
open Reg

/-! The link (R338, R342, R359). -/

/-- PCIE_LINK_UP: the link is in L0 at a rate and width (Table 12.12). -/
def execPcieLinkUp (speed width : Fin 16) (flit : Bool) (s : State) : Next :=
  let chg := !s.flag PCI_LINK.UP || s.rd PCI_LINK.SPEED ≠ speed || s.rd PCI_LINK.WIDTH ≠ width
  .next (((((s.wr PCI_LINK.UP 1).wr PCI_LINK.SPEED speed).wr PCI_LINK.WIDTH width).wr PCI_LINK.FLIT (b2n flit)).raiseIf chg PCI_ERR_STAT.LINK_CHG)

/-- A request of the module to the host ends without data: a bus error or a ring fault (Table 12.2, R355). -/
def State.hostReqFailed (s : State) (who : HostReq) : State :=
  match who with
  | .sq p => s.sqFault p 1
  | .dma a => s.hdmaStop 1 a.toNat none

/-- The link leaves L0 (R359). -/
def State.linkDown (s : State) : State :=
  if s.flag PCI_LINK.UP then ((s.wr PCI_LINK.UP 0).bump PCI_LINK.DOWNS 1).raise PCI_ERR_STAT.LINK_CHG else s

/-- LINK_LOSS: the requests outstanding to the host complete at once as a Completion Timeout; an armed PCI_INJ.LINK is one such event (R359, Table 12.14). -/
def execLinkLoss (waiting : List HostReq) (s : State) : Next :=
  .next (if !s.flag PCI_LINK.UP then s
    else (waiting.foldl (fun st w => st.hostReqFailed w) (s.wr PCI_INJ.LINK 0).linkDown).raiseIf (!waiting.isEmpty) PCI_ERR_STAT.CTO)

/-- RECEIVED_TLP_ERROR: a TLP with EP set, or with an ECRC mismatch, is discarded; a read request with EP completes with UR (Table 12.2). -/
def execReceivedTlpError (poisoned read : Bool) (s : State) : Next :=
  .next (if poisoned then (let s1 := s.raise PCI_ERR_STAT.POISON_RX; if read then s1.send .unsupported else s1) else s.raise PCI_ERR_STAT.ECRC)

/-- COMPLETION_TIMEOUT: a request of the module has had no completion (Table 12.2). -/
def execCompletionTimeout (who : HostReq) (s : State) : Next := .next ((s.raise PCI_ERR_STAT.CTO).hostReqFailed who)

/-! Apertures (R344 to R346, R248). -/

/-- The next request received is refused with UR by an armed PCI_INJ.UR (Table 12.14). -/
def State.refuseUr (s : State) (read : Bool) : State := if read then s.logUr.send .unsupported else s.logUr

/-- A refusal with CA (Table 12.2). -/
def State.refuseCa (s : State) (read : Bool) : State := if read then s.logCa.send .completerAbort else s.logCa

/-- Bytes of port n as its packages hold them, past the decoder and around the cipher pipe (R248); false when a unit is uncorrectable. -/
def State.cipherRead (s : State) (n a len : Nat) : State × Bool × List Byte :=
  let us := unitsOf a len
  let s1 := us.foldl (fun st u => st.countFixes n u) (s.wakePort n)
  match us.find? (fun u => s1.unitLost (s1.place n (u * 128))) with
  | some u => (s1.reportLost n u (MEM_ERR_STAT.UE n), false, [])
  | none => (s1, true, ((us.flatMap (fun u => s1.rawUnit (s1.place n (u * 128)))).drop (a % 128)).take len)

/-- An aperture access ends: data of a read, or CA (Table 12.2). -/
def State.apertureEnd (s : State) (ok read : Bool) (data : List Byte) : State :=
  if !ok then s.refuseCa read else if read then s.send (.readData data) else s

/-- PF0_APERTURE_ACCESS: offset `off` of BAR2, a read of `len` bytes or a write of `data` (R344, R248, R388). -/
def execPf0ApertureAccess (off : BitVec 36) (len : Fin 4097) (data : Option (List Byte)) (framOk : Bool) (s : State) : Next :=
  let n := s.rd PCI_APER0.PORT
  let a := off.toNat
  .next (
    if s.flag PCI_INJ.UR then (s.wr PCI_INJ.UR 0).refuseUr data.isNone
    else if s.portCap < a + (match data with | some d => d.length | none => len.val) then s.refuseUr data.isNone
    else if !s.portUp n then s
    else
      match s.partOf n, data with
      | some _, some _ => s.refuseCa false
      | some p, none =>
        let (s1, ok) := s.debugAccess p framOk
        if !ok then s1.refuseCa true else let r := s1.cipherRead n a len.val; r.1.apertureEnd r.2.1 true r.2.2
      | none, some d => let r := s.portWrite .hostAperture n a d; r.1.apertureEnd (r.2 = .ok) false []
      | none, none => let r := s.portRead .hostAperture n a len.val; r.1.apertureEnd (r.2.1 = .ok) true r.2.2)

/-- VF_APERTURE_ACCESS: offset `off` of VF v's BAR2 (R345). -/
def execVfApertureAccess (v : Part) (off : BitVec 34) (len : Fin 4097) (data : Option (List Byte)) (s : State) : Next :=
  let addr := (s.rd (PCI_APER.WIN v) * 2 ^ 34 + off.toNat) % 2 ^ 40
  .next (
    if s.flag PCI_INJ.UR then (s.wr PCI_INJ.UR 0).refuseUr data.isNone
    else
      match data with
      | some d => let r := s.partWrite .hostAperture v addr d; r.1.apertureEnd (r.2 = .ok) false []
      | none => let r := s.partRead .hostAperture v addr len.val; r.1.apertureEnd (r.2.1 = .ok) true r.2.2)

/-! Resets (R357, R358). -/

/-- VF_FLR: a Function Level Reset of VF v completes. -/
def execVfFlr (v : Part) (s : State) : Next := .next (s.flr v)

/-- PF_RESET: an FLR of PF0, a hot reset or PERST#. -/
def execPfReset (s : State) : Next :=
  let s1 := (List.range 8).foldl (fun st v => st.flr v) s
  .next ((((((s1.clearRegs bar4B (bar4B + 0x100000)).msixReset 0).wr PCI_APER0.PORT 0).wr PCI_PF_VEC.MBX 0).mbxReset 3).raise PCI_ERR_STAT.PF_RST)

/-! Rings (R350, R353, R355, R356, R369). -/

/-- RING_ENABLE: a write of PCI_RING_CFG. While ENABLE is 1 the other fields stay; a write that sets ENABLE is checked. -/
def execRingEnable (v : Part) (value : Word) (s : State) : Next :=
  let w := value.toNat
  let en := bit w 31
  let fs := ringCfgFields v
  .next (
    if s.flag (PCI_RING_CFG.ENABLE v) then
      (s.wr (PCI_RING_CFG.ENABLE v) (b2n en)).raiseIf (fs.any (fun f => s.rd f ≠ bits w f.lo f.width)) (PCI_RING_STAT.CFG_BUSY_WR v)
    else
      let s1 := fs.foldl (fun st f => st.wr f (bits w f.lo f.width)) s
      if !en then s1
      else if s.tearing v then s1.raise (PCI_RING_STAT.CFG_BUSY_WR v)
      else
        match failingRule (s1.ringRules v) with
        | some k => (s1.raise (PCI_RING_STAT.CFG_MISMATCH v)).wr (PCI_RING_STAT.CFG_RULE v) k
        | none => s1.ringsOn v)

/-- OQ_FREE_WRITE: the host hands output entries over (R353). -/
def execOqFreeWrite (v : Part) (index : BitVec 16) (s : State) : Next := .next (s.wr (PCI_OQ_FREE.INDEX v) index.toNat)

/-- EQ_HEAD_WRITE: the host has consumed event entries (R355). -/
def execEqHeadWrite (v : Part) (index : BitVec 16) (s : State) : Next := .next (s.wr (PCI_EQ_HEAD.INDEX v) index.toNat)

/-- What waited for a held record to be queued goes on: contexts that a RESUME was written for, and the host/video engine (R356). -/
def State.recordsMoved (s : State) : State :=
  let s1 := (List.range 64).foldl (fun st i =>
    let e := i / 16
    let k := i % 16
    if (st.vctx e k).resume && !st.holds (st.vidPart e) 0x15 then st.vidResumed e k else st) s
  if s1.hdma.restart && !(List.range 8).any (fun p => s1.holds p 0x14) then s1.hdmaRestarted else s1

/-- The entry of a ring at an index: its host address. -/
def ringEntry (base log2 size index : Nat) : Nat := base + index % 2 ^ log2 * size

/-- EVENT_RECORD_WRITE: the oldest record of partition p into the event ring, the tail word, the vector (R355). -/
def execEventRecordWrite (p : Part) (s : State) : Next :=
  match s.records p with
  | [] => .next s
  | r :: rest =>
    .next (
      if !s.flag (PCI_RING_CFG.ENABLE p) || s.eqFull p then s
      else
        let tail := s.rd (PCI_EQ_TAIL.INDEX p)
        let next := (tail + 1) % 65536
        let base := s.rd (PCI_EQ_LO.ADDR p) + s.rd (PCI_EQ_HI.ADDR p) * 2 ^ 32
        let word := s.rd (PCI_EQW_LO.ADDR p) + s.rd (PCI_EQW_HI.ADDR p) * 2 ^ 32
        let s1 := { s with evq := Cells.set [] s.evq p rest }.send (.hostWrite (1 + p) (ringEntry base (s.rd (PCI_RING_CFG.EQ_LOG2 p)) 64 tail) r)
        let s2 := (s1.wr (PCI_EQ_TAIL.INDEX p) next).send (.hostWrite (1 + p) word (leBytes 4 next))
        (if s2.flag (PCI_RING_CFG.EQ_IRQ p) then s2.sendVec (1 + p) (s2.rd (PCI_VEC.EQ p)) else s2).recordsMoved)

/-- SUBMISSION_READ_FAULT: a submission read timed out, or completed unsuccessfully (R355). -/
def execSubmissionReadFault (p : Part) (timeout : Bool) (s : State) : Next :=
  .next ((s.raise (if timeout then PCI_ERR_STAT.CTO else PCI_ERR_STAT.UC_RX)).sqFault p (if timeout then 1 else 2))

/-! Mailboxes (R361 to R363). -/

/-- MBX_SEND: a write of MBX_SENDt in the sender's block. -/
def execMbxSend (sender target : Fin 12) (word : Word) (s : State) : Next :=
  let s1 := s.wr (MBX_STAT.TARGET sender) target
  .next (
    if !mbxAllowed sender target then s1.raise (MBX_STAT.DENIED sender)
    else if s.recvReset target then s1.raise (MBX_STAT.ABORTED sender)
    else if s.flag (MBX_IN_FROM.FULL target) then s1.raise (MBX_STAT.DROPPED sender)
    else s1.mbxChange target (fun st =>
      ((st.wr (MBX_IN_FROM.FULL target) 1).wr (MBX_IN_FROM.FROM target) sender).wr (MBX_IN_DATA.DATA target) word.toNat))

/-- MBX_RING: a write of MBX_RINGt in the sender's block. -/
def execMbxRing (sender target : Fin 12) (bells : Word) (s : State) : Next :=
  let s1 := s.wr (MBX_STAT.TARGET sender) target
  .next (
    if !mbxAllowed sender target then s1.raise (MBX_STAT.DENIED sender)
    else if s.recvReset target then s1.raise (MBX_STAT.ABORTED sender)
    else s1.mbxChange target (fun st => st.wr (MBX_DB_PEND.PEND target) (st.rd (MBX_DB_PEND.PEND target) ||| bells.toNat)))

/-- MBX_IN_DATA_READ: receiver t reads its message, which clears FULL. -/
def execMbxInDataRead (t : Fin 12) (s : State) : Next :=
  let v := s.rd (MBX_IN_DATA.DATA t)
  let s1 := (s.wr (MBX_IN_DATA.DATA t) 0).wr (MBX_IN_FROM.FULL t) 0
  .next (s1.send (if t.val < 3 then .busData v else .readData (leBytes 4 v)))

/-! Interrupts (R364 to R367). -/

/-- IRQ_FILTER_SETTLE: the raw level of a source has held for COUNT cycles. -/
def execIrqFilterSettle (src : Fin 112) (s : State) : Next :=
  let f := IRQ_LEVEL.LEVEL (src / 32)
  let v := s.rd f
  let m := 2 ^ (src.val % 32)
  .next ((s.irqTick.wr f (if s.irqRaw src then v ||| m else if bit v (src % 32) then v - m else v)).irqTick)

/-- IRQ_PEND_WRITE: word w; what hardware sets in the same cycle stays set (R365). -/
def execIrqPendWrite (w : Fin 4) (value : Word) (s : State) : Next :=
  .next (s.irqTick.irqWrite (fun st => st.wr (IRQ_PEND.PEND w) (value.toNat ||| st.rd (IRQ_LEVEL.LEVEL w))))

/-- IRQ_CLAIM: a read of IRQ_CLAIMp; `soon` tells that it comes in the cycle after the last write of IRQ_PEND or IRQ_MASK (R366, R367). -/
def execIrqClaim (p : Fin 3) (soon : Bool) (s : State) : Next :=
  let s1 := s.irqTick
  .next (
    if s1.flag (IRQ_CLAIM.IN_SERVICE p) then s1.send (.busData (s1.rd (IRQ_CLAIM.SOURCE p) + 128))
    else
      match s1.irqLowest p with
      | some src =>
        let f := IRQ_PEND.PEND (src / 32)
        (((s1.wr f (s1.rd f - 2 ^ (src % 32))).wr (IRQ_CLAIM.SOURCE p) src).wr (IRQ_CLAIM.IN_SERVICE p) 1).send (.busData (src + 128))
      | none => s1.send (.busData (if soon && Cells.get false s1.host.withdrawn p then 127 else 0)))

/-- IRQ_DONE: a write of IRQ_DONEp with DONE 1. -/
def execIrqDone (p : Fin 3) (s : State) : Next := .next (s.irqTick.wr (IRQ_CLAIM.IN_SERVICE p) 0)

end Sys2Proof.Machine
end

