-- ==== Sys2Proof/Machine/FabOps.lean ====
section
/-! DEFINITION. The fabric: flits, planes, egress, ingress checks, completions, barriers, the checkpoint engine (R315 to R335). -/

namespace Sys2Proof.Machine
open Reg

def State.link (s : State) (pl : Nat) : FabLink := Cells.get {} s.fab.link pl
def State.setLink (s : State) (pl : Nat) (x : FabLink) : State := { s with fab := { s.fab with link := Cells.set {} s.fab.link pl x } }

/-- Counter `i` of a plane gains one (Table 11.20): saturating where it is read, 64 bits in the dictionary. -/
def State.fabCount (s : State) (pl i : Nat) : State :=
  let k := 8 * pl + i
  { s with fab := { s.fab with cnt := Cells.set 0 s.fab.cnt k (satAdd (2 ^ 32 - 1) (Cells.get 0 s.fab.cnt k) 1),
                               total := Cells.set 0 s.fab.total k ((Cells.get 0 s.fab.total k + 1) % 2 ^ 64) } }

/-! Flits. -/

/-- The CRC-32 of IEEE 802.3 over bytes, from a running remainder. -/
def crcBits : Nat → Nat → Nat
  | 0, r => r
  | n + 1, r => crcBits n (if r % 2 = 1 then (r / 2) ^^^ 0xEDB88320 else r / 2)
def crc32 (l : List Byte) : Nat := (l.foldl (fun r b => crcBits 8 (r ^^^ b.toNat)) 0xFFFFFFFF) ^^^ 0xFFFFFFFF

/-- Bytes filled with zeros to a multiple of 64. -/
def pad64 (l : List Byte) : List Byte := l ++ List.replicate (ceilDiv l.length 64 * 64 - l.length) 0

/-- The virtual channel of a packet TYPE (Table 11.3). -/
def vcOf (typ : Nat) : Nat := if typ = 0x13 then 0 else if typ = 0x10 then 1 else if typ = 0x11 then 2 else 3

/-- The flits of a packet (R323). -/
def fabFlits (k : FabPkt) : Nat := if k.typ = 0x10 ∨ k.typ = 0x12 then 1 + ceilDiv k.data.length 64 else 1

/-- The header flit with a PCRC (Table 11.5). -/
def fabHeader (k : FabPkt) (crc : Nat) : List Byte :=
  leBytes 4 (k.typ + vcOf k.typ * 2 ^ 8 + k.keyPhase * 2 ^ 10 + b2n k.retry * 2 ^ 11 + k.epoch * 2 ^ 12 + k.tenant * 2 ^ 16) ++
  leBytes 4 (k.dst + k.src * 2 ^ 8) ++ leBytes 4 k.addr ++ leBytes 4 (bits k.addr 32 8 + k.pseq * 2 ^ 16) ++ leBytes 4 k.bytes ++
  leBytes 4 (k.tag + k.status * 2 ^ 16 + k.barrier * 2 ^ 24) ++ leBytes 4 k.gen ++ leBytes 4 crc ++ List.replicate 32 0

/-- A packet as it is sent; an injected CRC error inverts PCRC (R323, Table 11.10). -/
def fabWire (k : FabPkt) : List Byte :=
  let crc := crc32 (fabHeader k 0 ++ pad64 k.data)
  fabHeader k (if k.crcBad then crc ^^^ 0xFFFFFFFF else crc) ++ pad64 k.data

/-- A control flit (Table 11.2). -/
def controlFlit (ack : Nat) (nack : Bool) (cred : List Nat) (comps : List (Nat × Nat × Nat × Nat)) : List Byte :=
  pad64 (leBytes 4 (1 + ack * 2 ^ 16 + b2n nack * 2 ^ 26) ++ (List.range 4).flatMap (fun v => leBytes 2 (cred.getD v 0)) ++ leBytes 4 comps.length ++
    comps.flatMap (fun c => leBytes 4 (c.1 + c.2.1 * 2 ^ 8 + c.2.2.1 * 2 ^ 16) ++ leBytes 4 c.2.2.2))

/-- The module's control flit on a plane, with completions: to, from, status, PSEQ. -/
def State.sendControl (s : State) (pl : Nat) (comps : List (Nat × Nat × Nat × Nat)) : State :=
  let x := s.link pl
  s.send (.flits pl (controlFlit x.acc x.discard x.rxFreed comps))

/-- The flits that the module's ingress buffers hold per virtual channel (Table 11.3). -/
def fabBuffers : List Nat := [32, 1024, 64, 512]

/-- The module's own HELLO on a plane (Table 11.4). -/
def State.helloFlit (s : State) (pl : Nat) : List Byte :=
  let v := s.rd FAB_ID.ID_VALID
  pad64 (leBytes 4 (2 + 2 ^ 9 + (1 - (s.link pl).pref) * 2 ^ 10 + v * 2 ^ 11 + s.rd FAB_ID.MODULE_ID * 2 ^ 12) ++
    leBytes 4 (if v = 1 then s.rd FAB_ID.DOMAIN else 0) ++ fabBuffers.flatMap (leBytes 2))

/-! Partitions on the fabric. -/

/-- The partition's checkpoint job. -/
def State.ckJob (s : State) (p : Nat) : Option CkJob := Cells.get none s.fab.ck p
def State.setCk (s : State) (p : Nat) (j : Option CkJob) : State := { s with fab := { s.fab with ck := Cells.set none s.fab.ck p j } }

/-- The regions of partition p admit the fabric to a stretch of port n (R246). -/
def State.fabAdmits (s : State) (p n a len : Nat) : Bool :=
  a + len ≤ s.portCap && !s.keyFault p &&
  (unitsOf a len).all (fun u => match s.regionOf p n u with | some r => s.admits .fabric p r | none => false)

/-- Read partition memory for the fabric: a status of Table 11.7, and the data. -/
def State.fabRead (s : State) (p addr len : Nat) : State × Nat × List Byte :=
  match s.partAddr p addr with
  | none => (s, 4, [])
  | some (n, a) =>
    match s.portRead .fabric n a len with
    | (s1, .ok, b) => (s1, 0, b)
    | (s1, .refused, _) => (s1, if s.fabAdmits p n a len then 6 else 5, [])
    | (s1, .uncorrectable, _) => (s1, 7, [])

/-- Write partition memory for the fabric: a status of Table 11.7. -/
def State.fabWrite (s : State) (p addr : Nat) (data : List Byte) : State × Nat :=
  match s.partAddr p addr with
  | none => (s, 4)
  | some (n, a) =>
    match s.portWrite .fabric n a data with
    | (s1, .ok) => (s1, 0)
    | (s1, .refused) => (s1, if s.fabAdmits p n a data.length then 6 else 5)
    | (s1, .uncorrectable) => (s1, 7)

/-- The fabric cipher pipe on the bytes of a partition address: unit by unit, the tweak the address shifted right by 7 (R251). -/
def fabCipher (f : List Byte → Nat → List Byte → List Byte) (key : List Byte) (addr : Nat) (data : List Byte) : List Byte :=
  ((unitsOf addr data.length).flatMap (fun u =>
    fit128 (f key u ((List.range 128).map (fun i => if addr ≤ u * 128 + i then data.getD (u * 128 + i - addr) 0 else 0))))).drop (addr % 128) |>.take data.length

/-! Egress. -/

/-- The requester of Table 9.6 that a packet of the egress belongs to. -/
def TxOwner.requester : TxOwner → Nat
  | .chan k => k / 4
  | .response => 16
  | .release => 17
  | .checkpoint => 18

/-- A plane that is UP reaches module m (R322). -/
def State.reaches (s : State) (pl m : Nat) : Bool := s.rd (FAB_PLANE.STATE pl) = 4 && bit (s.rd (FAB_REACH.REACH pl (m / 32))) (m % 32)

/-- The plane on which a packet goes: its own, the other one for a resend, else the one that reaches the destination (R325, R328). -/
def State.fabRoute (s : State) (t : TxPkt) : Option Nat :=
  let pref := if t.resent then 1 - t.plane else t.plane
  if s.reaches pref t.pkt.dst then some pref else if s.reaches (1 - pref) t.pkt.dst then some (1 - pref) else none

/-- A packet joins the egress. -/
def State.queueTx (s : State) (t : TxPkt) : State := { s with fab := { s.fab with sendQ := s.fab.sendQ ++ [t] } }

/-- The virtual channel holds credits for all flits of a packet (R319). -/
def FabLink.hasCredit (x : FabLink) (vc n : Nat) : Bool :=
  n ≤ (x.credInit.getD vc 0 + x.credFreed.getD vc 0 + 65536 - x.credUsed.getD vc 0 % 65536) % 65536

/-- The next chunk of a checkpoint job: its packet joins the egress, or the job is about to end (R333, R334). -/
def State.ckNext (s : State) (p : Nat) : State :=
  match s.ckJob p with
  | none => s
  | some j =>
    let stop (st : State) (c : Nat) : State := st.setCk p (some { j with outcome := some c })
    if j.outcome.isSome then s
    else if j.count ≤ j.entry then stop s 0
    else
      let r := match j.words with
        | some w => (s, 0, w)
        | none => let x := s.fabRead p (j.list + 32 * j.entry) 32; (x.1, x.2.1, wordsOfBytes 8 x.2.2)
      if r.2.1 ≠ 0 then stop r.1 r.2.1
      else
        let w := r.2.2
        let lcl := dfld w 0 0 32 + dfld w 4 0 8 * 2 ^ 32
        let rmt := dfld w 8 0 32 + dfld w 12 0 8 * 2 ^ 32
        let n := dfld w 16 0 32
        if lcl % 128 ≠ 0 ∨ rmt % 128 ≠ 0 ∨ n % 128 ≠ 0 ∨ n = 0 then stop r.1 4
        else
          let len := min (n - j.off) (1024 - (rmt + j.off) % 1024)
          let s1 := r.1.setCk p (some { j with words := some w })
          if j.pull then
            { s1 with fab := { s1.fab with tag := (s1.fab.tag + 1) % 65536 } }.queueTx
              { pkt := { typ := 0x11, dst := j.peer, addr := rmt + j.off, bytes := len, tag := s1.fab.tag, plain := true }, part := p, owner := .checkpoint }
          else
            match s1.fabRead p (lcl + j.off) len with
            | (s2, 0, b) => s2.queueTx { pkt := { typ := 0x10, dst := j.peer, addr := rmt + j.off, bytes := len, data := b, plain := true }, part := p, owner := .checkpoint }
            | (s2, c, _) => stop s2 c

/-- A packet of the checkpoint job has completed with a status (R334). -/
def State.ckDone (s : State) (p len status : Nat) : State :=
  match s.ckJob p with
  | none => s
  | some j =>
    if status ≠ 0 then s.setCk p (some { j with outcome := some status })
    else
      let s1 := s.wr (FAB_CK_BYTES.UNITS p) (s.rd (FAB_CK_BYTES.UNITS p) + len / 128)
      let n := dfld (j.words.getD []) 16 0 32
      (if n ≤ j.off + len then s1.setCk p (some { j with entry := j.entry + 1, off := 0, words := none })
       else s1.setCk p (some { j with off := j.off + len })).ckNext p

/-- A sent packet has completed: other than OK it raises SEND_ERR, and stops the group of a tensor DMA channel (R328). -/
def State.txDone (s : State) (t : TxPkt) (status : Nat) : State :=
  let s1 := if status = 0 ∨ t.owner = TxOwner.response then s
    else
      let s0 := if s.fab.errSeen then s
        else ((({ s with fab := { s.fab with errSeen := true } }).wr FAB_ERR_INFO.PEER t.pkt.dst).wr FAB_ERR_INFO.STATUS status).wr FAB_ERR_INFO.PART t.part
      s0.raise FAB_ERR_STAT.SEND_ERR
  match t.owner with
  | .chan k => if status = 0 then s1 else s1.tdmaStop (k / 4) 4 (t.pkt.addr + t.pkt.dst * 2 ^ 40) (k % 4)
  | .checkpoint => s1.ckDone t.part t.pkt.bytes status
  | _ => s1

/-- The outstanding packets that a test selects complete with a status. -/
def State.completeAll (s : State) (sel : TxPkt → Bool) (status : Nat) : State :=
  let ts := s.fab.outst.filter sel
  ts.foldl (fun st t => st.txDone t status) { s with fab := { s.fab with outst := s.fab.outst.filter (fun t => !sel t) } }

/-- A completion entry for this module has arrived (R326). -/
def State.completion (s : State) (src status pseq : Nat) : State :=
  s.completeAll (fun t => t.pkt.dst = src && t.pkt.pseq = pseq && (t.pkt.typ = 0x10 || t.pkt.typ = 0x13)) status

/-- An outstanding packet fails: the first time it is resent with RETRY, the second time it completes with TIMEOUT (R328). -/
def State.txFailed (s : State) (t : TxPkt) : State :=
  let s1 : State := { s with fab := { s.fab with outst := s.fab.outst.erase t } }
  if t.resent then s1.txDone t 9
  else
    let t' := { t with resent := true, pkt := { t.pkt with retry := true } }
    ({ s1 with fab := { s1.fab with sendQ := t' :: s1.fab.sendQ } }).fabCount t.plane 7

/-! Planes. -/

/-- Peer m is reachable (R322). -/
def State.peerUp (s : State) (m : Nat) : Bool := s.reaches 0 m || s.reaches 1 m

/-- A change of what the planes reach: peers that become unreachable on both are lost (R322). -/
def State.withReach (s : State) (f : State → State) : State :=
  let s1 := f s
  let lost := (List.range 128).filter (fun m => s.peerUp m && !s1.peerUp m)
  if lost.isEmpty then s1
  else
    let gone (t : TxPkt) : Bool := lost.contains t.pkt.dst
    let again := s1.fab.sendQ.filter (fun t => t.resent && gone t)
    let s2 : State := { s1 with fab := { s1.fab with sendQ := s1.fab.sendQ.filter (fun t => !(t.resent && gone t)) } }
    (again.foldl (fun st t => st.txDone t 0xA) (s2.completeAll gone 0xA)).raise FAB_ERR_STAT.PEER_LOST

/-- ID_VALID falls when no plane holds the module ID (R321). -/
def State.idCheck (s : State) : State := if (s.link 0).hasId || (s.link 1).hasId then s else s.wr FAB_ID.ID_VALID 0

/-- FAB_CFG enables a plane. -/
def State.planeOn (s : State) (pl : Nat) : Bool := s.flagEff (if pl = 0 then FAB_CFG.EN_A else FAB_CFG.EN_B)

/-- A plane starts from step 1 of its bring-up, with FEC_PREF as it is now (R320, R336). -/
def State.planeTrain (s : State) (pl : Nat) : State :=
  ((s.wr (FAB_PLANE.STATE pl) 1).wr (FAB_PLANE.LANES_OK pl) 0).setLink pl { pref := s.inEff FAB_CFG.FEC_PREF }

/-- A plane goes DOWN: its reach map is cleared, packets outstanding on it are resent, and it retrains while it is enabled (R322, R328). -/
def State.planeFall (s : State) (pl : Nat) : State :=
  if s.rd (FAB_PLANE.STATE pl) = 0 then s
  else
    let s1 := s.withReach (fun st =>
      let a := (((st.wr (FAB_PLANE.STATE pl) 0).wr (FAB_PLANE.LL pl) 0).wr (FAB_PLANE.LANES_OK pl) 0).setLink pl {}
      (List.range 4).foldl (fun x w => x.wr (FAB_REACH.REACH pl w) 0) a)
    let s2 := ((s1.bump (FAB_PLANE.DOWNS pl) 1).raise FAB_ERR_STAT.PLANE_DOWN).idCheck
    let s3 := (s2.fab.outst.filter (fun t => t.plane = pl && t.pkt.dst ≠ s2.rd FAB_ID.MODULE_ID)).foldl (fun st t => st.txFailed t) s2
    if s3.planeOn pl then s3.planeTrain pl else s3

/-- An armed FAB_INJ.DOWN takes a plane that carries codewords down once (Table 11.10). -/
def State.planeInjected (s : State) (pl : Nat) : State :=
  if s.flag FAB_INJ.DOWN && s.rd FAB_INJ.PLANE = pl && 2 ≤ s.rd (FAB_PLANE.STATE pl) then (s.wr FAB_INJ.DOWN 0).planeFall pl else s

/-- The receiver accepts flits of the plane: it holds lock and discards nothing (R318). -/
def State.rxOpen (s : State) (pl : Nat) : Bool := 3 ≤ s.rd (FAB_PLANE.STATE pl) && !(s.link pl).discard

/-- A packet's flits leave the ingress buffer (R319). -/
def State.rxFree (s : State) (pl vc n : Nat) : State :=
  let x := s.link pl
  s.setLink pl { x with rxFreed := x.rxFreed.set vc ((x.rxFreed.getD vc 0 + n) % 65536) }

/-! Ingress. -/

/-- A fabric address is that of a barrier's or an event counter's window (Table 11.6). -/
def isBarrier (addr : Nat) : Bool := 0xFFFFFE000 ≤ addr % 2 ^ 36 && addr % 2 ^ 36 < 0xFFFFFE100
def isEvent (addr : Nat) : Bool := 0xFFFFFF000 ≤ addr % 2 ^ 36 && addr % 2 ^ 36 < 0xFFFFFF200

/-- What a fabric address leads to (Table 11.6). -/
inductive FabTarget where
  | mem
  | sram (n off : Nat)
  | way (w off : Nat)
  | barrier (b : Nat)
  | event (n c : Nat)
deriving DecidableEq, Repr

/-- The ways of partition p, ascending (R324). -/
def State.waysOf (s : State) (p : Nat) : List Nat := (List.range 16).filter (fun w => (s.lathesOf p).any (fun n => bit (s.rd (LTH_PART.WAY_MASK n)) w))

/-- The decode of Table 11.6 for partition p: none where it refuses. -/
def State.fabTarget (s : State) (p addr len : Nat) : Option FabTarget :=
  let a := addr % 2 ^ 36
  if isBarrier addr then (if a % 16 = 0 ∧ len = 16 then some (.barrier ((a - 0xFFFFFE000) / 16)) else none)
  else
    match s.latheAt p (addr / 2 ^ 36 % 16) with
    | none => none
    | some n =>
      if isEvent addr then (if a % 16 = 0 ∧ len = 16 then some (.event n ((a - 0xFFFFFF000) / 16)) else none)
      else if a + len ≤ 0xFFFE00000 then (if a < s.portCap then some .mem else none)
      else if 0xFFFE00000 ≤ a ∧ a + len ≤ 0xFFFE00000 + s.inEff (FAB_PWIN.LSIZE p) * 65536 then
        some (.sram n (s.inEff (FAB_PWIN.LBASE p) * 65536 + (a - 0xFFFE00000)))
      else if 0xFFFF00000 ≤ a ∧ a + len ≤ 0xFFFF00000 + s.inEff (FAB_PWIN.WSIZE p) * 65536 then
        match (s.waysOf p)[addr / 2 ^ 36 % 16]? with
        | some w => some (.way w (s.inEff (FAB_PWIN.WBASE p) * 65536 + (a - 0xFFFF00000)))
        | none => none
      else none

/-- The enabled partition with a tenant ID. -/
def State.partOfTenant (s : State) (t : Nat) : Option Nat := (List.range 8).find? (fun p => s.flag (FAB_PSTAT.ENABLED p) && s.inEff (FAB_PTEN.TENANT p) = t)

/-- Checks 3 to 5 of Table 11.7, with their counters: the partition, or the status. -/
def State.ingressPart (s : State) (pl : Nat) (k : FabPkt) : State × Except Nat Nat :=
  match s.partOfTenant k.tenant with
  | none => (s.fabCount pl 6, .error 1)
  | some p =>
    if s.inEff (FAB_PTEN.EPOCH p) ≠ k.epoch then (s.fabCount pl 5, .error 2)
    else if !s.flag (KEY_LOADED p k.keyPhase) || s.keyFault p then (s, .error 3)
    else (s.readKeyWord p (2 * p + k.keyPhase), .ok p)

/-- The payload, decrypted with the slot that the key phase names (R251); `addr` gives the tweak. -/
def State.fabPlain (s : State) (p addr : Nat) (k : FabPkt) : List Byte :=
  let d := (List.range k.bytes).map (fun i => k.data.getD i 0)
  if k.plain then d else fabCipher Config.xtsDec (s.keyBytes p k.keyPhase) addr d

/-- The status of a completed PSEQ of a source, none while it is not complete (R327). -/
def State.rxStatus (s : State) (src pseq : Nat) : Option Nat :=
  match Cells.get 0 s.fab.rxDone (src * 65536 + pseq) with
  | 0 => none
  | n + 1 => some n

/-- Every earlier packet of the source has completed at this module (R327). -/
def State.rxReady (s : State) (src pseq : Nat) : Bool :=
  let d := (pseq + 65536 - Cells.get 0 s.fab.rxNext src) % 65536
  d = 0 || 32768 ≤ d

/-- The lowest PSEQ from `x` on that is not complete. -/
def rxAdvance (done : Cells Nat) (src : Nat) : Nat → Nat → Nat
  | 0, x => x
  | n + 1, x => if Cells.get 0 done (src * 65536 + x) = 0 then x else rxAdvance done src n ((x + 1) % 65536)

/-- A PSEQ of a source is complete with a status; the record half a turn away is forgotten. -/
def State.rxComplete (s : State) (src pseq status : Nat) : State :=
  let d := Cells.set 0 (Cells.set 0 s.fab.rxDone (src * 65536 + (pseq + 32768) % 65536) 0) (src * 65536 + pseq) (status + 1)
  { s with fab := { s.fab with rxDone := d, rxNext := Cells.set 0 s.fab.rxNext src (rxAdvance d src 4096 (Cells.get 0 s.fab.rxNext src)) } }

/-- A source holds at most 4,096 uncompleted packets (R323), so a packet that runs further ahead than that tells that the earlier ones are
complete at the source. -/
def State.rxWindow (s : State) (src pseq : Nat) : State :=
  let d := (pseq + 65536 - Cells.get 0 s.fab.rxNext src) % 65536
  if 4096 ≤ d ∧ d < 32768 then { s with fab := { s.fab with rxNext := Cells.set 0 s.fab.rxNext src ((pseq + 65536 - 4095) % 65536) } } else s

/-- The completion of a WRITE or RELEASE goes back to its source: in a control flit, or inside the egress (R326, R325). -/
def State.answer (s : State) (o : Option (Fin 2)) (k : FabPkt) (status : Nat) : State :=
  match o with
  | some pl => (s.rxFree pl (vcOf k.typ) (fabFlits k)).sendControl pl [(k.src, s.rd FAB_ID.MODULE_ID, status, k.pseq)]
  | none => s.completion k.dst status k.pseq

/-- A WRITE or RELEASE has completed here. -/
def State.rxFinish (s : State) (o : Option (Fin 2)) (k : FabPkt) (status : Nat) : State := (s.rxComplete k.src k.pseq status).answer o k status

/-- A barrier arrival at its root (R332): the status. At EXPECT the generation advances and RELEASE packets join the egress. -/
def State.barrierArrive (s : State) (p b : Nat) (k : FabPkt) : State × Nat :=
  let me := s.rd FAB_ID.MODULE_ID
  let gen := s.rd (FAB_BSTAT.GEN p b)
  if !s.flagEff (FAB_BAR.VALID p b) || s.inEff (FAB_BAR.ROOT p b) ≠ me || leVal ((s.fabPlain p k.addr k).take 4) ≠ gen then (s, 8)
  else if s.rd (FAB_BSTAT.COUNT p b) + 1 < s.inEff (FAB_BAR.EXPECT p b) then (s.wr (FAB_BSTAT.COUNT p b) (s.rd (FAB_BSTAT.COUNT p b) + 1), 0)
  else
    let g := (gen + 1) % 65536
    let s1 := (s.wr (FAB_BSTAT.COUNT p b) 0).wr (FAB_BSTAT.GEN p b) g
    let dsts := (List.range 128).filter (fun m => m = me || bit (s.inEff (FAB_PEERS.PEERS p (m / 32))) (m % 32))
    (dsts.foldl (fun st m => st.queueTx { pkt := { typ := 0x13, dst := m, barrier := b, gen := g, plain := true }, part := p, owner := .release }) s1, 0)

/-- An accepted RELEASE (R332): the status. -/
def State.releaseApply (s : State) (p : Nat) (k : FabPkt) : State × Nat :=
  if !s.flagEff (FAB_BAR.VALID p k.barrier) then (s, 8)
  else (((s.lathesOf p).foldl (fun st n => st.evtAdd n (s.inEff (FAB_BAR.EVT p k.barrier)) 1) s).wr (FAB_BSTAT.GEN p k.barrier) k.gen, 0)

/-- What waited for the earlier packets of its source is applied (R327): an event-counter write, a barrier arrival, a RELEASE. -/
def State.heldApply (s : State) (h : FabHeld) : State :=
  let r := if h.pkt.typ = 0x13 then s.releaseApply h.part h.pkt
    else match s.fabTarget h.part h.pkt.addr h.pkt.bytes with
      | some (.event n c) => (s.evtAdd n c ((s.fabPlain h.part h.pkt.addr h.pkt).getD 0 0).toNat, 0)
      | some (.barrier b) => s.barrierArrive h.part b h.pkt
      | _ => (s, 4)
  r.1.rxFinish h.plane h.pkt r.2

/-- Every held packet whose time has come is applied. -/
def State.drainHeld : Nat → State → State
  | 0, s => s
  | n + 1, s =>
    match s.fab.held.find? (fun h => s.rxReady h.pkt.src h.pkt.pseq) with
    | none => s
    | some h => State.drainHeld n (({ s with fab := { s.fab with held := s.fab.held.erase h } }).heldApply h)

def State.drain (s : State) : State := State.drainHeld s.fab.held.length s

/-- A packet passes its checks and waits for the earlier packets of its source. -/
def State.hold (s : State) (o : Option (Fin 2)) (p : Nat) (k : FabPkt) : State :=
  ({ s with fab := { s.fab with held := s.fab.held ++ [FabHeld.mk k o p] } }).drain

/-- A READ_RESP joins the egress (R326). -/
def State.respond (s : State) (o : Option (Fin 2)) (p : Nat) (k : FabPkt) (status : Nat) (data : List Byte) : State :=
  let s1 := match o with | some pl => s.rxFree pl 2 1 | none => s
  s1.queueTx { pkt := { typ := 0x12, dst := k.src, tenant := k.tenant, epoch := k.epoch, addr := k.addr, bytes := data.length, tag := k.tag, status := status,
                        data := data, plain := true },
               part := p, owner := .response, plane := match o with | some pl => pl | none => 0 }

/-- A READ_RESP for an outstanding READ_REQ (R326, R333): its status, or the data into the job's local span. -/
def State.readResp (s : State) (pl : Nat) (k : FabPkt) : State :=
  match s.fab.outst.find? (fun t => t.pkt.typ = 0x11 && t.pkt.dst = k.src && t.pkt.tag = k.tag) with
  | none => s
  | some t =>
    let s1 : State := { s with fab := { s.fab with outst := s.fab.outst.erase t } }
    match s1.ingressPart pl k with
    | (s2, .error c) => s2.txDone t c
    | (s2, .ok p) =>
      if k.status ≠ 0 then s2.txDone t k.status
      else
        match s2.ckJob t.part with
        | none => s2.txDone t 0
        | some j =>
          let w := j.words.getD []
          let r := s2.fabWrite t.part (dfld w 0 0 32 + dfld w 4 0 8 * 2 ^ 32 + j.off) (s2.fabPlain p t.pkt.addr k)
          r.1.txDone t r.2

/-- The ingress on a packet from a plane, or looped back (Table 11.7, R326, R327). -/
def State.ingress (s : State) (o : Option (Fin 2)) (k : FabPkt) : State :=
  let pl : Nat := match o with | some x => x | none => 0
  let free (st : State) : State := match o with | some x => st.rxFree x (vcOf k.typ) (fabFlits k) | none => st
  if k.crcBad then free (s.fabCount pl 3)
  else if !s.flag FAB_ID.ID_VALID || k.dst ≠ s.rd FAB_ID.MODULE_ID then free (s.fabCount pl 4)
  else if k.typ = 0x12 then free (s.readResp pl k)
  else if k.typ = 0x11 then
    match s.ingressPart pl k with
    | (s1, .error c) => s1.respond o 0 k c []
    | (s1, .ok p) =>
      match s1.fabTarget p k.addr k.bytes with
      | some .mem => let r := s1.fabRead p k.addr k.bytes; r.1.respond o p k r.2.1 r.2.2
      | _ => s1.respond o p k 4 []
  else
    let s0 := s.rxWindow k.src k.pseq
    match s0.rxStatus k.src k.pseq with
    | some st => s0.answer o k st
    | none =>
      if s0.fab.held.any (fun h => h.pkt.src = k.src && h.pkt.pseq = k.pseq) then free s0
      else
        match s0.ingressPart pl k with
        | (s1, .error c) => (s1.rxFinish o k c).drain
        | (s1, .ok p) =>
          if k.typ = 0x13 then s1.hold o p k
          else
            let d := s1.fabPlain p k.addr k
            match s1.fabTarget p k.addr k.bytes with
            | none => (s1.rxFinish o k 4).drain
            | some .mem => let r := s1.fabWrite p k.addr d; (r.1.rxFinish o k r.2).drain
            | some (.sram n off) => let r := s1.lsramWrite n off d; (r.1.rxFinish o k (if r.2 then 0 else 7)).drain
            | some (.way w off) => let r := s1.wayWrite w off d; (r.1.rxFinish o k (if r.2 then 0 else 7)).drain
            | some _ => s1.hold o p k

/-- A checkpoint job of partition p starts (R333). -/
def State.ckStart (s : State) (p count peer : Nat) (pull quiesce : Bool) : State :=
  let s1 := (((((s.wr (FAB_CK_CTRL.START p) 1).wr (FAB_CK_STAT.STATE p) 1).wr (FAB_CK_STAT.STATUS p) 0).wr (FAB_CK_STAT.ENTRY p) 0).wr (FAB_CK_BYTES.UNITS p) 0)
  (s1.setCk p (some { list := s.rd (FAB_CK_LIST_LO.LIST p) + bits (s.rd (FAB_CK_LIST_HI.LIST p)) 0 8 * 2 ^ 32,
                      count := count, peer := peer, pull := pull, quiesce := quiesce })).ckNext p

end Sys2Proof.Machine
end

