-- ==== Sys2Proof/Machine/Fabric.lean ====
section
/-! DEFINITION. The commands of the fabric ports (R315 to R336). -/

namespace Sys2Proof.Machine
open Reg

/-! Settings (R336). -/

/-- FAB_COMMIT: FAB_CFG takes effect and planes start or go down; an E2E_TIMEOUT below 80 is refused. -/
def State.fabCommit (s : State) : State :=
  if s.rd FAB_CFG.E2E_TIMEOUT < 80 then s.raise FAB_COMMIT.CFG_MISMATCH
  else
    let s1 := s.applyShadows [FAB_CFG.EN_A, FAB_CFG.EN_B, FAB_CFG.FEC_PREF, FAB_CFG.E2E_TIMEOUT]
    [0, 1].foldl (fun st pl =>
      if st.planeOn pl then (if st.rd (FAB_PLANE.STATE pl) = 0 then st.planeTrain pl else st) else st.planeFall pl) s1

/-- FAB_COMMIT. -/
def execFabCommit (commit : Bool) (s : State) : Next := .next (if commit then s.fabCommit else s)

/-- The rules of Table 11.11 on the shadows of partition p. -/
def State.fabRules (s : State) (p : Nat) : List Bool :=
  [(List.range 8).all (fun q => q = p || !s.flag (FAB_PSTAT.ENABLED q) || s.inEff (FAB_PTEN.TENANT q) ≠ s.rd (FAB_PTEN.TENANT p)),
   s.rd (FAB_PWIN.LSIZE p) ≤ 16 && (s.rd (FAB_PWIN.LBASE p) + s.rd (FAB_PWIN.LSIZE p)) * 65536 ≤ 0xC00000,
   s.rd (FAB_PWIN.WSIZE p) ≤ 15 && s.rd (FAB_PWIN.WBASE p) + s.rd (FAB_PWIN.WSIZE p) ≤ 63,
   (List.range 16).all (fun b => !s.flag (FAB_BAR.VALID p b) || (1 ≤ s.rd (FAB_BAR.EXPECT p b) && s.rd (FAB_BAR.EXPECT p b) ≤ 128))]

/-- The shadowed fields of a partition that may change at any time, and the others. -/
def fabFreeFields (p : Nat) : List Fld := FAB_PTEN.EPOCH p :: (List.range 4).map (fun w => FAB_PEERS.PEERS p w)
def fabHeldFields (p : Nat) : List Fld :=
  [FAB_PTEN.TENANT p, FAB_PWIN.LBASE p, FAB_PWIN.LSIZE p, FAB_PWIN.WBASE p, FAB_PWIN.WSIZE p] ++
  (List.range 16).flatMap (fun b => [FAB_BAR.ROOT p b, FAB_BAR.EXPECT p b, FAB_BAR.EVT p b, FAB_BAR.VALID p b])

/-- A partition's fabric shadows take effect at once: a barrier that becomes VALID starts with COUNT and GEN 0 (R332, R336). -/
def State.fabApply (s : State) (p : Nat) (enable : Bool) : State :=
  let fresh := (List.range 16).filter (fun b => s.flag (FAB_BAR.VALID p b) && !s.flagEff (FAB_BAR.VALID p b))
  ((fresh.foldl (fun st b => (st.wr (FAB_BSTAT.COUNT p b) 0).wr (FAB_BSTAT.GEN p b) 0) s).applyShadows (fabFreeFields p ++ fabHeldFields p)).wr
    (FAB_PSTAT.ENABLED p) (b2n enable)

/-- A commit is checked and applied, or refused. -/
def State.fabCheckApply (s : State) (p : Nat) (enable : Bool) : State :=
  match failingRule (s.fabRules p) with
  | some r => (s.raise (FAB_PSTAT.CFG_MISMATCH p)).wr (FAB_PSTAT.CFG_RULE p) r
  | none =>
    if s.flag (FAB_CK_CTRL.START p) && (s.rd (FAB_PSTAT.ENABLED p) ≠ b2n enable || (fabHeldFields p).any (fun f => s.rd f ≠ s.inEff f))
    then s.raise FAB_ERR_STAT.CFG_BUSY_WR
    else s.fabApply p enable

/-- FAB_PCOMMIT. -/
def State.fabPcommit (s : State) (p : Nat) (enable : Bool) : State := if s.tearing p then s.raise FAB_ERR_STAT.CFG_BUSY_WR else s.fabCheckApply p enable

/-- FAB_PCOMMIT. -/
def execFabPcommit (p : Part) (commit enable : Bool) (s : State) : Next := .next (if commit then s.fabPcommit p enable else s)

/-! Bring-up (R320 to R322). -/

/-- PLANE_TRAINED: TRAINING to LOCK. -/
def execPlaneTrained (pl : Fin 2) (s : State) : Next :=
  .next (if s.rd (FAB_PLANE.STATE pl) ≠ 1 then s else (((s.wr (FAB_PLANE.STATE pl) 2).wr (FAB_PLANE.LANES_OK pl) 15).planeInjected pl))

/-- TRAINING_TIMEOUT: the port returns to the start of its training. -/
def execTrainingTimeout (pl : Fin 2) (s : State) : Next :=
  .next (if s.rd (FAB_PLANE.STATE pl) ≠ 1 then s else s.planeTrain pl)

/-- PLANE_LOCK: the receiver has locked, in STANDARD mode, at the codeword with SEQ `seq`. -/
def execPlaneLock (pl : Fin 2) (seq : Fin 1024) (s : State) : Next :=
  .next (
    if s.rd (FAB_PLANE.STATE pl) ≠ 2 then s
    else ((s.wr (FAB_PLANE.STATE pl) 3).wr (FAB_PLANE.LL pl) 0).setLink pl { s.link pl with acc := seq, discard := false, badRun := 0 })

/-- The plane's REACH map. -/
def State.setReach (s : State) (pl m : Nat) : State := (List.range 4).foldl (fun st w => st.wr (FAB_REACH.REACH pl w) (bits m (32 * w) 32)) s

/-- The HELLO's assignment is one that the plane may take: none, or the one in use (R321). -/
def State.helloAgrees (s : State) (h : Hello) : Bool :=
  !(h.switch && h.idValid) || !s.flag FAB_ID.ID_VALID || (s.rd FAB_ID.MODULE_ID = h.id && s.rd FAB_ID.DOMAIN = h.domain)

/-- The module takes its ID from a plane's assignment, or the plane holds it already (R321). -/
def State.takeId (s : State) (pl : Nat) (h : Hello) : State :=
  if h.switch && h.idValid then
    (if s.flag FAB_ID.ID_VALID then s else ((s.wr FAB_ID.ID_VALID 1).wr FAB_ID.MODULE_ID h.id).wr FAB_ID.DOMAIN h.domain).setLink pl { s.link pl with hasId := true }
  else (s.setLink pl { s.link pl with hasId := false }).idCheck

/-- HELLO_RX: in HELLO the plane comes UP or into ID_CONFLICT; in UP the reach map follows, and another assignment is a conflict (R320 to
R322). -/
def execHelloRx (pl : Fin 2) (h : Hello) (s : State) : Next :=
  let st := s.rd (FAB_PLANE.STATE pl)
  .next (
    if !s.rxOpen pl ∨ (st ≠ 3 ∧ st ≠ 4) then s
    else
      let x := s.link pl
      let x1 := if st = 3 then
          { x with credInit := h.credits.map (·.val), credFreed := [0, 0, 0, 0], credUsed := [0, 0, 0, 0], rxFreed := [0, 0, 0, 0],
                   llAt := if h.llCap && h.llReq && x.pref = 0 then some h.llSeq.val else none }
        else x
      let s1 := (s.setLink pl x1).wr (FAB_PLANE.PORT pl) h.port
      if s.helloAgrees h then s1.withReach (fun a => ((a.takeId pl h).wr (FAB_PLANE.STATE pl) 4).setReach pl h.reach.toNat)
      else
        (s1.withReach (fun a => ((a.setLink pl { a.link pl with hasId := false }).wr (FAB_PLANE.STATE pl) 5).setReach pl h.reach.toNat)).idCheck.raise
          FAB_ERR_STAT.ID_CONFLICT)

/-- HELLO_TX: the module's HELLO (R320). -/
def execHelloTx (pl : Fin 2) (s : State) : Next :=
  .next (if s.rd (FAB_PLANE.STATE pl) < 3 then s else s.send (.flits pl (s.helloFlit pl)))

/-- HELLO_TIMEOUT: 3 ms without a HELLO (R322). -/
def execHelloTimeout (pl : Fin 2) (s : State) : Next := .next (if s.rd (FAB_PLANE.STATE pl) < 3 then s else s.planeFall pl)

/-- PLANE_DOWN: the plane loses lock (R322). -/
def execPlaneDown (pl : Fin 2) (s : State) : Next := .next (if s.rd (FAB_PLANE.STATE pl) < 2 then s else s.planeFall pl)

/-! The link layer (R316 to R319). -/

/-- What the decoder makes of the next codeword once armed injections act, the failing one first (Table 11.10). -/
def State.cwInjected (s : State) (pl : Nat) (d : CwDecode) : State × CwDecode :=
  if s.rd FAB_INJ.PLANE ≠ pl then (s, d)
  else if s.flag FAB_INJ.CW_UE then (s.wr FAB_INJ.CW_UE 0, .failed)
  else if s.flag FAB_INJ.CW_CE then (s.wr FAB_INJ.CW_CE 0, if d = .failed then .failed else .corrected)
  else (s, d)

/-- CODEWORD_RX: a codeword is accepted in order, or discarded (R318); 16 undecodable ones in a row lose lock (R322). -/
def execCodewordRx (pl : Fin 2) (seq : Fin 1024) (d : CwDecode) (s : State) : Next :=
  .next (
    if s.rd (FAB_PLANE.STATE pl) < 3 then s
    else
      let (s1, d1) := s.cwInjected pl d
      let x := s1.link pl
      if d1 = .failed then
        let s2 := ((s1.fabCount pl 1).reportUe (98 + pl) 0).setLink pl { x with discard := true, badRun := x.badRun + 1 }
        if 16 ≤ x.badRun + 1 then s2.planeFall pl else if x.discard then s2 else s2.sendControl pl []
      else
        let s2 := if d1 = .corrected then (s1.fabCount pl 0).reportCe (98 + pl) 1 else s1
        if seq.val ≠ (x.acc + 1) % 1024 then s2.setLink pl { x with badRun := 0 }
        else (s2.setLink pl { x with acc := seq, discard := false, badRun := 0 }).wr (FAB_PLANE.LL pl)
          (if x.llAt = some seq.val then 1 else s2.rd (FAB_PLANE.LL pl)))

/-- One completion entry: those for other modules are none of ours; FAB_INJ.COMP_DROP discards one (Table 11.10). -/
def State.compEntry (s : State) (c : FabComp) : State :=
  if !s.flag FAB_ID.ID_VALID || c.dst.val ≠ s.rd FAB_ID.MODULE_ID then s
  else if s.flag FAB_INJ.COMP_DROP then s.wr FAB_INJ.COMP_DROP 0
  else s.completion c.src c.status c.pseq

/-- CONTROL_FLIT_RX: acknowledgement, NACK, credits, completions (R318, R319, R326). Eight NACKs in a row for one codeword take the plane
down. -/
def execControlFlitRx (pl : Fin 2) (ack : Fin 1024) (nack : Bool) (credits : List (Fin 65536)) (comps : List FabComp) (s : State) : Next :=
  .next (
    if !s.rxOpen pl then s
    else
      let x := s.link pl
      let run := if nack then (if x.nackAt = some ack.val then x.nackRun + 1 else 1) else if x.nackAt = some ack.val then x.nackRun else 0
      let s1 := s.setLink pl { x with acked := ack, credFreed := credits.map (·.val), nackRun := run,
                                      nackAt := if nack then some ack.val else if x.nackAt = some ack.val then x.nackAt else none }
      let s2 := if nack then s1.fabCount pl 2 else s1
      if 8 ≤ run && nack then s2.planeFall pl
      else if s2.rd (FAB_PLANE.STATE pl) ≠ 4 then s2
      else (comps.take 6).foldl (fun st c => st.compEntry c) s2)

/-- ACK_STALL_TIMEOUT: 100 µs without any advance of the acknowledgement (R318). -/
def execAckStallTimeout (pl : Fin 2) (s : State) : Next := .next (if s.rd (FAB_PLANE.STATE pl) < 3 then s else s.planeFall pl)

/-! Egress (R323, R325, R328). -/

/-- The replay buffer holds the codeword that would end the packet (R318). -/
def State.replayRoom (s : State) (pl cw : Nat) : Bool :=
  (cw + 1024 - (s.link pl).acked) % 1024 ≤ (if s.flag (FAB_PLANE.LL pl) then 512 else 256)

/-- A packet as the egress assembles it: source, tenant, epoch, key phase, PSEQ, and the payload under the current key (R251, R323, R325). A
resent packet stays as it was, a looped-back one is never enciphered. -/
def State.assemble (s : State) (t : TxPkt) (loop : Bool) : State × FabPkt :=
  let k := { t.pkt with src := s.rd FAB_ID.MODULE_ID }
  if t.resent then (s, k)
  else
    let k1 := if t.owner = .response then { k with keyPhase := s.rd (KEY_PSTAT.CURRENT t.part) }
      else { k with tenant := s.inEff (FAB_PTEN.TENANT t.part), epoch := s.inEff (FAB_PTEN.EPOCH t.part), keyPhase := s.rd (KEY_PSTAT.CURRENT t.part) }
    let k2 := if loop then k1
      else { k1 with plain := false, data := fabCipher Config.xtsEnc (s.keyBytes t.part k1.keyPhase) k.addr k.data }
    if k.typ = 0x10 ∨ k.typ = 0x13 then
      let n := Cells.get 0 s.fab.pseq k.dst
      ({ s with fab := { s.fab with pseq := Cells.set 0 s.fab.pseq k.dst ((n + 1) % 65536) } }, { k2 with pseq := n })
    else (s, k2)

/-- A sent packet waits for its completion; a READ_RESP waits for none. -/
def State.awaitTx (s : State) (t : TxPkt) : State := if t.owner = .response then s else { s with fab := { s.fab with outst := s.fab.outst ++ [t] } }

/-- What an armed CRC or STALE injection does to the next packet sent (Table 11.10). -/
def State.sendInjected (s : State) (k : FabPkt) : State × FabPkt :=
  let k1 := if s.flag FAB_INJ.CRC then { k with crcBad := true } else k
  let k2 := if s.flag FAB_INJ.STALE then { k1 with epoch := (k1.epoch + 1) % 16 } else k1
  ((s.wr FAB_INJ.CRC 0).wr FAB_INJ.STALE 0, k2)

/-- A packet leaves on a plane, unless the on-chip network delivers it as uncorrectable (R325, R236). -/
def State.sendOn (s : State) (t : TxPkt) (pl cw : Nat) : State :=
  let (s0, bad) := if t.owner = .response ∨ t.owner = .release ∨ t.resent then (s, false) else s.crossLink 89
  if bad then
    match t.owner with
    | .chan k => s0.tdmaStop (k / 4) 5 (t.pkt.addr + t.pkt.dst * 2 ^ 40) (k % 4)
    | _ => s0.ckDone t.part t.pkt.bytes 7
  else
    let (s1, k) := s0.assemble t false
    let (s2, k') := s1.sendInjected k
    let x := s2.link pl
    let vc := vcOf k.typ
    ((s2.setLink pl { x with lastTx := cw, credUsed := x.credUsed.set vc ((x.credUsed.getD vc 0 + fabFlits k) % 65536) }).awaitTx
      { t with pkt := k, plane := pl }).send (.flits pl (fabWire k'))

/-- PACKET_SEND: the oldest packet of egress requester `r` is sent, its last flit in the codeword `cw` of its plane; looped back; or
completed with NO_ROUTE (R325). It waits for its partition, for credits, for the replay buffer, and while 4,096 packets to the destination are
not complete. -/
def execPacketSend (r : Fin 19) (cw : Fin 1024) (s : State) : Next :=
  match s.fab.sendQ.find? (fun t => t.owner.requester = r.val) with
  | none => .next s
  | some t =>
    let s1 : State := { s with fab := { s.fab with sendQ := s.fab.sendQ.erase t } }
    .next (
      if t.owner ≠ TxOwner.response ∧ !s.flag (FAB_PSTAT.ENABLED t.part) then s
      else if !s.flag FAB_ID.ID_VALID then s1.txDone t 0xB
      else if t.pkt.dst = s.rd FAB_ID.MODULE_ID then
        let a := s1.assemble t true
        (a.1.awaitTx { t with pkt := a.2 }).ingress none a.2
      else if t.owner ≠ TxOwner.response ∧ 4096 ≤ (s.fab.outst.filter (fun x => x.pkt.dst = t.pkt.dst)).length then s
      else
        match s.fabRoute t with
        | none => s1.txDone t 0xB
        | some pl =>
          if !s.replayRoom pl cw || !(s.link pl).hasCredit (vcOf t.pkt.typ) (fabFlits t.pkt) then s else s1.sendOn t pl cw)

/-- E2E_TIMEOUT: the `i`-th outstanding packet has had no completion within E2E_TIMEOUT (R328). -/
def execE2eTimeout (i : Nat) (s : State) : Next :=
  match s.fab.outst[i]? with
  | none => .next s
  | some t => .next (s.txFailed t)

/-! Ingress (R326, R327, R332). A plane that is not UP carries no packets. -/

/-- Packets of the plane are accepted. -/
def State.pktOpen (s : State) (pl : Nat) : Bool := s.rxOpen pl && s.rd (FAB_PLANE.STATE pl) = 4

/-- FABRIC_WRITE_RX: a WRITE packet to memory or a window of SRAM. -/
def execFabricWriteRx (pl : Fin 2) (k : FabPkt) (s : State) : Next :=
  .next (if !s.pktOpen pl || k.typ ≠ 0x10 || isBarrier k.addr || isEvent k.addr then s else s.ingress (some pl) k)

/-- FABRIC_EVENT_WRITE: a WRITE packet to an event counter. -/
def execFabricEventWrite (pl : Fin 2) (k : FabPkt) (s : State) : Next :=
  .next (if !s.pktOpen pl || k.typ ≠ 0x10 || !isEvent k.addr then s else s.ingress (some pl) k)

/-- BARRIER_ARRIVAL: a WRITE packet to a barrier. -/
def execBarrierArrival (pl : Fin 2) (k : FabPkt) (s : State) : Next :=
  .next (if !s.pktOpen pl || k.typ ≠ 0x10 || !isBarrier k.addr then s else s.ingress (some pl) k)

/-- FABRIC_READ_REQ_RX: a READ_REQ packet. -/
def execFabricReadReqRx (pl : Fin 2) (k : FabPkt) (s : State) : Next :=
  .next (if !s.pktOpen pl || k.typ ≠ 0x11 then s else s.ingress (some pl) k)

/-- FABRIC_READ_RESP_RX: a READ_RESP packet. -/
def execFabricReadRespRx (pl : Fin 2) (k : FabPkt) (s : State) : Next :=
  .next (if !s.pktOpen pl || k.typ ≠ 0x12 then s else s.ingress (some pl) k)

/-- FABRIC_RELEASE_RX: a RELEASE packet. -/
def execFabricReleaseRx (pl : Fin 2) (k : FabPkt) (s : State) : Next :=
  .next (if !s.pktOpen pl || k.typ ≠ 0x13 then s else s.ingress (some pl) k)

/-! Checkpoint assist (R333, R334). -/

/-- CHECKPOINT_START: a write of FAB_CK_CTRL with START 1. -/
def execCheckpointStart (p : Part) (count : Fin 65536) (peer : Fin 128) (pull quiesce : Bool) (s : State) : Next :=
  let s1 := (((s.wr (FAB_CK_CTRL.COUNT p) count).wr (FAB_CK_CTRL.PEER p) peer).wr (FAB_CK_CTRL.DIR p) (b2n pull)).wr (FAB_CK_CTRL.QUIESCE p) (b2n quiesce)
  .next (if s.flag (FAB_CK_CTRL.START p) then s1.raise FAB_ERR_STAT.CFG_BUSY_WR else s1.ckStart p count peer pull quiesce)

/-- A restore that pulls is PULLED (R500). -/
def State.pulled (s : State) (p : Nat) : State :=
  let x : PartSt := Cells.get {} s.part p
  if x.restore = 2 then { s with part := Cells.set {} s.part p { x with restore := 3 } } else s

/-- CHECKPOINT_END: the job ends with DONE, or with the first status other than OK and its entry. -/
def execCheckpointEnd (p : Part) (s : State) : Next :=
  match s.ckJob p with
  | none => .next s
  | some j =>
    match j.outcome with
    | none => .next s
    | some c =>
      let s1 := ((s.setCk p none).wr (FAB_CK_CTRL.START p) 0).wr (FAB_CK_STAT.STATUS p) c
      .next (if c = 0 then (s1.wr (FAB_CK_STAT.STATE p) 2).pulled p else (s1.wr (FAB_CK_STAT.STATE p) 3).wr (FAB_CK_STAT.ENTRY p) j.entry)

end Sys2Proof.Machine
end

