-- ==== Sys2Proof/Machine/SecOps.lean ====
section
/-! DEFINITION. Identity, OTP, reports and KEM objects (R377 to R386). -/

namespace Sys2Proof.Machine
open Reg

/-! OTP (R428). -/

/-- `n` bytes of OTP. -/
def State.otpBytes (s : State) (off n : Nat) : List Byte := (Cells.getList 0 s.boot.otp off n).map (fun v => BitVec.ofNat 8 v)

/-- Bytes are programmed into OTP: bits can only change from 0 to 1 (Table 15.4). -/
def State.otpProgram (s : State) (off : Nat) (data : List Byte) : State :=
  let new := (List.range data.length).map (fun i => Cells.get 0 s.boot.otp (off + i) ||| (data.getD i 0).toNat)
  { s with boot := { s.boot with otp := Cells.setList 0 s.boot.otp off new } }

/-- Some of the bytes is not zero. -/
def anySet (l : List Byte) : Bool := l.any (fun b => b ≠ 0)

def State.vendorDigest (s : State) : List Byte := s.otpBytes 0x40 64

/-- The owner digest of generation g, 1 to 4; the generations written; the current digest (R381). -/
def State.ownerDigest (s : State) (g : Nat) : List Byte := s.otpBytes (0x80 + 64 * (g - 1)) 64
def State.ownerGen (s : State) : Nat := ((List.range 4).filter (fun i => anySet (s.ownerDigest (i + 1)))).length
def State.ownerNow (s : State) : List Byte := if s.ownerGen = 0 then List.replicate 64 0 else s.ownerDigest s.ownerGen

/-- A settings generation g, 1 to 4, and whether it is used (R419). -/
def State.settings (s : State) (g : Nat) : List Byte := s.otpBytes (0x1C00 + (g - 1) * 0x100) 256
def State.settingsUsed (s : State) : Nat := ((List.range 4).filter (fun i => anySet (s.settings (i + 1)))).length

/-! Identity (R378). -/

/-- Bytes of exactly a length: what is missing is 0. -/
def fitTo (n : Nat) (l : List Byte) : List Byte := (List.range n).map (fun i => l.getD i 0)

/-- The 64 bytes of SHA3-512 (R378). -/
def sha3 (b : List Byte) : List Byte := fitTo 64 (Config.sha3 b)

def State.identitySeed (s : State) : List Byte := s.otpBytes 0x10 32
def State.identityKey (s : State) : List Byte := Config.dsaPublic s.identitySeed
def State.deviceId (s : State) : Nat := leVal ((sha3 s.identityKey).take 8)

/-- ASCII bytes. -/
def ascii (l : List Char) : List Byte := l.map (fun c => BitVec.ofNat 8 c.toNat)

/-- The identity key's signature of the digest of some bytes, with a context (R382, R386). -/
def State.signed (s : State) (ctx : List Char) (b : List Byte) : List Byte :=
  fitTo 4627 (Config.dsaSign s.identitySeed (ascii ctx) (sha3 b))

/-! Flash components (R433, R436). -/

def State.area (s : State) (bank id : Nat) : FwArea := Cells.get {} s.boot.area (8 * bank + id)
def State.setArea (s : State) (bank id : Nat) (a : FwArea) : State := { s with boot := { s.boot with area := Cells.set {} s.boot.area (8 * bank + id) a } }

/-- A number in a component header. -/
def hdrNum (h : List Byte) (off n : Nat) : Nat := leVal (fitTo n (h.drop off))

/-- The owner key that the running service controller's image carries, under which owner signatures are verified (log 50). -/
def State.ownerKey (s : State) : List Byte := fitTo 2592 ((s.area (s.rd GLB_LIFE.BANK) 1).header.drop 0xA60)

/-- A signature under the current owner key, with a context, of the digest of some bytes. -/
def State.ownerSigned (s : State) (ctx : List Char) (b sig : List Byte) : Bool :=
  sha3 s.ownerKey = s.ownerNow && Config.dsaVerify s.ownerKey (ascii ctx) (sha3 b) sig

/-! FRAM settings (R448). -/

/-- The copy in force: the one with the higher SEQ. -/
def State.fram (s : State) : FramSet :=
  let a := Cells.get {} s.boot.fram 0
  let b := Cells.get {} s.boot.fram 1
  if a.seq < b.seq then b else a

/-- A new record is written into the other copy. -/
def State.setFram (s : State) (f : FramSet) : State :=
  let other := if (Cells.get {} s.boot.fram 0).seq < (Cells.get {} s.boot.fram 1).seq then 0 else 1
  { s with boot := { s.boot with fram := Cells.set {} s.boot.fram other { f with seq := s.fram.seq + 1 } } }

/-! Objects (Tables 13.4, 13.6 to 13.8). -/

/-- 16 bits of a tenant ID and an epoch. -/
def State.tenantEpoch (s : State) (p : Nat) : Nat := s.inEff (FAB_PTEN.TENANT p) + s.inEff (FAB_PTEN.EPOCH p) * 2 ^ 12

/-- The mask of things below `n` that hold. -/
def maskOf (n : Nat) (f : Nat → Bool) : Nat := (List.range n).foldl (fun m i => if f i then m + 2 ^ i else m) 0

/-- A component's entry of a report. -/
def State.componentEntry (s : State) (c : Nat) : List Byte :=
  let r := if c = 0 then (⟨0xFF, Config.romVersion, Config.romDigest⟩ : Running) else Cells.get {} s.boot.running c
  leBytes 4 (c + r.bank * 2 ^ 8) ++ leBytes 4 r.version ++ fitTo 64 r.digest ++ List.replicate 8 0

/-- A partition's entry of a report: of a FREE partition only the tenant ID and the epoch. -/
def State.partitionEntry (s : State) (p : Nat) : List Byte :=
  let x := s.prt p
  let st := s.rd (GLB_PART_STAT.STATE p)
  if st = 0 then leBytes 6 0 ++ leBytes 2 (s.tenantEpoch p) ++ List.replicate 24 0
  else
    leBytes 1 (st + s.rd (GLB_PART_STAT.TD_STEP p) * 2 ^ 3 + s.rd (KEY_PSTAT.STATE p) * 2 ^ 6) ++
    leBytes 1 (maskOf 4 (fun e => s.flag (VID_ENG_PART.ASSIGNED e) && s.rd (VID_ENG_PART.PART e) = p) + p * 2 ^ 4) ++
    leBytes 2 (maskOf 16 (fun n => s.partOf n = some p)) ++ leBytes 2 (maskOf 16 (fun w => (s.waysOf p).contains w)) ++
    leBytes 2 (s.tenantEpoch p) ++ leBytes 4 (maskOf 32 (fun c => s.hPart c = some p)) ++ leBytes 4 x.dbgPart ++ leBytes 4 x.buildId ++
    leBytes 4 (s.inEff (PLT_SLOTS.SLOT_BASE p) + s.inEff (PLT_SLOTS.SLOT_COUNT p) * 2 ^ 16) ++ leBytes 8 0

/-- The lifecycle byte (R427). -/
def State.lifecycle (s : State) : Nat := s.rd GLB_LIFE.RUN + s.rd GLB_LIFE.OTP_LIFE * 2 ^ 4

/-- A report for a requester with a nonce, the `seq`-th since module reset (R386). -/
def State.reportBytes (s : State) (requester seq : Nat) (nonce : List Byte) : List Byte :=
  let body :=
    leBytes 4 0x4E5A4152 ++ leBytes 2 1 ++ leBytes 2 5764 ++ leBytes 4 requester ++ leBytes 4 seq ++ fitTo 64 nonce ++ leBytes 8 s.deviceId ++
    leBytes 1 (if s.is1T then 1 else 2) ++ leBytes 1 0xC0 ++ List.replicate 6 0 ++ sha3 s.identityKey ++
    (List.range 7).flatMap s.componentEntry ++
    leBytes 1 s.lifecycle ++ leBytes 1 s.settingsUsed ++ leBytes 1 s.ownerGen ++ leBytes 1 (b2n s.fram.lock) ++ List.replicate 12 0 ++
    s.vendorDigest ++ s.ownerNow ++ leBytes 4 (s.rd GLB_DBG_STAT.OPEN) ++ leBytes 4 (s.rd GLB_DBG_COUNT.SESSIONS) ++ List.replicate 8 0 ++
    (List.range 8).flatMap s.partitionEntry
  body ++ s.signed ['N', 'Z', '-', 'A', 'R'] body ++ [0]

/-- The KEM object of partition p with a nonce and an encapsulation key (R382). -/
def State.kemObject (s : State) (p : Nat) (nonce ek : List Byte) : List Byte :=
  let body := leBytes 4 (2 + p * 2 ^ 8) ++ leBytes 4 (s.prt p).buildId ++ leBytes 8 (s.tenantEpoch p) ++ leBytes 16 s.deviceId ++ fitTo 64 nonce ++ fitTo 1568 ek
  body ++ s.signed ['N', 'Z', '-', 'K', 'K'] body ++ [0]

/-- A response object stands in the DOE mailbox of a function (0 PF0, 1 + n VF n). -/
def State.doePut (s : State) (fn : Nat) (b : List Byte) : State := { s with dict := { s.dict with doe := Cells.set none s.dict.doe fn (some b) } }

end Sys2Proof.Machine
end

