-- ==== Sys2Proof/Machine/PartOps.lean ====
section
/-! DEFINITION. Builds, teardowns and retirements (R370 to R377, R390, R391, R495 to R497, R501). -/

namespace Sys2Proof.Machine
open Reg

/-- The granules of a mask. -/
def granules (m : Nat) : List Nat := (List.range 16).filter (fun n => bit m n)

/-- The partition, not FREE, that granule n belongs to. -/
def State.granuleOf (s : State) (n : Nat) : Option Nat :=
  (List.range 8).find? (fun p => s.rd (GLB_PART_STAT.STATE p) ≠ 0 && bit (s.rd (GLB_PART_STAT.GRANULES p)) n)

/-! Retirement (R495). -/

/-- The hold-up store reads charged (R461, Table 16.6). -/
def State.holdupOk (s : State) : Bool := s.flag PWR_STAT.HOLDUP_OK && !s.flag PWR_INJ.HOLDUP

/-- Bits [6:0] of Lathe n's OTP byte that are set; the Lathe is retired while their number is odd. -/
def State.otpLathe (s : State) (n : Nat) : Nat := ((List.range 7).filter (fun i => bit (Cells.get 0 s.boot.otp (0x200 + n)) i)).length

/-- RETIRED shows the OTP (Tables 3.13, 17.12). -/
def State.showRetired (s : State) (n : Nat) : State :=
  let r := b2n (s.otpLathe n % 2 = 1)
  let m := s.rd ERR_LATHE.RETIRED
  (s.wr (LTH_ID.RETIRED n) r).wr ERR_LATHE.RETIRED (if bit m n then m - 2 ^ n + r * 2 ^ n else m + r * 2 ^ n)

/-- The next free bit of the Lathe's OTP byte is programmed and read back; a mismatch sets OTP_FAIL. -/
def State.otpLatheNext (s : State) (n : Nat) (ok : Bool) : State :=
  let v := Cells.get 0 s.boot.otp (0x200 + n)
  match (List.range 7).find? (fun i => !bit v i) with
  | none => s
  | some i => if ok then (s.otpProgram (0x200 + n) [BitVec.ofNat 8 (2 ^ i)]).showRetired n else s.raise ERR_STAT.OTP_FAIL

/-- A Lathe leaves service: it takes Lathe reset and stays OFFLINE (R104, Table 3.10). -/
def State.latheOffline (s : State) (n : Nat) : State := ((s.dropPins n (s.lth n).flights).latheClear n).wr (LTH_SEQ_STAT.STATE n) 8

/-- The partition of a Lathe that is retired: its step is aborted on the other Lathes, and it is stopped (R199, R201). -/
def State.stopForRetired (s : State) (n : Nat) : State :=
  match s.partOf n with
  | none => s
  | some p =>
    if s.rd (GLB_PART_STAT.STATE p) = 0 ∨ s.tearing p ∨ s.rd (PLT_PSTAT.STATE p) = 0 ∨ s.rd (PLT_PSTAT.STATE p) = 3 then s
    else (((s.lathesOf p).filter (fun m => m ≠ n)).foldl (fun st m => st.stepAbort m) s).partitionStop p [n]

/-- Retirement: OFFLINE, and the OTP bit, which waits while HOLDUP_OK is 0. A Lathe that is already retired takes no further bit. -/
def State.retireLathe (s : State) (n : Nat) (ok : Bool) : State :=
  if s.flag (LTH_ID.RETIRED n) then s
  else
    let s1 := (s.stopForRetired n).latheOffline n
    if s1.holdupOk then s1.otpLatheNext n ok else s1

/-- Suspect Lathes among some are retired. -/
def State.retireSuspects (s : State) (ns : List Nat) (ok : Bool) : State :=
  (ns.filter (fun n => bit (s.rd ERR_LATHE.SUSPECT) n)).foldl (fun st n => st.retireLathe n ok) s

/-! Building (R375, R376). -/

/-- The rules of Table 13.1 on the settings of the next build. -/
def State.buildRules (s : State) (p : Nat) : List Bool :=
  let x := s.prt p
  let others := (List.range 8).filter (fun q => q ≠ p && s.rd (GLB_PART_STAT.STATE q) ≠ 0)
  [s.rd (GLB_PART_STAT.STATE p) = 0,
   x.granules ≠ 0 && others.all (fun q => s.rd (GLB_PART_STAT.GRANULES q) &&& x.granules = 0),
   (granules x.granules).all (fun n => !s.flag (LTH_ID.RETIRED n) && s.portUp n),
   ((List.range 32).filter (fun c => bit x.hdmaCh c)).all (fun c => s.hPart c = none || s.hPart c = some p) &&
   ((List.range 4).filter (fun e => bit x.video e)).all (fun e => !s.flag (VID_ENG_PART.ASSIGNED e) || s.rd (VID_ENG_PART.PART e) = p),
   1 ≤ x.tenant && x.tenant ≤ 4095 && others.all (fun q => s.inEff (FAB_PTEN.TENANT q) ≠ x.tenant && (s.prt q).bTenant ≠ x.tenant),
   x.keySrc ≤ 1]

/-- The result of a command (0x3010 + p:0F). -/
def State.partResult (s : State) (p r : Nat) : State := s.setPrt p { s.prt p with result := r }

/-- A build command (R375, R376); partitions may be built in READY (Table 15.3). -/
def State.buildCmd (s : State) (p : Nat) : State :=
  if s.run ≠ 3 then s
  else if s.tearing p then s.partResult p 0x10
  else
    match failingRule (s.buildRules p) with
    | some r => s.partResult p r
    | none =>
      let x := s.prt p
      ((s.setPrt p { x with result := 0, step := 0, bHdma := x.hdmaCh, bVideo := x.video, bTenant := x.tenant, bKeySrc := x.keySrc, tdWaits := false,
                            restore := 0, cause := 0 }).wr
        (GLB_PART_STAT.STATE p) 1).wr (GLB_PART_STAT.GRANULES p) x.granules

/-- Step k of a build takes effect. -/
def State.buildStep (s : State) (p k : Nat) : State :=
  let x := s.prt p
  let ns := granules (s.rd (GLB_PART_STAT.GRANULES p))
  if k = 1 then
    let b := (s.boot.buildCount + 1) % 2 ^ 32
    let s1 := { s with boot := { s.boot with buildCount := b }
                       err := { s.err with clean := ns.foldl (fun m n => Cells.set none m n none) s.err.clean } }
    s1.setPrt p { x with buildId := b, dbgPart := 0, touched := false }
  else if k = 2 then
    ns.foldl (fun st n => (((st.wr (LTH_PART.WAY_MASK n) (s.rd (GLB_PART_STAT.GRANULES p))).wr (LTH_PART.PART n) p).wr (LTH_PART.ASSIGNED n) 1).wr
      (LTH_PART.PLT_OWNED n) 1) s
  else if k = 3 then
    let s1 := ((List.range 32).filter (fun c => bit x.bHdma c)).foldl (fun st c => (st.wr (HDMA_CH_PART.PART c) p).wr (HDMA_CH_PART.ASSIGNED c) 1) s
    ((List.range 4).filter (fun e => bit x.bVideo e)).foldl (fun st e => st.vidAssign e p true) s1
  else if k = 4 then ((s.wr (FAB_PTEN.TENANT p) x.bTenant).wr (FAB_PTEN.EPOCH p) (s.inEff (FAB_PTEN.EPOCH p))).fabCheckApply p true
  else if k = 5 then (s.setPrt p { x with kem := some (s.freeBytes 64) }).drewMany 64
  else if x.bKeySrc = 1 then s.wr (GLB_PART_STAT.STATE p) 2
  else
    let s1 := if s.flag KEY_ERR_STAT.KAT_FAIL then s else (s.keyPut p 0 (s.freeBytes 64)).drewMany 64
    (s1.wr (KEY_PSTAT.CURRENT p) 0).wr (GLB_PART_STAT.STATE p) 3

/-! Teardown (R390). -/

/-- The restore marker of a partition: its BUILD_ID and whether the restore is committed. -/
def State.setMarker (s : State) (p : Nat) (v : Option (Nat × Bool)) : State :=
  { s with boot := { s.boot with markers := Cells.set none s.boot.markers p v } }

/-- A restore is aborted with a cause; its marker goes (R501). -/
def State.restoreAborted (s : State) (p cause : Nat) : State :=
  ((s.setMarker p none).setPrt p { s.prt p with restore := 5, cause := cause }).raise ERR_STAT.RESTORE_ABORTED

/-- A teardown is accepted: it zeroes memory as ZERO says, and always when it aborts a restore. -/
def State.tdStart (s : State) (p : Nat) (zero : Bool) : State :=
  let s1 := if s.restoring p then s.restoreAborted p 3 else s
  (((s1.setPrt p { s1.prt p with tdMask := 0, dropped := 0, tdWaits := false, tdZero := zero || s.restoring p }).wr (GLB_PART_STAT.STATE p) 4).wr
    (GLB_PART_STAT.TD_STEP p) 0)

/-- A teardown command; one accepted in BUILDING waits for the step that runs (R376). -/
def State.tdCmd (s : State) (p : Nat) (zero : Bool) : State :=
  let st := s.rd (GLB_PART_STAT.STATE p)
  if st = 0 then s.partResult p 0x11
  else if st = 4 then s.partResult p 0x10
  else if st = 1 then s.setPrt p { s.prt p with result := 0, tdWaits := true, tdZero := zero }
  else (s.partResult p 0).tdStart p zero

/-- Teardown step k is complete. -/
def State.tdMark (s : State) (p k : Nat) : State :=
  (s.setPrt p { s.prt p with tdMask := (s.prt p).tdMask ||| 2 ^ k }).wr (GLB_PART_STAT.TD_STEP p) k

/-- The channels of partition p: tensor channels as (group, channel), and host/video channels. -/
def State.tdTensor (s : State) (p : Nat) : List (Nat × Nat) :=
  (granules (s.rd (GLB_PART_STAT.GRANULES p))).flatMap (fun g => (List.range 4).map (fun c => (g, c)))
def State.tdHost (s : State) (p : Nat) : List Nat := (List.range 32).filter (fun c => s.hPart c = some p)

/-- Step 2: no step runs, every Lathe abandons its repetition, the records. -/
def State.tdHalt (s : State) (p : Nat) : State :=
  let s1 := (s.lathesOf p).foldl (fun st n => st.stepAbort n) s
  let s2 := s1.setLoop p { s1.loop p with phase := .none, reqs := [], unacked := [], smpAck := false, abort := none }
  let s3 := { s2 with smp := { s2.smp with queue := s2.smp.queue.filter (fun q => q ≠ p) } }.breachPart p 5 0 0
  (((s3.live p false) ++ (s3.live p true)).foldl (fun st x => st.closeSilent p x.1 6 0) s3).showPlt p

/-- Step 3 begins: every channel is fenced, every context disabled, the checkpoint job ends, records are discarded. -/
def State.tdFence (s : State) (p : Nat) : State :=
  let s1 := (s.tdTensor p).foldl (fun st x => st.tensorFence x.1 x.2) s
  let s2 := (s.tdHost p).foldl (fun st c => st.hostFence c) s1
  let s3 := ((List.range 4).filter (fun e => s.flag (VID_ENG_PART.ASSIGNED e) && s.rd (VID_ENG_PART.PART e) = p)).foldl
    (fun st e => (List.range 16).foldl (fun st2 k => st2.vidDisable e k) st) s2
  let s4 := if s3.flag (FAB_CK_CTRL.START p) then
      (((s3.setCk p none).wr (FAB_CK_CTRL.START p) 0).wr (FAB_CK_STAT.STATE p) 3).wr (FAB_CK_STAT.STATUS p) 3
    else s3
  { s4 with evq := Cells.set [] s4.evq p [] }

/-- Enabled channels that have not reached FENCED. -/
def State.tdBusyTensor (s : State) (p : Nat) : List (Nat × Nat) :=
  (s.tdTensor p).filter (fun x => s.flag (TDMA_CH_CTRL.ENABLE x.1 x.2) && s.rd (TDMA_CH_STAT.STATE x.1 x.2) ≠ 3)
def State.tdBusyHost (s : State) (p : Nat) : List Nat := (s.tdHost p).filter (fun c => s.flag (HDMA_CH_CTRL.ENABLE c) && s.hState c ≠ 5)

/-- The fence's time is over: channels that have not reached FENCED are dropped and counted. -/
def State.tdDrop (s : State) (p : Nat) : State :=
  let ts := s.tdBusyTensor p
  let hs := s.tdBusyHost p
  let s1 := ts.foldl (fun st x => st.tensorDisable x.1 x.2) s
  let s2 := hs.foldl (fun st c => st.hostDisable c) s1
  s2.setPrt p { s2.prt p with dropped := ts.length + hs.length }

/-- Step 4: the epoch advances (R377). -/
def State.tdEpoch (s : State) (p : Nat) : State :=
  let e := (s.inEff (FAB_PTEN.EPOCH p) + 1) % 16
  (s.wr (FAB_PTEN.EPOCH p) e).wrEff (FAB_PTEN.EPOCH p) e

/-- Step 5: keys, regions, blocks and the KEM key are destroyed; a rotation ends (R391). -/
def State.tdKeys (s : State) (p : Nat) : State :=
  let s1 := (s.destroySlot p 0).destroySlot p 1
  let s2 := (List.range 64).foldl (fun st r => ((st.wr (KEY_RGN_BASE.VALID p r) 0).wrEff (KEY_RGN_BASE.VALID p r) 0).wr (KEY_RGN_STAT.SWEEPING p r) 0) s1
  let s3 := [KEY_PSTAT.STATE p, KEY_PSTAT.ENABLED p, KEY_PSTAT.PENDING p, FAB_PSTAT.ENABLED p, PFT_PART_STAT.ENABLED p, PFT_PART_STAT.READY p,
    PLT_PSTAT.STATE p, PLT_PSTAT.PENDING p].foldl (fun st f => st.wr f 0) s2
  let off (f : Fld) (st : State) : State := if bit (st.rd f) p then st.wr f (st.rd f - 2 ^ p) else st
  let s4 := off PLT_ERR_STAT.STOPPED (off PFT_ERR_STAT.FAULT (off KEY_ERR_STAT.KEY_FAULT s3))
  let s5 := { s4 with keys := { s4.keys with staged := Cells.set none s4.keys.staged p none } }
  (s5.setLoop p { s5.loop p with staged := none, smpStaged := false }).setPrt p { s5.prt p with kem := none }

/-- The request slots of partition p's range and records (R172). -/
def State.tdSlots (s : State) (p : Nat) : List Nat :=
  (List.range 8192).filter (fun k => (s.inEff (PLT_SLOTS.SLOT_BASE p) ≤ k && k < s.inEff (PLT_SLOTS.SLOT_BASE p) + s.inEff (PLT_SLOTS.SLOT_COUNT p)))

/-- Step 6: the scrub. -/
def State.tdScrub (s : State) (p : Nat) (otpOk : Bool) : State :=
  let ns := granules (s.rd (GLB_PART_STAT.GRANULES p))
  let ks := s.tdSlots p
  let s1 := ns.foldl (fun st n => (((st.dropPins n (st.lth n).flights).latheClear n).zeroWay n)) s
  let s2 := ((List.range 4).filter (fun e => s.flag (VID_ENG_PART.ASSIGNED e) && s.rd (VID_ENG_PART.PART e) = p)).foldl (fun st e => st.vidAssign e 0 false) s1
  let s3 := (s.tdHost p).foldl (fun st c => (st.wr (HDMA_CH_PART.PART c) 0).wr (HDMA_CH_PART.ASSIGNED c) 0) s2
  let mine := (List.range 1024).filter (fun r => bits (Cells.get 0 s.smp.prof (16 * r)) 1 3 = p)
  let own := (List.range 1024).filter (fun b => (s.bucket b).owner = p)
  let erase {α : Type} (m : Cells α) : Cells α := m.filter (fun (x : Nat × α) => !ks.contains x.1)
  let s4 := { s3 with
    plt := { s3.plt with slots := erase s3.plt.slots, bkt := s3.plt.bkt.filter (fun (x : Nat × Bucket) => !own.contains x.1) }
    smp := { s3.smp with used := erase s3.smp.used, ovf := erase s3.smp.ovf, path := erase s3.smp.path,
                         tree := Cells.clear s3.smp.tree (64 * p) (64 * p + 64),
                         prof := s3.smp.prof.filter (fun (x : Nat × Nat) => !mine.contains (x.1 / 16)),
                         profShadow := s3.smp.profShadow.filter (fun (x : Nat × Nat) => bits (Cells.get 0 s.smp.profShadow (x.1 / 16 * 16)) 1 3 ≠ p),
                         profStaged := s3.smp.profStaged.filter (fun (x : Nat × List Nat) => bits (x.2.getD 0 0) 1 3 ≠ p) }
    pft := { s3.pft with recs := erase s3.pft.recs, locks := s3.pft.locks.filter (fun (x : Nat × Nat) => !ks.contains x.1),
                         lines := Cells.clear s3.pft.lines (p * 2 ^ 32) ((p + 1) * 2 ^ 32),
                         gen := Cells.set 0 s3.pft.gen p 0, cnt := Cells.clear s3.pft.cnt (2 * p) (2 * p + 2),
                         pins := Cells.clear s3.pft.pins (2 * p) (2 * p + 2), lst := Cells.clear s3.pft.lst (2 * p) (2 * p + 2),
                         pfQueue := s3.pft.pfQueue.filter (fun (w : List Nat) => bits (w.getD 0 0) 8 3 ≠ p),
                         pltQueue := s3.pft.pltQueue.filter (fun (w : List Nat) => bits (w.getD 0 0) 8 3 ≠ p) } }
  let s5 := ns.foldl (fun st n => [LTH_PART.WAY_MASK n, LTH_PART.PART n, LTH_PART.ASSIGNED n, LTH_PART.PLT_OWNED n].foldl (fun st2 f => st2.wr f 0) st) s4
  (s5.showWalks p).retireSuspects ns otpOk

/-- The partition is FREE. -/
def State.tdFree (s : State) (p : Nat) : State :=
  ((s.wr (GLB_PART_STAT.STATE p) 0).wr (GLB_PART_STAT.GRANULES p) 0).setPrt p { s.prt p with bTenant := 0, step := 0 }

/-- Teardown step k, 1 to 6, runs; step 3 is complete once every enabled channel is FENCED. -/
def State.tdRun (s : State) (p k : Nat) (otpOk : Bool) : State :=
  if k = 1 then (if s.rd (PLT_PSTAT.STATE p) = 0 then s else s.wr (PLT_PSTAT.STATE p) 3).tdMark p 1
  else if k = 2 then (s.tdHalt p).tdMark p 2
  else if k = 3 then
    let s1 := s.tdFence p
    if (s1.tdBusyTensor p).isEmpty && (s1.tdBusyHost p).isEmpty then s1.tdMark p 3 else s1
  else if k = 4 then (s.tdEpoch p).tdMark p 4
  else if k = 5 then (s.tdKeys p).tdMark p 5
  else
    let s1 := (s.tdScrub p otpOk).tdMark p 6
    if (s1.prt p).tdZero then s1 else s1.tdFree p

end Sys2Proof.Machine
end

