-- ==== Sys2Proof/Machine/LifeOps.lean ====
section
/-! DEFINITION. The lifetime store, the buckets and restores (R450, R487 to R489, R498 to R501). -/

namespace Sys2Proof.Machine
open Reg

/-! Buckets (R487 to R489). -/

/-- Buckets without bucket b. -/
def dropBucket (m : Cells Nat) (b : Nat) : Cells Nat := m.filter (fun (x : Nat × Nat) => x.1 % 8 ≠ b)

/-- Sites below both limits stop being lasting (R488). -/
def State.lastingEnd (s : State) : State :=
  { s with err := { s.err with lasting := s.err.lasting.filter (fun (x : Nat × Bool) => s.atLimit x.1) } }

/-- The oldest bucket of every site and cell is cleared and becomes current. -/
def State.rotateBuckets (s : State) : State :=
  let b := (s.err.cur + 1) % 8
  State.lastingEnd { s with err := { s.err with cur := b, ce := dropBucket s.err.ce b, ue := dropBucket s.err.ue b,
                                                katPassB := dropBucket s.err.katPassB b, katFailB := dropBucket s.err.katFailB b } }

/-- The buckets age by k spans. -/
def State.ageBuckets (s : State) : Nat → State
  | 0 => s
  | k + 1 => s.rotateBuckets.ageBuckets k

/-! The store (R498, R499). -/

/-- The newest valid header of an area. -/
def LifeArea.newest (a : LifeArea) : Option LifeHdr :=
  match Cells.get none a.hdr 0, Cells.get none a.hdr 1 with
  | some x, some y => if x.seq < y.seq then some y else some x
  | some x, none => some x
  | none, y => y

/-- Lifetime area i. -/
def State.lifeArea (s : State) (i : Nat) : LifeArea := Cells.get {} s.boot.areas i

/-- The area of a format; none when neither has it. -/
def State.lifeOf (s : State) (fmt : Nat) : Option Nat :=
  let at0 := (s.lifeArea 0).newest
  let at1 := (s.lifeArea 1).newest
  let is (h : Option LifeHdr) : Bool := match h with | some x => x.fmt = fmt | none => false
  let seq (h : Option LifeHdr) : Nat := match h with | some x => x.seq | none => 0
  if is at0 && is at1 then some (if seq at0 < seq at1 then 1 else 0) else if is at0 then some 0 else if is at1 then some 1 else none

/-- The area that a format is written to: its own, an empty one, or the one that does not hold the newest header. -/
def State.lifePlace (s : State) (fmt : Nat) : Nat :=
  match s.lifeOf fmt with
  | some i => i
  | none =>
    match (s.lifeArea 0).newest, (s.lifeArea 1).newest with
    | none, _ => 0
    | some _, none => 1
    | some x, some y => if x.seq < y.seq then 0 else 1

/-- One area is committed: the half that its newest header does not name, then the header slot that does not hold that header, with SEQ + 1. -/
def State.lifeWrite (s : State) (i fmt : Nat) : State :=
  let a := s.lifeArea i
  let h := a.newest
  let half := match h with | some x => 1 - x.half | none => 0
  let seq := match h with | some x => x.seq + 1 | none => 1
  let slot := if Cells.get none a.hdr 0 = h && h.isSome then 1 else 0
  let a1 : LifeArea := { hdr := Cells.set none a.hdr slot (some ⟨fmt, half, seq⟩),
                         half := Cells.set none a.half half (some ⟨s.boot.life, s.err, Cells.get 0 s.aon 1⟩) }
  { s with boot := { s.boot with areas := Cells.set {} s.boot.areas i a1 } }

/-- LIFE_FMT of the service controller in a bank. -/
def State.lifeFmt (s : State) (bank : Nat) : Nat := hdrNum (s.area bank 1).header 0x0D 1

/-- The running bank is in TRIAL. -/
def State.inTrial (s : State) : Bool := s.flag GLB_LIFE.TRIAL

/-- A commit: the area of the running firmware's format, then in a trial the other bank's when it differs; none after input loss, before the store has been opened, or of a DEAD module (R454). -/
def State.lifeCommit (s : State) : State :=
  if s.boot.inputGone || !s.boot.phase7 || s.rd GLB_LIFE.RUN = 7 then s
  else
    let s0 := { s with boot := { s.boot with life := { s.boot.life with commits := s.boot.life.commits + 1 } } }
    let b := s.rd GLB_LIFE.BANK
    let own := s.lifeFmt b
    let other := s.lifeFmt (1 - b)
    let s1 := s0.lifeWrite (s0.lifePlace own) own
    if s.inTrial && other ≠ own && other ≠ 0 then s1.lifeWrite (1 - s0.lifePlace own) other else s1

/-- What a start takes from a data half: the counts and the buckets, aged by the AON count that has passed when `aged` (R489). -/
def State.lifeLoad (s : State) (h : LifeHalf) (aged : Bool) : State :=
  let e := h.err
  let s1 := { s with
    boot := { s.boot with life := h.life }
    err := { cur := e.cur, ce := e.ce, ue := e.ue, lasting := e.lasting, ceTotal := e.ceTotal, ueTotal := e.ueTotal, lastingTotal := e.lastingTotal,
             katPass := e.katPass, katFail := e.katFail, katFailB := e.katFailB, suspectIn := s.err.suspectIn } }
  let span := s.inEff ERR_CFG.WINDOW * 2 * 32768
  let k := if aged then (Cells.get 0 s.aon 1 + 2 ^ 48 - h.aon) % 2 ^ 48 / max 1 span else 0
  (s1.ageBuckets (min 8 k)).lastingEnd

/-- The store is opened at a start: the area of the running firmware's format, or the most recent readable area converted into the other (R450). -/
def State.lifeOpen (s : State) : State :=
  let aged := !s.boot.fresh
  let own := s.lifeFmt (s.rd GLB_LIFE.BANK)
  let load (st : State) (i : Nat) : State :=
    match (st.lifeArea i).newest with
    | none => st
    | some h => match Cells.get none (st.lifeArea i).half h.half with | some d => st.lifeLoad d aged | none => st
  match s.lifeOf own with
  | some i => load s i
  | none =>
    match (s.lifeArea 0).newest, (s.lifeArea 1).newest with
    | none, none => s
    | some _, none => (load s 0).lifeWrite 1 own
    | none, some _ => (load s 1).lifeWrite 0 own
    | some x, some y => if x.seq < y.seq then (load s 1).lifeWrite 0 own else (load s 0).lifeWrite 1 own

/-! Restores (R500, R501): each answers the state and whether the command was accepted. -/

/-- Command 1. -/
def State.restoreArm (s : State) (p : Nat) : State × Bool :=
  let x := s.prt p
  if s.rd (GLB_PART_STAT.STATE p) = 3 ∧ x.bKeySrc = 1 ∧ s.rd (PLT_PSTAT.STATE p) = 0 ∧ !s.restoring p then
    ((s.setMarker p (some (x.buildId, false))).setPrt p { x with restore := 1, cause := 0 }, true)
  else (s, false)

/-- Command 2. -/
def State.restoreStart (s : State) (p : Nat) : State × Bool :=
  if (s.prt p).restore = 1 ∧ !s.flag (FAB_CK_CTRL.START p) then
    (((s.setPrt p { s.prt p with restore := 2 }).wr (FAB_CK_CTRL.DIR p) 1).ckStart p (s.rd (FAB_CK_CTRL.COUNT p)) (s.rd (FAB_CK_CTRL.PEER p)) true
      (s.flag (FAB_CK_CTRL.QUIESCE p)), true)
  else (s, false)

/-- Command 3. -/
def State.restoreCommit (s : State) (p : Nat) : State × Bool :=
  let x := s.prt p
  if x.restore = 3 then
    ((s.setMarker p (some (x.buildId, true))).setPrt p { x with restore := 4 }, true)
  else (s, false)

/-- An abort with its cause: the partition is torn down with its memory zeroed. -/
def State.restoreStop (s : State) (p cause : Nat) : State × Bool :=
  if s.restoring p then
    let s1 := s.restoreAborted p cause
    (if s.tearing p then s1.setPrt p { s1.prt p with tdZero := true } else s1.tdStart p true, true)
  else (s, false)

end Sys2Proof.Machine
end

