-- ==== Sys2Proof/Machine/Reliability.lean ====
section
/-! DEFINITION. The commands of error counting, known-answer tests, retirement, the lifetime store and restores (R484 to R504). -/

namespace Sys2Proof.Machine
open Reg

/-! Sites (R485 to R489). -/

/-- ERROR_REPORT: a code detector reports `n` corrected codewords, or an uncorrectable one with its offset, against a site; sites 100 to 111 are
reserved. -/
def execErrorReport (site : Fin 112) (ue : Bool) (n : Fin 65536) (offset : Fin 536870912) (s : State) : Next :=
  .next (if 100 ≤ site.val then s else if ue then s.reportUe site offset else s.reportCe site n)

/-- BUCKET_ROTATE: a span of WINDOW / 8 ends. -/
def execBucketRotate (s : State) : Next := .next s.rotateBuckets

/-- The rules of Table 17.6 on the shadows. -/
def State.errRules (s : State) : List Bool :=
  [1 ≤ s.rd ERR_CFG.WINDOW,
   1 ≤ s.rd ERR_CFG.CE_LIMIT && 1 ≤ s.rd ERR_CFG.UE_LIMIT && 1 ≤ s.rd ERR_CFG.KAT_LIMIT,
   10 ≤ s.rd ERR_CFG2.KAT_PERIOD,
   60 ≤ s.rd ERR_CFG2.LIFE_PERIOD && s.rd ERR_CFG2.LIFE_PERIOD ≤ 3600]

/-- A commit of the error configuration (R489, R503). -/
def State.errCommit (s : State) : State :=
  match failingRule s.errRules with
  | some k => (s.raise ERR_COMMIT.CFG_MISMATCH).wr ERR_COMMIT.CFG_RULE k
  | none =>
    let s1 := s.applyShadows [ERR_CFG.WINDOW, ERR_CFG.CE_LIMIT, ERR_CFG.UE_LIMIT, ERR_CFG.KAT_LIMIT, ERR_CFG2.KAT_PERIOD, ERR_CFG2.RETIRE_POLICY, ERR_CFG2.LIFE_PERIOD]
    if s.rd ERR_CFG.WINDOW = s.inEff ERR_CFG.WINDOW then s1
    else State.lastingEnd { s1 with err := { s1.err with ce := [], ue := [], katPassB := [], katFailB := [] } }

/-- ERR_COMMIT. -/
def execErrCommit (commit : Bool) (s : State) : Next := .next (if commit then s.errCommit else s)

/-- ERR_LOG_READ: a read of ERR_LOG_LO removes the oldest entry and latches ERR_LOG_HI (Table 17.11). -/
def execErrLogRead (s : State) : Next :=
  match s.err.log with
  | [] => .next (s.send (.readData (leBytes 4 0)))
  | e :: rest =>
    .next ((({ s with err := { s.err with log := rest } }.wr ERR_LOG_HI.SITE e.site).wr ERR_LOG_HI.TIME e.time).send
      (.readData (leBytes 4 (e.offset % 2 ^ 29 + 2 ^ 31))))

/-! Known-answer tests (R490 to R494). -/

def setBit (m n : Nat) (b : Bool) : Nat := if bit m n = b then m else if b then m + 2 ^ n else m - 2 ^ n

/-- A background pass of Lathe n is asked for: it starts, or one more follows the pass that runs (R492). -/
def State.katStart (s : State) (n : Nat) : State :=
  if bit s.boot.katRun n then { s with boot := { s.boot with katMore := setBit s.boot.katMore n true } }
  else { s with boot := { s.boot with katRun := setBit s.boot.katRun n true, katSeq := Cells.set 0 s.boot.katSeq n 0 } }

/-- KAT_BACKGROUND_START. -/
def execKatBackgroundStart (n : Lathe) (s : State) : Next := .next (s.katStart n)

/-- KAT_PASS_MISSED: a pass of Lathe n has not completed within 4 × KAT_PERIOD (R492). -/
def execKatPassMissed (n : Lathe) (s : State) : Next := .next (if bit s.boot.katRun n then s.raise ERR_STAT.KAT_MISSED else s)

/-- The pass of Lathe n goes on after a test: its seventh ends it, a clean one is remembered, and one more starts when it was asked for. -/
def State.katNext (s : State) (n t : Nat) (pass : Bool) : State :=
  let k := if pass && (Cells.get 0 s.boot.katSeq n + 1 = t) then t else 0
  let s1 := { s with boot := { s.boot with katSeq := Cells.set 0 s.boot.katSeq n k } }
  if t ≠ 7 then s1
  else
    let s2 := match s1.partOf n with
      | some p => if k = 7 then { s1 with err := { s1.err with clean := Cells.set none s1.err.clean n (some (s1.stepOf p)) } } else s1
      | none => s1
    { s2 with boot := { s2.boot with katRun := setBit s2.boot.katRun n (bit s2.boot.katMore n), katMore := setBit s2.boot.katMore n false,
                                     katSeq := Cells.set 0 s2.boot.katSeq n 0 } }

/-- KAT_RESULT: test t of a background pass on Lathe n has produced a digest (R490, R494). -/
def execKatResult (n : Lathe) (t : Fin 8) (digest : Word) (s : State) : Next :=
  .next (if t = 0 ∨ !bit s.boot.katRun n then s
    else
      let flip := s.flag (LTH_INJ.KAT_FLIP n)
      let s1 := if flip then s.wr (LTH_INJ.KAT_FLIP n) 0 else s
      let pass : Bool := (if flip then digest.toNat ^^^ 1 else digest.toNat) = katDigest t
      let (s2, cell) := s1.katCell n
      (s2.katCount n t cell pass false).katNext n t pass)

/-! Suspect Lathes (R495 to R497). -/

/-- LATHE_RETIRE: a suspect Lathe leaves service, at once when it is in no partition or RETIRE_POLICY is 0, and under policy 1 when it is suspect
in a second cell; in a teardown it waits for step 6. `otpOk` tells whether the OTP bit reads back. -/
def execLatheRetire (n : Lathe) (otpOk : Bool) (s : State) : Next :=
  .next (if !bit (s.rd ERR_LATHE.SUSPECT) n then s
    else
      match s.granuleOf n with
      | none => s.retireLathe n otpOk
      | some p =>
        if s.tearing p then s
        else if s.inEff ERR_CFG2.RETIRE_POLICY = 0 ∨ 2 ≤ (Cells.get [] s.err.suspectIn n).length then s.retireLathe n otpOk
        else s)

/-- The maintenance window: suspect Lathes are retired, but for those of a partition in teardown (R495, R497). -/
def State.maintenance (s : State) (otpOk : Bool) : State :=
  s.retireSuspects ((List.range 16).filter (fun n => match s.granuleOf n with | some p => !s.tearing p | none => true)) otpOk

/-- MAINTENANCE_WINDOW: a write of 0x5010:0E. -/
def execMaintenanceWindow (otpOk : Bool) (s : State) : Next := .next (s.maintenance otpOk)

/-- The tests 0x01 to 0x07 of a lift run as descriptors, of which some fail: the state, and whether every one passed. -/
def State.liftTests (s : State) (n : Nat) (bad : Nat) : State × Bool :=
  [1, 2, 3, 4, 5, 6, 7].foldl (fun (acc : State × Bool) t =>
    let flip := acc.1.flag (LTH_INJ.KAT_FLIP n)
    let s1 := if flip then acc.1.wr (LTH_INJ.KAT_FLIP n) 0 else acc.1
    let pass : Bool := !bit bad t && !flip
    let (s2, cell) := s1.katCell n
    (s2.katCount n t cell pass true, acc.2 && pass)) (s, true)

/-- A lift of Lathe n (R496, Table 17.4); `bad` are the tests whose digests differ. -/
def State.lift (s : State) (n bad : Nat) (otpOk : Bool) : State :=
  let res (st : State) (r : Nat) : State := { st with boot := { st.boot with liftResult := r } }
  if !s.flag (LTH_ID.RETIRED n) then res s 1
  else if (s.granuleOf n).isSome then res s 2
  else if s.otpLathe n = 7 then res s 3
  else
    let s1 := (s.dropPins n (s.lth n).flights).latheClear n
    let (s2, ok) := s1.liftTests n bad
    if !ok then res s2 4
    else if !otpOk then res (s2.raise ERR_STAT.OTP_FAIL) 5
    else
      let s3 := s2.otpLatheNext n true
      res (({ s3 with err := { s3.err with suspectIn := Cells.set [] s3.err.suspectIn n [] } }.wr ERR_LATHE.SUSPECT (setBit (s3.rd ERR_LATHE.SUSPECT) n false)).wr
        (LTH_SEQ_STAT.STATE n) 1) 0

/-- LATHE_LIFT: a write of Lathe n to 0x5010:0D in the service role. -/
def execLatheLift (n : Lathe) (bad : BitVec 8) (otpOk : Bool) (s : State) : Next := .next (s.lift n bad.toNat otpOk)

/-! Lifetime and restores. -/

/-- LIFETIME_COMMIT: LIFE_PERIOD has passed, or 0x5001:01 is written (R499). -/
def execLifetimeCommit (s : State) : Next := .next s.lifeCommit

/-- RESTORE_ARM, RESTORE_START, RESTORE_COMMIT: commands 1 to 3 of 0x5400 + p:0E. -/
def execRestoreArm (p : Part) (s : State) : Next := .next (s.restoreArm p).1
def execRestoreStart (p : Part) (s : State) : Next := .next (s.restoreStart p).1
def execRestoreCommit (p : Part) (s : State) : Next := .next (s.restoreCommit p).1

/-- RESTORE_ABORT: command 4, or the pull job of the restore has ended with a status other than OK (R501). -/
def execRestoreAbort (p : Part) (cmd : Bool) (s : State) : Next :=
  .next (if cmd then (s.restoreStop p 2).1
    else if (s.prt p).restore = 2 ∧ s.rd (FAB_CK_STAT.STATE p) = 3 then (s.restoreStop p 1).1
    else s)

end Sys2Proof.Machine
end

