-- ==== Sys2Proof/Machine/ThermOps.lean ====
section
/-! DEFINITION. Sensors, throttle levels, rails and the Tandem's saved state (R459 to R478). -/

namespace Sys2Proof.Machine
open Reg

/-! Levels (R469, R470, Table 16.5). -/

/-- Ceiling code and DUTY of a throttle level (Table 16.4). -/
def ceilOf (l : Nat) : Nat := if l ≤ 8 then 16 - 2 * l else 0
def dutyOf (l : Nat) : Nat := if l ≤ 8 then 8 else 16 - l

/-- The module level: the highest of the components and the overrides. -/
def State.moduleLevel (s : State) : Nat :=
  max (max (s.rd THM_MODULE.POWER) (max (s.rd THM_MODULE.COOL) (s.rd THM_MODULE.IODIE)))
    (max (if s.flag THM_MODULE.BRAKE then 12 else 0) (if s.flag THM_MODULE.STOP || s.flag THM_MODULE.NO_OWNER then 15 else 0))

/-- Lathe n runs at the higher of its level and the module level. -/
def State.levelLathe (s : State) (n : Nat) : State :=
  let e := max (s.rd (THM_LATHE.LEVEL n)) (s.rd THM_MODULE.LEVEL)
  if e = s.rd (THM_LATHE.EFFECTIVE n) ∧ Cells.get 16 s.thm.ceil n = ceilOf e ∧ Cells.get 8 s.thm.duty n = dutyOf e then s
  else
    let s1 := { s with thm := { s.thm with ceil := Cells.set 16 s.thm.ceil n (ceilOf e), duty := Cells.set 8 s.thm.duty n (dutyOf e) } }
    let s2 := ((s1.wr (THM_LATHE.EFFECTIVE n) e).wr (LTH_CLK_STAT.DUTY n) (dutyOf e)).reclock n
    s2.raiseIf (e ≠ s.rd (THM_LATHE.EFFECTIVE n)) THM_STAT.LEVEL_CHG

/-- A change of a level, a component or an override takes effect; its owner ends keep-warm while the module level is above 0 (R470, R473). -/
def State.levels (s : State) : State :=
  let m := s.moduleLevel
  let s1 := (s.raiseIf (m ≠ s.rd THM_MODULE.LEVEL) THM_STAT.LEVEL_CHG).wr THM_MODULE.LEVEL m
  let s2 := if m = 0 ∨ !s.flag TDM_STAT.OWNER_VALID then s1 else s1.wr THM_MODULE.KW 0
  (List.range 16).foldl (fun st n => st.levelLathe n) s2

/-! Sensors (R467, R468, R493). -/

/-- A reading in steps of 0.125 °C. -/
def State.temp (s : State) (i : Nat) : Int := sgn 12 (Cells.get 0 s.thm.temp i)
def State.sensorOk (s : State) (i : Nat) : Bool := Cells.get false s.thm.valid i

/-- The reading of the pair of sensors i and i + 1: the higher, the other one of an invalid sensor, or 125 °C. -/
def State.pairTemp (s : State) (i : Nat) : Int :=
  if s.sensorOk i && s.sensorOk (i + 1) then max (s.temp i) (s.temp (i + 1))
  else if s.sensorOk i then s.temp i else if s.sensorOk (i + 1) then s.temp (i + 1) else 1000

/-- The pair lowers the limit of its domain: a wide difference, or one invalid sensor. -/
def State.pairLow (s : State) (i : Nat) : Bool := Cells.get false s.thm.wide i || (s.sensorOk i != s.sensorOk (i + 1))

/-- The pairs, by their lower sensor: those of the Lathes, then of the I/O dies. -/
def pairsIo : List Nat := (List.range 8).map (fun j => 48 + 2 * j)
def pairsAll : List Nat := (List.range 16).map (fun n => 3 * n) ++ pairsIo

/-- The pair of a sensor, none for a Lathe SRAM's. -/
def pairOf (i : Nat) : Option Nat := if i < 48 then (if i % 3 = 2 then none else some (i / 3 * 3)) else some (i / 2 * 2)

/-- The controlling temperature of Lathe n, and of the I/O dies. -/
def State.tctrl (s : State) (n : Nat) : Int :=
  if s.sensorOk (3 * n + 2) then max (s.pairTemp (3 * n)) (s.temp (3 * n + 2)) else s.pairTemp (3 * n)
def State.tctrlIo (s : State) : Int := pairsIo.foldl (fun m i => max m (s.pairTemp i)) (-2048)

/-- The limit in force of Lathe n, and of the I/O dies, in °C. -/
def State.limitOf (s : State) (low : Bool) : Nat := s.inEff THM_CFG.THROTTLE_C - (if low then 5 else 0)
def State.limitLathe (s : State) (n : Nat) : Nat := s.limitOf (s.pairLow (3 * n))
def State.limitIo (s : State) : Nat := s.limitOf (pairsIo.any s.pairLow)

/-- The temperature bin of a controlling temperature, coming from a bin: a new one takes effect 1 °C inside it (R493). -/
def binOf (t : Int) : Nat := if t < 320 then 0 else if 800 ≤ t then 7 else ((t - 240) / 80).toNat
def binNext (old : Nat) (t : Int) : Nat :=
  let b := binOf t
  let lo : Int := if b = 0 then -2048 else 240 + 80 * b
  let hi : Int := if b = 7 then 2048 else 320 + 80 * b
  if b = old ∨ (lo + 8 ≤ t ∧ t ≤ hi - 8) ∨ (b = 0 ∧ t ≤ hi - 8) then b else old

/-- What follows from the readings of Lathe n: TCTRL, LIMIT, the bin and the background pass that a new bin asks for (R492). -/
def State.showLathe (s : State) (n : Nat) : State :=
  let t := s.tctrl n
  let s1 := (s.wr (THM_LATHE.TCTRL n) (t % 4096).toNat).wr (THM_LATHE.LIMIT n) (s.limitLathe n)
  let old := Cells.get 0 s.thm.tempBin n
  let b := binNext old t
  if b = old then s1 else { s1 with thm := { s1.thm with tempBin := Cells.set 0 s1.thm.tempBin n b } }.katStart n

/-- What follows from the readings of all sensors. -/
def State.showTemps (s : State) : State :=
  let s1 := s.wr THM_STAT.PAIR_WIDE (b2n (pairsAll.any s.pairLow))
  (List.range 16).foldl (fun st n => st.showLathe n) s1

/-- A sensor is invalid: its hub's alarm (R467). -/
def State.sensorBad (s : State) (i : Nat) : State :=
  let hub := if i < 48 then 0 else if i < 56 then 1 else 2
  { s with thm := { s.thm with valid := Cells.set false s.thm.valid i false } }.wr THM_STAT.HUB_ALARM (s.rd THM_STAT.HUB_ALARM ||| 2 ^ hub)

/-- A hardware trip (R471, R472): the compute rails go, and a third trip within 24 hours sets NO_RESTART. -/
def State.trip (s : State) : State :=
  let now := Cells.get 0 s.aon 1
  let ts := now :: s.thm.trips.filter (fun t => (now + 2 ^ 48 - t) % 2 ^ 48 ≤ 86400 * 32768)
  let s1 := ((s.computeOff.raise THM_STAT.TRIP).wr THM_STAT.TRIPPED 1).raiseIf (3 ≤ ts.length) THM_STAT.NO_RESTART
  { s1 with thm := { s1.thm with trips := ts, tripTotal := s1.thm.tripTotal + 1 } }

/-- A sample of sensor i: outside −40 °C to 150 °C it is invalid; an armed BAD or TRIP injection acts on its sensor's next sample (Table 16.6). -/
def State.sample (s : State) (i raw : Nat) : State :=
  let mine := s.rd THM_INJ.SENS = i
  if mine && s.flag THM_INJ.BAD then (s.wr THM_INJ.BAD 0).sensorBad i
  else
    let hot := mine && s.flag THM_INJ.TRIP
    let v := if hot then 880 else raw % 4096
    let s1 := { s with thm := { s.thm with temp := Cells.set 0 s.thm.temp i v } }
    if sgn 12 v < -320 ∨ 1200 < sgn 12 v then s1.sensorBad i
    else
      let s2 := { s1 with thm := { s1.thm with valid := Cells.set false s1.thm.valid i true } }
      if hot then (s2.wr THM_INJ.TRIP 0).trip else s2

/-- Samples of sensors as their hubs take them. -/
def State.samples (s : State) (l : List (Fin 64 × BitVec 12)) : State := (l.foldl (fun st x => st.sample x.1 x.2.toNat) s).showTemps

/-! Coolant and the valve (R463 to R466, R473). -/

/-- The valve has to stand at 100 %: power above 300 W, a controlling temperature above FLOOR + 10 °C, a coolant component, a flow stop (R464). -/
def State.valveOpen (s : State) : Bool :=
  3000 < s.rd PWR_INPUT.WATTS || s.rd THM_MODULE.COOL ≠ 0 || s.flag THM_MODULE.STOP ||
  ((List.range 16).map s.tctrl).any (fun t => 8 * ((s.inEff THM_CFG.FLOOR : Int) + 10) < t) || decide (8 * ((s.inEff THM_CFG.FLOOR : Int) + 10) < s.tctrlIo)

/-- What blocks keep-warm (R473). -/
def State.warmBlocked (s : State) : Bool := s.moduleLevel ≠ 0 || 6000 < s.rd PWR_INPUT.WATTS || s.valveOpen

/-- KW 0 at once where keep-warm is blocked, and the valve at 100 % where R464 wants it; the outputs hold while no supervisor owns them. -/
def State.warmCheck (s : State) : State :=
  if !s.flag TDM_STAT.OWNER_VALID then s else
  let s1 := if s.warmBlocked then s.wr THM_MODULE.KW 0 else s
  if s1.valveOpen then s1.wr THM_MODULE.VALVE 100 else s1

/-! Saved state (R478). -/

/-- The registers of the thermal, power and Tandem blocks. -/
def thmCells (s : State) : Cells Nat := Cells.within s.regs (thmB * 32) ((thmB + 0x10000) * 32)

/-- The newest copy. -/
def State.savedNow (s : State) : Option TdmSave :=
  match Cells.get none s.tdm.saved 0, Cells.get none s.tdm.saved 1 with
  | some a, some b => if a.seq < b.seq then some b else some a
  | some a, none => some a
  | none, b => b

/-- The owner writes the copy that is not the newest, with SEQ + 1; nothing is written once the input is lost and the write in progress is done. -/
def State.saveTandem (s : State) : State :=
  let newest := s.savedNow
  let seq := match newest with | some a => a.seq + 1 | none => 1
  let k := if newest.isSome && Cells.get none s.tdm.saved 0 = newest then 1 else 0
  { s with tdm := { s.tdm with saved := Cells.set none s.tdm.saved k (some ⟨seq, thmCells s, s.thm⟩) } }

/-- A supervisor is an owner that can act. -/
def State.owned (s : State) : Bool := s.flag TDM_STAT.OWNER_VALID

/-- STATE of a supervisor (0 A, 1 B): 0 ACTIVE, 1 WATCH, 2 RESTARTING, 3 OFFLINE. -/
def supState (u : Nat) : Fld := if u = 0 then TDM_STAT.A_STATE else TDM_STAT.B_STATE

/-- Supervisor u owns the outputs: the no-owner override ends (R480). -/
def State.ownedBy (s : State) (u : Nat) : State :=
  (((s.wr TDM_STAT.OWNER_VALID 1).wr TDM_STAT.OWNER u).wr (supState u) 0).wr THM_MODULE.NO_OWNER 0

/-- Every level and output follows from the components, the overrides and the readings. -/
def State.outputs (s : State) : State := s.levels.warmCheck

/-- Supervisor u becomes the owner and writes its first outputs (R477). -/
def State.becomeOwner (s : State) (u : Nat) : State := (s.ownedBy u).outputs

/-- Supervisor u has failed: it is held in reset, and no supervisor owns the outputs when it was the owner (R476, R477). -/
def State.supFailed (s : State) (u : Nat) : State :=
  let s1 := { s with tdm := { s.tdm with held := Cells.set false s.tdm.held u true },
                     host := { s.host with inReset := Cells.set false s.host.inReset (1 + u) true } }
  let s2 := (s1.mbxReset (1 + u)).wr (supState u) 2
  if s.owned ∧ s.rd TDM_STAT.OWNER = u then s2.wr TDM_STAT.OWNER_VALID 0 else s2

/-- Supervisor u runs again. -/
def State.supReleased (s : State) (u : Nat) : State :=
  { s with tdm := { s.tdm with held := Cells.set false s.tdm.held u false, fails := Cells.set 0 s.tdm.fails u 0,
                               wireSilent := Cells.set false s.tdm.wireSilent u false, mbxSilent := Cells.set false s.tdm.mbxSilent u false },
           host := { s.host with inReset := Cells.set false s.host.inReset (1 + u) false, line := Cells.set false s.host.line (8 + u) false } }

/-- The levels, components, outputs and histories of the newest copy of the saved state (R477 step 2). -/
def State.loadTandem (s : State) : State :=
  match s.savedNow with
  | none => s
  | some c =>
    let take (st : State) (f : Fld) : State := st.wr f (Cells.get f.reset c.regs f.key)
    let s1 := ([THM_MODULE.POWER, THM_MODULE.COOL, THM_MODULE.IODIE, THM_MODULE.KW, THM_MODULE.VALVE] ++ (List.range 16).map (fun n => THM_LATHE.LEVEL n)).foldl take s
    { s1 with thm := { s1.thm with trips := c.thm.trips, faults := c.thm.faults } }

end Sys2Proof.Machine
end

