-- ==== Sys2Proof/Machine/SettingsOps.lean ====
section
/-! DEFINITION. The entries that may be persisted, their commits, and the settings generations of OTP (R418 to R421, R447). -/

namespace Sys2Proof.Machine
open Reg

/-- Where a persistable entry's value stands. -/
inductive PSrc where
  | fld (f : Fld)
  | nodeCount
  | toTimer
  | confirmHours
deriving DecidableEq, Repr

/-- A persistable entry (marked P): type (Table 14.5), size in bytes, range, default, place. -/
structure PEnt where
  typ : Nat
  size : Nat
  lo : Nat
  hi : Nat
  dflt : Nat
  src : PSrc
deriving DecidableEq, Repr

/-- The persistable entries (Tables 14.9, 14.10, 15.17, 16.24, 17.13). -/
def persistEnt (idx sub : Nat) : Option PEnt :=
  let fld (typ size : Nat) (f : Fld) : PEnt := ⟨typ, size, 0, 2 ^ f.width - 1, f.reset, .fld f⟩
  let pick (l : List PEnt) : Option PEnt := if sub = 0 then none else l[sub - 1]?
  if idx = 0x1010 then
    (if sub = 3 then some ⟨2, 1, 1, 32, 32, .nodeCount⟩ else if sub = 4 then some ⟨2, 1, 1, 255, 32, .toTimer⟩ else none)
  else if idx / 16 = 0x202 then
    let n := idx % 16
    pick [fld 2 1 (LTH_CLK_CFG.FMIN_CODE n), fld 2 1 (LTH_CLK_CFG.FMAX_CODE n), fld 4 4 (LTH_WAIT_LIMIT.LIMIT n)]
  else if idx / 16 = 0x203 then
    let n := idx % 16
    pick [fld 2 1 (MEM_CFG.SCRUB_PERIOD n), fld 2 1 (MEM_CFG.RETIRE_CE n), fld 1 1 (MEM_CFG.AUTO_SR n)]
  else if idx = 0x4030 then
    pick [fld 2 1 THM_CFG.THROTTLE_C, fld 2 1 THM_CFG.FLOOR, fld 1 1 THM_CFG.KW_EN, fld 1 1 THM_CFG.AUTO_RESTART, fld 2 1 THM_CFG.VALVE_MIN]
  else if idx = 0x5000 then
    pick [fld 3 2 ERR_CFG.WINDOW, fld 2 1 ERR_CFG.CE_LIMIT, fld 2 1 ERR_CFG.UE_LIMIT, fld 2 1 ERR_CFG.KAT_LIMIT, fld 3 2 ERR_CFG2.KAT_PERIOD,
      fld 1 1 ERR_CFG2.RETIRE_POLICY, fld 3 2 ERR_CFG2.LIFE_PERIOD]
  else if idx = 0xB000 then (if sub = 5 then some ⟨3, 2, 0, 65535, 24, .confirmHours⟩ else none)
  else none

/-- The value of a persistable entry: the shadow for SH fields. -/
def State.persistGet (s : State) (e : PEnt) : Nat :=
  match e.src with
  | .fld f => s.rd f
  | .nodeCount => s.dict.nodeCount
  | .toTimer => s.dict.toTimer
  | .confirmHours => s.fram.confirmHours

/-- A value written to a persistable entry. -/
def State.persistPut (s : State) (e : PEnt) (v : Nat) : State :=
  match e.src with
  | .fld f => s.wr f v
  | .nodeCount => { s with dict := { s.dict with nodeCount := v } }
  | .toTimer => { s with dict := { s.dict with toTimer := v } }
  | .confirmHours => s.setFram { s.fram with confirmHours := v }

/-- The rules of Table 16.7 on the shadows of THM_CFG. -/
def State.thmRules (s : State) : List Bool :=
  let t := s.rd THM_CFG.THROTTLE_C
  let f := s.rd THM_CFG.FLOOR
  [80 ≤ t && t ≤ 95, 35 ≤ f && f ≤ 70 && f ≤ t - 20, 40 ≤ s.rd THM_CFG.VALVE_MIN && s.rd THM_CFG.VALVE_MIN ≤ 100]

/-- A commit of THM_CFG (R482). -/
def State.thmCommit (s : State) : State :=
  match failingRule s.thmRules with
  | some k => (s.raise THM_COMMIT.CFG_MISMATCH).wr THM_COMMIT.CFG_RULE k
  | none => (s.applyShadows [THM_CFG.THROTTLE_C, THM_CFG.FLOOR, THM_CFG.KW_EN, THM_CFG.AUTO_RESTART, THM_CFG.VALVE_MIN]).showTemps

/-- The commit entry (subindex 0F) of an index that has persistable entries: whether the owning block took it. -/
def State.persistCommit (s : State) (idx : Nat) : State × Bool :=
  if idx / 16 = 0x202 then
    let n := idx % 16
    let s1 := s.lthCommit n false
    (s1, s1.rd (LTH_CFG_STAT.PENDING n) ≠ 0 || (failingRule (s.lthRules n)).isNone)
  else if idx / 16 = 0x203 then (s.memCommit (idx % 16), !(s.rd (MEM_CFG.SCRUB_PERIOD (idx % 16)) = 0 || s.rd (MEM_CFG.RETIRE_CE (idx % 16)) = 0))
  else if idx = 0x4030 then (s.thmCommit, (failingRule s.thmRules).isNone)
  else if idx = 0x5000 then (s.errCommit, (failingRule s.errRules).isNone)
  else (s, true)

/-- The indices with persistable entries and a commit entry, ascending. -/
def commitIndices : List Nat := (List.range 16).map (· + 0x2020) ++ (List.range 16).map (· + 0x2030) ++ [0x4030, 0x5000]

/-! Settings records (Table 14.11). -/

/-- The highest settings VERSION that the running service controller knows (Table 15.8). -/
def State.setVerKnown (s : State) : Nat := hdrNum (s.area (s.rd GLB_LIFE.BANK) 1).header 0x0E 1

/-- Generation g is valid (R419). -/
def State.settingsValid (s : State) (g : Nat) : Bool :=
  let r := s.settings g
  leVal (r.take 4) = 0x4E5A5345 && hdrNum r 5 1 = g && hdrNum r 0xFF 1 = 0xA5 && hdrNum r 0xF4 4 = crc32 (r.take 0xF4) &&
  1 ≤ hdrNum r 4 1 && hdrNum r 4 1 ≤ s.setVerKnown

/-- The generation in effect, 0 none (R421). -/
def State.settingsNow (s : State) : Nat := ([4, 3, 2, 1].find? s.settingsValid).getD 0

/-- The items of a record: index, subindex, length, value. -/
def settingsItems : Nat → List Byte → List (Nat × Nat × Nat × Nat)
  | 0, _ => []
  | n + 1, b =>
    let len := hdrNum b 3 1
    (hdrNum b 0 2, hdrNum b 2 1, len, hdrNum b 4 len) :: settingsItems n (b.drop (4 + ceilDiv len 4 * 4))

/-- One item as an operator write: the state, and whether it was taken. -/
def State.settingsItem (s : State) (idx sub len v : Nat) : State × Bool :=
  match persistEnt idx sub with
  | none => (s, false)
  | some e => if e.size = len ∧ e.lo ≤ v ∧ v ≤ e.hi then (s.persistPut e v, true) else (s, false)

/-- The valid generation with the highest g is applied: its items in order, then the commit entry of every index that received one; an item
that fails is counted (R421). -/
def State.settingsApply (s : State) : State :=
  let g := s.settingsNow
  let r := s.settings g
  let s0 := { s with boot := { s.boot with setGen := g, setVer := if g = 0 then 0 else hdrNum r 4 1, setSkipped := 0 } }
  if g = 0 then s0
  else
    let items := settingsItems (hdrNum r 6 1) (r.drop 8)
    let (s1, got, bad) := items.foldl (fun (acc : State × List Nat × Nat) (x : Nat × Nat × Nat × Nat) =>
      let t := acc.1.settingsItem x.1 x.2.1 x.2.2.1 x.2.2.2
      if t.2 then (t.1, (if acc.2.1.contains x.1 then acc.2.1 else acc.2.1 ++ [x.1]), acc.2.2) else (t.1, acc.2.1, acc.2.2 + 1)) (s0, [], 0)
    let s2 := (commitIndices.filter (fun i => got.contains i)).foldl (fun st i => (st.persistCommit i).1) s1
    { s2 with boot := { s2.boot with setSkipped := bad } }

/-- The valid items of the persist list, in subindex order: item number, index, subindex (R418). -/
def State.persistItems (s : State) : List (Nat × Nat × Nat) :=
  ((List.range 32).map (fun i => (i + 1, Cells.get 0 s.dict.persist (i + 1)))).filterMap (fun x =>
    if bit x.2 31 then some (x.1, bits x.2 0 16, bits x.2 16 8) else none)

/-- The bytes of an item. -/
def settingsBytes (idx sub len v : Nat) : List Byte := leBytes 2 idx ++ leBytes 1 sub ++ leBytes 1 len ++ leBytes (ceilDiv len 4 * 4) v

/-- A write of a settings generation (R420): the result of 0x2010:01. `readOk` tells whether the read-back
matches; a generation whose read-back does not match stays used and not valid. -/
def State.settingsWrite (s : State) (readOk : Bool) : State × Nat :=
  let done (st : State) (r item : Nat) : State × Nat := ({ st with boot := { st.boot with setResult := r, setItem := item } }, r)
  let items := s.persistItems
  let g := s.settingsUsed + 1
  let body := items.flatMap (fun x => match persistEnt x.2.1 x.2.2 with | some e => settingsBytes x.2.1 x.2.2 e.size (s.persistGet e) | none => [])
  if 4 < g then done s 1 0
  else if 236 < body.length then done s 2 0
  else
    match items.find? (fun x => (persistEnt x.2.1 x.2.2).isNone) with
    | some x => done s 3 x.1
    | none =>
      if !s.holdupOk then done s 4 0
      else
        let head := leBytes 4 0x4E5A5345 ++ [1, BitVec.ofNat 8 g, BitVec.ofNat 8 items.length, 0] ++ fitTo 236 body
        let off := 0x1C00 + (g - 1) * 0x100
        let s1 := (s.otpProgram off head).otpProgram (off + 0xF4) (leBytes 4 (crc32 head))
        if bit s1.dict.inj 2 then done { s1 with dict := { s1.dict with inj := s1.dict.inj - 4 } } 5 0
        else if readOk then done (s1.otpProgram (off + 0xFF) [0xA5]) 0 0
        else done s1 5 0

end Sys2Proof.Machine
end

