-- ==== Sys2Proof/Machine/BootOps.lean ====
section
/-! DEFINITION. Firmware components, the choice of a bank, and the phases of start-up after a reset (R379, R380, R425 to R437, R444, R445). -/

namespace Sys2Proof.Machine
open Reg

/-! Bank records (R434). -/

/-- The record in force: the valid copy with the higher SEQ. -/
def State.bankRec (s : State) : Option BankRec :=
  match Cells.get none s.boot.recs 0, Cells.get none s.boot.recs 1 with
  | some a, some b => if a.seq < b.seq then some b else some a
  | some a, none => some a
  | none, b => b

/-- TARGET, and the state of a bank; without a record TARGET is 0 and the states are unknown (6). -/
def State.target (s : State) : Nat := match s.bankRec with | some r => r.target | none => 0
def State.bankState (s : State) (b : Nat) : Nat := match s.bankRec with | some r => if b = 0 then r.st0 else r.st1 | none => 6

/-- A new record, with SEQ + 1, in the copy that is not in force. -/
def State.writeRec (s : State) (target st0 st1 : Nat) : State :=
  let now := s.bankRec
  let seq := match now with | some r => r.seq + 1 | none => 1
  let k := if now.isSome && Cells.get none s.boot.recs 0 = now then 1 else 0
  { s with boot := { s.boot with recs := Cells.set none s.boot.recs k (some ⟨seq, target, st0, st1⟩) } }

/-- The record with bank b in state v and a TARGET; the other bank's state stays, unknown as EMPTY. -/
def State.setBank (s : State) (b v target : Nat) : State :=
  let o := if s.bankState (1 - b) = 6 then 0 else s.bankState (1 - b)
  if b = 0 then s.writeRec target v o else s.writeRec target o v

/-! Components (R379, R436, R437). -/

/-- The body of a component as its pages hold it, and whether every page has been programmed. -/
def FwArea.body (a : FwArea) : List Byte :=
  let n := hdrNum a.header 0x10 4
  ((List.range (ceilDiv n 4096)).flatMap (fun i => fitTo 4096 (Cells.get [] a.pages i))).take n
def FwArea.complete (a : FwArea) : Bool :=
  (List.range (ceilDiv (hdrNum a.header 0x10 4) 4096)).all (fun i => a.pages.any (fun (x : Nat × List Byte) => x.1 = i))

/-- The measurement: SHA3-512 of the signed content. -/
def FwArea.measure (a : FwArea) : List Byte := sha3 (fitTo 0x40 a.header ++ a.body)

/-- The size of a component's area (Table 15.7). -/
def areaSize (id : Nat) : Nat := if id = 1 then 0x800000 else if id = 5 then 0x1800000 else 0x400000

/-- MAGIC, FORMAT and BODY_BYTES are correct (R440). -/
def headerOk (h : List Byte) (id : Nat) : Bool :=
  hdrNum h 0 4 = 0x4E5A4657 && hdrNum h 4 1 = 1 && 16384 + hdrNum h 0x10 4 ≤ areaSize id

/-- The vendor key of a header has the vendor digest; its owner key has the current owner digest, when one is set (R440). -/
def State.vendorOk (s : State) (h : List Byte) : Bool := sha3 (fitTo 2592 (h.drop 0x40)) = s.vendorDigest
def State.ownerOk (s : State) (h : List Byte) : Bool :=
  s.ownerGen = 0 || (bit (hdrNum h 0x14 1) 0 && sha3 (fitTo 2592 (h.drop 0xA60)) = s.ownerNow)

/-- R379 checks 1 and 2 on a component. -/
def State.signaturesOk (s : State) (a : FwArea) : Bool :=
  let h := a.header
  let ctx := ascii ['N', 'Z', '-', 'F', 'W']
  s.vendorOk h && Config.dsaVerify (fitTo 2592 (h.drop 0x40)) ctx a.measure (fitTo 4627 (h.drop 0x1480)) &&
  (s.ownerGen = 0 || (sha3 (fitTo 2592 (h.drop 0xA60)) = s.ownerNow &&
    Config.dsaVerify (fitTo 2592 (h.drop 0xA60)) ctx a.measure (fitTo 4627 (h.drop 0x2693))))

/-- A component stands whole in its area and passes R379 checks 1 and 2. -/
def State.fwOk (s : State) (b id : Nat) : Bool :=
  let a := s.area b id
  headerOk a.header id && hdrNum a.header 5 1 = id && a.complete && s.signaturesOk a

/-- Where a service controller's IFACE_RANGE names a component. -/
def rangeAt (id : Nat) : Nat := 0x20 + 2 * (if id = 2 then 0 else if id = 4 then 1 else if id = 5 then 2 else 3)

/-- Rules 1 to 3 of Table 15.9 for a header, against a service controller's header. -/
def State.compatible (s : State) (h svc : List Byte) (id : Nat) : Bool :=
  let i := hdrNum h 0x0C 1
  (if id = 1 then i = 1 else hdrNum svc (rangeAt id) 1 ≤ i && i ≤ hdrNum svc (rangeAt id + 1) 1) &&
  bit (hdrNum h 7 1) (if s.is1T then 0 else 1)

/-- The SVN floor: the highest bit set in OTP; none set counts as 0 (R439, Table 15.17). -/
def State.svnFloor (s : State) : Nat :=
  let v := leVal (s.otpBytes 0x180 8)
  ((List.range 64).filter (fun i => bit v i)).foldl max 0

/-- The service controller component of a bank starts (R435 step 3). -/
def State.svcOk (s : State) (b : Nat) : Bool :=
  s.fwOk b 1 && hdrNum (s.area b 1).header 0x0C 1 = 1 && s.svnFloor ≤ hdrNum (s.area b 1).header 6 1

/-- Every later component of a bank is present, verifies and is compatible. -/
def State.bankWhole (s : State) (b : Nat) : Bool :=
  [2, 4, 5, 6].all (fun id => s.fwOk b id && s.compatible (s.area b id).header (s.area b 1).header id)

/-- A component is running from a bank. -/
def State.runs (s : State) (c id b : Nat) : State :=
  let a := s.area b id
  { s with boot := { s.boot with running := Cells.set {} s.boot.running c ⟨b, hdrNum a.header 8 4, a.measure⟩ } }

/-! Phases (Table 15.5). -/

/-- One fall-back is counted, with its event (R446). -/
def State.countFallback (s : State) : State :=
  let s1 := { s with boot := { s.boot with fallEvents := s.boot.fallEvents ++ [Cells.get 0 s.aon 1], trialSecs := 0 } }
  s1.bump GLB_FALLBACKS.COUNT 1

/-- R435: the bank to start, or none for ROM recovery. -/
def State.chooseBank (s : State) (cause : Nat) : State × Option Nat :=
  let t0 := s.target
  let s1 := if s.bankState t0 = 3 ∧ (cause = 3 ∨ cause = 5) then (s.setBank t0 5 (1 - t0)).countFallback else s
  let t := s1.target
  let o := 1 - t
  if s1.svcOk t then (s1, some t)
  else if (s1.bankState o = 4 ∨ s1.bankState o = 6) ∧ s1.svcOk o then (s1.setBank t 5 o, some o)
  else (s1, none)

/-- The owner writes its saved state and hands over to the supervisor in WATCH, which takes the newest readings (R477). -/
def State.handover (s : State) (readings : List (Fin 64 × BitVec 12)) : State :=
  let o := s.rd TDM_STAT.OWNER
  if s.owned ∧ s.rd (supState (1 - o)) = 1 ∧ !Cells.get false s.tdm.held (1 - o) then
    (((s.saveTandem.wr (supState o) 1).loadTandem.samples readings).becomeOwner (1 - o))
  else s

/-- The supervisor image of bank b stands in both supervisors, which are measured as components 2 and 3. -/
def State.supervisorsRun (s : State) (b : Nat) : State :=
  let m := (s.area b 2).measure
  let s1 := { s with tdm := { s.tdm with image := Cells.set [] (Cells.set [] s.tdm.image 0 m) 1 m } }
  (s1.runs 2 2 b).runs 3 2 b

/-- The supervisor image of bank b is applied to the running Tandem when it differs: control passes to the other supervisor and back (R444). -/
def State.supervisorsApply (s : State) (b : Nat) : State :=
  if (s.area b 2).measure = Cells.get [] s.tdm.image 0 then s.supervisorsRun b else ((s.handover []).handover []).supervisorsRun b

/-- What the boot ROM reads from OTP: lifecycle, retired Lathes, the device ID, a nonce (R378, R400, R427, R495). -/
def State.romReads (s : State) : State :=
  let life := Cells.get 0 s.boot.otp 0
  let s1 := s.wr GLB_LIFE.OTP_LIFE (if life = 0 then 0 else if life = 1 then 1 else 2)
  let s2 := (List.range 16).foldl (fun st n => st.showRetired n) s1
  let d := s2.deviceId
  let s3 := (s2.wr GLB_DEVID_LO.DEVID d).wr GLB_DEVID_HI.DEVID (d / 2 ^ 32)
  { s3.drewMany 8 with dict := { s3.dict with bootNonce := s3.freeBytes 8 } }

/-- Phase 7 to the start of phase 9: the later components run, the settings and the FRAM stores are applied, the ports train. -/
def State.phase7 (s : State) (qualified : Nat) : State :=
  let b := s.rd GLB_LIFE.BANK
  let s1 := (((s.runs 4 4 b).runs 5 5 b).runs 6 6 b).setRun 2
  let s2 := s1.lifeOpen.settingsApply
  let s3 := { s2 with boot := { s2.boot with phase7 := true, fresh := false, qualified := qualified } }
  (List.range 16).foldl (fun st n => if st.rd (MEM_STAT.STATE n) = 0 then st.wr (MEM_STAT.STATE n) 1 else st) s3

/-- The shared self-test ends with a failure outside a trial (R445). -/
def State.selfTestDead (s : State) : State := s.die 1

/-- A module whose firmware waits in ROM recovery: the compute rails stay off (R451). -/
def State.recovery (s : State) : State := s.computeOff.setRun 5

/-- Phases 2 to 5, and 7 where the compute rails are up: `cold` after a power-on reset, when the supervisors are loaded and started. A
start of the trial whose shared self-test fails ends with true (R429, R435, R444, R445). -/
def State.start (s : State) (cause : Nat) (cold : Bool) (u : StartUp) : State × Bool :=
  let s0 := ({ s with boot := { s.boot with gaPins := u.ga } }).wr GLB_LIFE.RESET_CAUSE cause
  if !u.otpOk then (s0.die 5, false)
  else
    let s1 := s0.romReads
    if s1.rd GLB_LIFE.OTP_LIFE = 1 then (s1.setRun 6, false)
    else
      match s1.chooseBank cause with
      | (s2, none) => ({ s2.recovery with boot := { s2.recovery.boot with phase5 := true } }, false)
      | (s2, some b) =>
        let s3 := ((s2.wr GLB_LIFE.BANK b).wr GLB_LIFE.TRIAL (b2n (s2.bankState b = 3))).runs 1 1 b
        let s4 := { s3 with boot := { s3.boot with phase5 := true } }
        let s5 := if s4.fwOk b 2 then
            (if cold then ((s4.supervisorsRun b).wr TDM_STAT.B_STATE 1).ownedBy 0 else s4.supervisorsApply b)
          else s4
        if !s5.bankWhole b then (s5.setRun 4, false)
        else if !s5.flag PWR_STAT.GROUP_C then (s5.setRun 1, false)
        else if u.testOk && !s5.flag KEY_ERR_STAT.KAT_FAIL then (s5.phase7 u.qualified.toNat, false)
        else if s5.inTrial then (s5, true)
        else (s5.selfTestDead, false)

/-! Resets (Table 15.1). -/

/-- What every reset keeps: the variant, OTP, flash and FRAM (Tables 15.1, 15.11), the model's own counters, the queue and what was sent. -/
def State.framKept (s : State) : State :=
  let b := s.boot
  let r := State.reset
  let s1 : State := { r with
    is1T := s.is1T, out := s.out, freeCtr := s.freeCtr, ticks := s.ticks, pending := s.pending
    boot := { otp := b.otp, area := b.area, recs := b.recs, fram := b.fram, buildCount := b.buildCount, fallEvents := b.fallEvents, trialSecs := b.trialSecs,
              deadCause := b.deadCause, areas := b.areas, markers := b.markers, gaPins := b.gaPins, locate := b.locate, fresh := b.fresh,
              qualified := 0xFFFF }
    mem := { spare := s.mem.spare }
    err := { suspectIn := s.err.suspectIn }
    tdm := { saved := s.tdm.saved }
    thm := { tripTotal := s.thm.tripTotal }
    part := s.part.map (fun (x : Nat × PartSt) => (x.1, { dbgPart := x.2.dbgPart })) }
  let keep := [GLB_DBG_COUNT.SESSIONS, GLB_FALLBACKS.COUNT, GLB_FALLBACKS.TRIAL_HOURS, PWR_STAT.LOSSES, TDM_COUNTS.TAKEOVERS, TDM_COUNTS.RETURNS,
    ERR_LATHE.SUSPECT] ++ (List.range 16).map (fun n => MEM_STAT.SPARES_USED n)
  keep.foldl (fun st f => st.wr f (s.rd f)) s1

/-- A restore marker without COMMIT is reported once: aborted by a reset (R501). -/
def State.markersReport (s : State) : State :=
  (List.range 8).foldl (fun st p =>
    match Cells.get none st.boot.markers p with
    | some (_, false) =>
      ((st.setMarker p none).setPrt p { st.prt p with restore := 5, cause := 4 }).raise ERR_STAT.RESTORE_ABORTED
    | some (_, true) => st
    | none => st) s

/-- The blocks after a module reset: every one at its reset state but the AON counters, both supervisors with their latches and mailboxes, and the
rails (R425, R475, R482); an armed KEY_INJ.KAT makes the cipher's known-answer test at this reset fail (Table 8.4). -/
def State.resetBlocks (s : State) : State :=
  let k := s.framKept
  let lo := thmB * 32
  let hi := (thmB + 0x10000) * 32
  let regs : Cells Nat := k.regs.filter (fun (x : Nat × Nat) => x.1 < lo) ++ thmCells s ++ k.regs.filter (fun (x : Nat × Nat) => hi ≤ x.1)
  let s1 : State := { k with regs := regs, eff := Cells.within s.eff lo hi, aon := s.aon, thm := s.thm, tdm := s.tdm,
                             host := { k.host with inReset := s.host.inReset, line := Cells.within s.host.line 8 10 } }
  let sup := [1, 2].flatMap (fun t => [MBX_IN_FROM.FROM t, MBX_IN_FROM.FULL t, MBX_IN_DATA.DATA t, MBX_DB_PEND.PEND t, MBX_DB_MASK.MASK t])
  let s2 := sup.foldl (fun st f => st.wr f (s.rd f)) s1
  ((List.range 16).foldl (fun st n => st.throttle n) s2).raiseIf (s.flag KEY_INJ.KAT) KEY_ERR_STAT.KAT_FAIL

/-- The start that a reset leads to; a trial whose shared self-test fails starts once more, by fall-back (R445). -/
def State.startAgain (s : State) (cause : Nat) (cold : Bool) (u : StartUp) : State :=
  match s.start cause cold u with
  | (s1, false) => s1
  | (s1, true) => ((s1.lifeCommit.resetBlocks.markersReport).start 5 false { u with testOk := u.retryOk }).1

/-- A module reset (Table 15.1). A module that is DEAD stays DEAD (R454). -/
def State.moduleReset (s : State) (cause : Nat) (u : StartUp) : State :=
  if s.run = 7 then s else s.resetBlocks.markersReport.startAgain cause false u

/-- A power-on reset: the AON counters restart, the supervisors and the rails too. -/
def State.powerOn (s : State) (u : StartUp) : State := ({ s.framKept with boot := { s.framKept.boot with fresh := true } }).markersReport.startAgain 0 true u

end Sys2Proof.Machine
end

