-- ==== Sys2Proof/Machine/Partitions.lean ====
section
/-! DEFINITION. The commands of partitions, attestation and debug (R374 to R393). -/

namespace Sys2Proof.Machine
open Reg

/-- PARTITION_BUILD: step 0 is the command of 0x3010 + p:0E; step k, 1 to 6, is the completion of the build's step k, each after the one
before. A teardown accepted meanwhile takes effect then (R376). -/
def execPartitionBuild (p : Part) (k : Fin 7) (s : State) : Next :=
  .next (
    if k = 0 then s.buildCmd p
    else if s.rd (GLB_PART_STAT.STATE p) ≠ 1 ∨ k.val ≠ (s.prt p).step + 1 then s
    else
      let s1 := s.buildStep p k
      let s2 := s1.setPrt p { s1.prt p with step := k.val }
      if (s2.prt p).tdWaits then s2.tdStart p (s2.prt p).tdZero else s2)

/-- PARTITION_TEARDOWN: step 0 is the command; step k, 1 to 6, is the running of the teardown's step k. `otpOk` tells whether retirement bits that
step 6 programs read back (R390, R497). -/
def execPartitionTeardown (p : Part) (k : Fin 7) (otpOk : Bool) (s : State) : Next :=
  .next (
    if k = 0 then s.tdCmd p ((s.prt p).zero ≠ 0)
    else if !s.tearing p ∨ k.val ≠ s.rd (GLB_PART_STAT.TD_STEP p) + 1 then s
    else s.tdRun p k otpOk)

/-- TEARDOWN_FENCE_TIMEOUT: 100 µs of step 3 have passed (Table 13.9). -/
def execTeardownFenceTimeout (p : Part) (s : State) : Next :=
  .next (if !s.tearing p ∨ s.rd (GLB_PART_STAT.TD_STEP p) ≠ 2 then s else ((s.tdFence p).tdDrop p).tdMark p 3)

/-- TEARDOWN_COMPLETE: the memory of every port of the partition is zero, and the partition is FREE (Table 13.9). -/
def execTeardownComplete (p : Part) (s : State) : Next :=
  .next (if !s.tearing p ∨ s.rd (GLB_PART_STAT.TD_STEP p) ≠ 6 then s
    else (((granules (s.rd (GLB_PART_STAT.GRANULES p))).foldl (fun st n => st.zeroPort n) s).tdMark p 7).tdFree p)

/-! Attestation (R382 to R386). -/

/-- A source of dictionary and security requests, by its requester number (R406). -/
def reqCode : ReqPath → Nat
  | .doe .pf0 => 0
  | .doe (.vf v) => 1 + v.val
  | .mirror => 0
  | .field mac svc => 16 + 2 * mac.toNat + b2n svc

/-- REQUESTER of a report by requester number (Table 13.6). -/
def reporterOf (code : Nat) : Nat := if code < 9 then code else 9

/-- A report for a requester number and a nonce becomes the value of its 0xA010:02 (R384, R408). -/
def State.storeReport (s : State) (code : Nat) (nonce : List Byte) : State :=
  let seq := s.dict.reportSeq + 1
  let b := s.reportBytes (reporterOf code) seq nonce
  { s with dict := { s.dict with reportSeq := seq, reports := Cells.set none s.dict.reports code (some b) } }

/-- A report for a function's DOE request of type 0x01 becomes its response object. -/
def State.makeReport (s : State) (rq : ReqPath) (nonce : List Byte) : State :=
  match rq with
  | .doe f =>
    let seq := s.dict.reportSeq + 1
    { s with dict := { s.dict with reportSeq := seq } }.doePut (reqCode (.doe f)) (s.reportBytes (reqCode (.doe f)) seq nonce)
  | _ => s.storeReport (reqCode rq) nonce

/-- ATTESTATION_REQUEST: a request for a report is taken. -/
def execAttestationRequest (rq : ReqPath) (nonce : List Byte) (s : State) : Next := .next (s.makeReport rq nonce)

/-- KEM_REQUEST: through the DOE mailbox of VF p. While the partition has no KEM key the spec states no encapsulation key: a free value (R382). -/
def execKemRequest (p : Part) (nonce : List Byte) (s : State) : Next :=
  .next (match (s.prt p).kem with
    | some seed => s.doePut (1 + p) (s.kemObject p nonce (Config.kemEk seed))
    | none => (s.doePut (1 + p) (s.kemObject p nonce (s.freeBytes 1568))).drewMany 1568)

/-- The result code and the state that a key delivery leaves (R383, Table 13.5). -/
def State.keyDelivered (s : State) (p slot : Nat) (rotate : Bool) (buildId : Nat) (ct wrapped : List Byte) : State × Nat :=
  let x := s.prt p
  let st := s.rd (GLB_PART_STAT.STATE p)
  if st ≠ 2 ∧ st ≠ 3 then (s, 1)
  else if buildId ≠ x.buildId then (s, 6)
  else
    let secret := fitTo 32 (Config.kemDecaps (x.kem.getD []) (fitTo 1568 ct))
    let kek := (sha3 (secret ++ ascii ['N', 'Z', '-', 'K', 'W'] ++ leBytes 8 s.deviceId ++ leBytes 4 buildId ++ leBytes 1 slot)).take 32
    match Config.kwUnwrap kek (fitTo 72 wrapped) with
    | none => (s, 3)
    | some key =>
      match s.keyLoad p slot key with
      | (s1, 0) =>
        let s2 := if st = 2 then (s1.wr (KEY_PSTAT.CURRENT p) slot).wr (GLB_PART_STAT.STATE p) 3 else s1
        if rotate then
          let r := s2.rotateStart p
          (r.1, if r.2 then 0 else 5)
        else (s2, 0)
      | (s1, c) => (s1, c)

/-- KEY_DELIVERY: through the DOE mailbox of VF p. -/
def execKeyDelivery (p : Part) (slot : Fin 2) (rotate : Bool) (buildId : Word) (ct wrapped : List Byte) (s : State) : Next :=
  let r := s.keyDelivered p slot rotate buildId.toNat ct wrapped
  .next (r.1.doePut (1 + p) (leBytes 4 r.2))

/-- An owner change: the first digest alone, a later one signed under the current owner key (R381). -/
def State.ownerChange (s : State) (digest sig : List Byte) : State :=
  let g := s.ownerGen
  let d := fitTo 64 digest
  let res (st : State) (r : Nat) : State := { st with boot := { st.boot with ownerResult := r } }
  if 4 ≤ g then res s 1
  else if g ≠ 0 && !s.ownerSigned ['N', 'Z', '-', 'O', 'W'] (s.ownerNow ++ d ++ leBytes 8 s.deviceId) sig then res s 2
  else res (s.otpProgram (0x80 + 64 * g) d) 0

/-- OWNER_CHANGE: a write of 0xA020:01. -/
def execOwnerChange (digest sig : List Byte) (s : State) : Next := .next (s.ownerChange digest sig)

/-- DOE_ABORT: the response to the function's request is discarded (R384). -/
def execDoeAbort (fn : Func) (s : State) : Next := .next { s with dict := { s.dict with doe := Cells.set none s.dict.doe (reqCode (.doe fn)) none } }

/-! Debug (R387 to R389). -/

/-- DEBUG_OPEN: GLB_DBG_CTRL.OPEN; `framOk` tells whether the FRAM write succeeds (R388). -/
def execDebugOpen (framOk : Bool) (s : State) : Next :=
  .next (if s.flag GLB_DBG_STAT.OPEN then s else if framOk then s.openSession else s.raise GLB_SEC_STAT.DBG_FRAM_FAIL)

/-- DEBUG_CLOSE: GLB_DBG_CTRL.CLOSE. -/
def execDebugClose (s : State) : Next := .next s.closeSession

/-- DEBUG_SESSION_TIMEOUT: 60 s have passed without a debug access (R388). -/
def execDebugSessionTimeout (s : State) : Next := .next s.closeSession

/-- The partition that a way belongs to. -/
def State.wayPart (s : State) (w : Nat) : Option Nat := (List.range 8).find? (fun p => (s.waysOf p).contains w)

/-- DBG_WAY_DATA_ACCESS: a read, or a write of a word, of GLB_DBG_WAY_DATA. Served for a way of no partition, and counted while every Lathe of the
way's partition is STOPPED. What a read of an uncorrectable word returns is a free value (R389, Table 13.15). -/
def execDbgWayDataAccess (write : Option Word) (framOk : Bool) (s : State) : Next :=
  let a := s.rd GLB_DBG_WAY_ADDR.ADDR
  let w := a / 2 ^ 22
  let off := a % 2 ^ 22 / 4 * 4
  let (s0, ok) := match s.wayPart w with
    | none => (s, true)
    | some p => if (s.lathesOf p).all (fun n => s.seq n = 7) then s.debugAccess p framOk else (s, false)
  .next (
    match write with
    | some v => if ok then (s0.wayWrite w off (leBytes 4 v.toNat)).1 else s0
    | none =>
      if !ok then s0.send (.readData (leBytes 4 0))
      else
        let r := s0.wayRead w off 4
        if r.2.1 then r.1.send (.readData r.2.2) else (r.1.send (.readData (leBytes 4 r.1.free))).drew)

end Sys2Proof.Machine
end

