-- ==== Sys2Proof/Machine/UpdateOps.lean ====
section
/-! DEFINITION. Update sessions, activation, confirmation and the update lock (R438 to R455): each request answers the state and its result
code (Table 15.10). -/

namespace Sys2Proof.Machine
open Reg

/-- An entry of a partner (R410). -/
def State.partner (s : State) (k : Nat) : Partner := Cells.get {} s.dict.partners k

/-- The cabinet state of 0x1050:01: 0 unknown, 1 stationary, 2 in transit (R412). -/
def State.cabState (s : State) : Nat :=
  match s.dict.cabNode with
  | some k => if (s.partner k).here && (s.partner k).kind = 1 then s.dict.cabVal else 0
  | none => 0

/-- The bank that an update writes: in MAINT the running one, in recovery bank 0 unless it is CONFIRMED (R438, R451, R452). -/
def State.stagingBank (s : State) : Nat :=
  if s.run = 4 then s.target else if s.run = 5 then (if s.bankState 0 = 4 then 1 else 0) else 1 - s.target

/-- Updates are served: READY, MAINT and ROM recovery. -/
def State.updServed (s : State) : Bool := s.run = 3 || s.run = 4 || s.run = 5

/-- The conditions of R439 on every request of a session; none when all hold. -/
def State.updGate (s : State) : Option Nat :=
  if s.cabState ≠ 1 then some 0x01 else if !s.holdupOk then some 0x02 else if s.fram.lock then some 0x03 else none

/-- Every partition is FREE. -/
def State.allFree (s : State) : Bool := (List.range 8).all (fun p => s.rd (GLB_PART_STAT.STATE p) = 0)

/-- TARGET, the staging bank's counterpart, is in TRIAL (R439). -/
def State.updTrial (s : State) : Bool := s.stagingBank ≠ s.target && s.bankState s.target = 3

/-- The code of a request, kept as the last result. -/
def State.updDone (s : State) (r : Nat) : State × Nat := (s.wr GLB_UPD.LAST_RESULT r, r)

/-- Another requester owns the open session (R438). -/
def State.updBusy (s : State) (who : Nat) : Bool := match s.boot.session with | some x => x.owner ≠ who | none => false

/-- The session ends, and with it what has been staged: a new update begins again at component 1 (R442). -/
def State.sessionEnd (s : State) (staged : List Nat) : State :=
  (({ s with boot := { s.boot with session := none, staged := staged } }.wr GLB_UPD.SESSION 0).wr GLB_UPD.COMPONENT 0).wr GLB_UPD.PAGES 0

/-- A session opens for a component, in a state of Table 15.15. -/
def State.sessionOpen (s : State) (who comp st : Nat) : State :=
  (({ s with boot := { s.boot with session := some ⟨who, comp⟩ } }.wr GLB_UPD.SESSION st).wr GLB_UPD.COMPONENT comp).wr GLB_UPD.PAGES 0

/-- The next component of the order. -/
def State.updNext (s : State) : Nat := ([1, 2, 4, 5, 6].find? (fun c => !s.boot.staged.contains c)).getD 1

/-- A component may be written now (R438, R451, R452). -/
def State.updOrder (s : State) (id : Nat) : Bool :=
  if s.run = 4 then [2, 4, 5, 6].contains id else if s.run = 5 then id = 1 else id = s.updNext

/-- A failure of programming or read-back: it ends the session, and in ROM recovery the module is DEAD (R441, R453). -/
def State.updFlash (s : State) : State × Nat :=
  let r := (s.sessionEnd []).updDone 0x11
  if s.run = 5 then (r.1.die 3, r.2) else r

/-- A write of the header (R440). -/
def State.updHeader (s : State) (who : Nat) (header : List Byte) : State × Nat :=
  let h := fitTo 16384 header
  let id := hdrNum h 5 1
  let b := s.stagingBank
  match s.updGate with
  | some r => s.updDone r
  | none =>
    if s.updBusy who then s.updDone 0x12
    else if s.updTrial then s.updDone 0x14
    else if !headerOk h id then s.updDone 0x04
    else if s.boot.session.isSome || !s.updOrder id then s.updDone 0x07
    else if !s.vendorOk h then s.updDone 0x05
    else if !s.ownerOk h then s.updDone 0x06
    else if !s.compatible h (s.area b 1).header id then s.updDone 0x08
    else if hdrNum h 6 1 < s.svnFloor then s.updDone 0x09
    else
      let s1 := if id = 1 then s.setBank b 1 s.target else s
      ((s1.setArea b id { header := h }).sessionOpen who id 1).updDone 0

/-- The erase of the component's area is done. -/
def State.eraseDone (s : State) : State := if s.rd GLB_UPD.SESSION = 1 then s.wr GLB_UPD.SESSION 2 else s

/-- The open session that a requester owns, or the code that refuses it. -/
def State.updMine (s : State) (who : Nat) : Nat ⊕ UpdSession :=
  match s.updGate with
  | some r => .inl r
  | none =>
    match s.boot.session with
    | none => .inl 0x0A
    | some x => if x.owner ≠ who then .inl 0x12 else if s.rd GLB_UPD.SESSION = 1 then .inl 0x0B else if s.rd GLB_UPD.SESSION ≠ 2 then .inl 0x12 else .inr x

/-- The pages of a block: page number and its bytes. -/
def blockPages (off : Nat) (data : List Byte) : List (Nat × List Byte) :=
  (List.range (ceilDiv data.length 4096)).map (fun i => (off / 4096 + i, (data.drop (4096 * i)).take 4096))

/-- Page k of an area has been programmed. -/
def FwArea.has (a : FwArea) (k : Nat) : Bool := a.pages.any (fun (x : Nat × List Byte) => x.1 = k)

/-- A block (R441): its offset, its CRC-32 and the data. `readOk` tells whether the read-back matches. -/
def State.updBlock (s : State) (who : Nat) (value : List Byte) (readOk : Bool) : State × Nat :=
  match s.updMine who with
  | .inl r => s.updDone r
  | .inr x =>
    let b := s.stagingBank
    let a := s.area b x.comp
    let body := hdrNum a.header 0x10 4
    let off := leVal (value.take 4)
    let data := value.drop 8
    let n := data.length
    if off % 4096 ≠ 0 ∨ n < 4096 ∨ 65536 < n ∨ body < off + n ∨ (n % 4096 ≠ 0 ∧ off + n ≠ body) then s.updDone 0x0C
    else if crc32 data ≠ leVal ((value.drop 4).take 4) then s.updDone 0x0E
    else if (blockPages off data).any (fun p => a.has p.1 && Cells.get [] a.pages p.1 ≠ p.2) then s.updDone 0x0D
    else
      let a1 : FwArea := { a with pages := (blockPages off data).foldl (fun m p => Cells.set [] m p.1 p.2) a.pages }
      let s1 := (s.setArea b x.comp a1).wr GLB_UPD.PAGES a1.pages.length
      if readOk then s1.updDone 0 else s1.updFlash

/-- A component is staged: the last one makes the bank STAGED (R442). -/
def State.stageComponent (s : State) (id : Nat) : State :=
  if s.run = 4 then s.sessionEnd []
  else if id = 6 then (s.setBank s.stagingBank 2 s.target).sessionEnd []
  else s.sessionEnd (s.boot.staged ++ [id])

/-- Command 4. In ROM recovery the bank becomes the TARGET in TRIAL, and a module reset follows (R451). -/
def State.updFinish (s : State) (who : Nat) (u : StartUp) : State × Nat :=
  match s.updMine who with
  | .inl r => s.updDone r
  | .inr x =>
    let a := s.area s.stagingBank x.comp
    if !a.complete then s.updDone 0x0F
    else if !s.signaturesOk a then s.updDone 0x10
    else if s.run = 5 then
      let r := ((s.setBank s.stagingBank 3 s.stagingBank).sessionEnd []).updDone 0
      (r.1.moduleReset 6 u, r.2)
    else (s.stageComponent x.comp).updDone 0

/-- Command 5: the copy of TARGET's component begins. -/
def State.updSkip (s : State) (who id : Nat) : State × Nat :=
  let b := s.stagingBank
  let h := (s.area s.target id).header
  match s.updGate with
  | some r => s.updDone r
  | none =>
    if s.updBusy who then s.updDone 0x12
    else if s.updTrial then s.updDone 0x14
    else if s.run ≠ 3 ∨ s.boot.session.isSome ∨ id ≠ s.updNext then s.updDone 0x07
    else if !s.compatible h (if id = 1 then h else (s.area b 1).header) id then s.updDone 0x08
    else
      let s1 := if id = 1 then s.setBank b 1 s.target else s
      (s1.sessionOpen who id 4).updDone 0

/-- The copy is done. -/
def State.skipDone (s : State) (readOk : Bool) : State :=
  match s.boot.session with
  | some x =>
    if s.rd GLB_UPD.SESSION ≠ 4 then s
    else if readOk then (s.setArea s.stagingBank x.comp (s.area s.target x.comp)).stageComponent x.comp
    else s.updFlash.1
  | none => s

/-- Command 6, from any operator requester. -/
def State.updAbort (s : State) : State × Nat :=
  match s.updGate with
  | some r => s.updDone r
  | none => if s.boot.session.isSome then (s.sessionEnd []).updDone 0 else s.updDone 0x0A

/-- A trial begins, or is over: its hours count from 0. -/
def State.trialZero (s : State) : State := ({ s with boot := { s.boot with trialSecs := 0 } }).wr GLB_FALLBACKS.TRIAL_HOURS 0

/-- Step 3 of an activation, and the module reset: `applyOk` tells whether the supervisor image could be applied (R443). -/
def State.activated (s : State) (b old : Nat) (applyOk : Bool) (u : StartUp) : State × Nat :=
  if !applyOk ∧ (s.area b 2).measure ≠ Cells.get [] s.tdm.image 0 then (s.setBank b 5 old).updDone 0x11
  else
    let r := (s.supervisorsApply b).updDone 0
    (r.1.lifeCommit.moduleReset 4 u, r.2)

/-- Command 3 (R443), and in MAINT as R452 gives it. -/
def State.updActivate (s : State) (who : Nat) (applyOk : Bool) (u : StartUp) : State × Nat :=
  let b := s.stagingBank
  if s.updBusy who then s.updDone 0x12
  else if s.run = 4 ∧ !(s.svcOk b && s.bankWhole b) then s.updDone 0x0F
  else if s.run ≠ 4 ∧ (s.run ≠ 3 ∨ s.bankState b ≠ 2) then s.updDone 0x0F
  else
    match s.updGate with
    | some r => s.updDone r
    | none =>
      if !s.allFree then s.updDone 0x13
      else if s.run = 4 then s.activated b s.target applyOk u
      else ((s.setBank b 3 b).trialZero).activated b s.target applyOk u

/-- The running bank is CONFIRMED: the SVN floor follows its service controller, and the other bank is erased when it falls below (R446). -/
def State.confirm (s : State) : State :=
  let b := s.rd GLB_LIFE.BANK
  let v := hdrNum (s.area b 1).header 6 1 % 64
  let s1 := (((s.setBank b 4 b).wr GLB_LIFE.TRIAL 0).trialZero).otpProgram (0x180 + v / 8) [BitVec.ofNat 8 (2 ^ (v % 8))]
  let o := 1 - b
  if hdrNum (s1.area o 1).header 6 1 < s1.svnFloor ∧ s1.bankState o ≠ 0 then
    ([1, 2, 4, 5, 6].foldl (fun st c => st.setArea o c {}) s1).setBank b 4 b |>.setBank o 0 b
  else s1

/-- Command 2. -/
def State.updConfirm (s : State) : State × Nat := if s.run = 3 && s.inTrial then s.confirm.updDone 0 else s.updDone 0x07

/-- Command 1: NO_RESTART clears, and the module is reset (R425, R472). -/
def State.updReset (s : State) (u : StartUp) : State × Nat :=
  let r := (s.wr THM_STAT.NO_RESTART 0).updDone 0
  (r.1.lifeCommit.moduleReset 2 u, r.2)

/-- The update lock (R455): the code of 0xB030:02. -/
def State.updLock (s : State) (lock : Bool) (seq : Nat) (sig : List Byte) : State × Nat :=
  let done (st : State) (r : Nat) : State × Nat := ({ st with boot := { st.boot with lockResult := r } }, r)
  if s.ownerGen = 0 then done s 1
  else if seq ≤ s.fram.lockSeq then done s 2
  else if !s.ownerSigned ['N', 'Z', '-', 'U', 'L'] (leBytes 8 s.deviceId ++ leBytes 1 (b2n lock) ++ leBytes 4 seq) sig then done s 3
  else done (s.setFram { s.fram with lock := lock, lockSeq := seq }) 0

end Sys2Proof.Machine
end

