-- ==== Sys2Proof/Machine/RegOps.lean ====
section
/-! DEFINITION. What a read of a register returns and what a write does to its fields, by their access types (R15 to R19, R34 to R36, R99, R105,
R202, R215, R289, R342, R348, R360, R369, R374). -/

namespace Sys2Proof.Machine
open Reg

/-! What stands behind the data registers and status bits that no cell of their own holds. -/

/-- Word w of slot k's record (Table 6.1). -/
def State.slotWord (s : State) (k w : Nat) : Nat :=
  let r := s.slot k
  ([r.state + b2n r.demoted * 8 + b2n r.spec * 16 + b2n r.cancel * 32 + r.part % 8 * 64 + r.cls % 4 * 512 + r.bucket % 1024 * 65536,
    r.reqId, r.promptLen, r.maxNew, r.promptDone, r.genDone, r.admitSeq, r.admitT, r.ttftT, r.lastT, r.charge, r.hold, r.prompt, r.prompt / 2 ^ 32,
    r.profile % 65536, r.errSteps % 16 + r.breaches % 65536 * 65536].getD w 0) % 2 ^ 32

/-- Word w of bucket b (Table 6.9). -/
def State.bucketWord (s : State) (b w : Nat) : Nat :=
  let x := s.bucket b
  ([x.balance, x.held, x.cap, x.refill % 2 ^ 24, x.period % 2 ^ 16 + x.owner % 8 * 2 ^ 16 + b2n x.enable * 2 ^ 19, x.consumed].getD w 0) % 2 ^ 32

/-- Word w of the KV record of slot k (Table 5.3). -/
def State.kvWord (s : State) (k w : Nat) : Nat :=
  let r := s.kvRec k
  ([r.rootFrame % 2 ^ 24 + r.rootLine % 64 * 2 ^ 24 + b2n r.isOpen * 2 ^ 31, r.len % 2 ^ 21 + r.part % 8 * 2 ^ 21 + b2n r.spec * 2 ^ 24, r.tail % 2 ^ 24,
    r.prepLen % 2 ^ 21] ++ r.prov.map (fun f => f % 2 ^ 24)).getD w 0

/-- The row of the STATUS indicator (Table 18.7). -/
def State.statusRow (s : State) : Nat :=
  if s.run = 7 then 1
  else if s.flag THM_STAT.TRIPPED || s.flag THM_STAT.NO_FLOW_START || s.flag THM_MODULE.STOP then 2
  else if s.run = 4 || s.run = 5 then 3
  else if s.run ≠ 3 then 4
  else if s.rd ERR_LATHE.SUSPECT ≠ 0 || s.rd ERR_LATHE.RETIRED ≠ 0 || s.err.lasting.any (fun (x : Nat × Bool) => x.2) then 5 else 6

/-- The lower sensor of the pair of sensor i, or itself. -/
def pairBase (i : Nat) : Nat := (pairOf i).getD i

/-- What a field of the global, Peloton, page-frame, sampling, fabric, thermal and errors blocks shows; a field with a cell of its own shows that. -/
def State.lookShared (s : State) (f : Fld) : Nat :=
  let sens := s.rd THM_SENS_ADDR.SENSOR
  let rail := s.rd PWR_RAIL_ADDR.RAIL
  let site := s.rd ERR_SITE_ADDR.SITE
  if f = PLT_SLOT_DATA.DATA then s.slotWord (s.rd PLT_SLOT_ADDR.ADDR / 16) (s.rd PLT_SLOT_ADDR.ADDR % 16)
  else if f = PLT_BKT_DATA.DATA then s.bucketWord (s.rd PLT_BKT_ADDR.ADDR / 8) (s.rd PLT_BKT_ADDR.ADDR % 8)
  else if f = PLT_COST_DATA.DATA then s.wNow (bits (s.rd PLT_COST_ADDR.ADDR) 16 3) (bits (s.rd PLT_COST_ADDR.ADDR) 0 8)
  else if f = PFT_REC_DATA.DATA then s.kvWord (s.rd PFT_REC_ADDR.ADDR / 8) (s.rd PFT_REC_ADDR.ADDR % 8)
  else if f = SMP_STAT.BUSY then b2n (!s.smp.queue.isEmpty)
  else if f = SMP_STAT.PART then s.smp.queue.headD 0
  else if f = SMP_PROF_DATA.DATA then Cells.get 0 s.smp.profShadow (s.rd SMP_PROF_ADDR.ADDR)
  else if f = SMP_SLOT_DATA.USED then Cells.get 0 s.smp.used (s.rd SMP_SLOT_ADDR.SLOT)
  else if f = SMP_SLOT_DATA.OVERFLOW then b2n (Cells.get false s.smp.ovf (s.rd SMP_SLOT_ADDR.SLOT))
  else if f = FAB_CNT_DATA.COUNT then Cells.get 0 s.fab.cnt (s.rd FAB_CNT_ADDR.INDEX)
  else if f = THM_SENS_DATA.TEMP then Cells.get 0 s.thm.temp sens
  else if f = THM_SENS_DATA.VALID then b2n (Cells.get false s.thm.valid sens)
  else if f = THM_SENS_DATA.FAULTS then (if (pairOf sens).isSome then Cells.get 0 s.thm.faults (pairBase sens) else 0)
  else if f = PWR_RAIL_DATA.MEASURED then Cells.get 0 s.thm.railMv rail
  else if f = PWR_RAIL_DATA.SETPOINT then Cells.get 0 s.thm.railSet rail
  else if f = ERR_SITE_DATA.CE_WIN then min 65535 (windowCount s.err.ce site)
  else if f = ERR_SITE_DATA.UE_WIN then min 255 (windowCount s.err.ue site)
  else if f = ERR_SITE_DATA.LASTING then b2n (Cells.get false s.err.lasting site)
  else if f = GLB_LED.LOCATE_PIN then b2n s.boot.locate
  else if f = GLB_LED.STATUS_ROW then s.statusRow
  else s.rd f

/-- What a field shows. -/
def State.look (s : State) (f : Fld) : Nat :=
  let a := f.addr
  if lthB 0 ≤ a ∧ a < lthB 16 then
    let n := (a - lthB 0) / 0x100000
    if f = VEC_POLY_DATA.COEF n then Config.polyCoef (s.rd (VEC_POLY_ADDR.ADDR n)) % 2 ^ 32 else s.rd f
  else if smpP 0 ≤ a ∧ a < smpP 8 then
    let p := (a - smpP 0) / 0x100
    if f = SMP_TREE_DATA.PARENT p then Cells.get 0 s.smp.tree (64 * p + s.rd (SMP_TREE_ADDR.NODE p)) ^^^ 0x3F else s.rd f
  else if memB 0 ≤ a ∧ a < memB 16 then
    let n := (a - memB 0) / 0x10000
    let e := Cells.get none s.mem.spare (n * 512 + s.rd (MEM_RET_ADDR.SPARE n))
    if f = MEM_RET_DATA.BLOCK n then e.getD 0 else if f = MEM_RET_DATA.VALID n then b2n e.isSome else s.rd f
  else if arbI 0 ≤ a ∧ a < arbI 52 then
    let i := (a - arbI 0) / 0x1000
    let o := (a - arbI 0) % 0x1000
    if o = 0xC then maskOf 32 (fun r => s.arbMasked i r)
    else if 0x200 ≤ o then s.arbBound i ((o - 0x200) / 4) % 2 ^ 16
    else s.rd f
  else if vfB 0 ≤ a ∧ a < vfB 8 then
    let v := (a - vfB 0) / 0x01000000
    if f = PCI_RING_STAT.EQ_WAIT v then b2n (s.eqFull v && !(s.records v).isEmpty)
    else if f = PCI_RING_STAT.EQ_QUEUED v then min 64 (s.records v).length
    else s.rd f
  else s.lookShared f

/-- The word of a register: WO fields and reserved bits read 0 (R15, R17). -/
def State.readWord (s : State) (a : Nat) : Nat :=
  ((regFields a).filter (fun f => f.acc ≠ .wo)).foldl (fun v f => v + s.look f % 2 ^ f.width * 2 ^ f.lo) 0

/-! Where an access goes. -/

/-- What an access reaches: a register at the model's own address, a word of an MSI-X table or pending bit array, a word of the mirror's buffers,
nothing. `view`: a write through it is refused. -/
inductive RegDest where
  | reg (a : Nat) (view : Bool)
  | msix (fn word : Nat)
  | pba (fn word : Nat)
  | request (word : Nat)
  | response (word : Nat)
  | alias0
  | none
deriving DecidableEq, Repr

/-- An offset of PF0 BAR0 lies in a block of Table 1.11: each block takes 1 MiB at its base, the Lathes 1 MiB each. -/
def inBlock (o : Nat) : Bool :=
  let m := o / 0x100000
  [0, 1, 0x20, 0x21, 0x22, 0x23, 0x30, 0x32, 0x40, 0x41, 0x42, 0x50, 0x60, 0x70, 0x80, 0x90].contains m || (0x10 ≤ m && m < 0x20)

/-- The register at an offset (Tables 1.11, 12.4, 12.5, 12.9). An alias of a channel or engine of another partition is none of the VF's (R348). -/
def State.dest (s : State) : RegPlace → RegDest
  | .bar0 off =>
    let o := off.toNat / 4 * 4
    if 0x07000000 ≤ o ∧ o < 0x07000300 then .reg (mbxT ((o - 0x07000000) / 0x100) + o % 0x100) true
    else if 0x07001000 ≤ o ∧ o < 0x07002000 then .reg o true
    else if inBlock o then .reg o false else .none
  | .bar4 off =>
    let o := off.toNat / 4 * 4
    if o < 0x2000 then .reg (mbxT 3 + o) false
    else if o < 0x3000 then .msix 0 ((o - 0x2000) / 4)
    else if o < 0x4000 then .pba 0 ((o - 0x3000) / 4)
    else if 0x10000 ≤ o ∧ o < 0x11000 then .request ((o - 0x10000) / 4)
    else if 0x11000 ≤ o ∧ o < 0x12000 then .response ((o - 0x11000) / 4)
    else if 0x12000 ≤ o ∧ o < 0x13000 then .reg (bar4B + o) false
    else .none
  | .vf v off =>
    let o := off.toNat / 4 * 4
    if o < 0x1000 then .reg (vfB v + o) false
    else if o < 0x2000 then .reg (mbxT (4 + v) + (o - 0x1000)) false
    else if 0x10000 ≤ o ∧ o < 0x12000 then
      let c := (o - 0x10000) / 0x100
      if s.hPart c = some v.val then .reg ((if o % 0x100 = 0 then HDMA_CH_DB.RING c else HDMA_CH_STAT.STATE c).addr + (if o % 0x100 ≤ 4 then 0 else 1)) false else .alias0
    else if 0x20000 ≤ o ∧ o < 0x24000 then
      let e := (o - 0x20000) / 0x1000
      let k := o % 0x1000 / 0x40
      if s.flag (VID_ENG_PART.ASSIGNED e) ∧ s.rd (VID_ENG_PART.PART e) = v.val then
        .reg ((if o % 0x40 = 0 then VID_CTX_SRC.SLOT e k else VID_CTX_STAT.STATE e k).addr + (if o % 0x40 ≤ 4 then 0 else 1)) false
      else .alias0
    else if 0x100000 ≤ o ∧ o < 0x100E00 then .msix (1 + v) ((o - 0x100000) / 4)
    else if 0x108000 ≤ o ∧ o < 0x10801C then .pba (1 + v) ((o - 0x108000) / 4)
    else .none
  | .cpu p off =>
    let o := off.toNat / 4 * 4
    if o < 0x1000 then .reg (mbxT p + o) false else if o < 0x2000 then .reg (irqB + (o - 0x1000)) false else .none

/-- A register of the compute die. -/
def computeReg (a : Nat) : Bool := (lthB 0 ≤ a && a < lthB 16) || (atsB 0 ≤ a && a < pftB + 0x100000) || (keyB ≤ a && a < keyB + 0x100000) || (tdmaG 0 ≤ a && a < hdmaB)

/-- The access comes through a BAR. -/
def barAccess : RegPlace → Bool
  | .cpu _ _ => false
  | _ => true

/-- The endpoint refuses an access with UR: an armed PCI_INJ.UR, before READY all but the mirror, the compute die without its rails
(R342, R430, R471, Table 12.14). -/
def State.urNow (s : State) (pl : RegPlace) : Bool :=
  let mirror : Bool := match s.dest pl with | .request _ => true | .response _ => true | .reg a _ => bar4B ≤ a && a < mbxT 0 | _ => false
  let dark : Bool := match s.dest pl with | .reg a _ => computeReg a && !s.flag PWR_STAT.GROUP_C | _ => false
  barAccess pl && (s.flag PCI_INJ.UR || (s.run ≠ 3 && !mirror) || dark)

/-- A refused access; the injection has acted. -/
def State.urTaken (s : State) (read : Bool) : State := (s.wr PCI_INJ.UR 0).refuseUr read

/-! Writes. -/

/-- A field's new contents by its access type (Table 0.5). -/
def State.fieldWrite (s : State) (f : Fld) (v : Nat) : State :=
  match f.acc with
  | .ro => s
  | .wo => s
  | .rc => s
  | .rw => s.wr f v
  | .sh => s.wr f v
  | .w1c => s.wr f (s.rd f &&& (v ^^^ (2 ^ f.width - 1)))
  | .w1s => s.wr f (s.rd f ||| v)

/-- Registers whose writes have rows of their own: LTH_SEQ_CTRL, LTH_DBG_DATA, PLT_BKT_DATA, TDMA_CH_CTRL, HDMA_CH_CTRL, PCI_RING_CFG, PCI_SQ_TAIL, PCI_OQ_FREE,
PCI_EQ_HEAD, IRQ_PEND, GLB_DBG_WAY_DATA. -/
def ownWrite (a : Nat) : Bool :=
  if lthB 0 ≤ a ∧ a < lthB 16 then (a - lthB 0) % 0x100000 = 0x0C || (a - lthB 0) % 0x100000 = 0x84
  else if tdmaG 0 ≤ a ∧ a < hdmaB then 0x100 ≤ (a - tdmaG 0) % 0x1000 && (a - tdmaG 0) % 0x40 = 0
  else if hdmaC 0 ≤ a ∧ a < hdmaC 32 then (a - hdmaC 0) % 0x100 = 0x10
  else if vfB 0 ≤ a ∧ a < vfB 8 then 0x20 ≤ (a - vfB 0) % 0x01000000 && (a - vfB 0) % 0x01000000 < 0x30
  else if irqB ≤ a ∧ a < irqB + 0x10 then true
  else a = PLT_BKT_DATA.DATA.addr || a = GLB_DBG_WAY_DATA.DATA.addr

/-- Some slot of partition p is not FREE. -/
def State.slotBusy (s : State) (p : Nat) : Bool := s.plt.slots.any (fun (x : Nat × SlotRec) => x.2.state ≠ 0 && x.2.part = p)

/-- The status bit that a write sets in place of its effect: static registers in use, and the registers that only the service controller
writes (R99, R202, R215, R289, R369, R374). -/
def State.refusedBy (s : State) (a : Nat) : Option Fld :=
  if lthB 0 ≤ a ∧ a < lthB 16 then
    let n := (a - lthB 0) / 0x100000
    let o := (a - lthB 0) % 0x100000
    if o = 0x18 then some GLB_SEC_STAT.PF_DENIED
    else if (o = 0x10 ∨ o = 0x14) ∧ 2 ≤ s.seq n ∧ s.seq n ≤ 4 then some (LTH_CFG_STAT.CFG_BUSY_WR n) else none
  else if pltP 0 ≤ a ∧ a < pltP 8 then
    let p := (a - pltP 0) / 0x100
    if ((a - pltP 0) % 0x100 = 0x0C ∨ (a - pltP 0) % 0x100 = 0x10) ∧ s.slotBusy p then some (PLT_PSTAT.CFG_BUSY_WR p) else none
  else if smpP 0 ≤ a ∧ a < smpP 8 then
    let p := (a - smpP 0) / 0x100
    if ((a - smpP 0) % 0x100 = 0x18 ∨ (a - smpP 0) % 0x100 = 0x1C) ∧ s.slotBusy p then some (SMP_PSTAT.CFG_BUSY_WR p) else none
  else if hdmaC 0 ≤ a ∧ a < hdmaC 32 then
    let c := (a - hdmaC 0) / 0x100
    let o := (a - hdmaC 0) % 0x100
    if o = 0 then some GLB_SEC_STAT.PF_DENIED else if o ≤ 0x0C ∧ s.hState c ≠ 0 then some (HDMA_CH_STAT.CFG_BUSY_WR c) else none
  else if vidE 0 ≤ a ∧ a < vidE 4 then (if (a - vidE 0) % 0x10000 = 0 then some GLB_SEC_STAT.PF_DENIED else none)
  else if vfB 0 ≤ a ∧ a < vfB 8 then
    let v := (a - vfB 0) / 0x01000000
    if (a - vfB 0) % 0x01000000 < 0x20 ∧ s.flag (PCI_RING_CFG.ENABLE v) then some (PCI_RING_STAT.CFG_BUSY_WR v) else none
  else none

/-- The value that a write gives, after what its register ignores: a SYM of 20 to 31, bits [1:0] of the debug addresses, RATE of the sweep at a port,
PWR_INJ.LOSS while HOLDUP_OK is 0 (R107, R258, R461, Table 9.6). -/
def State.taken (s : State) (f : Fld) (v : Nat) : Nat :=
  let a := f.addr
  if memB 0 ≤ a ∧ a < memB 16 then (if f = MEM_INJ.SYM ((a - memB 0) / 0x10000) ∧ 20 ≤ v then s.rd f else v)
  else if lthB 0 ≤ a ∧ a < lthB 16 then (if f = LTH_DBG_ADDR.ADDR ((a - lthB 0) / 0x100000) then v / 4 * 4 else v)
  else if arbI 0 ≤ a ∧ a < arbI 16 then (if f = ARB_REQ.RATE ((a - arbI 0) / 0x1000) 12 then s.rd f else v)
  else if f = GLB_DBG_WAY_ADDR.ADDR then v / 4 * 4
  else if f = PWR_INJ.LOSS ∧ !s.holdupOk then 0
  else v

/-- FAB_CK_CTRL of a partition, whose START has a row of its own. -/
def ckCtrl (a : Nat) : Bool := fabP 0 ≤ a && a < fabP 8 && (a - fabP 0) % 0x100 = 0x28

/-- The fields of a register take a written word; the data registers write what stands behind them; PFT_CMD0 to 2 hold their words for the
write of PFT_CMD3 (R150). -/
def State.fieldsWrite (s : State) (a v : Nat) : State :=
  let p := (a - smpP 0) / 0x100
  if a = SMP_PROF_DATA.DATA.addr then { s with smp := { s.smp with profShadow := Cells.set 0 s.smp.profShadow (s.rd SMP_PROF_ADDR.ADDR) v } }
  else if smpP 0 ≤ a ∧ a < smpP 8 ∧ a = (SMP_TREE_DATA.PARENT p).addr then
    { s with smp := { s.smp with tree := Cells.set 0 s.smp.tree (64 * p + s.rd (SMP_TREE_ADDR.NODE p)) (v % 64 ^^^ 0x3F) } }
  else if pftB ≤ a ∧ a < pftB + 0xC then s.wr (PFT_CMD.WORD ((a - pftB) / 4)) v
  else if ckCtrl a ∧ bit v 31 then s
  else (regFields a).foldl (fun st f => st.fieldWrite f (s.taken f (bits v f.lo f.width))) s

/-- What follows from the bits that a write has cleared or set: a record of a first error is held no longer, an armed FAB_INJ.DOWN acts. -/
def State.afterWrite (s : State) (a : Nat) : State :=
  if memB 0 ≤ a ∧ a < memB 16 then
    let n := (a - memB 0) / 0x10000
    if a = (MEM_ERR_STAT.CE n).addr ∧ !s.anyW1c a then { s with mem := { s.mem with ueSeen := Cells.set false s.mem.ueSeen n false } } else s
  else if a = FAB_ERR_STAT.PLANE_DOWN.addr then (if s.anyW1c a then s else { s with fab := { s.fab with errSeen := false } })
  else if a = FAB_INJ.DOWN.addr then s.planeInjected (s.rd FAB_INJ.PLANE)
  else s

/-- A written word reaches the register at an address. -/
def State.regWrite (s : State) (a v : Nat) : State :=
  if ownWrite a then s
  else
    match s.refusedBy a with
    | some f => s.raise f
    | none =>
      let go (st : State) : State := (st.fieldsWrite a v).afterWrite a
      if irqB + 0x100 ≤ a ∧ a < irqB + 0x180 then s.irqWrite go
      else if mbxT 0 ≤ a ∧ a < mbxT 12 then s.mbxChange ((a - mbxT 0) / 0x1000) go
      else go s

/-- A word of an MSI-X table: an unmasked vector that is pending is sent (PCI Express, R349). -/
def State.msixWrite (s : State) (fn w v : Nat) : State :=
  let d := if w % 4 = 3 then 1 else 0
  let s1 := { s with host := { s.host with msix := Cells.set d s.host.msix (fn * 4096 + w) v } }
  let vec := w / 4
  if Cells.get false s1.host.pba (fn * 256 + vec) && !s1.msixMasked fn vec then
    { s1 with host := { s1.host with pba := Cells.set false s1.host.pba (fn * 256 + vec) false } }.sendVec fn vec
  else s1

/-- Bytes of a buffer with a word replaced. -/
def putWord (b : List Byte) (w v : Nat) : List Byte := fitTo (4 * w) b ++ leBytes 4 v ++ b.drop (4 * w + 4)

/-- What a read of a destination returns; the response buffer is undefined while BUSY is 1 (R422). -/
def State.destRead (s : State) : RegDest → Nat
  | .reg a _ => s.readWord a
  | .msix fn w => Cells.get (if w % 4 = 3 then 1 else 0) s.host.msix (fn * 4096 + w)
  | .pba fn w => maskOf 32 (fun i => Cells.get false s.host.pba (fn * 256 + 32 * w + i))
  | .request w => hdrNum s.dict.mirrorReq (4 * w) 4
  | .response w => if s.flag MBX_DICT_STAT.BUSY then s.free % 2 ^ 32 else hdrNum s.dict.mirrorResp (4 * w) 4
  | .alias0 => 0
  | .none => 0

/-- Registers whose reads have rows of their own: PFT_RESP, ERR_LOG_LO, MBX_IN_DATA, LTH_DBG_DATA, GLB_DBG_WAY_DATA, IRQ_CLAIM, the LO registers. -/
def ownRead (a : Nat) : Bool :=
  if lthB 0 ≤ a ∧ a < lthB 16 then (a - lthB 0) % 0x100000 = 0x84 || (a - lthB 0) % 0x100000 = 0x60
  else if atsB 0 ≤ a ∧ a < atsB 16 then (a - atsB 0) % 0x10000 = 0x10
  else if pltP 0 ≤ a ∧ a < pltP 8 then (a - pltP 0) % 0x100 = 0x40
  else if mbxT 0 ≤ a ∧ a < mbxT 12 then (a - mbxT 0) % 0x1000 = 0x04
  else if irqB + 0x180 ≤ a ∧ a < irqB + 0x198 then (a - irqB) % 8 = 0
  else a = PFT_RESP.TAG.addr || a = ERR_LOG_LO.VALID.addr || a = GLB_DBG_WAY_DATA.DATA.addr || a = PLT_NOW_LO.NOW.addr

/-- The RC fields of a register are 0 after a read (R15). -/
def State.rcClear (s : State) (a : Nat) : State :=
  if a = FAB_CNT_DATA.COUNT.addr then { s with fab := { s.fab with cnt := Cells.set 0 s.fab.cnt (s.rd FAB_CNT_ADDR.INDEX) 0 } }
  else ((regFields a).filter (fun f => f.acc = .rc)).foldl (fun st f => st.wr f 0) s

/-- A word read goes to the one who reads: over the link, or on the local bus. -/
def State.answerRead (s : State) (pl : RegPlace) (v : Nat) : State := if barAccess pl then s.send (.readData (leBytes 4 v)) else s.send (.busData v)

end Sys2Proof.Machine
end

