-- ==== Sys2Proof/Machine/Thermal.lean ====
section
/-! DEFINITION. The commands of power, cooling and the Tandem (R458 to R482). -/

namespace Sys2Proof.Machine
open Reg

/-! Input, rails, hold-up (R459 to R462). -/

/-- POWER_COMPONENT_STEP: 1 ms above 650 W, or 20 ms below 620 W, is over; the 1 ms averages in steps of 0.01 V and 0.1 W (R460). -/
def execPowerComponentStep (volts watts : Fin 8192) (s : State) : Next :=
  let s1 := (s.wr PWR_INPUT.VOLTS volts).wr PWR_INPUT.WATTS watts
  let p := s.rd THM_MODULE.POWER
  .next (if !s1.owned then s1
    else (if 6500 < watts.val then s1.wr THM_MODULE.POWER (min 15 (p + 1)) else if watts.val < 6200 then s1.wr THM_MODULE.POWER (p - 1) else s1).outputs)

/-- BRAKE: hardware, with or without an owner; an armed PWR_INJ.BRAKE is one such event (R460, Table 16.6). -/
def execBrake (s : State) : Next := .next ((((s.wr PWR_INJ.BRAKE 0).raise PWR_STAT.BRAKE_HIT).wr THM_MODULE.BRAKE 1).outputs)

/-- BRAKE_RELEASE: the 1 ms average stands at `watts` (R460). -/
def execBrakeRelease (watts : Fin 8192) (s : State) : Next :=
  let s1 := s.wr PWR_INPUT.WATTS watts
  .next (if s1.owned ∧ watts.val < 6200 then (s1.wr THM_MODULE.BRAKE 0).outputs else s1)

/-- INPUT_LOSS: the steps 1 to 3 of R462; an armed PWR_INJ.LOSS is one such event. -/
def execInputLoss (s : State) : Next :=
  let s1 := (((s.wr PWR_INJ.LOSS 0).raise PWR_STAT.INPUT_LOST).bump PWR_STAT.LOSSES 1).wr PWR_STAT.HOLDUP_OK 0
  let s2 := s1.computeOff.railsOff railsI
  let s3 := if s2.owned then s2.saveTandem else s2
  .next { s3 with boot := { s3.boot with inputGone := true } }

/-- INPUT_RETURN: the input is back before the store has run out (R462); a dip that was no input loss has no effect. -/
def execInputReturn (u : StartUp) (s : State) : Next :=
  .next (if s.boot.inputGone then
      let s1 := s.moduleReset 1 u
      { s1 with boot := { s1.boot with inputGone := false } }
    else s)

/-- Rails are up at their setpoints: those with a fixed setpoint, and the VIO and VNOC and VSRAM rails, at the nominal one; the VCORE rails from
OTP, whose table the spec does not print; what each measures is open (Table 16.1). -/
def State.railsOn (s : State) (rs : List Nat) : State :=
  let one (st : State) (r : Nat) : State :=
    let v := if 13 ≤ r then 650 + st.free % 201 else railNominal r
    let st1 := if 13 ≤ r then st.drew else st
    { st1.drew with thm := { st1.thm with railUp := Cells.set false st1.thm.railUp r true, railSet := Cells.set 0 st1.thm.railSet r v,
                                          railMv := Cells.set 0 st1.thm.railMv r (st1.free % 65536) } }
  rs.foldl one s

/-- The shared self-test has failed: in a trial the module starts once more, else it is DEAD (R431, R445). -/
def State.selfTestFailed (s : State) (u : StartUp) : State :=
  if s.inTrial then (s.lifeCommit.resetBlocks.markersReport.start 5 false { u with testOk := u.retryOk }).1 else s.selfTestDead

/-- RAIL_PGOOD_TIMEOUT: while the rails are raised; those of group M come up by hardware before any command (R459). -/
def execRailPgoodTimeout (rail : Fin 17) (u : StartUp) (s : State) : Next :=
  .next (if s.run ≠ 1 ∨ rail.val < 4 then s
    else
      let s1 := (s.raise PWR_STAT.RAIL_FAIL).wr PWR_STAT.RAIL rail
      let s2 := if 11 ≤ rail.val then (if s1.flag PWR_STAT.GROUP_I then s1 else (s1.railsOn railsI).wr PWR_STAT.GROUP_I 1).railsOff railsC
        else s1.railsOff railsI
      s2.selfTestFailed u)

/-- HOLDUP_CHARGED: HOLDUP_OK is 1, an injected 0 ends, and the retirements that waited are programmed (R461, R495). -/
def execHoldupCharged (otpOk : Bool) (s : State) : Next :=
  let s1 := (s.wr PWR_STAT.HOLDUP_OK 1).wr PWR_INJ.HOLDUP 0
  let due := (List.range 16).filter (fun n => bit (s1.rd ERR_LATHE.SUSPECT) n && s1.rd (LTH_SEQ_STAT.STATE n) = 8 && !s1.flag (LTH_ID.RETIRED n))
  .next (due.foldl (fun st n => st.otpLatheNext n otpOk) s1)

/-! Coolant (R463 to R466). -/

/-- The row of Table 16.2 for flow (0.01 L/min), ΔT and inlet (0.125 °C), and the component of a row. -/
def flowRow (flow : Nat) : Nat := if 100 ≤ flow then 0 else if 90 ≤ flow then 1 else if 80 ≤ flow then 2 else if 70 ≤ flow then 3 else if 60 ≤ flow then 4 else 5
def deltaRow (d : Int) : Nat := if d ≤ 88 then 0 else if d ≤ 104 then 1 else if d ≤ 120 then 2 else if d ≤ 136 then 3 else 4
def inletRow (t : Nat) : Nat := if t ≤ 360 then 0 else if t ≤ 384 then 1 else if t ≤ 400 then 2 else 3
def coolOf (row : Nat) : Nat := [0, 2, 4, 6, 8, 11].getD row 11
def coolRow (c : Nat) : Nat := if c < 2 then 0 else if c < 4 then 1 else if c < 6 then 2 else if c < 8 then 3 else if c < 11 then 4 else 5

/-- The averages of the coolant sensors. -/
def State.coolant (s : State) (inlet outlet : BitVec 12) (flow : Fin 512) : State :=
  ((s.wr THM_COOL.INLET inlet.toNat).wr THM_COOL.OUTLET outlet.toNat).wr THM_FLOW.FLOW flow

/-- COOLANT_COMPONENT_UPDATE: new averages; `clear` tells that the condition of the component's row has been clear for 10 s (R465). -/
def execCoolantComponentUpdate (inlet outlet : BitVec 12) (flow : Fin 512) (clear : Bool) (s : State) : Next :=
  let s1 := s.coolant inlet outlet flow
  .next (if !s1.owned then s1
    else
      let full := s1.rd THM_MODULE.VALVE = 100
      let s2 := if !full ∧ flow.val < 100 then s1.wr THM_MODULE.VALVE 100 else s1
      let row := max (if full then flowRow flow else 0) (max (deltaRow ((outlet.toNat : Int) - inlet.toNat)) (inletRow inlet.toNat))
      let cur := coolRow (s2.rd THM_MODULE.COOL)
      let new := if cur ≤ row then row else if clear then cur - 1 else cur
      ((s2.wr THM_MODULE.COOL (coolOf new)).wr THM_STAT.COOL_DERATE (b2n (new ≠ 0))).outputs)

/-- FLOW_STOP: the comparator of hub W, without a supervisor; an armed THM_INJ.FLOW is one such event (R466). -/
def execFlowStop (s : State) : Next :=
  let s1 := ((s.wr THM_INJ.FLOW 0).raise THM_STAT.FLOW_STOP).wr THM_MODULE.STOP 1
  .next ((s1.wr THM_MODULE.KW 0).wr THM_MODULE.VALVE 100).levels

/-- FLOW_STOP_END: flow has stayed at `flow` or more for 1 s (R466). -/
def execFlowStopEnd (flow : Fin 512) (s : State) : Next :=
  let s1 := s.wr THM_FLOW.FLOW flow
  .next (if 100 ≤ flow.val then (s1.wr THM_MODULE.STOP 0).outputs else s1)

/-! Sensors and levels (R467 to R473). -/

/-- PAIR_DIFFERENCE: a sample of the two sensors of a pair; `lasted` tells that their difference has stood above, or at and below, 6 °C for
100 ms. An armed THM_INJ.PAIR raises its sensor by 20 °C until then (R468, Table 16.6). -/
def execPairDifference (pair : Fin 24) (a b : BitVec 12) (lasted : Bool) (s : State) : Next :=
  let i := pairsAll.getD pair 0
  let inj := s.flag THM_INJ.PAIR && (s.rd THM_INJ.SENS = i || s.rd THM_INJ.SENS = i + 1)
  let up (k : Nat) (x : BitVec 12) : Nat := if inj && s.rd THM_INJ.SENS = k then (x + 160#12).toNat else x.toNat
  let s1 := ((s.sample i (up i a)).sample (i + 1) (up (i + 1) b))
  let s2 := if inj && lasted then s1.wr THM_INJ.PAIR 0 else s1
  let d := (s2.temp i - s2.temp (i + 1)).natAbs
  .next (
    if !(s2.sensorOk i && s2.sensorOk (i + 1)) then s2.showTemps.outputs
    else
      let s3 := if lasted && decide (48 < d) then
          { s2.raise THM_STAT.PAIR_FAULT with thm := { s2.thm with faults := Cells.set 0 s2.thm.faults i (min 255 (Cells.get 0 s2.thm.faults i + 1)) } }
        else s2
      let w := if 120 < d then true else if lasted && decide (d ≤ 48) then false else Cells.get false s3.thm.wide i
      { s3 with thm := { s3.thm with wide := Cells.set false s3.thm.wide i w } }.showTemps.outputs)

/-- SENSOR_INVALID: sensor i reports an internal fault or reads out of range; an armed THM_INJ.BAD is one such sample (R467). -/
def execSensorInvalid (i : Fin 64) (s : State) : Next :=
  let s1 := if s.flag THM_INJ.BAD && s.rd THM_INJ.SENS = i.val then s.wr THM_INJ.BAD 0 else s
  .next ((s1.sensorBad i).showTemps.outputs)

/-- One step of a level at a controlling temperature against a limit in °C (R470). -/
def levelStep (l : Nat) (t : Int) (limit : Nat) : Nat :=
  if 8 * (limit : Int) < t then min 15 (l + 1) else if t < 8 * ((limit : Int) - 3) then l - 1 else l

/-- LATHE_LEVEL_STEP: after samples of sensors, the 1 ms above a limit or the 10 ms below it are over for a Lathe, or for the I/O dies (R470). -/
def execLatheLevelStep (who : Option Lathe) (readings : List (Fin 64 × BitVec 12)) (s : State) : Next :=
  let s1 := s.samples readings
  .next (if !s1.owned then s1
    else match who with
      | some n => (s1.wr (THM_LATHE.LEVEL n) (levelStep (s1.rd (THM_LATHE.LEVEL n)) (s1.tctrl n) (s1.limitLathe n))).outputs
      | none => (s1.wr THM_MODULE.IODIE (levelStep (s1.rd THM_MODULE.IODIE) s1.tctrlIo s1.limitIo)).outputs)

/-- THERMAL_TRIP: two consecutive samples of sensor i read `reading`; a module whose compute rails are held off after a trip does not trip
again (R471). -/
def execThermalTrip (i : Fin 64) (reading : BitVec 12) (s : State) : Next :=
  .next (if sgn 12 reading.toNat ≤ 840 ∨ s.flag THM_STAT.TRIPPED then s else ((s.sample i reading.toNat).showTemps).trip)

/-- The three conditions of R472 on the readings that stand. -/
def State.safeAgain (s : State) : Bool :=
  (List.range 64).all (fun i => !s.sensorOk i || s.temp i ≤ 560) && 100 ≤ s.rd THM_FLOW.FLOW && 120 ≤ s.rd THM_COOL.INLET && s.rd THM_COOL.INLET ≤ 360

/-- AUTO_RESTART: 10 s are over, with the readings as they stand; a module reset waits for command 1 of 0xB000:0E while NO_RESTART is 1 (R472). -/
def execAutoRestart (u : StartUp) (s : State) : Next :=
  .next (if s.flag THM_STAT.TRIPPED && s.flagEff THM_CFG.AUTO_RESTART && !s.flag THM_STAT.NO_RESTART && s.safeAgain then s.lifeCommit.moduleReset 1 u else s)

/-- The lowest controlling temperature among Lathes. -/
def State.coldest (s : State) : Int := (List.range 16).foldl (fun m n => min m (s.tctrl n)) 2047

/-- KEEP_WARM_TICK: 100 ms are over (R473). How far the valve travels in that time is open, within its range and in the direction given; with KW_EN 0
there is no keep-warm, and the valve stands at 100 % (R464). -/
def execKeepWarmTick (s : State) : Next :=
  .next (
    if !s.owned then s
    else if !s.flagEff THM_CFG.KW_EN then (s.wr THM_MODULE.KW 0).wr THM_MODULE.VALVE 100
    else if s.warmBlocked then s.warmCheck
    else
      let v := s.rd THM_MODULE.VALVE
      let lo := s.inEff THM_CFG.VALVE_MIN
      let kw := s.rd THM_MODULE.KW
      let floor : Int := s.inEff THM_CFG.FLOOR
      if s.coldest < 8 * floor then
        (if lo < v then (s.wr THM_MODULE.VALVE (lo + s.free % (v - lo))).drew else s.wr THM_MODULE.KW (min 8 (kw + 1)))
      else if 8 * (floor + 3) < s.coldest then
        (if 0 < kw then s.wr THM_MODULE.KW (kw - 1)
         else if v < 100 then (s.wr THM_MODULE.VALVE (v + 1 + s.free % (100 - v))).drew else s)
      else s)

/-- THM_COMMIT. -/
def execThmCommit (commit : Bool) (s : State) : Next := .next (if commit then s.thmCommit else s)

/-- The compute rails are up, with every level at 15 (R474 steps 3 and 4). -/
def State.computeUp (s : State) : State :=
  let s1 := if s.flag PWR_STAT.GROUP_I then s else (s.railsOn railsI).wr PWR_STAT.GROUP_I 1
  let s2 := (((s1.railsOn railsC).wr PWR_STAT.GROUP_C 1).wr THM_STAT.TRIPPED 0).wr THM_MODULE.IODIE 15
  ((List.range 16).foldl (fun st n => st.wr (THM_LATHE.LEVEL n) 15) s2).outputs

/-- RAISE_COMPUTE_RAILS: phase 6, with the coolant as it has stood for 200 ms, then phase 7 (R429, R474). -/
def execRaiseComputeRails (inlet outlet : BitVec 12) (flow : Fin 512) (u : StartUp) (s : State) : Next :=
  .next (if s.run ≠ 1 ∨ !s.owned ∨ s.flag PWR_STAT.GROUP_C then s
    else
      let s1 := (s.wr THM_MODULE.VALVE 100).coolant inlet outlet flow
      if flow.val < 100 ∨ inlet.toNat < 120 ∨ 360 < inlet.toNat then s1.raise THM_STAT.NO_FLOW_START
      else
        let s2 := (s1.wr THM_STAT.NO_FLOW_START 0).computeUp
        if u.testOk && !s2.flag KEY_ERR_STAT.KAT_FAIL then s2.phase7 u.qualified.toNat else s2.selfTestFailed u)

/-! The Tandem (R475 to R480). -/

/-- HEARTBEAT_SILENT: the paths of supervisor u that are silent for 3.2 ms; a supervisor both of whose paths are silent has failed. The armed
injections stop the owner's beats on their paths (R476, Table 16.6). -/
def execHeartbeatSilent (u : Fin 2) (wire mbx : Bool) (s : State) : Next :=
  let own := s.owned && s.rd TDM_STAT.OWNER = u.val
  let both := own && s.flag TDM_INJ.BOTH
  let w := wire || both || (own && s.flag TDM_INJ.WIRE)
  let m := mbx || both || (own && s.flag TDM_INJ.MBX)
  let s1 := if own then (s.wr TDM_INJ.WIRE 0).wr TDM_INJ.MBX 0 else s
  let s2 := (s1.raiseIf w TDM_STAT.WIRE_MISS).raiseIf m TDM_STAT.MBX_MISS
  let s3 := { s2 with tdm := { s2.tdm with wireSilent := Cells.set false s2.tdm.wireSilent u w, mbxSilent := Cells.set false s2.tdm.mbxSilent u m } }
  .next (if w && m && !Cells.get false s.tdm.held u then s3.supFailed u else s3)

/-- SUPERVISOR_WATCHDOG_EXPIRY: the supervisor is reset and falls silent; source 8 or 9; an armed TDM_INJ.WDOG is one such event of the owner (R476). -/
def execSupervisorWatchdogExpiry (u : Fin 2) (s : State) : Next :=
  let s1 := if s.owned && s.rd TDM_STAT.OWNER = u.val then s.wr TDM_INJ.WDOG 0 else s
  .next ({ s1 with host := { s1.host with line := Cells.set false s1.host.line (8 + u) true } }.mbxReset (1 + u))

/-- TAKEOVER: no supervisor owns the outputs, and one runs in WATCH; it takes the newest readings (R477). -/
def execTakeover (readings : List (Fin 64 × BitVec 12)) (s : State) : Next :=
  match (List.range 2).find? (fun u => s.rd (supState u) = 1 && !Cells.get false s.tdm.held u) with
  | none => .next s
  | some u =>
    .next (if s.owned then s
      else ((((s.loadTandem.samples readings).becomeOwner u).bump TDM_COUNTS.TAKEOVERS 1).wr TDM_INJ.BOTH 0))

/-- PLANNED_HANDOVER (R477). -/
def execPlannedHandover (readings : List (Fin 64 × BitVec 12)) (s : State) : Next := .next (s.handover readings)

/-- SAVED_STATE_WRITE: 10 ms are over; no FRAM write starts once the input is lost (R462, R478). -/
def execSavedStateWrite (s : State) : Next := .next (if s.owned && !s.boot.inputGone then s.saveTandem else s)

/-- SUPERVISOR_RELOAD: the image of the running bank is loaded into failed supervisor u, and released when its measurement is the one recorded; after its
self-test A takes control back, B returns to WATCH; three failures in a row leave it OFFLINE (R479). -/
def execSupervisorReload (u : Fin 2) (testOk : Bool) (readings : List (Fin 64 × BitVec 12)) (s : State) : Next :=
  .next (
    if s.rd (supState u) ≠ 2 ∨ (s.area (s.rd GLB_LIFE.BANK) 2).measure ≠ Cells.get [] s.tdm.image u then s
    else if testOk then
      let s1 := (s.supReleased u).wr (supState u) 1
      if u = 0 then
        (if s1.owned then (s1.handover readings).bump TDM_COUNTS.RETURNS 1
         else (((s1.loadTandem.samples readings).becomeOwner 0).bump TDM_COUNTS.RETURNS 1))
      else s1
    else
      let k := Cells.get 0 s.tdm.fails u + 1
      let s1 := { s with tdm := { s.tdm with fails := Cells.set 0 s.tdm.fails u k } }
      if 3 ≤ k then s1.wr (supState u) 3 else s1)

/-- NO_OWNER_OVERRIDE: 1 s without an owner (R480, Table 16.5). -/
def execNoOwnerOverride (s : State) : Next :=
  .next (if s.owned then s else (((s.wr THM_MODULE.NO_OWNER 1).wr THM_MODULE.KW 0).wr THM_MODULE.VALVE 100).levels)

/-- NO_OWNER_RAIL_REMOVAL: 60 s without an owner (R480). -/
def execNoOwnerRailRemoval (s : State) : Next := .next (if s.owned then s else s.computeOff)

end Sys2Proof.Machine
end

