-- ==== Sys2Proof/Machine/DictEntries.lean ====
section
/-! DEFINITION. The entries of the object dictionary: types, access, reads and writes (R414 to R418, R457, R483, R504, R314, R337, R393, R203). -/

namespace Sys2Proof.Machine
open Reg

/-- An entry: type and size (Table 14.5), access of operator, tenant and service (0 none, 1 RO, 2 WO, 3 RW), whether the tenant that asks reaches
it, the P mark, default, the value a read gives (none: not yet available), the range of a write, what a write does (state and status). -/
structure Ent where
  typ : Nat
  size : Nat
  op : Nat
  ten : Nat
  svc : Nat
  mine : Bool := true
  persist : Bool := false
  dflt : List Byte := []
  get : State → Option (List Byte) := fun _ => some []
  lo : Nat := 0
  hi : Nat := 0
  put : State → List Byte → State × Nat := fun s _ => (s, 3)

/-- The status codes of Table 14.3 that entries answer, and that of a request whose response a module reset discards. -/
def stOk : Nat := 0
def stRange : Nat := 6
def stRefused : Nat := 9
def stFull : Nat := 12
def stNone : Nat := 255

/-- The type and size of a number of some bits (DEDUCED where a table gives no type). -/
def numType (w : Nat) : Nat × Nat := if w ≤ 1 then (1, 1) else if w ≤ 8 then (2, 1) else if w ≤ 16 then (3, 2) else if w ≤ 32 then (4, 4) else if w ≤ 64 then (5, 8) else (8, 16)

/-- Access triples as the tables write them: operator, tenant, service. -/
def acc (a : Nat) : Nat × Nat × Nat := (a / 16, a / 4 % 4, a % 4)
def roAll : Nat := 0x15
def roOps : Nat := 0x11
def rwAll : Nat := 0x35
def rwOps : Nat := 0x31
def woOp : Nat := 0x20

/-- An entry that is read only: a number of w bits with its default. -/
def numEnt (w a dflt : Nat) (get : State → Nat) : Ent :=
  { typ := (numType w).1, size := (numType w).2, op := (acc a).1, ten := (acc a).2.1, svc := (acc a).2.2, dflt := leBytes 16 dflt,
    get := fun s => some (leBytes (numType w).2 (get s)) }

/-- An entry over a register field; a write goes to the field, for an SH field to the shadow (R404). -/
def fldEnt (a : Nat) (f : Fld) : Ent :=
  { numEnt f.width a f.reset (fun s => s.look f) with hi := 2 ^ f.width - 1, put := fun s v => (s.wr f (leVal v), stOk) }

/-- An entry over a number that a write sets. -/
def setEnt (w a dflt hi : Nat) (get : State → Nat) (put : State → Nat → State) : Ent :=
  { numEnt w a dflt get with hi := hi, put := fun s v => (put s (leVal v), stOk) }

/-- A command entry: values `lo` to `hi`; the command answers its status. -/
def cmdEnt (a lo hi : Nat) (put : State → Nat → State × Nat) : Ent :=
  { typ := 2, size := 1, op := (acc a).1, ten := (acc a).2.1, svc := (acc a).2.2, lo := lo, hi := hi, put := fun s v => put s (leVal v) }

/-- Raw bytes, an ASCII string, a BLOCK. -/
def rawEnt (typ n a : Nat) (dflt : List Byte) (get : State → Option (List Byte)) : Ent :=
  { typ := typ, size := n, op := (acc a).1, ten := (acc a).2.1, svc := (acc a).2.2, dflt := dflt, get := get, hi := 2 ^ (8 * n) - 1 }

/-- An F32: the value num / den, rounded to nearest. -/
def f32Of (num : Int) (den : Nat) : Nat :=
  let n := num.natAbs * 2 ^ 40
  rne32 (.num (num < 0) (n / den * 2 + b2n (n % den ≠ 0)) (-41))
def f32Ent (a : Nat) (get : State → Int × Nat) : Ent :=
  { numEnt 32 a 0 (fun s => f32Of (get s).1 (get s).2) with typ := 7 }

/-- A result code as a status: REFUSED unless 0. -/
def refusedUnless0 (r : Nat) : Nat := if r = 0 then stOk else stRefused

/-- A commit: REFUSED when one of its status bits is set by it. -/
def commitVia (flags : List Fld) (f : State → State) (s : State) : State × Nat :=
  let s1 := f (flags.foldl (fun st g => st.wr g 0) s)
  let bad := flags.any (fun g => s1.flag g)
  (flags.foldl (fun st g => st.raiseIf (s.flag g) g) s1, if bad then stRefused else stOk)

/-- The nth of a list of entries, counted from subindex 1. -/
def nth (l : List Ent) (sub : Nat) : Option Ent := if sub = 0 then none else l[sub - 1]?

/-! Identity and communication (Table 14.9). -/

/-- Bytes of a MAC address, first byte first; the module's own address (R396). -/
def macBytes (m : Nat) : List Byte := (leBytes 6 m).reverse
def State.nodeId (s : State) : Nat := s.boot.gaPins % 32
def State.ownMac (s : State) : Nat := 0x024E5A4D0000 + s.nodeId

/-- A role key is written: the SEQ record of the role is cleared for every source (R402). -/
def State.setRoleKey (s : State) (svc : Bool) (k : List Byte) : State :=
  let f := s.fram
  let s1 := s.setFram (if svc then { f with svcKey := k } else { f with opKey := k })
  { s1 with dict := { s1.dict with last := s1.dict.last.filter (fun (x : Nat × Option (Nat × List Byte × List Byte)) => x.1 % 2 ≠ b2n svc) } }

def entIdentity (s : State) (sub : Nat) : Option Ent :=
  let str (n : Nat) (l : List Char) : Ent := rawEnt 10 n roAll (fitTo 16 (ascii l)) (fun _ => some (fitTo n (ascii l)))
  nth [str 16 ['N', 'Z', '-', '1', '2', '8', '0'], numEnt 8 roAll (if s.is1T then 1 else 2) (fun t => if t.is1T then 1 else 2), numEnt 8 roAll 0xC0 (fun _ => 0xC0),
    str 24 (if s.is1T then ['C', 'H', 'N', '-', 'N', 'Z', '1', '2', '8', '0', '-', '1', 'T', '-', 'C', '0']
      else ['C', 'H', 'N', '-', 'N', 'Z', '1', '2', '8', '0', '-', '5', '1', '2', '-', 'C', '0']),
    numEnt 64 roAll s.deviceId (fun t => t.deviceId), numEnt 8 roAll s.nodeId (fun t => t.nodeId),
    numEnt 64 roAll (if s.is1T then 2 ^ 40 else 2 ^ 39) (fun t => if t.is1T then 2 ^ 40 else 2 ^ 39), numEnt 16 roAll 1 (fun _ => 1)] sub

def entField (sub : Nat) : Option Ent :=
  nth [rawEnt 9 6 roOps (fitTo 16 (macBytes 0x024E5A4D0000)) (fun t => some (macBytes t.ownMac)),
    numEnt 8 roOps 0 (fun t => b2n (t.nodeId = 0) + 2 * b2n (t.dict.plca || t.nodeId = 0)),
    { setEnt 8 rwOps 32 32 (fun t => t.dict.nodeCount) (fun t v => { t with dict := { t.dict with nodeCount := v } }) with lo := 1 },
    { setEnt 8 rwOps 32 255 (fun t => t.dict.toTimer) (fun t v => { t with dict := { t.dict with toTimer := v } }) with lo := 1 },
    rawEnt 9 8 roOps [] (fun t => some (fitTo 8 t.dict.bootNonce)),
    numEnt 64 roOps 0 (fun t => t.dict.framesIn), numEnt 64 roOps 0 (fun t => t.dict.framesOut), numEnt 64 roOps 0 (fun t => t.dict.badAuth),
    numEnt 64 roOps 0 (fun t => t.dict.badFull), numEnt 64 roOps 0 (fun t => t.dict.badFrame), numEnt 1 roOps 0 (fun t => b2n t.dict.conflict),
    numEnt 32 roOps 0 (fun t => t.dict.partnerConflict)] sub

def entKeys (sub : Nat) : Option Ent :=
  let key (svc : Bool) : Ent := { rawEnt 9 32 woOp [] (fun _ => none) with put := fun t v => (t.setRoleKey svc v, stOk) }
  nth [key false, key true, numEnt 8 roOps 0 (fun t => b2n (!t.fram.opKey.isEmpty) + 2 * b2n (!t.fram.svcKey.isEmpty))] sub

def entPartner (k sub : Nat) : Option Ent :=
  nth [numEnt 1 roOps 0 (fun t => b2n (t.partner k).here), numEnt 8 roOps 0 (fun t => (t.partner k).kind), numEnt 64 roOps 0 (fun t => (t.partner k).device),
    rawEnt 9 8 roOps [] (fun t => some (fitTo 8 (t.partner k).nonce)), numEnt 32 roOps 0 (fun t => (t.partner k).restarts), numEnt 8 roOps 0 (fun t => (t.partner k).cab),
    rawEnt 9 6 roOps [] (fun t => some (macBytes (t.partner k).mac)), numEnt 8 roOps 0 (fun t => (t.partner k).modId)] sub

/-- Node of the cabinet controller, 0xFF when none is present. -/
def State.cabNodeNow (s : State) : Nat :=
  match s.dict.cabNode with | some k => if (s.partner k).here && (s.partner k).kind = 1 then k else 0xFF | none => 0xFF

/-! Settings and device configuration (Table 14.10). -/

/-- A persistable entry with its place. -/
def pEnt (a : Nat) (e : PEnt) : Ent :=
  { typ := e.typ, size := e.size, op := (acc a).1, ten := (acc a).2.1, svc := (acc a).2.2, persist := true, dflt := leBytes 16 e.dflt,
    get := fun s => some (leBytes e.size (s.persistGet e)), lo := e.lo, hi := e.hi, put := fun s v => (s.persistPut e (leVal v), stOk) }

/-- A commit entry over persistable entries. -/
def pCommit (idx : Nat) : Ent := cmdEnt woOp 1 1 (fun s _ => let r := s.persistCommit idx; (r.1, if r.2 then stOk else stRefused))

def entSettings (env : DictEnv) (idx sub : Nat) : Option Ent :=
  if idx = 0x2000 then
    nth [numEnt 8 roOps 0 (fun t => t.boot.setGen), numEnt 8 roOps 0 (fun t => t.settingsUsed), numEnt 8 roOps 0 (fun t => t.boot.setVer),
      numEnt 16 roOps 0 (fun t => t.boot.setSkipped)] sub
  else if idx = 0x2010 then
    (if sub = 1 then some (numEnt 8 roOps 0 (fun t => t.boot.setResult)) else if sub = 2 then some (numEnt 8 roOps 0 (fun t => t.boot.setItem))
     else if sub = 0xF then some (cmdEnt woOp 1 1 (fun t _ =>
       let r := t.settingsWrite env.readOk
       (r.1, if r.2 = 1 then stFull else refusedUnless0 r.2)))
     else none)
  else if 1 ≤ sub ∧ sub ≤ 0x20 then
    some (setEnt 32 rwOps 0 (2 ^ 32 - 1) (fun t => Cells.get 0 t.dict.persist sub) (fun t v => { t with dict := { t.dict with persist := Cells.set 0 t.dict.persist sub v } }))
  else none

/-! Partitions and security (Table 13.17). -/

def entPartition (env : DictEnv) (idx sub p : Nat) : Option Ent :=
  let nx (w hi dflt : Nat) (get : PartSt → Nat) (put : PartSt → Nat → PartSt) : Ent :=
    setEnt w rwAll dflt hi (fun t => get (t.prt p)) (fun t v => t.setPrt p (put (t.prt p) v))
  if idx / 8 = 0x3010 / 8 then
    (if sub = 0xE then some (cmdEnt woOp 1 2 (fun t v =>
        if v = 1 ∧ t.run ≠ 3 then (t, stRefused)
        else
          let r := if v = 1 then t.buildCmd p else t.tdCmd p ((t.prt p).zero ≠ 0)
          (r, refusedUnless0 (r.prt p).result)))
     else if sub = 0xF then some (numEnt 8 roAll 0 (fun t => (t.prt p).result))
     else nth [nx 16 0xFFFF 0 (·.granules) (fun x v => { x with granules := v }), nx 32 (2 ^ 32 - 1) 0 (·.hdmaCh) (fun x v => { x with hdmaCh := v }),
       nx 4 15 0 (·.video) (fun x v => { x with video := v }), nx 12 4095 0 (·.tenant) (fun x v => { x with tenant := v }),
       nx 8 1 0 (·.keySrc) (fun x v => { x with keySrc := v }), nx 1 1 1 (·.zero) (fun x v => { x with zero := v })] sub)
  else
    let _ := env
    nth [numEnt 8 roAll 0 (fun t => t.rd (GLB_PART_STAT.STATE p)), numEnt 8 roAll 0 (fun t => t.rd (GLB_PART_STAT.TD_STEP p)),
      numEnt 8 roAll 0 (fun t => (t.prt p).tdMask), numEnt 8 roAll 0 (fun t => (t.prt p).dropped), numEnt 32 roAll 0 (fun t => (t.prt p).buildId),
      numEnt 32 roAll 0 (fun t => (t.prt p).dbgPart)] sub

def entSecurity (rq : Nat) (idx sub : Nat) : Option Ent :=
  if idx = 0xA000 then
    nth [numEnt 64 roAll 0 (fun t => t.deviceId), rawEnt 9 64 roAll [] (fun t => some (sha3 t.identityKey)),
      rawEnt 11 2592 roAll [] (fun t => some (fitTo 2592 t.identityKey)), numEnt 8 roAll 0 (fun t => t.lifecycle), numEnt 8 roAll 0 (fun t => t.settingsUsed),
      numEnt 8 roAll 0 (fun t => t.ownerGen), numEnt 1 roAll 0 (fun t => t.rd GLB_DBG_STAT.OPEN), numEnt 32 roAll 0 (fun t => t.rd GLB_DBG_COUNT.SESSIONS)] sub
  else if idx = 0xA010 then
    nth [{ rawEnt 9 64 0x2A [] (fun _ => none) with put := fun t v => (t.storeReport rq v, stOk) }, rawEnt 11 5764 roAll [] (fun t => Cells.get none t.dict.reports rq)] sub
  else
    nth [{ rawEnt 11 4691 woOp [] (fun _ => none) with
      put := fun t v =>
        if v.length = 64 ∨ v.length = 4691 then
          let r := t.ownerChange (v.take 64) (v.drop 64)
          (r, refusedUnless0 r.boot.ownerResult)
        else (t, 5) },
      numEnt 8 roAll 0 (fun t => t.boot.ownerResult)] sub

/-! Power, cooling, Tandem (Table 16.24). -/

def entThermal (idx sub : Nat) : Option Ent :=
  let steps (f : Fld) : Ent := f32Ent roOps (fun t => (t.rd f, 8))
  if idx = 0x4000 then
    nth [f32Ent roOps (fun t => (t.rd PWR_INPUT.VOLTS, 100)), f32Ent roOps (fun t => (t.rd PWR_INPUT.WATTS, 10)), numEnt 1 roOps 0 (fun t => b2n t.holdupOk),
      numEnt 32 roOps 0 (fun t => t.rd PWR_STAT.LOSSES)] sub
  else if idx = 0x4010 then
    nth [steps THM_COOL.INLET, steps THM_COOL.OUTLET, f32Ent roOps (fun t => (t.rd THM_FLOW.FLOW, 100)), numEnt 8 roOps 100 (fun t => t.rd THM_MODULE.VALVE)] sub
  else if idx = 0x4020 then
    (if sub = 1 then some (numEnt 8 roAll 15 (fun t => t.rd THM_MODULE.LEVEL)) else if sub = 2 then some (numEnt 32 roAll 0 (fun t => t.readWord THM_MODULE.LEVEL.addr))
     else if 3 ≤ sub ∧ sub ≤ 0x12 then some (numEnt 8 roAll 15 (fun t => t.rd (THM_LATHE.EFFECTIVE (sub - 3)))) else none)
  else if idx = 0x4040 then nth [numEnt 32 roOps 0 (fun t => t.thm.tripTotal), numEnt 1 roOps 0 (fun t => t.rd THM_STAT.NO_RESTART)] sub
  else if idx = 0x4100 then
    (if 1 ≤ sub ∧ sub ≤ 0x40 then some (f32Ent roOps (fun t => (t.temp (sub - 1), 8))) else none)
  else if idx = 0x4200 then
    nth [numEnt 32 roOps 0 (fun t => t.readWord TDM_STAT.OWNER.addr), numEnt 32 roOps 0 (fun t => t.rd TDM_COUNTS.TAKEOVERS), numEnt 32 roOps 0 (fun t => t.rd TDM_COUNTS.RETURNS)] sub
  else none

/-! Errors, lifetime, restore, diagnostics (Table 17.13). -/

/-- U32 values of consecutive cells. -/
def u32s (m : Cells Nat) (lo n : Nat) : List Byte := (List.range n).flatMap (fun i => leBytes 4 (Cells.get 0 m (lo + i)))

def entErrors (env : DictEnv) (idx sub : Nat) : Option Ent :=
  if idx = 0x5001 then
    (if sub = 1 then some { cmdEnt 0x22 1 1 (fun t _ => (t.lifeCommit, stOk)) with typ := 1 } else none)
  else if idx = 0x5010 then
    (if sub = 1 then some (numEnt 16 roAll 0 (fun t => t.rd ERR_LATHE.SUSPECT)) else if sub = 2 then some (numEnt 16 roAll 0 (fun t => t.rd ERR_LATHE.RETIRED))
     else if sub = 0xD then some (cmdEnt 0x02 0 15 (fun t v => let r := t.lift v env.bad.toNat env.otpOk; (r, refusedUnless0 r.boot.liftResult)))
     else if sub = 0xE then some { cmdEnt woOp 1 1 (fun t _ => (t.maintenance env.otpOk, stOk)) with typ := 1 }
     else if sub = 0xF then some (numEnt 8 roOps 0 (fun t => t.boot.liftResult)) else none)
  else if idx = 0x5030 then
    (if 1 ≤ sub ∧ sub ≤ 7 then some (numEnt 32 roOps (katDigest sub) (fun _ => katDigest sub)) else none)
  else if 0x5100 ≤ idx ∧ idx < 0x5164 then
    let k := idx - 0x5100
    nth [numEnt 64 roOps 0 (fun t => Cells.get 0 t.err.ceTotal k), numEnt 32 roOps 0 (fun t => Cells.get 0 t.err.ueTotal k),
      numEnt 16 roOps 0 (fun t => min 65535 (windowCount t.err.ce k)), numEnt 16 roOps 0 (fun t => min 65535 (windowCount t.err.ue k)),
      numEnt 1 roOps 0 (fun t => b2n (Cells.get false t.err.lasting k))] sub
  else if 0x5200 ≤ idx ∧ idx < 0x5210 then
    let n := idx - 0x5200
    nth [rawEnt 11 128 roOps [] (fun t => some (u32s t.boot.life.cell (32 * n) 32)), rawEnt 11 128 roOps [] (fun t => some (u32s t.err.katPass (32 * n) 32)),
      rawEnt 11 128 roOps [] (fun t => some (u32s t.err.katFail (32 * n) 32))] sub
  else if idx = 0x5300 then
    nth [rawEnt 11 256 roOps [] (fun t => some (fitTo 256 (leBytes 8 t.boot.life.powerOn ++ leBytes 8 t.boot.life.ready ++ leBytes 8 (t.boot.life.energy / 36000) ++ leBytes 8 t.boot.life.commits))),
      rawEnt 11 4096 roOps [] (fun t => some (u32s t.boot.life.sensor 0 1024)), rawEnt 11 192 roOps [] (fun t => some (u32s t.boot.life.hist 0 48))] sub
  else if 0x5400 ≤ idx ∧ idx < 0x5408 then
    let p := idx - 0x5400
    (if sub = 1 then some (numEnt 8 roAll 0 (fun t => (t.prt p).restore)) else if sub = 2 then some (numEnt 8 roAll 0 (fun t => (t.prt p).cause))
     else if sub = 0xE then some (cmdEnt woOp 1 4 (fun t v =>
       let r := if v = 1 then t.restoreArm p else if v = 2 then t.restoreStart p else if v = 3 then t.restoreCommit p else t.restoreStop p 2
       (r.1, if r.2 then stOk else stRefused)))
     else none)
  else none

/-- An injection bit: a write of 1 arms it (R105, R424). -/
def injEnt (f : Fld) : Ent := { fldEnt 0x33 f with put := fun s v => (s.wr f (s.rd f ||| leVal v), stOk) }

/-- A field-network injection: 0xF010:02 makes the next 4 beacons be skipped. -/
def netInj (b : Nat) : Ent :=
  setEnt 1 0x33 0 1 (fun t => b2n (bit t.dict.inj b)) (fun t v =>
    if v = 0 then t else { t with dict := { t.dict with inj := setBit t.dict.inj b true, skip := if b = 1 then 4 else t.dict.skip } })

def entInjection (idx sub : Nat) : Option Ent :=
  if idx = 0xF000 then nth [injEnt ERR_INJ.LINK_CE, injEnt ERR_INJ.LINK_UE, injEnt ERR_INJ.WAY_CE, injEnt ERR_INJ.WAY_UE, fldEnt 0x33 ERR_INJ.SITE] sub
  else if idx = 0xF010 then nth [netInj 0, netInj 1, netInj 2] sub
  else if 0xF020 ≤ idx ∧ idx < 0xF030 then
    (if sub = 1 then some { cmdEnt 0x22 1 1 (fun t _ => (t.katStart (idx - 0xF020), stOk)) with typ := 1 } else none)
  else none

/-! Serving (Table 6.33). -/

def entServing (p idx sub : Nat) : Option Ent :=
  let sh (f : Fld) : Ent := fldEnt rwAll f
  if idx / 8 = 0x6010 / 8 then
    (if sub = 0xF then some (cmdEnt woOp 1 1 (fun t _ => commitVia [PLT_PSTAT.CFG_BUSY_WR p, PLT_PSTAT.CFG_MISMATCH p] (fun u => u.pltCommit p false) t))
     else nth [sh (PLT_CADENCE.CADENCE p), sh (PLT_LIMITS.CHUNK64 p), sh (PLT_LIMITS.CHUNK_RES p), sh (PLT_LIMITS.SPEC_NODES p), sh (PLT_LIMITS.QMAX p),
       sh (PLT_LIMITS.PORT_RES p), sh (PLT_MAXLEN.MAX_LEN p), sh (PLT_PFT_ALLOW.PFT_ALLOW p), sh (PLT_TIMEOUTS.ACK_LIMIT p), sh (PLT_TIMEOUTS.LATE_LIMIT p),
       sh (PLT_TIMEOUTS.ERR_LIMIT p)] sub)
  else if idx / 8 = 0x6020 / 8 then
    (if 1 ≤ sub ∧ sub ≤ 4 then some (sh (PLT_CLASS.TTFT p (sub - 1))) else if 5 ≤ sub ∧ sub ≤ 8 then some (sh (PLT_CLASS.ENABLE p (sub - 5))) else none)
  else
    (if 8 ≤ sub ∧ sub ≤ 0x11 then some (numEnt 32 roAll 0 (fun t => (t.loop p).refused.getD (sub - 8) 0))
     else nth [numEnt 32 roAll 0 (fun t => t.readWord (PLT_PSTAT.STATE p).addr), numEnt 32 roAll 0 (fun t => t.rd (PLT_LOAD.VALUE p)), numEnt 32 roAll 0 (fun t => t.rd (PLT_FIX.VALUE p)),
       numEnt 14 roAll 0 (fun t => t.rd (PLT_COUNTS.GUARANTEED p)), numEnt 14 roAll 0 (fun t => t.rd (PLT_COUNTS.DEMOTED p)), numEnt 64 roAll 0 (fun t => t.stepOf p),
       numEnt 64 roAll 0 (fun t => (t.loop p).breaches)] sub)

/-- Bucket b: writes of HELD and CONSUMED are refused, ENABLE counts CONSUMED anew (Tables 6.9, 6.33). -/
def entBucket (b sub : Nat) : Option Ent :=
  let e (w hi : Nat) (get : Bucket → Nat) (put : Bucket → Nat → Bucket) : Ent := setEnt w rwAll 0 hi (fun t => get (t.bucket b)) (fun t v => t.setBucket b (put (t.bucket b) v))
  let no (a w : Nat) (get : Bucket → Nat) : Ent := { numEnt w a 0 (fun t => get (t.bucket b)) with hi := 2 ^ w - 1, put := fun t _ => (t, stRefused) }
  nth [e 32 (2 ^ 32 - 1) (·.balance) (fun x v => { x with balance := v }), no rwAll 32 (·.held), e 32 (2 ^ 32 - 1) (·.cap) (fun x v => { x with cap := v }),
    e 24 (2 ^ 24 - 1) (·.refill) (fun x v => { x with refill := v }), e 16 65535 (·.period) (fun x v => { x with period := v }), e 3 7 (·.owner) (fun x v => { x with owner := v }),
    e 1 1 (fun x => b2n x.enable) (fun x v => { x with enable := v = 1, consumed := if v = 1 ∧ !x.enable then 0 else x.consumed }), no rwAll 32 (·.consumed)] sub

/-! Fabric and video (Tables 11.30, 10.22). -/

/-- A bit map of four words. -/
def mapEnt (a : Nat) (f : Nat → Fld) : Ent :=
  { setEnt 128 a 0 (2 ^ 128 - 1) (fun t => (List.range 4).foldl (fun v w => v + t.rd (f w) * 2 ^ (32 * w)) 0)
      (fun t v => (List.range 4).foldl (fun st w => st.wr (f w) (v / 2 ^ (32 * w))) t) with typ := 8 }

/-- A register word that a write sets field by field. -/
def wordEnt (a addr : Nat) : Ent :=
  { numEnt 32 a 0 (fun t => t.readWord addr) with hi := 2 ^ 32 - 1, put := fun t v => (t.fieldsWrite addr (leVal v), stOk) }

def entFabric (p idx sub : Nat) : Option Ent :=
  if idx = 0x7000 then
    (if sub = 0xF then some (cmdEnt woOp 1 1 (fun t _ => commitVia [FAB_COMMIT.CFG_MISMATCH] (fun u => u.fabCommit) t))
     else nth [fldEnt roAll FAB_ID.MODULE_ID, fldEnt roAll FAB_ID.ID_VALID, fldEnt roAll FAB_ID.DOMAIN, fldEnt rwAll FAB_CFG.EN_A, fldEnt rwAll FAB_CFG.EN_B,
       fldEnt rwAll FAB_CFG.FEC_PREF, fldEnt rwAll FAB_CFG.E2E_TIMEOUT] sub)
  else if idx = 0x7001 then
    nth [numEnt 32 roAll 0 (fun t => t.readWord (FAB_PLANE.STATE 0).addr), numEnt 32 roAll 0 (fun t => t.readWord (FAB_PLANE.STATE 1).addr), mapEnt roAll (FAB_REACH.REACH 0),
      mapEnt roAll (FAB_REACH.REACH 1)] sub
  else if idx = 0x7002 then (if 1 ≤ sub ∧ sub ≤ 0x10 then some (numEnt 64 roAll 0 (fun t => Cells.get 0 t.fab.total (sub - 1))) else none)
  else if idx / 8 = 0x7010 / 8 then
    (if sub = 0xF then some (cmdEnt woOp 0 3 (fun t v =>
        if v % 2 = 0 then (t, stOk) else commitVia [FAB_ERR_STAT.CFG_BUSY_WR, FAB_PSTAT.CFG_MISMATCH p] (fun u => u.fabPcommit p (v / 2 = 1)) t))
     else nth [fldEnt rwAll (FAB_PTEN.TENANT p), fldEnt rwAll (FAB_PTEN.EPOCH p), wordEnt rwAll (FAB_PWIN.LBASE p).addr, mapEnt rwAll (FAB_PEERS.PEERS p)] sub)
  else if idx / 8 = 0x7020 / 8 then (if 1 ≤ sub ∧ sub ≤ 0x10 then some (wordEnt rwAll (FAB_BAR.ROOT p (sub - 1)).addr) else none)
  else
    let ck : Ent := { wordEnt rwAll (FAB_CK_CTRL.COUNT p).addr with
      put := fun t v =>
        if bit (leVal v) 31 then
          (if t.flag (FAB_CK_CTRL.START p) then (t.raise FAB_ERR_STAT.CFG_BUSY_WR, stRefused)
           else
             let s1 := t.fieldsWrite (FAB_CK_CTRL.COUNT p).addr (leVal v % 2 ^ 31)
             (s1.ckStart p (s1.rd (FAB_CK_CTRL.COUNT p)) (s1.rd (FAB_CK_CTRL.PEER p)) (s1.flag (FAB_CK_CTRL.DIR p)) (s1.flag (FAB_CK_CTRL.QUIESCE p)), stOk))
        else (t.fieldsWrite (FAB_CK_CTRL.COUNT p).addr (leVal v), stOk) }
    nth [setEnt 64 rwAll 0 (2 ^ 40 - 1) (fun t => t.rd (FAB_CK_LIST_LO.LIST p) + t.rd (FAB_CK_LIST_HI.LIST p) * 2 ^ 32)
        (fun t v => (t.wr (FAB_CK_LIST_LO.LIST p) v).wr (FAB_CK_LIST_HI.LIST p) (v / 2 ^ 32)),
      ck, numEnt 32 roAll 0 (fun t => t.readWord (FAB_CK_STAT.STATE p).addr), fldEnt roAll (FAB_CK_BYTES.UNITS p)] sub

def entVideo (idx sub : Nat) : Option Ent :=
  if idx = 0x8000 then nth [numEnt 8 roAll 4 (fun _ => 4)] sub
  else if idx < 0x8014 then
    let e := idx - 0x8010
    nth [numEnt 32 roAll 0 (fun t => t.readWord (VID_ENG_PART.PART e).addr), fldEnt roAll (VID_ENG_STAT.LOAD e), numEnt 32 roAll 0 (fun t => t.readWord (VID_ERR_STAT.SRAM_UE e).addr)] sub
  else
    let e := (idx - 0x8100) / 16
    let k := (idx - 0x8100) % 16
    let n (i : Nat) : Ent := numEnt 64 roAll 0 (fun t => (t.vctx e k).totals.getD i 0)
    nth [numEnt 32 roAll 0 (fun t => t.readWord (VID_CTX_STAT.STATE e k).addr), n 0, n 1, n 2, n 3, n 4] sub

/-! Update (Table 15.17). -/

/-- A result of an update request as a status; what a module reset overtakes has no response. -/
def updPut (r : State × Nat) (reset : Bool) : State × Nat := (r.1, if reset && r.2 = 0 then stNone else refusedUnless0 r.2)

/-- The commands of 0xB000:0E. -/
def State.updCommand (s : State) (env : DictEnv) (rq v : Nat) : State × Nat :=
  let c := v % 16
  if (c ≠ 5 ∧ 16 ≤ v) ∨ c = 0 ∨ 6 < c then (s, stRange)
  else if c = 1 then updPut (s.updReset env.u) true
  else if !s.updServed then (s, stRefused)
  else if c = 2 then updPut s.updConfirm false
  else if c = 3 then updPut (s.updActivate rq env.applyOk env.u) true
  else if c = 4 then updPut (s.updFinish rq env.u) (s.run = 5)
  else if c = 5 then updPut (s.updSkip rq (v / 16)) false
  else updPut s.updAbort false

def entUpdate (env : DictEnv) (rq idx sub : Nat) : Option Ent :=
  let served (f : State → State × Nat) (t : State) : State × Nat := if t.updServed then updPut (f t) false else (t, stRefused)
  if idx = 0xB000 then
    (if sub = 0xE then some (cmdEnt woOp 0 255 (fun t v => t.updCommand env rq v))
     else if sub = 0xF then some (numEnt 8 roOps 0 (fun t => t.rd GLB_UPD.LAST_RESULT))
     else if sub = 5 then some (pEnt rwOps ⟨3, 2, 0, 65535, 24, .confirmHours⟩)
     else nth [numEnt 8 roAll 0 (fun t => t.lifecycle), numEnt 8 roOps 0 (fun t => t.target), numEnt 8 roOps 0 (fun t => t.bankState 0), numEnt 8 roOps 0 (fun t => t.bankState 1),
       numEnt 16 roOps 0 (fun t => t.fram.confirmHours), numEnt 16 roOps 0 (fun t => t.rd GLB_FALLBACKS.TRIAL_HOURS), numEnt 8 roOps 0 (fun t => t.rd GLB_LIFE.RESET_CAUSE),
       numEnt 32 roOps 0 (fun t => t.rd GLB_FALLBACKS.COUNT), numEnt 8 roOps 0 (fun t => t.rd GLB_LIFE.DEAD_CAUSE), numEnt 8 roAll 0 (fun t => t.svnFloor),
       numEnt 8 roOps 0 (fun t => t.rd GLB_UPD.SESSION + 16 * t.rd GLB_UPD.COMPONENT), numEnt 32 roOps 0 (fun t => t.rd GLB_UPD.PAGES)] sub)
  else if idx = 0xB001 ∨ idx = 0xB002 then
    let b := idx - 0xB001
    let v (id : Nat) : Ent := numEnt 32 roAll 0 (fun t => hdrNum (t.area b id).header 8 4)
    nth [v 1, v 2, v 4, v 5, v 6, numEnt 32 roAll 0 (fun t => hdrNum (t.area b 1).header 6 1)] sub
  else if idx = 0xB010 then
    (if sub = 1 then some { rawEnt 11 16384 woOp [] (fun _ => none) with put := fun t v => if v.length = 16384 then served (fun u => u.updHeader rq v) t else (t, 5) } else none)
  else if idx = 0xB020 then
    (if sub = 1 then some { rawEnt 11 65544 woOp [] (fun _ => none) with put := fun t v => served (fun u => u.updBlock rq v env.readOk) t } else none)
  else if idx = 0xB030 then
    nth [{ rawEnt 11 4632 woOp [] (fun _ => none) with
      put := fun t v =>
        if v.length = 4632 ∧ v.headD 0 ≤ 1#8 then
          let r := t.updLock (v.headD 0 = 1#8) (leVal ((v.drop 1).take 4)) (v.drop 5)
          (r.1, refusedUnless0 r.2)
        else (t, 5) },
      numEnt 8 roOps 0 (fun t => t.boot.lockResult)] sub
  else none

/-! The index map (Table 14.8). -/

/-- A tenant reaches an entry of partition p only when it is its own (R415). -/
def ofPart (tenant : Option Nat) (p : Nat) (e : Option Ent) : Option Ent := e.map (fun x => { x with mine := tenant.all (fun q => q = p) })

/-- The entry at an index and a subindex above 0, for a requester and, where it is one, its tenant's partition. -/
def dictEnt (env : DictEnv) (rq : Nat) (tenant : Option Nat) (s : State) (idx sub : Nat) : Option Ent :=
  if sub = 0 ∨ 255 < sub then none
  else if idx = 0x1000 then entIdentity s sub
  else if idx = 0x1010 then
    (if sub = 3 ∨ sub = 4 then (persistEnt idx sub).map (pEnt rwOps) else entField sub)
  else if idx = 0x1020 then entKeys sub
  else if 0x1030 ≤ idx ∧ idx < 0x1050 then entPartner (idx - 0x1030) sub
  else if idx = 0x1050 then nth [numEnt 8 roAll 0 (fun t => t.cabState), numEnt 8 roOps 0xFF (fun t => t.cabNodeNow)] sub
  else if idx = 0x2000 ∨ idx = 0x2010 ∨ idx = 0x2011 then entSettings env idx sub
  else if idx / 16 = 0x202 ∨ idx / 16 = 0x203 ∨ idx = 0x4030 ∨ idx = 0x5000 then
    (if sub = 0xF then some (pCommit idx) else (persistEnt idx sub).map (pEnt rwOps))
  else if idx = 0x3000 then
    nth [numEnt 8 roAll 8 (fun _ => 8), numEnt 16 roAll 0xFFFF (fun t => maskOf 16 (fun n => (t.granuleOf n).isNone))] sub
  else if idx / 8 = 0x3010 / 8 ∨ idx / 8 = 0x3020 / 8 then ofPart tenant (idx % 8) (entPartition env idx sub (idx % 8))
  else if 0x4000 ≤ idx ∧ idx < 0x5000 then entThermal idx sub
  else if 0x5400 ≤ idx ∧ idx < 0x5408 then ofPart tenant (idx - 0x5400) (entErrors env idx sub)
  else if 0x5000 ≤ idx ∧ idx < 0x6000 then entErrors env idx sub
  else if idx = 0x6000 then nth [numEnt 32 roAll 8192 (fun _ => 8192), numEnt 32 roAll 1024 (fun _ => 1024)] sub
  else if idx / 8 = 0x6010 / 8 ∨ idx / 8 = 0x6020 / 8 ∨ idx / 8 = 0x6030 / 8 then ofPart tenant (idx % 8) (entServing (idx % 8) idx sub)
  else if 0x6400 ≤ idx ∧ idx < 0x6800 then ofPart tenant (s.bucket (idx - 0x6400)).owner (entBucket (idx - 0x6400) sub)
  else if 0x7000 ≤ idx ∧ idx < 0x7003 then entFabric 0 idx sub
  else if idx / 8 = 0x7010 / 8 ∨ idx / 8 = 0x7020 / 8 ∨ idx / 8 = 0x7030 / 8 then ofPart tenant (idx % 8) (entFabric (idx % 8) idx sub)
  else if idx = 0x8000 then entVideo idx sub
  else if (0x8010 ≤ idx ∧ idx < 0x8014) ∨ (0x8100 ≤ idx ∧ idx < 0x8140) then
    let e := if idx < 0x8014 then idx - 0x8010 else (idx - 0x8100) / 16
    (entVideo idx sub).map (fun x => { x with mine := tenant.all (fun q => s.flag (VID_ENG_PART.ASSIGNED e) && s.rd (VID_ENG_PART.PART e) = q) })
  else if idx = 0xA000 ∨ idx = 0xA010 ∨ idx = 0xA020 then entSecurity rq idx sub
  else if 0xB000 ≤ idx ∧ idx < 0xC000 then entUpdate env rq idx sub
  else entInjection idx sub

/-- The entry at a subindex, 00 among them: the highest subindex, for every role that has access to any subindex (R414). -/
def dictEntry (env : DictEnv) (rq : Nat) (tenant : Option Nat) (s : State) (idx sub : Nat) : Option Ent :=
  if sub ≠ 0 then dictEnt env rq tenant s idx sub
  else
    let all := (List.range 256).filterMap (fun k => (dictEnt env rq tenant s idx k).map (fun e => (k, e)))
    if all.isEmpty then none
    else
      let top := all.foldl (fun m (x : Nat × Ent) => max m x.1) 0
      let any (f : Ent → Bool) : Nat := b2n (all.any (fun (x : Nat × Ent) => f x.2))
      some { numEnt 8 0 top (fun _ => top) with op := any (fun e => e.op ≠ 0), ten := any (fun e => e.ten ≠ 0 && e.mine), svc := any (fun e => e.svc ≠ 0) }

end Sys2Proof.Machine
end

