-- ==== Sys2Proof/Machine/DictOps.lean ====
section
/-! DEFINITION. Serving the object dictionary: PDUs, access, values, segments, responses, tags, beacons (R398 to R413, R422 to R424, R451, R454). -/

namespace Sys2Proof.Machine
open Reg

/-- A role on a path: operator, tenant of a partition, service (R399). -/
inductive DictRole where
  | op
  | tenant (p : Nat)
  | svc
deriving DecidableEq, Repr

/-- ROLE as a PDU carries it. -/
def DictRole.code : DictRole → Nat
  | .op => 0
  | .tenant _ => 1
  | .svc => 2

/-- The partition of a tenant. -/
def DictRole.part : DictRole → Option Nat
  | .tenant p => some p
  | _ => none

/-- Access of a role to an entry: 0 none, 1 RO, 2 WO, 3 RW; none to an entry of another partition (R415). -/
def Ent.access (e : Ent) : DictRole → Nat
  | .op => e.op
  | .tenant _ => if e.mine then e.ten else 0
  | .svc => e.svc

/-- The fields of a request PDU (Table 14.1). -/
structure DictReq where
  version : Nat
  op : Nat
  last : Bool
  txn : Nat
  seq : Nat
  idx : Nat
  sub : Nat
  off : Nat
  len : Nat
  data : List Byte
deriving DecidableEq, Repr

/-- A request read from its bytes; bytes that do not stand are 0. -/
def dictReq (b : List Byte) : DictReq :=
  { version := hdrNum b 0 1, op := hdrNum b 1 1, last := bit (hdrNum b 3 1) 0, txn := hdrNum b 4 2, seq := hdrNum b 8 4,
    idx := hdrNum b 0x14 2, sub := hdrNum b 0x16 1, off := hdrNum b 0x18 4, len := hdrNum b 0x1C 2, data := b.drop 0x20 }

/-- A PDU without its TAG (Table 14.1). -/
def dictPdu (op role : Nat) (last tagged : Bool) (txn status seq : Nat) (nonce : List Byte) (idx sub off : Nat) (data : List Byte) : List Byte :=
  leBytes 1 1 ++ leBytes 1 op ++ leBytes 1 role ++ leBytes 1 (b2n last + 2 * b2n tagged) ++ leBytes 2 txn ++ leBytes 1 status ++ leBytes 1 0 ++
    leBytes 4 seq ++ fitTo 8 nonce ++ leBytes 2 idx ++ leBytes 1 sub ++ leBytes 1 0 ++ leBytes 4 off ++ leBytes 2 data.length ++ leBytes 2 0 ++ data

/-- The answer to a request: status (`stNone`: no response), LAST, DATA. -/
structure DictAns where
  status : Nat
  last : Bool := true
  data : List Byte := []
deriving DecidableEq, Repr

/-- The snapshot of a requester for an entry; that requester's snapshot released (R406). -/
def State.snapOf (s : State) (rq key : Nat) : Option (List Byte) :=
  (s.dict.snaps.find? (fun (x : Nat × Nat × List Byte) => x.1 = rq && x.2.1 = key)).map (fun x => x.2.2)
def State.snapDrop (s : State) (rq key : Nat) : State :=
  { s with dict := { s.dict with snaps := s.dict.snaps.filter (fun (x : Nat × Nat × List Byte) => !(x.1 = rq && x.2.1 = key)) } }

/-- The staged bytes of a requester for an entry; that requester's staging discarded (R407). -/
def State.stagedOf (s : State) (rq key : Nat) : Option (List Byte) :=
  (s.dict.stagings.find? (fun (x : Nat × Nat × List Byte) => x.1 = rq && x.2.1 = key)).map (fun x => x.2.2)
def State.stagedDrop (s : State) (rq key : Nat) : State :=
  { s with dict := { s.dict with stagings := s.dict.stagings.filter (fun (x : Nat × Nat × List Byte) => !(x.1 = rq && x.2.1 = key)) } }

/-- A segment of a snapshot: at most LENGTH and 1,024 bytes; the one with the last byte releases the snapshot (R398, R406). -/
def State.snapRead (s : State) (rq key off len : Nat) (v : List Byte) : State × DictAns :=
  let d := (v.drop off).take (min len 1024)
  let last := v.length ≤ off + d.length
  (if last then s.snapDrop rq key else s, ⟨stOk, last, d⟩)

/-- READ (R405, R406). -/
def State.dictRead (s : State) (rq : Nat) (role : DictRole) (q : DictReq) (e : Ent) : State × DictAns :=
  let key := 256 * q.idx + q.sub
  let a := e.access role
  if a = 0 then (s, ⟨2, true, []⟩)
  else if a = 2 then (s, ⟨4, true, []⟩)
  else if e.typ ≠ 11 then
    (if q.off ≠ 0 ∨ q.len < e.size then (s, ⟨5, true, []⟩)
     else match e.get s with | none => (s, ⟨8, true, []⟩) | some v => (s, ⟨stOk, true, v⟩))
  else if q.off = 0 then
    let s1 := s.snapDrop rq key
    match e.get s with
    | none => (s1, ⟨8, true, []⟩)
    | some v => ({ s1 with dict := { s1.dict with snaps := s1.dict.snaps ++ [(rq, key, v)] } }).snapRead rq key 0 q.len v
  else
    match s.snapOf rq key with
    | none => (s, ⟨10, true, []⟩)
    | some v => if v.length ≤ q.off then (s, ⟨7, true, []⟩) else s.snapRead rq key q.off q.len v

/-- WRITE (R405, R407). -/
def State.dictWrite (s : State) (rq : Nat) (role : DictRole) (q : DictReq) (e : Ent) : State × DictAns :=
  let key := 256 * q.idx + q.sub
  let a := e.access role
  let v := q.data.take q.len
  let done (r : State × Nat) : State × DictAns := (r.1, ⟨r.2, true, []⟩)
  if a = 0 then done (s, 2)
  else if a = 1 then done (s, 3)
  else if 1024 < q.len ∨ v.length ≠ q.len then done (s, 5)
  else if e.typ ≠ 11 then
    (if q.off ≠ 0 ∨ q.len ≠ e.size ∨ !q.last then done (s, 5)
     else if leVal v < e.lo ∨ e.hi < leVal v then done (s, stRange)
     else done (e.put s v))
  else
    let old := if q.off = 0 then some [] else s.stagedOf rq key
    let s1 := s.stagedDrop rq key
    match old with
    | none => done (s1, 7)
    | some b =>
      if b.length ≠ q.off ∨ e.size < q.off + q.len then done (s1, 7)
      else if q.last then done (e.put s1 (b ++ v))
      else done ({ s1 with dict := { s1.dict with stagings := s1.dict.stagings ++ [(rq, key, b ++ v)] } }, stOk)

/-- DESCRIBE (Table 14.7). -/
def State.dictDescribe (s : State) (role : DictRole) (e : Ent) : DictAns :=
  if e.access role = 0 then ⟨2, true, []⟩
  else
    let size := if e.typ = 11 then ((e.get s).getD []).length else e.size
    ⟨stOk, true, leBytes 1 e.typ ++ leBytes 1 (e.op + 4 * e.ten + 16 * e.svc + 64 * b2n e.persist) ++ leBytes 2 0 ++ leBytes 4 size ++
      (if e.typ = 11 then leBytes 16 0 else fitTo 16 e.dflt)⟩

/-- What a run state serves: none, no response; some 0, served; some, that status. In recovery the ROM serves the subset of Table 15.12 on the
mirror and the field network; MAINT serves update alone; a DEAD module answers READ of 0x1000 and 0xB000 (R451, R452, R454). -/
def dictGate (run : Nat) (doe : Bool) (q : DictReq) : Option Nat :=
  if run = 0 ∨ run = 6 then none
  else if run = 7 then (if q.op = 1 ∧ (q.idx = 0x1000 ∨ q.idx = 0xB000) then some 0 else none)
  else if run = 5 then
    (if doe then none
     else if (q.idx = 0x1000 ∧ 1 ≤ q.sub ∧ q.sub ≤ 8) ∨ (q.idx = 0xB000 ∧ 1 ≤ q.sub ∧ q.sub ≤ 15) ∨ ((q.idx = 0xB010 ∨ q.idx = 0xB020) ∧ q.sub = 1) then some 0
     else some 1)
  else if run = 4 then (if q.idx = 0x1000 ∨ q.idx / 0x1000 = 0xB then some 0 else some stRefused)
  else some 0

/-- The operations of Table 14.2 that a requester may ask for. -/
def isDictOp (q : DictReq) : Bool := q.version = 1 && (q.op = 1 || q.op = 2 || q.op = 6)

/-- A request executed whole (R403): the state and the answer. -/
def State.dictServe (s : State) (env : DictEnv) (rq : Nat) (role : DictRole) (doe : Bool) (q : DictReq) : State × DictAns :=
  match dictGate s.run doe q with
  | none => (s, ⟨stNone, true, []⟩)
  | some st =>
    if !isDictOp q then (s, ⟨11, true, []⟩)
    else if st ≠ 0 then (s, ⟨st, true, []⟩)
    else match dictEntry env rq role.part s q.idx q.sub with
      | none => (s, ⟨1, true, []⟩)
      | some e => if q.op = 1 then s.dictRead rq role q e else if q.op = 2 then s.dictWrite rq role q e else (s, s.dictDescribe role e)

/-- The response PDU: OP follows the request's; an unknown OP is answered with READ_RESP (R398). -/
def State.dictResp (s : State) (role : DictRole) (tagged : Bool) (q : DictReq) (a : DictAns) : List Byte :=
  dictPdu (if q.op = 2 then 4 else if q.op = 6 then 7 else 3) role.code a.last tagged q.txn a.status q.seq s.dict.bootNonce q.idx q.sub q.off a.data

/-! The field network. -/

/-- TAG of a frame's PDU under a key: the input begins with the destination and source MAC addresses (R400). -/
def dictTag (key : List Byte) (dst src : Nat) (pdu : List Byte) : List Byte := fitTo 16 (Config.kmac key (macBytes dst ++ macBytes src ++ pdu))

/-- The broadcast address. -/
def macAll : Nat := 2 ^ 48 - 1

/-- The role of a field-network request and its key (R400). -/
def State.roleKey (s : State) (role : DictRole) : List Byte := match role with | .svc => s.fram.svcKey | _ => s.fram.opKey

/-- A frame is sent; after a node conflict nothing is (R411). -/
def State.sendFrame (s : State) (dst : Nat) (pdu : List Byte) : State :=
  if s.dict.conflict then s else { s with out := s.out ++ [.frame dst pdu], dict := { s.dict with framesOut := s.dict.framesOut + 1 } }

/-- A count of discarded frames or requests. -/
def State.dictCount (s : State) (f : DictSt → DictSt) : State := { s with dict := f s.dict }

/-- Whether a PDU carries the TAG of its role under the module's key; DATA is LENGTH bytes in WRITE and BEACON and none otherwise (R400). -/
def tagVerifies (key : List Byte) (dst src : Nat) (b : List Byte) : Bool :=
  let n := 0x20 + (if hdrNum b 1 1 = 2 ∨ hdrNum b 1 1 = 5 then hdrNum b 0x1C 2 else 0)
  bit (hdrNum b 3 1) 1 && !key.isEmpty && n + 16 ≤ b.length && (b.drop n).take 16 = dictTag key dst src (b.take n)

/-- A request frame that has reached the queue (R400 to R402). -/
def State.fieldServe (s : State) (env : DictEnv) (src dst : Nat) (b : List Byte) : State :=
  let role : DictRole := if hdrNum b 2 1 = 2 then .svc else .op
  let rq := 16 + 2 * src + b2n (role = .svc)
  let q := dictReq b
  let s0 := if bit s.dict.inj 0 then s.dictCount (fun d => { d with inj := d.inj - 1 }) else s
  let bad := s0.dictCount (fun d => { d with badAuth := d.badAuth + 1 })
  if bit s.dict.inj 0 ∨ (hdrNum b 2 1 ≠ 0 ∧ hdrNum b 2 1 ≠ 2) ∨ !tagVerifies (s.roleKey role) dst src b ∨ (b.drop 0x0C).take 8 ≠ fitTo 8 s.dict.bootNonce then bad
  else
    let go (_ : Unit) : State :=
      let s1 := s0.dictCount (fun d => { d with last := Cells.set none d.last rq (some (q.seq, b, [])) })
      let r := s1.dictServe env rq role false q
      if r.2.status = stNone then r.1
      else
        let p := r.1.dictResp role true q r.2
        let resp := p ++ dictTag (r.1.roleKey role) src s.ownMac p
        let s2 := if Cells.get none r.1.dict.last rq = none then r.1
          else r.1.dictCount (fun d => { d with last := Cells.set none d.last rq (some (q.seq, b, resp)) })
        s2.sendFrame src resp
    match Cells.get none s.dict.last rq with
    | none => go ()
    | some (seq, req, resp) =>
      if seq < q.seq then go ()
      else if seq = q.seq ∧ req = b then (if resp.isEmpty then s0 else s0.sendFrame src resp)
      else bad

/-- The field network is served in every run state but ROM and the manufacturing test (R397, R451, R454). -/
def State.onField (s : State) : Bool := s.run ≠ 0 && s.run ≠ 6

/-- A dictionary request on its path (R399, R403, R422). -/
def State.dictRequest (s : State) (path : DictPath) (pdu : List Byte) (env : DictEnv) : State :=
  match path with
  | .doe fn =>
    let q := dictReq pdu
    let role : DictRole := match fn with | .pf0 => .op | .vf p => .tenant p
    let r := s.dictServe env (reqCode (.doe fn)) role true q
    if r.2.status = stNone then r.1 else r.1.doePut (reqCode (.doe fn)) (r.1.dictResp role false q r.2)
  | .mirror =>
    if !s.flag MBX_DICT_STAT.BUSY then s
    else
      let q := dictReq pdu
      let r := s.dictServe env 0 .op false q
      if r.2.status = stNone then r.1
      else ({ r.1 with dict := { r.1.dict with mirrorResp := r.1.dictResp .op false q r.2 } }.wr MBX_DICT_STAT.BUSY 0).raise MBX_DICT_STAT.DONE
  | .field src bcast good full =>
    if !s.onField then s
    else if !good then s.dictCount (fun d => { d with badFrame := d.badFrame + 1 })
    else
      let s1 := s.dictCount (fun d => { d with framesIn := d.framesIn + 1 })
      if full then s1.dictCount (fun d => { d with badFull := d.badFull + 1 })
      else s1.fieldServe env src.toNat (if bcast then macAll else s.ownMac) pdu

/-- The PDU that a command carries: on the mirror, the request buffer's bytes (R422). -/
def State.pduOn (s : State) (path : DictPath) (pdu : List Byte) : List Byte := match path with | .mirror => s.dict.mirrorReq | _ => pdu

/-! Beacons (R409 to R412). -/

/-- The module's beacon without its TAG (Table 14.6). -/
def State.beaconPdu (s : State) : List Byte :=
  dictPdu 5 0xFF false (!s.fram.opKey.isEmpty) 0 0 s.dict.beaconSeq s.dict.bootNonce 0 0 0
    (leBytes 1 0 ++ leBytes 1 s.nodeId ++ leBytes 2 0 ++ leBytes 1 s.run ++ leBytes 3 0 ++ leBytes 8 s.deviceId ++
      leBytes 1 (s.rd FAB_ID.MODULE_ID + 128 * s.rd FAB_ID.ID_VALID) ++ leBytes 15 0)

/-- Snapshots, staged writes and the SEQ record of a source MAC address are gone (R410). -/
def State.forgetMac (s : State) (mac : Nat) : State :=
  let of (rq : Nat) : Bool := rq = 16 + 2 * mac || rq = 16 + 2 * mac + 1
  { s with dict := { s.dict with
      snaps := s.dict.snaps.filter (fun (x : Nat × Nat × List Byte) => !of x.1),
      stagings := s.dict.stagings.filter (fun (x : Nat × Nat × List Byte) => !of x.1),
      last := s.dict.last.filter (fun (x : Nat × Option (Nat × List Byte × List Byte)) => !of x.1) } }

/-- A beacon's PDU is well formed (R409, R410). -/
def beaconOk (b : List Byte) : Bool := hdrNum b 0 1 = 1 && hdrNum b 1 1 = 5 && hdrNum b 2 1 = 0xFF && hdrNum b 0x1C 2 = 32 && 64 ≤ b.length

/-- A beacon of another sender that is taken (R410 to R412). -/
def State.beaconTaken (s : State) (src : Nat) (b : List Byte) : State :=
  let tagged := bit (hdrNum b 3 1) 1
  let k := hdrNum b 0x21 1 % 32
  let dev := hdrNum b 0x28 8
  let nonce := (b.drop 0x0C).take 8
  let old := s.partner k
  let seen := !old.nonce.isEmpty
  let restart := seen && old.nonce ≠ nonce
  let new : Partner := { here := true, kind := hdrNum b 0x20 1, device := dev, nonce := nonce, restarts := min (2 ^ 32 - 1) (old.restarts + b2n restart),
                         cab := hdrNum b 0x22 1 % 4, mac := src, modId := hdrNum b 0x30 1 }
  let s1 := s.dictCount (fun d => { d with partners := Cells.set {} d.partners k new,
                                           partnerConflict := min (2 ^ 32 - 1) (d.partnerConflict + b2n (seen && old.here && old.device ≠ dev)) })
  let s2 := if restart && tagged then s1.forgetMac src else s1
  let s3 := if tagged && new.kind = 1 then s2.dictCount (fun d => { d with cabNode := some k, cabVal := new.cab }) else s2
  if k = s.nodeId ∧ dev ≠ s.deviceId then
    { s3.dictCount (fun d => { d with conflict := true }) with host := { s3.host with line := Cells.set false s3.host.line 11 true } }
  else s3

end Sys2Proof.Machine
end

