-- ==== Sys2Proof/Machine/Dict.lean ====
section
/-! DEFINITION. The commands of the object dictionary and the field network (R394 to R424). -/

namespace Sys2Proof.Machine
open Reg

/-- DICT_READ: a request whose OP is neither WRITE nor DESCRIBE; one of an unknown OP is answered with BAD_OP. A BEACON of the field network is
no request (R413). -/
def execDictRead (path : DictPath) (pdu : List Byte) (env : DictEnv) (s : State) : Next :=
  let b := s.pduOn path pdu
  let op := hdrNum b 1 1
  let beacon : Bool := match path with | .field .. => op = 5 | _ => false
  .next (if op = 2 ∨ op = 6 ∨ beacon then s else s.dictRequest path b env)

/-- DICT_WRITE. -/
def execDictWrite (path : DictPath) (pdu : List Byte) (env : DictEnv) (s : State) : Next :=
  let b := s.pduOn path pdu
  .next (if hdrNum b 1 1 = 2 then s.dictRequest path b env else s)

/-- DICT_DESCRIBE. -/
def execDictDescribe (path : DictPath) (pdu : List Byte) (env : DictEnv) (s : State) : Next :=
  let b := s.pduOn path pdu
  .next (if hdrNum b 1 1 = 6 then s.dictRequest path b env else s)

/-- SNAPSHOT_EXPIRE: 10 s have passed without a read of it (R406). -/
def execSnapshotExpire (rq : ReqPath) (idx : BitVec 16) (sub : Byte) (s : State) : Next := .next (s.snapDrop (reqCode rq) (256 * idx.toNat + sub.toNat))

/-- STAGING_EXPIRE: 10 s have passed without a segment (R407). -/
def execStagingExpire (rq : ReqPath) (idx : BitVec 16) (sub : Byte) (s : State) : Next := .next (s.stagedDrop (reqCode rq) (256 * idx.toNat + sub.toNat))

/-- BEACON_TX: the module's transmit opportunity after 100 ms. A beacon that 0xF010:02 makes it skip is not sent and not counted (R409, R424). -/
def execBeaconTx (s : State) : Next :=
  .next (if !s.onField || s.dict.conflict then s
    else if s.dict.skip ≠ 0 then
      s.dictCount (fun d => { d with skip := d.skip - 1, inj := if d.skip = 1 ∧ bit d.inj 1 then d.inj - 2 else d.inj })
    else
      let p := s.beaconPdu
      let s1 := s.dictCount (fun d => { d with beaconSeq := d.beaconSeq + 1 })
      s1.sendFrame macAll (if s.fram.opKey.isEmpty then p else p ++ dictTag s.fram.opKey macAll s.ownMac p))

/-- BEACON_RX: a frame from another sender; `good`: it passes R396. One that is not well formed, or whose tag does not verify, has no effect but
its count. -/
def execBeaconRx (src : BitVec 48) (good : Bool) (pdu : List Byte) (s : State) : Next :=
  .next (if !s.onField then s
    else if !good then s.dictCount (fun d => { d with badFrame := d.badFrame + 1 })
    else
      let s1 := s.dictCount (fun d => { d with framesIn := d.framesIn + 1 })
      if beaconOk pdu && (!bit (hdrNum pdu 3 1) 1 || tagVerifies s.fram.opKey macAll src.toNat pdu) then s1.beaconTaken src.toNat pdu else s1)

/-- PARTNER_LOST: 345 ms on the AON counter without a beacon of it (R410). -/
def execPartnerLost (k : Fin 32) (s : State) : Next :=
  let p := s.partner k
  .next (if !p.here then s
    else (s.forgetMac p.mac).dictCount (fun d => { d with partners := Cells.set {} d.partners k { p with here := false },
                                                          cabNode := if d.cabNode = some k.val then none else d.cabNode }))

/-- SETTINGS_WRITE: a write of 1 to 0x2010:0F that the dictionary serves (R420). -/
def execSettingsWrite (readOk : Bool) (s : State) : Next :=
  .next (if s.run = 1 ∨ s.run = 2 ∨ s.run = 3 then (s.settingsWrite readOk).1 else s)

/-- MIRROR_GO: GO of MBX_DICT_CTRL (R422, R423). -/
def execMirrorGo (s : State) : Next :=
  .next (if s.flag MBX_DICT_STAT.BUSY then s.raise MBX_DICT_STAT.CFG_BUSY_WR else s.wr MBX_DICT_STAT.BUSY 1)

/-- PLCA_BEACON_HEARD: by a follower (R394, R395). -/
def execPlcaBeaconHeard (s : State) : Next := .next (if s.onField ∧ s.nodeId ≠ 0 then s.dictCount (fun d => { d with plca := true }) else s)

/-- PLCA_BEACON_LOST: by a follower. -/
def execPlcaBeaconLost (s : State) : Next := .next (if s.nodeId ≠ 0 then s.dictCount (fun d => { d with plca := false }) else s)

end Sys2Proof.Machine
end

