-- ==== Sys2Proof/Machine/Registers.lean ====
section
/-! DEFINITION. The commands of register accesses that have no row of their own (R15 to R19, R36, R105, R106). -/

namespace Sys2Proof.Machine
open Reg

/-- A write of a register word, with its byte enables (R18, R342). -/
def State.placeWrite (s : State) (pl : RegPlace) (v : Nat) (be : BitVec 4) : State :=
  if s.urNow pl then s.urTaken false
  else if be ≠ 15 then (if barAccess pl then s.logUr else s)
  else
    match s.dest pl with
    | .reg a view => if view then s.logUr else s.regWrite a v
    | .msix fn w => s.msixWrite fn w v
    | .pba _ _ => s
    | .request w => { s with dict := { s.dict with mirrorReq := putWord s.dict.mirrorReq w v } }
    | .response _ => s
    | .alias0 => s.logUr
    | .none => s.refuseUr false

/-- REGISTER_WRITE. -/
def execRegisterWrite (pl : RegPlace) (v : Word) (be : BitVec 4) (s : State) : Next := .next (s.placeWrite pl v.toNat be)

/-- The register at a place holds injection points: W1S fields of a register named _INJ (R105). -/
def State.injPlace (s : State) (pl : RegPlace) : Bool :=
  match s.dest pl with
  | .reg a _ => !ownWrite a && !ckCtrl a && (regFields a).any (fun f => f.acc = .w1s)
  | _ => false

/-- INJECTION_ARM: a write of a register with injection points; its other fields take effect too. The dictionary arms the points of 0xF000 and
0xF010 through DICT_WRITE. -/
def execInjectionArm (pl : RegPlace) (v : Word) (s : State) : Next := .next (if s.injPlace pl then s.placeWrite pl v.toNat 15 else s)

/-- RC_FIELD_READ: a read of a register word; its RC fields are 0 afterwards, but not through a view (R15, R19, R360). -/
def execRcFieldRead (pl : RegPlace) (s : State) : Next :=
  .next (if s.urNow pl then s.urTaken true
    else
      match s.dest pl with
      | .reg a view =>
        if ownRead a && !view then s else (if view then s.answerRead pl (s.readWord a) else (s.answerRead pl (s.readWord a)).rcClear a)
      | .none => s.refuseUr true
      | .response w => (s.answerRead pl (s.destRead (.response w))).drew
      | d => s.answerRead pl (s.destRead d))

/-- UNMAPPED_ACCESS: an access to an address in no block, or in a reserved area of another window (R36, R342); an access to anything else is none. -/
def execUnmappedAccess (pl : RegPlace) (read : Bool) (s : State) : Next :=
  .next (if s.dest pl ≠ .none ∨ !barAccess pl then s else if s.urNow pl then s.urTaken read else s.refuseUr read)

/-- The 64-bit count, and its registers' LO and HI fields. -/
def State.count64 (s : State) : Count64 → Nat × Fld × Fld
  | .cyc n => (Cells.get 0 s.cyc n, LTH_CYC_LO.CYC n, LTH_CYC_HI.CYC n)
  | .atsBytes n => (Cells.get 0 s.atsBytes n, ATS_BYTES_LO.BYTES n, ATS_BYTES_HI.BYTES n)
  | .now => (s.now.toNat, PLT_NOW_LO.NOW, PLT_NOW_HI.NOW)
  | .step p => (s.stepOf p, PLT_STEP_LO.STEP p, PLT_STEP_HI.STEP p)

/-- LATCHING_LO_READ: the LO half is returned, and the upper half latched into HI (Tables 3.29, 5.16, 6.13, 6.30). -/
def execLatchingLoRead (c : Count64) (s : State) : Next :=
  let (v, lo, hi) := s.count64 c
  let pl : RegPlace := .bar0 (BitVec.ofNat 28 lo.addr)
  .next (if s.urNow pl then s.urTaken true else (s.wr hi (v / 2 ^ 32)).send (.readData (leBytes 4 v)))

end Sys2Proof.Machine
end

