-- ==== Sys2Proof/Machine/Tdma.lean ====
section
/-! DEFINITION. The commands of tensor DMA (R262 to R267, R280, R281). -/

namespace Sys2Proof.Machine
open Reg

/-- TDMA_CH_KICK: a PF0 write of TDMA_CH_KICK with GO 1 (R265). -/
def execTdmaChKick (g : Lathe) (c : Fin 4) (addr : Fin 16777216) (s : State) : Next :=
  .next (if s.rd (TDMA_CH_STAT.STATE g c) ≠ 1 ∨ s.flag (LTH_PART.PLT_OWNED g) then s.raise (TDMA_GRP_STAT.CFG_BUSY_WR g)
    else s.tdmaStart g c addr)

/-- The tensor DMA requesters of the Lathe are masked while it is in RESET or OFFLINE (R287). -/
def State.tdmaMasked (s : State) (g : Nat) : Bool := s.seq g = 0 || s.seq g = 8

/-- TDMA_DESC_FETCH: the channel fetches its next descriptor and checks it; a failure stops the group (R263, R266). A descriptor without
pulses runs to its end. -/
def execTdmaDescFetch (g : Lathe) (c : Fin 4) (s : State) : Next :=
  let x := s.tch g c
  if s.rd (TDMA_CH_STAT.STATE g c) ≠ 2 ∨ x.words.isSome ∨ s.tdmaMasked g then .next s
  else if !tdescOk x.next then .next (s.tdmaStop g 1 x.next c)
  else
    let r := s.lsramRead g x.next 128
    if !r.2.1 then .next (r.1.tdmaStop g 7 x.next c)
    else
      let w := wordsOfBytes 32 r.2.2
      if !r.1.tdmaOk g w then .next (r.1.tdmaStop g 1 x.next c)
      else if dfld w 0 8 1 = 1 then .next (r.1.setTch g c { x with words := some w, passed := 0, sent := 0 })
      else
        match (r.1.setTch g c { x with words := some w, passed := 0, sent := 0 }).tdmaMove g c w 0 (tdmaDst w).bytes with
        | .ok s1 => .next (s1.tdmaDone g c w)
        | .error (cause, addr, s1) => .next (s1.tdmaStop g cause addr c)

/-- TDMA_EVENT_PULSE: the data up to the next pulse point moves, and once every write before it is acknowledged the pulse is sent; at the
end of the descriptor the channel goes on along its chain (R267). -/
def execTdmaEventPulse (g : Lathe) (c : Fin 4) (s : State) : Next :=
  let x := s.tch g c
  match x.words with
  | none => .next s
  | some w =>
    if s.rd (TDMA_CH_STAT.STATE g c) ≠ 2 ∨ s.tdmaMasked g then .next s
    else
      let step := pulseLines w * (tdmaDst w).line
      let moved := if x.sent = x.passed then (s.setTch g c { x with sent := x.passed + 1 }).tdmaMove g c w (x.passed * step) step else .ok s
      match moved with
      | .error (cause, addr, s1) => .next (s1.tdmaStop g cause addr c)
      | .ok s1 =>
        if s1.chanOutstanding g c then .next s1
        else
          let s2 := (s1.setTch g c { s1.tch g c with passed := x.passed + 1 }).pulse g (dfld w 0 9 5)
          .next (if pulsePoints w ≤ x.passed + 1 then s2.tdmaDone g c w else s2)

/-- TDMA_BUS_ERROR: an error response from outside what the model computes: cause and failing address (R280, Table 9.10). -/
def execTdmaBusError (g : Lathe) (cause : Fin 8) (addr : BitVec 64) (s : State) : Next := .next (s.tdmaStop g cause addr.toNat 0)

/-- TDMA_GRP_CLEAR: TDMA_GRP_CTRL.CLEAR (R281). -/
def execTdmaGrpClear (g : Lathe) (s : State) : Next :=
  .next (if s.seq g = 1 ∨ s.seq g = 5 ∨ s.seq g = 6 then s.tdmaUnstop g else s.raise (TDMA_GRP_STAT.CFG_BUSY_WR g))

end Sys2Proof.Machine
end

