-- ==== Sys2Proof/Machine/Update.lean ====
section
/-! DEFINITION. The commands of resets, update, trial and recovery, the configuration space and the LOCATE# pin (R425 to R457, R430, R509). -/

namespace Sys2Proof.Machine
open Reg

/-! Resets (R425, R426). -/

/-- POWER_ON_RESET. -/
def execPowerOnReset (u : StartUp) (s : State) : Next := .next (s.powerOn u)

/-- MODULE_RESET with RESET_CAUSE 1 + c: the lifetime store is committed before a reset that firmware or GLB_RST starts, thus not before the
watchdog's (R499). -/
def execModuleReset (c : Fin 6) (u : StartUp) (s : State) : Next :=
  .next (if c = 2 then s.moduleReset 3 u else s.lifeCommit.moduleReset (1 + c) u)

/-- GLB_RST (Table 15.14). -/
def execGlbRst (key : Word) (u : StartUp) (s : State) : Next :=
  .next (if key = 0x4E5A5253 then s.lifeCommit.moduleReset 1 u else s.raise GLB_LIFE.RST_BAD)

/-- SVC_WATCHDOG_EXPIRY (R426). -/
def execSvcWatchdogExpiry (u : StartUp) (s : State) : Next := .next (s.moduleReset 3 u)

/-- TRIAL_FAILURE: a failure that the service controller signals while its bank is in TRIAL (R445). -/
def execTrialFailure (u : StartUp) (s : State) : Next := .next (if s.inTrial then s.lifeCommit.moduleReset 5 u else s)

/-! Updates (R438 to R446): requests are served in READY, MAINT and ROM recovery. -/

/-- UPDATE_HEADER. -/
def execUpdateHeader (rq : ReqPath) (header : List Byte) (s : State) : Next := .next (if s.updServed then (s.updHeader (reqCode rq) header).1 else s)

/-- UPDATE_ERASE_DONE. -/
def execUpdateEraseDone (s : State) : Next := .next s.eraseDone

/-- UPDATE_BLOCK. -/
def execUpdateBlock (rq : ReqPath) (value : List Byte) (readOk : Bool) (s : State) : Next :=
  .next (if s.updServed then (s.updBlock (reqCode rq) value readOk).1 else s)

/-- UPDATE_CMD_RESET. A DEAD module serves no write (R454). -/
def execUpdateCmdReset (u : StartUp) (s : State) : Next := .next (if s.run = 7 then s else (s.updReset u).1)

/-- UPDATE_CONFIRM. -/
def execUpdateConfirm (s : State) : Next := .next (if s.updServed then s.updConfirm.1 else s)

/-- UPDATE_ACTIVATE. -/
def execUpdateActivate (rq : ReqPath) (applyOk : Bool) (u : StartUp) (s : State) : Next :=
  .next (if s.updServed then (s.updActivate (reqCode rq) applyOk u).1 else s)

/-- UPDATE_FINISH. -/
def execUpdateFinish (rq : ReqPath) (u : StartUp) (s : State) : Next := .next (if s.updServed then (s.updFinish (reqCode rq) u).1 else s)

/-- UPDATE_SKIP. -/
def execUpdateSkip (rq : ReqPath) (id : Fin 16) (s : State) : Next := .next (if s.updServed then (s.updSkip (reqCode rq) id).1 else s)

/-- UPDATE_SKIP_DONE: `readOk` tells whether the copy could be programmed. -/
def execUpdateSkipDone (readOk : Bool) (s : State) : Next := .next (s.skipDone readOk)

/-- UPDATE_ABORT. -/
def execUpdateAbort (s : State) : Next := .next (if s.updServed then s.updAbort.1 else s)

/-- UPDATE_SESSION_TIMEOUT: 10 minutes without a request (R438). -/
def execUpdateSessionTimeout (s : State) : Next := .next (if s.boot.session.isSome then s.sessionEnd [] else s)

/-- TRIAL_HOURS_CONFIRM: CONFIRM_HOURS of READY have passed; with 0 only the command confirms (R446). -/
def execTrialHoursConfirm (s : State) : Next := .next (if s.run = 3 ∧ s.inTrial ∧ s.fram.confirmHours ≠ 0 then s.confirm else s)

/-- UPDATE_LOCK. -/
def execUpdateLock (lock : Bool) (seq : Word) (sig : List Byte) (s : State) : Next := .next (s.updLock lock seq.toNat sig).1

/-! Configuration space and pins. -/

/-- The word of a configuration register (R341): Device ID over Vendor ID, Class Code over Revision ID, Subsystem ID over Subsystem Vendor ID; what the
PCI-SIG and the PCI Express Base Specification give is open. -/
def State.configWord (s : State) (fn reg : Nat) : Nat :=
  let other := Config.pciConfig fn reg % 2 ^ 32
  if reg = 0 then other % 2 ^ 16 + (if fn = 0 then 0x1280 else 0x1281) * 2 ^ 16
  else if reg = 2 then 0xC0 + 0x120000 * 2 ^ 8
  else if reg = 11 then other % 2 ^ 16 + (if s.is1T then 1 else 2) * 2 ^ 16
  else other

/-- CONFIG_REQUEST: a read, or a write, of configuration register `reg` of a function (0 PF0, 1 + n VF n): Request Retry Status until phase 5 has
completed; a DEAD module's link is down, and no request arrives (R430, R454). What a write changes is the PCI Express Base Specification's. -/
def execConfigRequest (fn : Fin 9) (reg : Fin 1024) (write : Bool) (s : State) : Next :=
  .next (if s.run = 7 then s
    else if !s.boot.phase5 then s.send .retryStatus
    else if write then s.send (.readData [])
    else s.send (.readData (leBytes 4 (s.configWord fn reg))))

/-- LOCATE_PIN_CHANGE: two equal samples of LOCATE#; `low` is the level taken (R509). -/
def execLocatePinChange (low : Bool) (s : State) : Next := .next { s with boot := { s.boot with locate := low } }

end Sys2Proof.Machine
end

