-- ==== Sys2Proof/Machine/Dispatch.lean ====
section
/-! DEFINITION. `exec`: one arm per command, each a direct call of the command's meaning. -/

namespace Sys2Proof.Machine

/-- The effect of a command on everything but the queue. -/
def exec (i : Instr) (s : State) : Host.Outcome State Fault Refusal :=
  match i with
  | .registerWrite pl v be => Sys2Proof.Machine.execRegisterWrite pl v be s
  | .unmappedAccess pl read => Sys2Proof.Machine.execUnmappedAccess pl read s
  | .rcFieldRead pl => Sys2Proof.Machine.execRcFieldRead pl s
  | .latchingLoRead c => Sys2Proof.Machine.execLatchingLoRead c s
  | .injectionArm pl v => Sys2Proof.Machine.execInjectionArm pl v s
  | .seqGo n by' len buf => Sys2Proof.Machine.execSeqGo n by' len buf s
  | .seqStop n framOk => Sys2Proof.Machine.execSeqStop n framOk s
  | .seqResume n => Sys2Proof.Machine.execSeqResume n s
  | .lreset n => Sys2Proof.Machine.execLreset n s
  | .latheResetDone n => Sys2Proof.Machine.execLatheResetDone n s
  | .stepAbort n => Sys2Proof.Machine.execStepAbort n s
  | .descriptorDecode n => Sys2Proof.Machine.execDescriptorDecode n s
  | .repetitionIssue n => Sys2Proof.Machine.execRepetitionIssue n s
  | .repetitionComplete n pipe => Sys2Proof.Machine.execRepetitionComplete n pipe s
  | .descriptorError n => Sys2Proof.Machine.execDescriptorError n s
  | .waitTimeout n => Sys2Proof.Machine.execWaitTimeout n s
  | .stepEpochOpen n => Sys2Proof.Machine.execStepEpochOpen n s
  | .lthCommit n atEpoch => Sys2Proof.Machine.execLthCommit n atEpoch s
  | .evtInc n ctr amount => Sys2Proof.Machine.execEvtInc n ctr amount s
  | .lthDbgDataAccess n write framOk => Sys2Proof.Machine.execLthDbgDataAccess n write framOk s
  | .droopStretch n => Sys2Proof.Machine.execDroopStretch n s
  | .pftCmdQueue w3 => Sys2Proof.Machine.execPftCmdQueue w3 s
  | .pftRespRead => Sys2Proof.Machine.execPftRespRead s
  | .slotOpen => Sys2Proof.Machine.execSlotOpen s
  | .slotPrepare => Sys2Proof.Machine.execSlotPrepare s
  | .commitLen => Sys2Proof.Machine.execCommitLen s
  | .slotFork => Sys2Proof.Machine.execSlotFork s
  | .slotTruncate => Sys2Proof.Machine.execSlotTruncate s
  | .slotRelease => Sys2Proof.Machine.execSlotRelease s
  | .pinTake => Sys2Proof.Machine.execPinTake s
  | .pinEnd => Sys2Proof.Machine.execPinEnd s
  | .abortStep => Sys2Proof.Machine.execAbortStep s
  | .relink => Sys2Proof.Machine.execRelink s
  | .pinGenerationFlip p => Sys2Proof.Machine.execPinGenerationFlip p s
  | .retiredItemsFree p => Sys2Proof.Machine.execRetiredItemsFree p s
  | .kvLatch n => Sys2Proof.Machine.execKvLatch n s
  | .pftCommit p commit enable => Sys2Proof.Machine.execPftCommit p commit enable s
  | .pftPoolReady p => Sys2Proof.Machine.execPftPoolReady p s
  | .pltCommit p commit enable => Sys2Proof.Machine.execPltCommit p commit enable s
  | .templateDerived p => Sys2Proof.Machine.execTemplateDerived p s
  | .stepSelect p => Sys2Proof.Machine.execStepSelect p s
  | .stepPrepareDone p => Sys2Proof.Machine.execStepPrepareDone p s
  | .stepBuild p => Sys2Proof.Machine.execStepBuild p s
  | .stepRelease p => Sys2Proof.Machine.execStepRelease p s
  | .stepGo p => Sys2Proof.Machine.execStepGo p s
  | .ackTimeout p => Sys2Proof.Machine.execAckTimeout p s
  | .stepRunEnd p => Sys2Proof.Machine.execStepRunEnd p s
  | .samplePhase => Sys2Proof.Machine.execSamplePhase s
  | .stepCommitGroupDone p => Sys2Proof.Machine.execStepCommitGroupDone p s
  | .commitPoint p => Sys2Proof.Machine.execCommitPoint p s
  | .stepErrorReport n => Sys2Proof.Machine.execStepErrorReport n s
  | .stepAbortEnd p => Sys2Proof.Machine.execStepAbortEnd p s
  | .sqTailWrite v index => Sys2Proof.Machine.execSqTailWrite v index s
  | .submit p e => Sys2Proof.Machine.execSubmit p e s
  | .draft p slot reqId base tokens => Sys2Proof.Machine.execDraft p slot reqId base tokens s
  | .cancel p slot reqId => Sys2Proof.Machine.execCancel p slot reqId s
  | .entryBad p bad => Sys2Proof.Machine.execEntryBad p bad s
  | .tResRecompute p why => Sys2Proof.Machine.execTResRecompute p why s
  | .bucketRefill b => Sys2Proof.Machine.execBucketRefill b s
  | .bucketWrite value => Sys2Proof.Machine.execBucketWrite value s
  | .pelotonSramUe w => Sys2Proof.Machine.execPelotonSramUe w s
  | .smpProfCommit profile commit => Sys2Proof.Machine.execSmpProfCommit profile commit s
  | .smpCommit p commit => Sys2Proof.Machine.execSmpCommit p commit s
  | .portTrainingDone n failed => Sys2Proof.Machine.execPortTrainingDone n failed s
  | .portZeroingDone n => Sys2Proof.Machine.execPortZeroingDone n s
  | .refreshRateUpdate n modes => Sys2Proof.Machine.execRefreshRateUpdate n modes s
  | .selfRefreshEntry n => Sys2Proof.Machine.execSelfRefreshEntry n s
  | .portAccess rq n addr len data => Sys2Proof.Machine.execPortAccess rq n addr len data s
  | .sramScrubWord unit => Sys2Proof.Machine.execSramScrubWord unit s
  | .patrolScrubUnit n => Sys2Proof.Machine.execPatrolScrubUnit n s
  | .retireBlock n => Sys2Proof.Machine.execRetireBlock n s
  | .memRetire n block => Sys2Proof.Machine.execMemRetire n block s
  | .retireCopyDone n => Sys2Proof.Machine.execRetireCopyDone n s
  | .memCommit n => Sys2Proof.Machine.execMemCommit n s
  | .keyLoad p k key => Sys2Proof.Machine.execKeyLoad p k key s
  | .keyRotateStart p => Sys2Proof.Machine.execKeyRotateStart p s
  | .rotationSweepUnit n => Sys2Proof.Machine.execRotationSweepUnit n s
  | .rotationDrainDone p => Sys2Proof.Machine.execRotationDrainDone p s
  | .keyPcommit p commit enable => Sys2Proof.Machine.execKeyPcommit p commit enable s
  | .tdmaChKick g c addr => Sys2Proof.Machine.execTdmaChKick g c addr s
  | .tdmaDescFetch g c => Sys2Proof.Machine.execTdmaDescFetch g c s
  | .tdmaEventPulse g c => Sys2Proof.Machine.execTdmaEventPulse g c s
  | .tdmaBusError g cause addr => Sys2Proof.Machine.execTdmaBusError g cause addr s
  | .tdmaGrpClear g => Sys2Proof.Machine.execTdmaGrpClear g s
  | .channelFence ch => Sys2Proof.Machine.execChannelFence ch s
  | .channelUnfence ch => Sys2Proof.Machine.execChannelUnfence ch s
  | .channelDisable ch => Sys2Proof.Machine.execChannelDisable ch s
  | .channelEnable ch => Sys2Proof.Machine.execChannelEnable ch s
  | .channelCfgCommit ch => Sys2Proof.Machine.execChannelCfgCommit ch s
  | .hdmaDoorbell c fn => Sys2Proof.Machine.execHdmaDoorbell c fn s
  | .hdmaEntryFetch c words => Sys2Proof.Machine.execHdmaEntryFetch c words s
  | .hdmaTrigger c => Sys2Proof.Machine.execHdmaTrigger c s
  | .hdmaWriteback c host => Sys2Proof.Machine.execHdmaWriteback c host s
  | .hdmaResume c => Sys2Proof.Machine.execHdmaResume c s
  | .hdmaBusError cause addr => Sys2Proof.Machine.execHdmaBusError cause addr s
  | .hdmaRestart => Sys2Proof.Machine.execHdmaRestart s
  | .arbDecision inst slots => Sys2Proof.Machine.execArbDecision inst slots s
  | .arbCommit n => Sys2Proof.Machine.execArbCommit n s
  | .videoEngineAssign e part assigned => Sys2Proof.Machine.execVideoEngineAssign e part assigned s
  | .videoSramCleared e => Sys2Proof.Machine.execVideoSramCleared e s
  | .vidCtxCommit e k commit enable => Sys2Proof.Machine.execVidCtxCommit e k commit enable s
  | .videoRow e k work => Sys2Proof.Machine.execVideoRow e k work s
  | .frameReport e k => Sys2Proof.Machine.execFrameReport e k s
  | .vidFlush e k => Sys2Proof.Machine.execVidFlush e k s
  | .vidResume e k => Sys2Proof.Machine.execVidResume e k s
  | .vidCtxSrc e k fn slot rows16 last force => Sys2Proof.Machine.execVidCtxSrc e k fn slot rows16 last force s
  | .fabCommit commit => Sys2Proof.Machine.execFabCommit commit s
  | .fabPcommit p commit enable => Sys2Proof.Machine.execFabPcommit p commit enable s
  | .planeTrained pl => Sys2Proof.Machine.execPlaneTrained pl s
  | .trainingTimeout pl => Sys2Proof.Machine.execTrainingTimeout pl s
  | .planeLock pl seq => Sys2Proof.Machine.execPlaneLock pl seq s
  | .helloRx pl h => Sys2Proof.Machine.execHelloRx pl h s
  | .helloTx pl => Sys2Proof.Machine.execHelloTx pl s
  | .helloTimeout pl => Sys2Proof.Machine.execHelloTimeout pl s
  | .codewordRx pl seq d => Sys2Proof.Machine.execCodewordRx pl seq d s
  | .controlFlitRx pl ack nack credits comps => Sys2Proof.Machine.execControlFlitRx pl ack nack credits comps s
  | .ackStallTimeout pl => Sys2Proof.Machine.execAckStallTimeout pl s
  | .planeDown pl => Sys2Proof.Machine.execPlaneDown pl s
  | .packetSend r cw => Sys2Proof.Machine.execPacketSend r cw s
  | .fabricWriteRx pl k => Sys2Proof.Machine.execFabricWriteRx pl k s
  | .fabricEventWrite pl k => Sys2Proof.Machine.execFabricEventWrite pl k s
  | .barrierArrival pl k => Sys2Proof.Machine.execBarrierArrival pl k s
  | .fabricReadReqRx pl k => Sys2Proof.Machine.execFabricReadReqRx pl k s
  | .fabricReadRespRx pl k => Sys2Proof.Machine.execFabricReadRespRx pl k s
  | .fabricReleaseRx pl k => Sys2Proof.Machine.execFabricReleaseRx pl k s
  | .e2eTimeout n => Sys2Proof.Machine.execE2eTimeout n s
  | .checkpointStart p count peer pull quiesce => Sys2Proof.Machine.execCheckpointStart p count peer pull quiesce s
  | .checkpointEnd p => Sys2Proof.Machine.execCheckpointEnd p s
  | .pcieLinkUp speed width flit => Sys2Proof.Machine.execPcieLinkUp speed width flit s
  | .linkLoss waiting => Sys2Proof.Machine.execLinkLoss waiting s
  | .configRequest fn reg write => Sys2Proof.Machine.execConfigRequest fn reg write s
  | .pf0ApertureAccess off len data framOk => Sys2Proof.Machine.execPf0ApertureAccess off len data framOk s
  | .vfApertureAccess v off len data => Sys2Proof.Machine.execVfApertureAccess v off len data s
  | .receivedTlpError poisoned read => Sys2Proof.Machine.execReceivedTlpError poisoned read s
  | .completionTimeout who => Sys2Proof.Machine.execCompletionTimeout who s
  | .vfFlr v => Sys2Proof.Machine.execVfFlr v s
  | .pfReset => Sys2Proof.Machine.execPfReset s
  | .ringEnable v value => Sys2Proof.Machine.execRingEnable v value s
  | .oqFreeWrite v index => Sys2Proof.Machine.execOqFreeWrite v index s
  | .eqHeadWrite v index => Sys2Proof.Machine.execEqHeadWrite v index s
  | .eventRecordWrite p => Sys2Proof.Machine.execEventRecordWrite p s
  | .submissionReadFault p timeout => Sys2Proof.Machine.execSubmissionReadFault p timeout s
  | .mbxSend sender target word => Sys2Proof.Machine.execMbxSend sender target word s
  | .mbxRing sender target bells => Sys2Proof.Machine.execMbxRing sender target bells s
  | .mbxInDataRead t => Sys2Proof.Machine.execMbxInDataRead t s
  | .irqFilterSettle src => Sys2Proof.Machine.execIrqFilterSettle src s
  | .irqPendWrite w value => Sys2Proof.Machine.execIrqPendWrite w value s
  | .irqClaim p soon => Sys2Proof.Machine.execIrqClaim p soon s
  | .irqDone p => Sys2Proof.Machine.execIrqDone p s
  | .partitionBuild p step => Sys2Proof.Machine.execPartitionBuild p step s
  | .partitionTeardown p step otpOk => Sys2Proof.Machine.execPartitionTeardown p step otpOk s
  | .teardownFenceTimeout p => Sys2Proof.Machine.execTeardownFenceTimeout p s
  | .teardownComplete p => Sys2Proof.Machine.execTeardownComplete p s
  | .attestationRequest rq nonce => Sys2Proof.Machine.execAttestationRequest rq nonce s
  | .kemRequest p nonce => Sys2Proof.Machine.execKemRequest p nonce s
  | .keyDelivery p slot rotate buildId ct wrapped => Sys2Proof.Machine.execKeyDelivery p slot rotate buildId ct wrapped s
  | .ownerChange digest sig => Sys2Proof.Machine.execOwnerChange digest sig s
  | .debugOpen framOk => Sys2Proof.Machine.execDebugOpen framOk s
  | .debugClose => Sys2Proof.Machine.execDebugClose s
  | .debugSessionTimeout => Sys2Proof.Machine.execDebugSessionTimeout s
  | .dbgWayDataAccess write framOk => Sys2Proof.Machine.execDbgWayDataAccess write framOk s
  | .dictRead path pdu env => Sys2Proof.Machine.execDictRead path pdu env s
  | .dictWrite path pdu env => Sys2Proof.Machine.execDictWrite path pdu env s
  | .dictDescribe path pdu env => Sys2Proof.Machine.execDictDescribe path pdu env s
  | .snapshotExpire rq idx sub => Sys2Proof.Machine.execSnapshotExpire rq idx sub s
  | .stagingExpire rq idx sub => Sys2Proof.Machine.execStagingExpire rq idx sub s
  | .beaconTx => Sys2Proof.Machine.execBeaconTx s
  | .beaconRx src good pdu => Sys2Proof.Machine.execBeaconRx src good pdu s
  | .partnerLost k => Sys2Proof.Machine.execPartnerLost k s
  | .settingsWrite readOk => Sys2Proof.Machine.execSettingsWrite readOk s
  | .mirrorGo => Sys2Proof.Machine.execMirrorGo s
  | .powerOnReset u => Sys2Proof.Machine.execPowerOnReset u s
  | .moduleReset c u => Sys2Proof.Machine.execModuleReset c u s
  | .glbRst key u => Sys2Proof.Machine.execGlbRst key u s
  | .svcWatchdogExpiry u => Sys2Proof.Machine.execSvcWatchdogExpiry u s
  | .updateHeader rq header => Sys2Proof.Machine.execUpdateHeader rq header s
  | .updateEraseDone => Sys2Proof.Machine.execUpdateEraseDone s
  | .updateBlock rq value readOk => Sys2Proof.Machine.execUpdateBlock rq value readOk s
  | .updateCmdReset u => Sys2Proof.Machine.execUpdateCmdReset u s
  | .updateConfirm => Sys2Proof.Machine.execUpdateConfirm s
  | .updateActivate rq applyOk u => Sys2Proof.Machine.execUpdateActivate rq applyOk u s
  | .updateFinish rq u => Sys2Proof.Machine.execUpdateFinish rq u s
  | .updateSkip rq id => Sys2Proof.Machine.execUpdateSkip rq id s
  | .updateSkipDone readOk => Sys2Proof.Machine.execUpdateSkipDone readOk s
  | .updateAbort => Sys2Proof.Machine.execUpdateAbort s
  | .updateSessionTimeout => Sys2Proof.Machine.execUpdateSessionTimeout s
  | .trialHoursConfirm => Sys2Proof.Machine.execTrialHoursConfirm s
  | .trialFailure u => Sys2Proof.Machine.execTrialFailure u s
  | .updateLock lock seq sig => Sys2Proof.Machine.execUpdateLock lock seq sig s
  | .powerComponentStep volts watts => Sys2Proof.Machine.execPowerComponentStep volts watts s
  | .brake => Sys2Proof.Machine.execBrake s
  | .brakeRelease watts => Sys2Proof.Machine.execBrakeRelease watts s
  | .inputLoss => Sys2Proof.Machine.execInputLoss s
  | .inputReturn u => Sys2Proof.Machine.execInputReturn u s
  | .railPgoodTimeout rail u => Sys2Proof.Machine.execRailPgoodTimeout rail u s
  | .coolantComponentUpdate inlet outlet flow clear => Sys2Proof.Machine.execCoolantComponentUpdate inlet outlet flow clear s
  | .flowStop => Sys2Proof.Machine.execFlowStop s
  | .flowStopEnd flow => Sys2Proof.Machine.execFlowStopEnd flow s
  | .pairDifference pair a b lasted => Sys2Proof.Machine.execPairDifference pair a b lasted s
  | .latheLevelStep who readings => Sys2Proof.Machine.execLatheLevelStep who readings s
  | .thermalTrip n reading => Sys2Proof.Machine.execThermalTrip n reading s
  | .autoRestart u => Sys2Proof.Machine.execAutoRestart u s
  | .keepWarmTick => Sys2Proof.Machine.execKeepWarmTick s
  | .raiseComputeRails inlet outlet flow u => Sys2Proof.Machine.execRaiseComputeRails inlet outlet flow u s
  | .thmCommit commit => Sys2Proof.Machine.execThmCommit commit s
  | .heartbeatSilent u wire mbx => Sys2Proof.Machine.execHeartbeatSilent u wire mbx s
  | .supervisorWatchdogExpiry u => Sys2Proof.Machine.execSupervisorWatchdogExpiry u s
  | .takeover readings => Sys2Proof.Machine.execTakeover readings s
  | .plannedHandover readings => Sys2Proof.Machine.execPlannedHandover readings s
  | .savedStateWrite => Sys2Proof.Machine.execSavedStateWrite s
  | .supervisorReload u testOk readings => Sys2Proof.Machine.execSupervisorReload u testOk readings s
  | .noOwnerOverride => Sys2Proof.Machine.execNoOwnerOverride s
  | .noOwnerRailRemoval => Sys2Proof.Machine.execNoOwnerRailRemoval s
  | .errorReport site ue n offset => Sys2Proof.Machine.execErrorReport site ue n offset s
  | .bucketRotate => Sys2Proof.Machine.execBucketRotate s
  | .errCommit commit => Sys2Proof.Machine.execErrCommit commit s
  | .errLogRead => Sys2Proof.Machine.execErrLogRead s
  | .katBackgroundStart n => Sys2Proof.Machine.execKatBackgroundStart n s
  | .katPassMissed n => Sys2Proof.Machine.execKatPassMissed n s
  | .katResult n t digest => Sys2Proof.Machine.execKatResult n t digest s
  | .latheRetire n otpOk => Sys2Proof.Machine.execLatheRetire n otpOk s
  | .maintenanceWindow otpOk => Sys2Proof.Machine.execMaintenanceWindow otpOk s
  | .latheLift n bad otpOk => Sys2Proof.Machine.execLatheLift n bad otpOk s
  | .lifetimeCommit => Sys2Proof.Machine.execLifetimeCommit s
  | .restoreArm p => Sys2Proof.Machine.execRestoreArm p s
  | .restoreStart p => Sys2Proof.Machine.execRestoreStart p s
  | .restoreCommit p => Sys2Proof.Machine.execRestoreCommit p s
  | .restoreAbort p cmd => Sys2Proof.Machine.execRestoreAbort p cmd s
  | .locatePinChange low => Sys2Proof.Machine.execLocatePinChange low s
  | .holdupCharged otpOk => Sys2Proof.Machine.execHoldupCharged otpOk s
  | .sensorInvalid n => Sys2Proof.Machine.execSensorInvalid n s
  | .doeAbort fn => Sys2Proof.Machine.execDoeAbort fn s
  | .plcaBeaconHeard => Sys2Proof.Machine.execPlcaBeaconHeard s
  | .plcaBeaconLost => Sys2Proof.Machine.execPlcaBeaconLost s

end Sys2Proof.Machine
end

