-- ==== Sys2Proof/Machine/Tick.lean ====
section
/-! DEFINITION. What passes while no command waits: the free-running counts, and the seconds that the lifetime store and a trial count (R33, R170,
R446, R498; log 3). -/

namespace Sys2Proof.Machine
open Reg

/-- A free-running count by cells, each advanced by its free span; `c` numbers the first of the counts. -/
def advance (m : Cells Nat) (n c k w : Nat) : Cells Nat :=
  (List.range n).foldl (fun acc i => Cells.set 0 acc i ((Cells.get 0 acc i + Config.tick (c + i) k) % 2 ^ w)) m

/-- Seconds added to a U32 bin, which saturates. -/
def addSecs (m : Cells Nat) (i sec : Nat) : Cells Nat := Cells.set 0 m i (satAdd (2 ^ 32 - 1) (Cells.get 0 m i) sec)

/-- The bin of a reading that starts at 0: 16 of them, the last open above. -/
def bin16 (v step : Nat) : Nat := min 15 (v / step)

/-- Whole seconds enter the lifetime store (Table 17.5): power-on and READY time, energy, each valid sensor's bin of 8 °C, the bins of power,
inlet temperature and flow. In which cell of its load a Lathe spends them is open (R493). -/
def LifeSt.secs (l : LifeSt) (s : State) (sec : Nat) : LifeSt :=
  let w := s.rd PWR_INPUT.WATTS
  let warm (i : Nat) : Nat := (max 0 (s.temp i)).toNat
  { l with powerOn := l.powerOn + sec, ready := if s.run = 3 then l.ready + sec else l.ready, energy := l.energy + w * sec,
           cell := (List.range 16).foldl (fun m n => addSecs m (32 * n + 4 * Cells.get 0 s.thm.tempBin n + Config.freeValue (s.freeCtr + n) % 4) sec) l.cell,
           sensor := (List.range 64).foldl (fun m i => if s.sensorOk i then addSecs m (16 * i + bin16 (warm i) 64) sec else m) l.sensor,
           hist := addSecs (addSecs (addSecs l.hist (bin16 w 500) sec) (16 + bin16 (max 0 (sgn 12 (s.rd THM_COOL.INLET))).toNat 32) sec)
             (32 + bin16 (s.rd THM_FLOW.FLOW) 25) sec }

/-- Every free-running count advances by a span that is open. -/
def State.countsPass (s : State) : State :=
  { s with now := s.now + BitVec.ofNat 64 (Config.tick 0 s.ticks), aon := advance s.aon 3 1 s.ticks 48, cyc := advance s.cyc 16 4 s.ticks 64, ticks := s.ticks + 1 }

/-- Whole seconds are counted: in the lifetime store, and in a trial (R498, R446). -/
def State.secondsPass (s : State) (sec : Nat) : State :=
  let s1 := ({ s with boot := { s.boot with life := s.boot.life.secs s sec } }).drewMany 16
  if s1.run = 3 && s1.inTrial then
    let t := s1.boot.trialSecs + sec
    ({ s1 with boot := { s1.boot with trialSecs := t } }).wr GLB_FALLBACKS.TRIAL_HOURS (min 65535 (t / 3600))
  else s1

/-- Time passes. -/
def State.tick (s : State) : State :=
  s.countsPass.secondsPass ((Cells.get 0 s.aon 1 + Config.tick 2 s.ticks) / 32768 - Cells.get 0 s.aon 1 / 32768)

end Sys2Proof.Machine
end

