-- ==== Sys2Proof/Safety.lean ====
section
/-! DEFINITION. What counts as a safe run: the machine never stops, and its addressed memories keep their canonical form. -/

namespace Sys2Proof

/-- The states that a run from `s` passes through. -/
inductive Reaches (s : Machine.State) : Machine.State → Prop where
  | here : Reaches s s
  | after {t u : Machine.State} : Reaches s t → Machine.step t = .next u → Reaches s u

/-- The machine goes on: its step answers a next state. No rule of the spec stops the module as a whole: an error is a status, a record, a
response or a state of one unit (R454 names the gravest one). -/
def GoesOn (s : Machine.State) : Prop := ∃ t, Machine.step s = .next t

/-- A state is safe when every state that a run from it passes through goes on and holds its memories in canonical form (log 7). -/
def Safe (s : Machine.State) : Prop := ∀ t, Reaches s t → GoesOn t ∧ Machine.Memory.wf t.mem = true

end Sys2Proof
end

