-- ==== Sys2Proof/Certificates/Slice0/Obligations.lean ====
section
/-! DEFINITION. The statements for the provers, one `def … : Prop` each. They are about the named operations of the model;
where a clause rests on a choice of the model, its docstring names the log entry. -/

open Sys2Proof Sys2Proof.Machine Sys2Proof.Machine.Reg

/-- A step runs the command at the front of the queue on the rest of the queue. (00_scope.md, 01_module_overview.md)
When the queue of a state is command c followed by rest, step answers what exec answers for c on the same state whose queue is rest. The queue is the model's own (log 3). -/
def Obligations.StepRunsFrontCommand : Prop :=
  ∀ (c : Instr) (rest : List Instr) (s : State), s.pending = c :: rest → step s = exec c { s with pending := rest }

/-- With no command waiting, the free-running counts advance by open spans and nothing else but seconds counted changes. (R33, R170, R446, R498)
On an empty queue step answers a next state (the model's choice, log 3): the PLT_NOW count, the AON counts, and the Lathe cycle counts advance by spans that Config leaves open; registers other than the trial hours, the values in effect, memory, keys, outputs, the queue and the units keep what they hold. -/
def Obligations.EmptyQueueLetsTimePass : Prop :=
  ∀ s : State, s.pending = [] → ∃ t, step s = .next t ∧ t.now = s.now + BitVec.ofNat 64 (Config.tick 0 s.ticks) ∧
    t.aon = advance s.aon 3 1 s.ticks 48 ∧ t.cyc = advance s.cyc 16 4 s.ticks 64 ∧ t.ticks = s.ticks + 1 ∧ t.pending = [] ∧ t.out = s.out ∧
    t.mem = s.mem ∧ t.keys = s.keys ∧ t.eff = s.eff ∧ t.err = s.err ∧ t.lathe = s.lathe ∧ t.plt = s.plt ∧ t.part = s.part ∧ t.fab = s.fab ∧
    t.boot.otp = s.boot.otp ∧ (∀ f : Fld, f.key ≠ GLB_FALLBACKS.TRIAL_HOURS.key → t.rd f = s.rd f)

/-- Every command, with every operand and in every state, answers a next state. (00_scope.md, 12_host_interface.md, 17_reliability.md)
Every error that the spec describes is a status bit, a record or a response after which the module goes on, so exec answers a next state for every command, operand and state: no fault and no refusal. -/
def Obligations.EveryCommandCompletes : Prop :=
  ∀ (c : Instr) (s : State), ∃ t, exec c s = .next t

/-- No command reads from or adds to the queue: step consumes it first in, first out. (00_scope.md)
For every command c and state s, the next state that exec answers holds the queue that s holds; so step takes exactly the front command away (the queue is the model's own, log 3). -/
def Obligations.CommandsLeaveQueueAlone : Prop :=
  (∀ (c : Instr) (s t : State), exec c s = .next t → t.pending = s.pending) ∧
  (∀ (c : Instr) (rest : List Instr) (s t : State), s.pending = c :: rest → step s = .next t → t.pending = rest)

/-- Every step keeps the canonical form of the addressed memories. (08_memory.md, 03_lathes.md)
From every state whose main memory, Lathe SRAM and shared SRAM (with stored errors and seals) are in the canonical form of log 7, strictly rising places and no entry that equals what an unlisted place reads as, every step that answers a next state gives one in that form. -/
def Obligations.MemoriesStayCanonical : Prop :=
  ∀ s t : State, Memory.wf s.mem = true → step s = .next t → Memory.wf t.mem = true

/-- No step takes an OTP bit from 1 to 0. (R427, R446, R495, 15_lifecycle_update.md)
In every step that answers a next state, every bit of every OTP byte that was 1 is 1 afterwards, whatever command ran: programming, retirement, settings, updates and resets included. -/
def Obligations.OtpBitsOnlyRise : Prop :=
  ∀ s t : State, step s = .next t → ∀ off i : Nat, (Cells.get 0 s.boot.otp off).testBit i = true → (Cells.get 0 t.boot.otp off).testBit i = true

/-- What the module has sent stays sent: every step only appends to its outputs. (R221, R271, R355)
The list of what the module has sent in s is a prefix of the list in the next state, for every step; and the memory variant of the module never changes. -/
def Obligations.OutputsAreNeverTakenBack : Prop :=
  ∀ s t : State, step s = .next t → s.out <+: t.out ∧ t.is1T = s.is1T

/-- After reset no register but those named by the spec differs from its reset value, memories are zero and nothing waits. (R15, R87, R238, R291, R338, R375)
In State.reset every register field reads its reset value of the register tables (a field whose table gives none reads the value log 6 names), as does every value in effect; the queue, the outputs, the event queues and the memories list nothing, and the memories have their canonical form. -/
def Obligations.ResetState : Prop :=
  (∀ f : Fld, State.reset.rd f = f.reset ∧ State.reset.inEff f = f.reset) ∧ State.reset.pending = [] ∧ State.reset.out = [] ∧
  State.reset.evq = [] ∧ State.reset.mem = {} ∧ Memory.wf State.reset.mem = true ∧ (∀ p : Nat, State.reset.records p = [])

/-- A register field holds the value written, cut to its width, and a write leaves every other field as it was. (R14, R15)
After wr of field f with v the field reads v modulo 2 to its width, and every field of another cell (register address and lowest bit) reads as before; wr changes nothing but register cells. -/
def Obligations.FieldStorage : Prop :=
  (∀ (s : State) (f : Fld) (v : Nat), (s.wr f v).rd f = v % 2 ^ f.width) ∧
  (∀ (s : State) (f g : Fld) (v : Nat), g.key ≠ f.key → (s.wr f v).rd g = s.rd g) ∧
  (∀ (s : State) (f : Fld) (v : Nat), s.wr f v = { s with regs := (s.wr f v).regs })

/-- A written field takes its value by its access type. (R15, R19)
A write of RO, WO and RC fields has no effect on the field; RW and SH fields take the value; W1C clears the bits written 1 and W1S sets them, the other bits keep what they hold; every other field is unchanged. -/
def Obligations.FieldWriteByAccessType : Prop :=
  ∀ (s : State) (f : Fld) (v : Nat),
    (f.acc = .ro ∨ f.acc = .wo ∨ f.acc = .rc → s.fieldWrite f v = s) ∧
    (f.acc = .rw ∨ f.acc = .sh → (s.fieldWrite f v).rd f = v % 2 ^ f.width) ∧
    (f.acc = .w1c → ∀ i, i < f.width → ((s.fieldWrite f v).rd f).testBit i = ((s.rd f).testBit i && !v.testBit i)) ∧
    (f.acc = .w1s → ∀ i, i < f.width → ((s.fieldWrite f v).rd f).testBit i = ((s.rd f).testBit i || v.testBit i)) ∧
    (∀ g : Fld, g.key ≠ f.key → (s.fieldWrite f v).rd g = s.rd g)

/-- Where a register access goes, and what it does there. (R15, R17, R18, R36, R105, R106, R342, R348)
REGISTER_WRITE of a whole word that the endpoint does not refuse reaches the register, table word or buffer its place names, a partial write and a write through a view are discarded and logged; UNMAPPED_ACCESS in no block is refused; RC_FIELD_READ returns the word and clears its RC fields; LATCHING_LO_READ returns the low half of the count and latches the high half; INJECTION_ARM writes the register of injection points. A refused access (UR) has no other effect. -/
def Obligations.RegisterAccess : Prop :=
  (∀ (pl : RegPlace) (v : Word) (s : State), s.urNow pl = false → exec (.registerWrite pl v 15) s = .next (match s.dest pl with
      | .reg a view => if view then s.logUr else s.regWrite a v.toNat
      | .msix fn w => s.msixWrite fn w v.toNat
      | .pba _ _ => s
      | .request w => { s with dict := { s.dict with mirrorReq := putWord s.dict.mirrorReq w v.toNat } }
      | .response _ => s
      | .alias0 => s.logUr
      | .none => s.refuseUr false)) ∧
  (∀ (pl : RegPlace) (v : Word) (be : BitVec 4) (s : State), be ≠ 15 → s.urNow pl = false →
      exec (.registerWrite pl v be) s = .next (if barAccess pl then s.logUr else s)) ∧
  (∀ (pl : RegPlace) (v : Word) (be : BitVec 4) (s : State), s.urNow pl = true → exec (.registerWrite pl v be) s = .next ((s.wr PCI_INJ.UR 0).refuseUr false)) ∧
  (∀ (pl : RegPlace) (read : Bool) (s : State), s.dest pl = .none → barAccess pl = true → s.urNow pl = false →
      exec (.unmappedAccess pl read) s = .next (s.refuseUr read)) ∧
  (∀ (pl : RegPlace) (a : Nat) (s : State), s.urNow pl = false → s.dest pl = .reg a false → ownRead a = false →
      exec (.rcFieldRead pl) s = .next ((s.answerRead pl (s.readWord a)).rcClear a)) ∧
  (∀ (pl : RegPlace) (a : Nat) (s : State), s.urNow pl = false → s.dest pl = .reg a true →
      exec (.rcFieldRead pl) s = .next (s.answerRead pl (s.readWord a))) ∧
  (∀ (n : Lathe) (s : State), s.urNow (.bar0 (BitVec.ofNat 28 (LTH_CYC_LO.CYC n).addr)) = false →
      exec (.latchingLoRead (.cyc n)) s = .next ((s.wr (LTH_CYC_HI.CYC n) (Cells.get 0 s.cyc n / 2 ^ 32)).send (.readData (leBytes 4 (Cells.get 0 s.cyc n))))) ∧
  (∀ (n : Lathe) (s : State), s.urNow (.bar0 (BitVec.ofNat 28 (ATS_BYTES_LO.BYTES n).addr)) = false →
      exec (.latchingLoRead (.atsBytes n)) s =
        .next ((s.wr (ATS_BYTES_HI.BYTES n) (Cells.get 0 s.atsBytes n / 2 ^ 32)).send (.readData (leBytes 4 (Cells.get 0 s.atsBytes n))))) ∧
  (∀ s : State, s.urNow (.bar0 (BitVec.ofNat 28 PLT_NOW_LO.NOW.addr)) = false →
      exec (.latchingLoRead .now) s = .next ((s.wr PLT_NOW_HI.NOW (s.now.toNat / 2 ^ 32)).send (.readData (leBytes 4 s.now.toNat)))) ∧
  (∀ (p : Part) (s : State), s.urNow (.bar0 (BitVec.ofNat 28 (PLT_STEP_LO.STEP p).addr)) = false →
      exec (.latchingLoRead (.step p)) s = .next ((s.wr (PLT_STEP_HI.STEP p) (s.stepOf p / 2 ^ 32)).send (.readData (leBytes 4 (s.stepOf p))))) ∧
  (∀ (pl : RegPlace) (v : Word) (s : State), s.injPlace pl = true → s.urNow pl = false →
      exec (.injectionArm pl v) s = exec (.registerWrite pl v 15) s)

/-- A write of a static register in use, or of a register that only the service controller writes, sets its status bit and nothing else. (R99, R202, R215, R289, R369, R374)
Where State.refusedBy names a status bit for the register at an address with no row of its own (LTH_PLAN_BASE in FETCH to RUN, a partition's model registers while a slot is busy, a channel's ring registers while it is enabled, ring registers while the rings are enabled, the assignment registers), a write of it sets that bit to 1 and changes no other register field and nothing else. -/
def Obligations.RefusedRegisterWrites : Prop :=
  ∀ (s : State) (a v : Nat) (f : Fld), ownWrite a = false → s.refusedBy a = some f →
    s.regWrite a v = s.wr f 1 ∧ ∀ g : Fld, g.key ≠ f.key → (s.regWrite a v).rd g = s.rd g

/-- SEQ_GO starts a plan from IDLE or DONE, is held as pending while one runs, or is refused. (R88, R77, 03_lathes.md)
A GO of length 1 to what fits its buffer starts the plan in IDLE or DONE: the plan's length and base are taken, BUF names the buffer, and the sequencer comes to FETCH at descriptor 0 (STOPPED when a STOP stands). In FETCH, WAIT or RUN it is held with GO_PENDING, a second one sets GO_OVERRUN; a GO of length 0, beyond Lathe SRAM, in any other state, or of PF0 while the Peloton owns the Lathe sets GO_REFUSED, and nothing else changes. -/
def Obligations.PlanGoStartsOrIsHeld : Prop :=
  (∀ (n : Lathe) (b : Driver) (len : Fin 4096) (buf : Bool) (s : State), (b = .pf0 → s.flag (LTH_PART.PLT_OWNED n) = false) → 0 < len.val →
      s.planBase n (b2n buf) + 128 * len.val ≤ lsramSize →
      (s.seq n = 1 ∨ s.seq n = 5 → exec (.seqGo n b len buf) s = .next (s.startPlan n len (s.planBase n (b2n buf)) (b2n buf))) ∧
      (s.seq n = 2 ∨ s.seq n = 3 ∨ s.seq n = 4 → s.flag (LTH_SEQ_STAT.GO_PENDING n) = false →
        exec (.seqGo n b len buf) s = .next ((s.setLth n { s.lth n with pendLen := len, pendBase := s.planBase n (b2n buf), pendBuf := b2n buf }).wr
          (LTH_SEQ_STAT.GO_PENDING n) 1)) ∧
      (s.seq n = 2 ∨ s.seq n = 3 ∨ s.seq n = 4 → s.flag (LTH_SEQ_STAT.GO_PENDING n) = true →
        exec (.seqGo n b len buf) s = .next (s.wr (LTH_ERR_STAT.GO_OVERRUN n) 1)) ∧
      (s.seq n = 0 ∨ s.seq n = 6 ∨ s.seq n = 7 ∨ s.seq n = 8 → exec (.seqGo n b len buf) s = .next (s.wr (LTH_ERR_STAT.GO_REFUSED n) 1))) ∧
  (∀ (n : Lathe) (len : Fin 4096) (buf : Bool) (s : State), s.flag (LTH_PART.PLT_OWNED n) = true →
      exec (.seqGo n .pf0 len buf) s = .next (s.wr (LTH_ERR_STAT.GO_REFUSED n) 1)) ∧
  (∀ (n : Lathe) (len base buf : Nat) (s : State), s.flag (LTH_SEQ_CTRL.STOP n) = false →
      (s.startPlan n len base buf).seq n = 2 ∧ (s.startPlan n len base buf).descIdx n = 0 ∧ ((s.startPlan n len base buf).lth n).len = len ∧
      ((s.startPlan n len base buf).lth n).base = base ∧ (s.startPlan n len base buf).mem = s.mem)

/-- SEQ_STOP, SEQ_RESUME, LRESET and the end of Lathe reset. (R89, R104, R281)
STOP on an unassigned Lathe stops it at once in FETCH or WAIT, in RUN once no repetition runs, and otherwise stands; RESUME cancels it or returns to the state it left. LRESET is taken in IDLE, DONE, HALTED, STOPPED and OFFLINE, which enters RESET, and sets CFG_BUSY_WR elsewhere. The end of Lathe reset leaves IDLE, or OFFLINE while retired; an event for a Lathe that is not in reset is none. -/
def Obligations.StopResumeAndReset : Prop :=
  (∀ (n : Lathe) (framOk : Bool) (s : State), s.flag (LTH_PART.PLT_OWNED n) = false →
      (s.seq n = 2 ∨ s.seq n = 3 → exec (.seqStop n framOk) s =
        .next ((((s.raise (LTH_SEQ_CTRL.STOP n)).setLth n { s.lth n with stoppedFrom := s.seq n }).wr (LTH_SEQ_STAT.STATE n) 7).lthBoundary n)) ∧
      (s.seq n = 0 ∨ s.seq n = 1 ∨ 5 ≤ s.seq n → exec (.seqStop n framOk) s = .next (s.wr (LTH_SEQ_CTRL.STOP n) 1)) ∧
      (s.seq n = 4 → exec (.seqStop n framOk) s = .next ((s.wr (LTH_SEQ_CTRL.STOP n) 1).stopInRun n))) ∧
  (∀ (n : Lathe) (s : State), (s.seq n = 7 → exec (.seqResume n) s =
        .next ((s.wr (LTH_SEQ_CTRL.STOP n) 0).wr (LTH_SEQ_STAT.STATE n) (s.lth n).stoppedFrom)) ∧
      (s.seq n ≠ 7 → exec (.seqResume n) s = .next (s.wr (LTH_SEQ_CTRL.STOP n) 0))) ∧
  (∀ (n : Lathe) (s : State),
      (s.seq n = 1 ∨ s.seq n = 5 ∨ s.seq n = 6 ∨ s.seq n = 7 ∨ s.seq n = 8 → ∃ t, exec (.lreset n) s = .next t ∧ t.seq n = 0 ∧ t.lth n = {} ∧
        t.mem = s.mem ∧ t.keys = s.keys ∧ t.tdma = s.tdma ∧ t.out = s.out) ∧
      (s.seq n = 0 ∨ s.seq n = 2 ∨ s.seq n = 3 ∨ s.seq n = 4 → exec (.lreset n) s = .next (s.wr (LTH_CFG_STAT.CFG_BUSY_WR n) 1))) ∧
  (∀ (n : Lathe) (s : State), s.seq n = 0 → ∃ t, exec (.latheResetDone n) s = .next t ∧ t.seq n = (if s.flag (LTH_ID.RETIRED n) then 8 else 1) ∧
        t.lth n = {} ∧ t.mem.port = s.mem.port ∧ t.mem.way = s.mem.way ∧ t.keys = s.keys ∧ t.out = s.out ∧
        (∀ a, n.val * 2 ^ 24 ≤ a → a < n.val * 2 ^ 24 + lsramSize → Cells.get 0 t.mem.lsram a = 0))

/-- STEP_ABORT, WAIT_TIMEOUT and DESCRIPTOR_ERROR end the current descriptor, and the sequencer halts. (R87, R90, R91, 03_lathes.md)
A step abort in FETCH, WAIT, RUN or STOPPED ends the current descriptor with ABORTED, a wait that exceeds the limit ends it with WAIT_TIMEOUT, and a running repetition that met an error ends its descriptor with that code: all by State.endDesc, which writes STATUS and CANCELLED, enters HALTED and reports to the Peloton (or, with a held step epoch open, goes on to IDLE). In the other states the first two change nothing. After State.endDesc the sequencer is in HALTED or IDLE, DESC_IDX names the descriptor, no GO is pending, the end is reported and no later repetition is in flight. -/
def Obligations.DescriptorEnds : Prop :=
  (∀ (n : Lathe) (s : State), (s.seq n = 2 ∨ s.seq n = 3 ∨ s.seq n = 4 ∨ s.seq n = 7 →
        exec (.stepAbort n) s = .next (s.endDesc n (s.descIdx n) 0x31 (s.repsDone n (s.descIdx n)))) ∧
      (s.seq n = 0 ∨ s.seq n = 1 ∨ s.seq n = 5 ∨ s.seq n = 6 ∨ s.seq n = 8 → exec (.stepAbort n) s = .next s)) ∧
  (∀ (n : Lathe) (s : State), (s.seq n = 3 → exec (.waitTimeout n) s = .next (s.endDesc n (s.descIdx n) 0x30 (s.repsDone n (s.descIdx n)))) ∧
      (s.seq n ≠ 3 → exec (.waitTimeout n) s = .next s)) ∧
  (∀ (n : Lathe) (f : Flight) (s : State), (s.lth n).flights.find? (fun g => g.err ≠ 0) = some f → (s.seq n = 2 ∨ s.seq n = 3 ∨ s.seq n = 4) →
      exec (.descriptorError n) s = .next (s.endDesc n f.idx f.err (s.repsDone n f.idx))) ∧
  (∀ (n : Lathe) (s : State), (s.lth n).flights.find? (fun g => g.err ≠ 0) = none → (s.seq n = 2 ∨ s.seq n = 3 ∨ s.seq n = 4) → (s.lth n).fail ≠ 0 →
      exec (.descriptorError n) s = .next (s.endDesc n (s.descIdx n) (s.lth n).fail (s.lth n).issued)) ∧
  (∀ (n : Lathe) (i code done : Nat) (s : State), ((s.endDesc n i code done).seq n = 6 ∨ (s.endDesc n i code done).seq n = 1) ∧
      (s.endDesc n i code done).descIdx n = i % 2 ^ (LTH_SEQ_STAT.DESC_IDX n).width ∧ (s.endDesc n i code done).flag (LTH_SEQ_STAT.GO_PENDING n) = false ∧
      ((s.endDesc n i code done).lth n).report = some (i, code) ∧ ((s.endDesc n i code done).lth n).desc = none ∧
      ((s.endDesc n i code done).lth n).flights = (s.lth n).flights.filter (fun f => f.idx < i))

/-- DESCRIPTOR_DECODE, REPETITION_ISSUE and REPETITION_COMPLETE on their way through a plan. (R86, R78, R94, R83, 03_lathes.md)
In FETCH the decode reads the 128 bytes at the current index: an uncorrectable word ends with LSRAM_UE, an illegal descriptor with DESC_BAD, a bad address with ADDR_FAULT, and a good one enters RUN when both waits are met and WAIT otherwise. In RUN or WAIT a repetition whose waits are met issues (State.issueRep) and one whose waits are not enters WAIT. The oldest repetition of a pipeline that completes fires its signals, leaves the flight list, and the last one writes STATUS OK. -/
def Obligations.DescriptorFetchIssueComplete : Prop :=
  (∀ (n : Lathe) (s : State), s.seq n = 2 → (s.lth n).tdmaHit = false → s.rd (LTH_CFG_STAT.PENDING n) ≠ 1 →
      exec (.descriptorDecode n) s = .next (
        let r := s.lsramRead n ((s.lth n).base + 128 * s.descIdx n) 128
        let d : Desc := wordsOfBytes 32 r.2.2
        if r.2.1 = false then r.1.endDesc n (s.descIdx n) 0x20 0
        else if r.1.descOk n d = false then r.1.endDesc n (s.descIdx n) 0x10 0
        else if r.1.addrOk n d = false then r.1.endDesc n (s.descIdx n) 0x11 0
        else (r.1.setLth n { r.1.lth n with desc := some d, issued := 0, kicked := 0, latched := none, fail := 0 }).wr (LTH_SEQ_STAT.STATE n)
          (if r.1.waitsMet n d 0 then 4 else 3))) ∧
  (∀ (n : Lathe) (s : State), s.seq n = 2 → (s.lth n).tdmaHit = true → exec (.descriptorDecode n) s = .next (s.endDesc n (s.descIdx n) 0x22 0)) ∧
  (∀ (n : Lathe) (d : Desc) (s : State), (s.lth n).desc = some d → (s.seq n = 3 ∨ (s.seq n = 4 ∧ s.flag (LTH_SEQ_CTRL.STOP n) = false)) →
      (s.lth n).issued < Desc.reps d → (s.lth n).tdmaHit = false → (s.lth n).fail = 0 → (s.lth n).flights = [] → Desc.opcode d ≠ 17 →
      Desc.isAttn d = false →
      (s.waitsMet n d (s.lth n).issued = true → exec (.repetitionIssue n) s = .next (s.issueRep n d (s.lth n).issued)) ∧
      (s.waitsMet n d (s.lth n).issued = false → exec (.repetitionIssue n) s = .next (s.wr (LTH_SEQ_STAT.STATE n) 3))) ∧
  (∀ (n : Lathe) (d : Desc) (g p : Nat) (recs : List (Nat × KvRec)) (s : State), (s.lth n).desc = some d → s.seq n = 4 →
      s.flag (LTH_SEQ_CTRL.STOP n) = false → (s.lth n).issued < Desc.reps d → (s.lth n).tdmaHit = false → (s.lth n).fail = 0 → (s.lth n).flights = [] →
      s.waitsMet n d (s.lth n).issued = true → Desc.isAttn d = true → (s.lth n).latched = some (g, p, recs) →
      exec (.repetitionIssue n) s = .next (s.issueRep n d (s.lth n).issued)) ∧
  (∀ (n : Lathe) (pipe : Fin 4) (f : Flight) (s : State), (s.lth n).flights.find? (fun g => g.pipe = pipe.val) = some f → f.err = 0 →
      (s.signals n f).2 = true → f.pin = none → f.last = false →
      let s1 := (s.signals n f).1
      let s2 := s1.setLth n { s1.lth n with flights := (s1.lth n).flights.erase f }
      exec (.repetitionComplete n pipe) s = .next (if s2.planEnded n then s2.planDone n else s2.stopInRun n)) ∧
  (∀ (n : Lathe) (pipe : Fin 4) (f : Flight) (s : State), (s.lth n).flights.find? (fun g => g.pipe = pipe.val) = some f → f.err = 0 →
      (s.signals n f).2 = true → f.pin = none → f.last = true →
      let s1 := (s.signals n f).1
      let s2 := (s1.setLth n { s1.lth n with flights := (s1.lth n).flights.erase f }).putStatus n f.idx 1 (f.rep + 1)
      exec (.repetitionComplete n pipe) s = .next (if s2.planEnded n then s2.planDone n else s2.stopInRun n))

/-- Step epoch open, commits, event counters, droop counts and the debug port of a Lathe. (R92, R97, R98, R102, R107)
In IDLE, DONE or HALTED with no staged commit a step epoch open leaves the sequencer in IDLE with STEP_EPOCH one higher and every event counter 0; in FETCH, WAIT, RUN and STOPPED it is held. EVT_INC adds to one counter, saturating, and changes nothing else. LTH_COMMIT at the epoch stages; at a descriptor boundary it applies at once in a resting state. A droop counts in DROOPS. A debug access is denied outside STOPPED and outside IDLE of an unassigned Lathe, and reaches Lathe SRAM there. -/
def Obligations.LatheEpochCountersAndCommits : Prop :=
  (∀ (n : Lathe) (s : State), (s.seq n = 1 ∨ s.seq n = 5 ∨ s.seq n = 6) → exec (.stepEpochOpen n) s = .next (s.epochOpen n)) ∧
  (∀ (n : Lathe) (s : State), (s.seq n = 2 ∨ s.seq n = 3 ∨ s.seq n = 4 ∨ s.seq n = 7) →
      exec (.stepEpochOpen n) s = .next (s.setLth n { s.lth n with epochHeld := true })) ∧
  (∀ (n : Lathe) (s : State), s.rd (LTH_CFG_STAT.PENDING n) ≠ 2 → (s.epochOpen n).seq n = 1 ∧
      (s.epochOpen n).rd (LTH_EPOCH.STEP_EPOCH n) = (s.rd (LTH_EPOCH.STEP_EPOCH n) + 1) % 2 ^ (LTH_EPOCH.STEP_EPOCH n).width ∧
      ((s.epochOpen n).lth n).epochHeld = false ∧ (∀ c, c < 32 → (s.epochOpen n).rd (LTH_EVT_CNT.COUNT n c) = 0)) ∧
  (∀ (n : Lathe) (s : State), exec (.lthCommit n true) s = .next (s.wr (LTH_CFG_STAT.PENDING n) 2)) ∧
  (∀ (n : Lathe) (s : State), (s.seq n = 2 ∨ s.seq n = 3 ∨ s.seq n = 4) → exec (.lthCommit n false) s = .next (s.wr (LTH_CFG_STAT.PENDING n) 1)) ∧
  (∀ (n : Lathe) (s : State), (s.seq n = 1 ∨ 5 ≤ s.seq n ∧ s.seq n ≤ 8) →
      exec (.lthCommit n false) s = .next ((s.wr (LTH_CFG_STAT.PENDING n) 1).lthApply n)) ∧
  (∀ (n : Lathe) (c : Fin 32) (k : Fin 256) (s : State), ∃ t, exec (.evtInc n c k) s = .next t ∧
      t.rd (LTH_EVT_CNT.COUNT n c) = min (2 ^ 32 - 1) (s.rd (LTH_EVT_CNT.COUNT n c) + k.val) ∧ t = { s with regs := t.regs } ∧
      ∀ f : Fld, f.key ≠ (LTH_EVT_CNT.COUNT n c).key → t.rd f = s.rd f) ∧
  (∀ (n : Lathe) (s : State), exec (.droopStretch n) s = .next ((s.bump (LTH_CLK_STAT.DROOPS n) 1).wr (LTH_INJ.DROOP n) 0)) ∧
  (∀ (n : Lathe) (w : Word) (framOk : Bool) (s : State), s.seq n = 1 → s.flag (LTH_PART.ASSIGNED n) = false → s.rd (LTH_DBG_ADDR.ADDR n) ≤ 0xBFFFFC →
      exec (.lthDbgDataAccess n (some w) framOk) s = .next (s.lsramWrite n (s.rd (LTH_DBG_ADDR.ADDR n) / 4 * 4) (leBytes 4 w.toNat)).1) ∧
  (∀ (n : Lathe) (framOk : Bool) (s : State), s.seq n = 1 → s.flag (LTH_PART.ASSIGNED n) = false → s.rd (LTH_DBG_ADDR.ADDR n) ≤ 0xBFFFFC →
      (s.lsramRead n (s.rd (LTH_DBG_ADDR.ADDR n) / 4 * 4) 4).2.1 = true →
      exec (.lthDbgDataAccess n none framOk) s = .next ((s.lsramRead n (s.rd (LTH_DBG_ADDR.ADDR n) / 4 * 4) 4).1.send
        (.readData (s.lsramRead n (s.rd (LTH_DBG_ADDR.ADDR n) / 4 * 4) 4).2.2))) ∧
  (∀ (n : Lathe) (framOk : Bool) (s : State), s.seq n ≠ 7 → (s.seq n ≠ 1 ∨ s.flag (LTH_PART.ASSIGNED n) = true) →
      exec (.lthDbgDataAccess n none framOk) s = .next ((s.wr (LTH_ERR_STAT.DBG_DENIED n) 1).send (.readData (leBytes 4 0))))

/-- The PF0 path into the page-frame table unit: at most 16 commands wait, responses are read in order. (R150, R151)
A write of PFT_CMD3 queues the command formed by PFT_CMD0 to 3 behind those that wait, or sets OVERRUN and discards it when 16 wait; a read of PFT_RESP returns the oldest response, 0 with none, and removes it. -/
def Obligations.PageTableQueues : Prop :=
  (∀ (w3 : Word) (s : State), 16 ≤ s.pft.pfQueue.length → exec (.pftCmdQueue w3) s = .next (s.wr PFT_CMD_STAT.OVERRUN 1)) ∧
  (∀ (w3 : Word) (s : State), s.pft.pfQueue.length < 16 → ∃ t, exec (.pftCmdQueue w3) s = .next t ∧
      t.pft = { s.pft with pfQueue := s.pft.pfQueue ++ [[s.rd (PFT_CMD.WORD 0), s.rd (PFT_CMD.WORD 1), s.rd (PFT_CMD.WORD 2), w3.toNat]] } ∧
      t.rd PFT_CMD_STAT.DEPTH = s.pft.pfQueue.length + 1 ∧ t.flag PFT_CMD_STAT.FULL = decide (s.pft.pfQueue.length = 15) ∧
      t = { s with regs := t.regs, pft := t.pft } ∧
      ∀ f : Fld, f.key ≠ PFT_CMD_STAT.DEPTH.key → f.key ≠ PFT_CMD_STAT.FULL.key → t.rd f = s.rd f) ∧
  (∀ s : State, ∃ t, exec .pftRespRead s = .next t ∧ t.pft = { s.pft with resp := s.pft.resp.drop 1 } ∧
      .readData (leBytes 4 (s.pft.resp.headD 0)) ∈ t.out ∧ t.mem = s.mem ∧ t.keys = s.keys ∧ (∀ f : Fld, f.key ≠ PCI_INJ.ECRC.key → t.rd f = s.rd f))

/-- Each page-table command executes whole: it answers OK with its changes, or its status with tables and records as they were. (R150, R151, R168, 05_attention_kv.md)
When the unit's next command has the operation of the command run (1 OPEN to 10 RELINK), its partition is enabled and not in FAULT, the command leaves its queue and executes: a success answers status 0, a failure answers its status after State.pftUndo. In FAULT it answers MEM_UE (9), and while the partition is not enabled BAD_OP's status 6. With no command waiting nothing changes. -/
def Obligations.PageTableCommandsAnswer : Prop :=
  ∀ (op : Nat) (c : Instr) (body : State → Nat → Nat → List Nat → PftRes (State × Nat)),
    (op, c, body) ∈ [(1, Instr.slotOpen, pftOpen), (2, .slotPrepare, pftPrepare), (3, .commitLen, pftCommitLen), (4, .slotFork, pftFork),
      (5, .slotTruncate, pftTruncate), (6, .slotRelease, pftRelease), (7, .pinTake, pftPin), (8, .pinEnd, pftUnpin), (9, .abortStep, pftAbortStep),
      (10, .relink, pftRelink)] →
    (∀ s : State, s.pftNext = none → exec c s = .next s) ∧
    (∀ (pf : Bool) (w : List Nat) (s : State), s.pftNext = some (pf, w) → bits (w.getD 0 0) 0 8 = op →
      let p := bits (w.getD 0 0) 8 3
      let s0 := s.pftPop pf
      (s0.flag (PFT_PART_STAT.ENABLED p) = false → exec c s = .next (s0.pftAnswer pf w 6 0)) ∧
      (s0.flag (PFT_PART_STAT.ENABLED p) = true → s0.pftFaulted p = true → exec c s = .next (s0.pftAnswer pf w 9 0)) ∧
      (s0.flag (PFT_PART_STAT.ENABLED p) = true → s0.pftFaulted p = false → exec c s = .next (
        match body s0 p (bits (w.getD 1 0) 0 13) w with
        | .ok (s1, g) => s1.pftAnswer pf w 0 g
        | .error (st, s1) => (s0.pftUndo s1 p).pftAnswer pf w st 0)))

/-- What a page-table command that succeeds leaves in the slot's record, the locks and the pins. (R144, R146, R148, R151, R152, R155, R157, 05_attention_kv.md)
OPEN leaves the slot open with LEN and PREP_LEN 0 in the partition; PREPARE sets PREP_LEN; COMMIT_LEN, FORK and TRUNCATE set LEN and PREP_LEN to the LEN given, RELINK to LEN plus COUNT; ABORT_STEP sets PREP_LEN to LEN; RELEASE leaves the record as that of a closed slot; COMMIT_LEN, RELINK, ABORT_STEP and RELEASE leave the slot no append lock; PIN takes one pin of the current generation and UNPIN ends one of the named generation, with all else as it was. -/
def Obligations.PageTableCommandEffects : Prop :=
  ∀ (s : State) (p slot : Nat) (w : List Nat),
    (match pftOpen s p slot w with
      | .ok (t, _) => (t.kvRec slot).isOpen = true ∧ (t.kvRec slot).len = 0 ∧ (t.kvRec slot).prepLen = 0 ∧ (t.kvRec slot).part = p ∧
          (t.kvRec slot).spec = bit (w.getD 3 0) 0
      | .error (st, _) => st ≠ 0) ∧
    (match pftPrepare s p slot w with | .ok (t, _) => (t.kvRec slot).prepLen = bits (w.getD 2 0) 0 21 | .error (st, _) => st ≠ 0) ∧
    (match pftCommitLen s p slot w with
      | .ok (t, _) => (t.kvRec slot).len = bits (w.getD 2 0) 0 21 ∧ (t.kvRec slot).prepLen = bits (w.getD 2 0) 0 21 ∧ (∀ x ∈ t.pft.locks, x.1 ≠ slot)
      | .error (st, _) => st ≠ 0) ∧
    (match pftFork s p slot w with
      | .ok (t, _) => (t.kvRec slot).len = bits (w.getD 2 0) 0 21 ∧ (t.kvRec slot).prepLen = bits (w.getD 2 0) 0 21 | .error (st, _) => st ≠ 0) ∧
    (match pftTruncate s p slot w with
      | .ok (t, _) => (t.kvRec slot).len = bits (w.getD 2 0) 0 21 ∧ (t.kvRec slot).prepLen = bits (w.getD 2 0) 0 21 | .error (st, _) => st ≠ 0) ∧
    (match pftRelease s p slot w with | .ok (t, _) => t.kvRec slot = {} ∧ (∀ x ∈ t.pft.locks, x.1 ≠ slot) | .error (st, _) => st ≠ 0) ∧
    (match pftPin s p slot w with
      | .ok (t, g) => g = s.pftGen p ∧ t.pinCnt p g = s.pinCnt p g + 1 ∧ t.pinPins p g = s.pinPins p g + 1 ∧ t.mem = s.mem ∧ t.pft.recs = s.pft.recs
      | .error (st, t) => st = 5 ∧ t = s) ∧
    (match pftUnpin s p slot w with
      | .ok (t, _) => t.pinPins p (bits (w.getD 3 0) 0 1) + 1 = s.pinPins p (bits (w.getD 3 0) 0 1) ∧ t.mem = s.mem ∧ t.pft.recs = s.pft.recs
      | .error (st, t) => st = 10 ∧ t = s) ∧
    (match pftAbortStep s p slot w with
      | .ok (t, _) => (t.kvRec slot).prepLen = (t.kvRec slot).len ∧ (∀ x ∈ t.pft.locks, x.1 ≠ slot) | .error (st, _) => st ≠ 0) ∧
    (match pftRelink s p slot w with
      | .ok (t, _) => (t.kvRec slot).len = (s.kvRec slot).len + bits (w.getD 3 0) 0 6 ∧ (t.kvRec slot).prepLen = (t.kvRec slot).len ∧ (∀ x ∈ t.pft.locks, x.1 ≠ slot)
      | .error (st, _) => st ≠ 0)

/-- Generations, retired items, KV latches, and the configuration of a partition's pool. (R155, R156, R160, R169, 05_attention_kv.md)
The generation flips when the other one has no pin and no retired item while the current one has retired items; the items retired in the other generation are freed when it has no pin. An attention descriptor in RUN whose length table reads and whose records latch takes a pin and holds the latched records. PFT_COMMIT with COMMIT 0 does nothing, is refused with CFG_BUSY_WR while the partition is torn down or not empty, with CFG_MISMATCH and the rule's number when a pool rule fails, and else takes the shadows, ENABLE, and READY 0; POOL_READY sets READY and the free count. -/
def Obligations.PinsCommitsAndPools : Prop :=
  (∀ (p : Part) (s : State), s.pinCnt p (1 - s.pftGen p) = 0 → (s.retired p (1 - s.pftGen p)).isEmpty = true → (s.retired p (s.pftGen p)).isEmpty = false →
      exec (.pinGenerationFlip p) s = .next (({ s with pft := { s.pft with gen := Cells.set 0 s.pft.gen p (1 - s.pftGen p) } }).showWalks p)) ∧
  (∀ (p : Part) (s : State), s.pinCnt p (1 - s.pftGen p) ≠ 0 → exec (.pinGenerationFlip p) s = .next s ∧ exec (.retiredItemsFree p) s = .next s) ∧
  (∀ (p : Part) (s : State), s.pinCnt p (1 - s.pftGen p) = 0 → exec (.retiredItemsFree p) s = .next (
      match (s.retired p (1 - s.pftGen p)).foldlM (fun (st : State) it => st.freeItem p it) s with
      | .ok t => t.setRetired p (1 - s.pftGen p) []
      | .error (_, t) => t.setRetired p (1 - s.pftGen p) [])) ∧
  (∀ (n : Lathe) (d : Desc) (p : Nat) (s : State), (s.lth n).desc = some d → s.partOf n = some p → s.seq n = 4 → Desc.isAttn d = true →
      (s.lth n).latched = none → (s.lth n).fail = 0 → (s.lth n).issued = 0 → s.pinCnt p (s.pftGen p) < 65535 →
      let r := s.readOperands n [⟨Desc.lenTable d, 0, 16 * Desc.reqCount d⟩]
      r.2 = 0 → exec (.kvLatch n) s = .next (
        match (r.1.wr (ATS_STAT.STATE n) 1).atsLatch n p d with
        | .ok (s2, recs) => (s2.takePin p).setLth n { s2.lth n with latched := some (s.pftGen p, p, recs) }
        | .error (f, slot, page, s2) => (s2.atsError n f slot page).setLth n { (s2.atsError n f slot page).lth n with fail := 0x23 })) ∧
  (∀ (p : Part) (en : Bool) (s : State), exec (.pftCommit p false en) s = .next s) ∧
  (∀ (p : Part) (en : Bool) (s : State), s.tearing p = true ∨ s.pftEmpty p = false → exec (.pftCommit p true en) s = .next (s.wr (PFT_PART_STAT.CFG_BUSY_WR p) 1)) ∧
  (∀ (p : Part) (en : Bool) (k : Nat) (s : State), s.tearing p = false → s.pftEmpty p = true → failingRule (s.pftRules p) = some k →
      exec (.pftCommit p true en) s = .next ((s.wr (PFT_PART_STAT.CFG_MISMATCH p) 1).wr (PFT_PART_STAT.CFG_RULE p) k)) ∧
  (∀ (p : Part) (en : Bool) (s : State), s.tearing p = false → s.pftEmpty p = true → failingRule (s.pftRules p) = none →
      exec (.pftCommit p true en) s = .next (((s.applyShadows (pftShadows p)).wr (PFT_PART_STAT.ENABLED p) (b2n en)).wr (PFT_PART_STAT.READY p) 0)) ∧
  (∀ (p : Part) (s : State), s.flag (PFT_PART_STAT.ENABLED p) = true → s.flag (PFT_PART_STAT.READY p) = false → ∃ t, exec (.pftPoolReady p) s = .next t ∧
      t.flag (PFT_PART_STAT.READY p) = true ∧ t.mem.lsram = s.mem.lsram ∧ t.mem.way = s.mem.way ∧ t.pft = s.pft)

/-- Select, Prepare and Build of a partition's step. (R181, R182, R183, R184, R185, R200)
Select starts a step only when none runs, the partition is RUNNING, no record holds the loop and no checkpoint quiesces it: with every record read and work selected it enters Prepare with that selection and the step number one higher, with nothing selected only the records read count, and an uncorrectable cost table returns the partition to DERIVING. Prepare runs the whole group and enters Build; Build enters Release with the buffer turned and the row quanta. In another phase each changes nothing. -/
def Obligations.StepSelectsAndPrepares : Prop :=
  (∀ (p : Part) (s : State), ((s.loop p).phase ≠ .none ∨ s.rd (PLT_PSTAT.STATE p) ≠ 2 ∨ s.loopHeld p = true ∨ s.quiesced p = true) → exec (.stepSelect p) s = .next s) ∧
  (∀ (p : Part) (s : State), (s.loop p).phase = .none → s.rd (PLT_PSTAT.STATE p) = 2 → s.loopHeld p = false → s.quiesced p = false →
      let r := (s.useSlots p).usePltWord (9216 + p)
      (r.2 = true → exec (.stepSelect p) s = .next (r.1.costUe p)) ∧
      (r.2 = false → r.1.selection p = [] → exec (.stepSelect p) s = .next r.1) ∧
      (r.2 = false → r.1.selection p ≠ [] → ∃ t, exec (.stepSelect p) s = .next t ∧ (t.loop p).phase = .prepare ∧ (t.loop p).reqs = r.1.selection p ∧
        t.stepOf p = r.1.stepOf p + 1 ∧ (t.loop p).waited = false ∧ t = { r.1 with plt := t.plt } ∧ t.plt.slots = r.1.plt.slots ∧ t.plt.bkt = r.1.plt.bkt)) ∧
  (∀ (p : Part) (s : State), (s.loop p).phase ≠ .prepare → exec (.stepPrepareDone p) s = .next s) ∧
  (∀ (p : Part) (s : State), (s.loop p).phase = .prepare →
      let r := (s.loop p).reqs.foldl (fun (acc : State × List StepReq) q => ((acc.1.prepareReq p q).1, acc.2 ++ [(acc.1.prepareReq p q).2])) (s, [])
      ∃ t, exec (.stepPrepareDone p) s = .next t ∧ (t.loop p).phase = .build ∧ (t.loop p).reqs = r.2 ∧ t.pft = r.1.pft ∧ t.mem = r.1.mem ∧ t.out = r.1.out ∧
        t.plt.slots = r.1.plt.slots ∧ t.smp = r.1.smp ∧ t.lathe = r.1.lathe) ∧
  (∀ (p : Part) (s : State), (s.loop p).phase ≠ .build → exec (.stepBuild p) s = .next s) ∧
  (∀ (p : Part) (s : State), (s.loop p).phase = .build → ∃ t, exec (.stepBuild p) s = .next t ∧ (t.loop p).phase = .release ∧
        (t.loop p).q = quanta (withRows 0 (rowOrder (s.loop p).reqs)) ∧ (t.loop p).buf = 1 - (s.loop p).buf ∧ (t.loop p).reqs.length = (s.loop p).reqs.length)

/-- Release, GO, the end of the run and the Commit group. (R201, R204, R226, R88, R97, R189)
Release opens the epoch for the Peloton's, the sampling unit's, the key store's and the profiles' staged commits, opens it on every Lathe of the partition and enters the wait for acknowledgements; with all of them GO starts the plan on every Lathe and the step runs; when the wait ends without them ACK_TIMEOUT is set, the missing Lathes are OFFLINE and the partition stops. When every Lathe is DONE the partition waits for the sampling unit. The Commit group runs whole. In another phase each changes nothing. -/
def Obligations.StepReleasesRunsAndCommits : Prop :=
  (∀ (p : Part) (s : State), (s.loop p).phase ≠ .release → exec (.stepRelease p) s = .next s) ∧
  (∀ (p : Part) (s : State), (s.loop p).phase = .release →
      let s1 := (((s.pltEpoch p).smpEpoch p).keyEpoch p).profEpoch p
      let s2 := s1.setLoop p { s1.loop p with unacked := [], smpAck := true }
      let s3 := (s2.lathesOf p).foldl (fun st n => st.openOn p n) s2
      exec (.stepRelease p) s = .next (s3.setLoop p { s3.loop p with phase := .ack })) ∧
  (∀ (p : Part) (s : State), (s.loop p).phase ≠ .ack → exec (.stepGo p) s = .next s ∧ exec (.ackTimeout p) s = .next s) ∧
  (∀ (p : Part) (s : State), (s.loop p).phase = .ack → s.allAcked p = true →
      let s1 := ((List.range (s.lathesOf p).length).zip (s.lathesOf p)).foldl
        (fun (st : State) kn => st.goPlan kn.2 ((s.loop p).ents.getD kn.1 0) (s.loop p).buf) s
      exec (.stepGo p) s = .next (s1.setLoop p { s1.loop p with phase := .run }) ∧ exec (.ackTimeout p) s = .next s) ∧
  (∀ (p : Part) (s : State), (s.loop p).phase = .ack → s.allAcked p = false →
      let lost := (s.lathesOf p).filter (fun n => (s.loop p).unacked.contains n || (s.lth n).epochHeld)
      let s1 := lost.foldl (fun (st : State) n => ((st.dropPins n (st.lth n).flights).setLth n {}).wr (LTH_SEQ_STAT.STATE n) 8) s
      exec (.ackTimeout p) s = .next ((s1.wr PLT_ERR_STAT.ACK_TIMEOUT 1).partitionStop p lost) ∧ exec (.stepGo p) s = .next s) ∧
  (∀ (p : Part) (s : State), (s.loop p).phase = .run → (s.lathesOf p).all (fun n => s.seq n = 5) = true → ∃ t, exec (.stepRunEnd p) s = .next t ∧
      (t.loop p).phase = .sample ∧ t.smp.queue = s.smp.queue ++ [p.val] ∧ t = { s with regs := t.regs, smp := t.smp, plt := t.plt } ∧
      (∀ f : Fld, f.key ≠ SMP_STAT.WAITING.key → t.rd f = s.rd f)) ∧
  (∀ (p : Part) (s : State), ((s.loop p).phase ≠ .run ∨ (s.lathesOf p).all (fun n => s.seq n = 5) = false) → exec (.stepRunEnd p) s = .next s) ∧
  (∀ (p : Part) (s : State), (s.loop p).phase ≠ .commit → exec (.stepCommitGroupDone p) s = .next s) ∧
  (∀ (p : Part) (s : State), (s.loop p).phase = .commit →
      let r := (s.loop p).reqs.foldl (fun (acc : State × List StepReq) q => ((acc.1.commitReq p q).1, acc.2 ++ [(acc.1.commitReq p q).2])) (s, [])
      exec (.stepCommitGroupDone p) s = .next (r.1.setLoop p { r.1.loop p with phase := .record, reqs := r.2 }))

/-- The commit point waits for its ring, then writes the record; a step error aborts the step. (R192, R197, R199, R220, R221, R222, R356)
At the commit point the step waits while the ring is disabled, while event records wait, and, with OQ_WAIT, while the ring lacks the entries; otherwise the record is sent, requests and budgets move, the closings follow, and the loop is free for the next step. A Lathe's report while the plans of its partition run aborts the other Lathes' steps. When every Lathe rests the abort ends: prepared slots get ABORT_STEP, a STEP_ERROR record is written, and the step is over. In another phase each changes nothing. -/
def Obligations.StepRecordAndErrors : Prop :=
  (∀ (p : Part) (s : State), (s.loop p).phase ≠ .record → exec (.commitPoint p) s = .next s) ∧
  (∀ (p : Part) (s : State), (s.loop p).phase = .record → s.flag (PCI_RING_CFG.ENABLE p) = false →
      exec (.commitPoint p) s = .next (s.setLoop p { s.loop p with waited := true })) ∧
  (∀ (p : Part) (s : State), (s.loop p).phase = .record → s.flag (PCI_RING_CFG.ENABLE p) = true → s.records p ≠ [] →
      exec (.commitPoint p) s = .next (s.setLoop p { s.loop p with waited := (s.loop p).waited || s.eqWaits p })) ∧
  (∀ (p : Part) (s : State), (s.loop p).phase = .record → s.flag (PCI_RING_CFG.ENABLE p) = true → s.records p = [] →
      let es := s.outEntries p
      let groups := fillParts (2 ^ s.rd (PCI_RING_CFG.OQ_ENT p) - 64) (es.map s.entryBytes)
      let room := (s.rd (PCI_OQ_FREE.INDEX p) + 65536 - s.rd (PCI_OQ_NEXT.INDEX p)) % 65536
      let inj := s.flag PLT_INJ.LATE
      let span := match (s.loop p).lastCommit with | some t => s.now.toNat - t | none => 0
      let limit := (s.pltCfg p).cadence * 1024
      let late := (s.loop p).guarGen.any (· ≠ 0) && (inj || ((s.loop p).lastCommit.isSome && limit < span))
      let parts := ((List.range groups.length).zip groups).map (fun ig => s.partBytes p late groups.length ig.1 ig.2)
      let live := s.live p false ++ s.live p true
      let s2 := ((s.sendRecord p parts).wr (PCI_RING_STAT.OQ_WAIT p) 0).bump (SMP_ACCEPTED.COUNT p) (es.foldl (fun a e => a + e.accept) 0)
      let s4 := live.foldl (fun (st : State) x =>
          if x.2.cancel then ((st.closeSlot p x.1 3).cancelsDone p x.1 1 (st.stepOf p) x.2.genDone)
          else if (s.loop p).reqs.any (fun q => q.slot = x.1 && q.failed) then st.closeSilent p x.1 5 (st.stepOf p)
          else st.setSlot x.1 { st.slot x.1 with errSteps := 0 }) ((s.loop p).reqs.foldl (fun st q => st.commitSlot p q) s2)
      let s5 := (s4.setLoop p { s4.loop p with phase := .none, reqs := [], lastCommit := some s.now.toNat }).wr (PLT_PERIOD.VALUE p) (min (2 ^ 32 - 1) span)
      (room < groups.length → exec (.commitPoint p) s = .next ((s.setLoop p { s.loop p with waited := true }).wr (PCI_RING_STAT.OQ_WAIT p) 1)) ∧
      (groups.length ≤ room → exec (.commitPoint p) s =
        .next ((((s5.wr PLT_INJ.LATE 0).ttftMissed p live).lateStep p late (if inj then limit else span - limit) (s.loop p).guarGen).settle p live))) ∧
  (∀ (n : Lathe) (s : State), s.partOf n = none ∨ (s.lth n).report = none → exec (.stepErrorReport n) s = .next s) ∧
  (∀ (n : Lathe) (p idx code : Nat) (s : State), s.partOf n = some p → (s.lth n).report = some (idx, code) →
      ((s.loop p).phase ≠ .run → exec (.stepErrorReport n) s = .next s) ∧
      ((s.loop p).phase = .run → ∃ t info regions, exec (.stepErrorReport n) s = .next t ∧ (t.loop p).phase = .abort ∧ (t.loop p).abort = some (info, regions) ∧
        info.take 3 = [code, s.slotOfLathe p n, idx] ∧
        t = (((s.lathesOf p).filter (· ≠ n.val)).foldl (fun (st : State) m => st.stepAbort m) s).setLoop p (t.loop p))) ∧
  (∀ (p : Part) (s : State), (s.loop p).abort = none ∨ (s.loop p).phase ≠ .abort ∨
      (s.lathesOf p).any (fun n => s.seq n = 2 || s.seq n = 3 || s.seq n = 4 || s.seq n = 7) = true → exec (.stepAbortEnd p) s = .next s) ∧
  (∀ (p : Part) (info : List Nat) (regions : List (Nat × Nat)) (s : State), (s.loop p).abort = some (info, regions) → (s.loop p).phase = .abort →
      (s.lathesOf p).any (fun n => s.seq n = 2 || s.seq n = 3 || s.seq n = 4 || s.seq n = 7) = false →
      let s1 := (s.loop p).reqs.foldl (fun (st : State) q => if q.out then st else (st.pftNow p q.slot (pftWords 9 p q.slot 0 0) pftAbortStep).1) s
      let s2 := s1.record p (errorRecord p 0x10 (info.getD 0 0) (info.getD 1 0) (info.getD 2 0) (s1.stepOf p) (info.getD 3 0) (info.getD 4 0) (info.getD 5 0) regions)
      let s3 := s2.setLoop p { s2.loop p with phase := .none, reqs := [], abort := none }
      exec (.stepAbortEnd p) s = .next (((s3.slotsOf p).foldl (fun (st : State) y =>
          if y.1 = info.getD 3 0 then
            let r := st.slot y.1
            let k := min 15 (r.errSteps + 1)
            let st1 := st.setSlot y.1 { r with errSteps := k }
            if s.inEff (PLT_TIMEOUTS.ERR_LIMIT p) ≤ k ∧ (r.state = 1 ∨ r.state = 2) then st1.closeSilent p y.1 5 (st.stepOf p) else st1
          else st.setSlot y.1 { st.slot y.1 with errSteps := 0 }) s3).settle p (s.live p false ++ s.live p true)))

/-- What the Peloton does with the entries of a submission ring. (R186, R189, R192, R217, R223, R225, R350, R351, R352, 06_peloton.md)
A tail write makes entries available and does nothing else. An entry is taken only when it lies below the tail of an enabled ring without fault and no record holds the loop. SUBMIT: the lowest failing check refuses it and is counted, with a record of that outcome; when all hold the slot opens and is accepted, and a failure of a page-table command refuses it with outcome 10. DRAFT replaces the slot's draft. CANCEL marks a live request, and answers at once for one that is not. A bad entry is skipped with its record. -/
def Obligations.SubmissionsAreDecided : Prop :=
  (∀ (v : Part) (index : BitVec 16) (s : State), exec (.sqTailWrite v index) s = .next (s.wr (PCI_SQ_TAIL.INDEX v) index.toNat)) ∧
  (∀ (p : Part) (e : Submission) (s : State), s.sqReady p 1 = false ∨ (0 < e.prefixLen.val ∧ s.stepRuns p = true) → exec (.submit p e) s = .next s) ∧
  (∀ (p : Part) (e : Submission) (s : State), s.sqReady p 1 = true → (e.prefixLen.val = 0 ∨ s.stepRuns p = false) →
      (s.flag PCI_INJ.CTO = true → exec (.submit p e) s = .next (s.sqTimedOut p)) ∧
      (s.flag PCI_INJ.CTO = false →
        let sq := s.rd (PCI_SQ_HEAD.INDEX p)
        let s1 := (s.sqTake p 1).useBucket e.bucket.val
        (∀ k, failingRule (s1.admissionChecks p e) = some k →
          exec (.submit p e) s = .next ((s1.countRefusal p k).submitRecord p 0x22 k 0x1FFF e.reqId.toNat sq 0)) ∧
        (∀ k, failingRule (s1.admissionChecks p e) = none → s1.freeSlot p = some k →
          exec (.submit p e) s = .next (if (s1.openSlot p k e).2 = 0
            then ((s1.openSlot p k e).1.accept p k (s1.newRecord p e)).submitRecord p 0x22 0 k e.reqId.toNat sq 0
            else ((s1.openSlot p k e).1.countRefusal p 10).submitRecord p 0x22 10 0x1FFF e.reqId.toNat sq (s1.openSlot p k e).2)))) ∧
  (∀ (p : Part) (slot : Fin 8192) (reqId : Word) (base : Fin 2097152) (tokens : List (Fin 262144)) (s : State),
      s.sqReady p (1 + ceilDiv tokens.length 16) = true → (s.loop p).phase ≠ .prepare → (s.loop p).phase ≠ .build → s.inRange p slot.val = true →
      tokens.length ≤ 63 → s.flag PCI_INJ.CTO = false →
      exec (.draft p slot reqId base tokens) s = .next ((s.sqTake p (1 + ceilDiv tokens.length 16)).setSlot slot.val
        { s.slot slot.val with draft := some (base.val, reqId.toNat, tokens.map (·.val)) })) ∧
  (∀ (p : Part) (slot : Fin 8192) (reqId : Word) (s : State), s.sqReady p 1 = true → (s.loop p).phase ≠ .commit → (s.loop p).phase ≠ .record →
      s.flag PCI_INJ.CTO = false →
      (s.inRange p slot.val = true → ((s.slot slot.val).state = 1 ∨ (s.slot slot.val).state = 2) → (s.slot slot.val).reqId = reqId.toNat →
        exec (.cancel p slot reqId) s = .next ((s.sqTake p 1).setSlot slot.val
          { s.slot slot.val with cancel := true, cancels := (s.slot slot.val).cancels + 1 })) ∧
      (s.inRange p slot.val = false → exec (.cancel p slot reqId) s = .next ((s.sqTake p 1).closeRecord p 0x21 4 slot.val reqId.toNat 0 0)) ∧
      (∀ q e gen, s.inRange p slot.val = true → (s.slot slot.val).state ≠ 1 → (s.slot slot.val).state ≠ 2 → (s.slot slot.val).lastReq = some (q, e, gen) →
        q = reqId.toNat → exec (.cancel p slot reqId) s = .next ((s.sqTake p 1).closeRecord p 0x21 (if e = 1 ∨ e = 2 then 2 else 3) slot.val q 0 gen))) ∧
  (∀ (p : Part) (bad : BadEntry) (s : State), s.flag PCI_INJ.CTO = false →
      (∀ req, bad = .unknownType req → s.sqReady p 1 = true →
        exec (.entryBad p bad) s = .next ((s.sqTake p 1).submitRecord p 0x23 1 0x1FFF req.toNat (s.rd (PCI_SQ_HEAD.INDEX p)) 0)) ∧
      (∀ slot req n, bad = .draftSlot slot req n → s.inRange p slot.val = false → s.sqReady p (1 + ceilDiv n.val 16) = true →
        exec (.entryBad p bad) s = .next ((s.sqTake p (1 + ceilDiv n.val 16)).submitRecord p 0x23 2 slot.val req.toNat (s.rd (PCI_SQ_HEAD.INDEX p)) 0)) ∧
      (∀ slot req n, bad = .draftCount slot req n → 63 < n.val → s.sqReady p (1 + ceilDiv n.val 16) = true →
        exec (.entryBad p bad) s = .next ((s.sqTake p (1 + ceilDiv n.val 16)).submitRecord p 0x23 3 slot.val req.toNat (s.rd (PCI_SQ_HEAD.INDEX p)) 0))) ∧
  (∀ (p : Nat) (s : State), s.sqTake p 1 = s.wr (PCI_SQ_HEAD.INDEX p) ((s.rd (PCI_SQ_HEAD.INDEX p) + 1) % 65536))

/-- Buckets, recomputed promises, Peloton SRAM errors and commits of a partition's settings. (R191, R193, R194, R195, R196, R200, R202, R390, R500)
At the end of its period an enabled bucket's balance gains REFILL up to CAP and never falls; a disabled one keeps what it holds. PLT_BKT_DATA writes one word of the record the address names. A recomputation of an enabled partition charges its requests anew and demotes or restores. An uncorrectable word sets SRAM_UE, is reported at site 90, and closes the slot, returns the partition to DERIVING or disables the bucket. PLT_COMMIT without COMMIT does nothing, is refused in a teardown or, with ENABLE, during a restore, applies at once when no step runs, and else waits for the epoch with PENDING or is refused with its rule's number. -/
def Obligations.BudgetsAndDerating : Prop :=
  (∀ (b : Fin 1024) (s : State), Cells.get 0 s.plt.sramErr (8192 + b) = 0 → ((s.bucket b).enable = false → exec (.bucketRefill b) s = .next s) ∧
      ((s.bucket b).enable = true → (s.bucket b).cap ≤ (s.bucket b).balance → exec (.bucketRefill b) s = .next (s.setBucket b (s.bucket b))) ∧
      ((s.bucket b).enable = true → (s.bucket b).balance < (s.bucket b).cap →
        exec (.bucketRefill b) s = .next (s.setBucket b { s.bucket b with balance := min (s.bucket b).cap ((s.bucket b).balance + (s.bucket b).refill) }))) ∧
  (∀ (b : Nat) (x : Bucket) (s : State), (s.setBucket b x).bucket b = x ∧ (∀ c : Nat, c ≠ b → (s.setBucket b x).bucket c = s.bucket c)) ∧
  (∀ (v : Word) (s : State), let b := s.rd PLT_BKT_ADDR.ADDR / 8; let x := s.bucket b
      (s.rd PLT_BKT_ADDR.ADDR % 8 = 0 → exec (.bucketWrite v) s = .next (s.setBucket b { x with balance := v.toNat })) ∧
      (s.rd PLT_BKT_ADDR.ADDR % 8 = 2 → exec (.bucketWrite v) s = .next (s.setBucket b { x with cap := v.toNat })) ∧
      (s.rd PLT_BKT_ADDR.ADDR % 8 = 3 → exec (.bucketWrite v) s = .next (s.setBucket b { x with refill := bits v.toNat 0 24 })) ∧
      (s.rd PLT_BKT_ADDR.ADDR % 8 = 4 → exec (.bucketWrite v) s = .next (s.setBucket b { x with period := bits v.toNat 0 16, owner := bits v.toNat 16 3, enable := bit v.toNat 19, consumed := if bit v.toNat 19 && !x.enable then 0 else x.consumed })) ∧
      (s.rd PLT_BKT_ADDR.ADDR % 8 = 1 ∨ 5 ≤ s.rd PLT_BKT_ADDR.ADDR % 8 → exec (.bucketWrite v) s = .next s)) ∧
  (∀ (p : Part) (why : Derate) (s : State), s.rd (PLT_PSTAT.STATE p) = 0 → exec (.tResRecompute p why) s = .next s) ∧
  (∀ (p : Part) (why : Derate) (s : State), s.rd (PLT_PSTAT.STATE p) ≠ 0 → exec (.tResRecompute p why) s = .next (((s.slotsOf p).foldl (fun (st : State) x =>
      st.setSlot x.1 { st.slot x.1 with charge := st.reqCharge p (s.pltCfg p) x.2.spec (x.2.promptLen + x.2.maxNew) % 2 ^ 32 }) s).reassess p (derateReason why))) ∧
  (∀ (w : PltWord) (s : State), let hit (place : Nat) : State :=
        (({ s with plt := { s.plt with sramErr := Cells.set 0 s.plt.sramErr place 0 } }).wr PLT_ERR_STAT.SRAM_UE 1).reportUe 90 place
      (∀ k, w = .slot k → exec (.pelotonSramUe w) s = .next ((hit k).slotUe k)) ∧
      (∀ p, w = .cost p → exec (.pelotonSramUe w) s = .next ((hit (9216 + p)).costUe p)) ∧
      (∀ b, w = .bucket b → exec (.pelotonSramUe w) s = .next ((hit (8192 + b)).bucketUe b))) ∧
  (∀ (p : Part) (en : Bool) (s : State), exec (.pltCommit p false en) s = .next s) ∧
  (∀ (p : Part) (en : Bool) (s : State), (s.tearing p = true ∨ (en = true ∧ s.restoring p = true)) →
      exec (.pltCommit p true en) s = .next (s.wr (PLT_PSTAT.CFG_BUSY_WR p) 1)) ∧
  (∀ (p : Part) (en : Bool) (s : State), s.tearing p = false → (en = false ∨ s.restoring p = false) → s.stepRuns p = false →
      exec (.pltCommit p true en) s = .next (s.pltApply p en)) ∧
  (∀ (p : Part) (en : Bool) (s : State), s.tearing p = false → (en = false ∨ s.restoring p = false) → s.stepRuns p = true →
      (∀ k, failingRule (s.pltRules p) = some k → exec (.pltCommit p true en) s =
        .next ((s.wr (PLT_PSTAT.CFG_MISMATCH p) 1).wr (PLT_PSTAT.CFG_RULE p) k)) ∧
      (failingRule (s.pltRules p) = none → exec (.pltCommit p true en) s =
        .next ((s.setLoop p { s.loop p with staged := some en }).wr (PLT_PSTAT.PENDING p) 1))) ∧
  (∀ (p : Part) (s : State), (s.rd (PLT_PSTAT.STATE p) ≠ 1 ∨ s.stepRuns p = true) → exec (.templateDerived p) s = .next s) ∧
  (∀ (p : Part) (s s1 : State), s.rd (PLT_PSTAT.STATE p) = 1 → s.stepRuns p = false → s.readTmpl p = (s1, none) →
      exec (.templateDerived p) s = .next (s1.tmplBad p (0, 0))) ∧
  (∀ (p : Part) (s s1 : State) (t : Tmpl), s.rd (PLT_PSTAT.STATE p) = 1 → s.stepRuns p = false → s.readTmpl p = (s1, some t) →
      let c := s.pltCfg p
      let s2 := (s1.lathesOf p).foldl (fun (st : State) n => (st.lsramWrite n (st.rd (SMP_TREE_LOC.LOC p)) (st.treeRecord p c.nodes)).1) s1
      (∀ x, s2.tmplFault p t c = some x → exec (.templateDerived p) s = .next (s1.tmplBad p x)) ∧
      (∀ x, s2.tmplFault p t c = none → s2.deriveW p t c = .error x → exec (.templateDerived p) s = .next (s1.tmplBad p x)) ∧
      (∀ ws, s2.tmplFault p t c = none → s2.deriveW p t c = .ok ws →
        let s3 := { s2 with plt := { s2.plt with cost := Cells.setList 0 (Cells.clear s2.plt.cost (256 * p) (256 * p + 256)) (256 * p + 1) ws } }
        exec (.templateDerived p) s = .next ((((s3.writePltWord (9216 + p)).setLoop p { s3.loop p with
          ents := (t.used t.slots).map List.length, attn := (((t.entries.headD []).map (fun e => e.patched t c 32)).filter Desc.isAttn) }).wr (PLT_PSTAT.STATE p) 2).reassess p 1)))

/-- The oldest waiting partition is sampled whole; profile and sampling commits are checked. (R205, R206, R226, R228, R229)
SAMPLE_PHASE takes the partition at the head of the queue (with none it does nothing), draws in ascending slot order, and enters Commit with the paths and counts of the walks, or, at the first error, aborts the step with the error's code, Lathe slot and slot. A profile commit without COMMIT does nothing; otherwise the lowest failing rule refuses it, or the profile is staged and PENDING set, with nothing else changed. SMP_COMMIT is refused in a teardown, applied at once when no step runs, else staged or refused by its rules. -/
def Obligations.SamplingPhaseAndCommits : Prop :=
  (∀ s : State, s.smp.queue = [] → exec .samplePhase s = .next s) ∧
  (∀ (s : State) (p : Nat) (rest : List Nat), s.smp.queue = p :: rest →
      let s0 := ({ s with smp := { s.smp with queue := rest } }).wr SMP_STAT.WAITING (rest.foldl (fun a q => a ||| 2 ^ q) 0)
      let qs := (s0.loop p).reqs
      let r := s0.sampleAll p ((List.range 8192).filterMap (fun k => qs.find? (fun q => q.slot = k)))
      ∃ t, exec .samplePhase s = .next t ∧ (match r.2.2.2 with
        | some (code, ls, k) => (t.loop p).phase = .abort ∧ (t.loop p).abort = some ([code, ls, 0xFFF, k, 0, 0], []) ∧ t = r.1.setLoop p (t.loop p)
        | none => (t.loop p).phase = .commit ∧ (t.loop p).reqs = qs.map (fun q => (r.2.1.find? (fun x => x.slot = q.slot)).getD q) ∧
            t = (r.1.samplePaths p r.2.2.1).setLoop p (t.loop p))) ∧
  (∀ (k : Fin 1024) (s : State), exec (.smpProfCommit k false) s = .next s) ∧
  (∀ (k : Fin 1024) (s : State), let w := (List.range 16).map (fun j => Cells.get 0 s.smp.profShadow (16 * k.val + j))
      (∀ r, failingRule (s.profRules w) = some r → exec (.smpProfCommit k true) s = .next (s.profRefuse r)) ∧
      (failingRule (s.profRules w) = none → ∃ t, exec (.smpProfCommit k true) s = .next t ∧ t.flag SMP_PROF_STAT.PENDING = true ∧ (k.val, w) ∈ t.smp.profStaged ∧
        t.smp.prof = s.smp.prof ∧ t = { s with regs := t.regs, smp := t.smp } ∧ ∀ f : Fld, f.key ≠ SMP_PROF_STAT.PENDING.key → t.rd f = s.rd f)) ∧
  (∀ (p : Part) (s : State), exec (.smpCommit p false) s = .next s) ∧
  (∀ (p : Part) (s : State), s.tearing p = true → exec (.smpCommit p true) s = .next (s.wr (SMP_PSTAT.CFG_BUSY_WR p) 1)) ∧
  (∀ (p : Part) (s : State), s.tearing p = false → s.stepRuns p = false → exec (.smpCommit p true) s = .next (s.smpApply p)) ∧
  (∀ (p : Part) (s : State), s.tearing p = false → s.stepRuns p = true →
      (∀ k, failingRule (s.smpRules p) = some k → exec (.smpCommit p true) s = .next ((s.wr (SMP_PSTAT.CFG_MISMATCH p) 1).wr (SMP_PSTAT.CFG_RULE p) k)) ∧
      (failingRule (s.smpRules p) = none → exec (.smpCommit p true) s =
        .next ((s.setLoop p { s.loop p with smpStaged := true }).wr (SMP_PSTAT.PENDING p) 1)))

/-- How a memory port comes up, its refresh rate, self-refresh, and the commit of MEM_CFG. (R238, R239, R240, R259, 08_memory.md)
In training a clean result enters the zeroing state, a failed check channel fails the four ports of the package, any other failure or an armed MEM_INJ.TRAIN fails the port; the end of zeroing clears the port and enters READY; boot goes on by State.bootReady. Outside those states nothing changes. The fastest rate required by a channel applies. Only an unassigned READY port with AUTO_SR enters self-refresh. A commit of MEM_CFG with a zero period or count sets CFG_MISMATCH and else takes the shadows. -/
def Obligations.PortTrainingAndRefresh : Prop :=
  (∀ (n : Lathe) (failed : Fin 32) (s : State), s.rd (MEM_STAT.STATE n) ≠ 1 → exec (.portTrainingDone n failed) s = .next s.bootReady) ∧
  (∀ (n : Lathe) (failed : Fin 32) (s : State), s.rd (MEM_STAT.STATE n) = 1 →
      (bit failed.val 4 = true → exec (.portTrainingDone n failed) s =
        .next (State.bootReady (((List.range 4).map (· + n.val / 4 * 4)).foldl (fun (st : State) m => st.portFail m) (s.wr (MEM_INJ.TRAIN n) 0)))) ∧
      (bit failed.val 4 = false → failed.val ≠ 0 ∨ s.flag (MEM_INJ.TRAIN n) = true →
        exec (.portTrainingDone n failed) s = .next (State.bootReady ((s.wr (MEM_INJ.TRAIN n) 0).portFail n))) ∧
      (failed.val = 0 → s.flag (MEM_INJ.TRAIN n) = false →
        exec (.portTrainingDone n failed) s = .next (State.bootReady ((s.wr (MEM_INJ.TRAIN n) 0).wr (MEM_STAT.STATE n) 2)))) ∧
  (∀ (n : Nat) (s : State), s.portFail n = (s.wr (MEM_STAT.STATE n) 5).wr (MEM_ERR_STAT.TRAIN_FAIL n) 1) ∧
  (∀ (n : Lathe) (s : State), (s.rd (MEM_STAT.STATE n) = 2 → exec (.portZeroingDone n) s = .next (State.bootReady ((s.zeroPort n).wr (MEM_STAT.STATE n) 3))) ∧
      (s.rd (MEM_STAT.STATE n) ≠ 2 → exec (.portZeroingDone n) s = .next s)) ∧
  (∀ (n : Lathe) (m0 m1 m2 m3 m4 : Fin 3) (s : State), ∃ t, exec (.refreshRateUpdate n [m0, m1, m2, m3, m4]) s = .next t ∧
      t.rd (MEM_STAT.RATE n) = max (max (max (max m0.val m1.val) m2.val) m3.val) m4.val ∧ t = { s with regs := t.regs } ∧
      ∀ f : Fld, f.key ≠ (MEM_STAT.RATE n).key → t.rd f = s.rd f) ∧
  (∀ (n : Lathe) (modes : List (Fin 3)) (s : State), exec (.refreshRateUpdate n modes) s =
      .next (s.wr (MEM_STAT.RATE n) ((modes.take 5).foldl (fun m x => max m x.val) 0))) ∧
  (∀ (n : Lathe) (s : State), (s.rd (MEM_STAT.STATE n) = 3 → s.partOf n = none → s.flagEff (MEM_CFG.AUTO_SR n) = true →
        exec (.selfRefreshEntry n) s = .next (s.wr (MEM_STAT.STATE n) 4)) ∧
      (s.rd (MEM_STAT.STATE n) ≠ 3 ∨ s.partOf n ≠ none ∨ s.flagEff (MEM_CFG.AUTO_SR n) = false → exec (.selfRefreshEntry n) s = .next s)) ∧
  (∀ (n : Lathe) (s : State), (s.rd (MEM_CFG.SCRUB_PERIOD n) = 0 ∨ s.rd (MEM_CFG.RETIRE_CE n) = 0 →
        exec (.memCommit n) s = .next (s.wr (MEM_COMMIT.CFG_MISMATCH n) 1)) ∧
      (s.rd (MEM_CFG.SCRUB_PERIOD n) ≠ 0 → s.rd (MEM_CFG.RETIRE_CE n) ≠ 0 →
        exec (.memCommit n) s = .next (s.applyShadows [MEM_CFG.SCRUB_PERIOD n, MEM_CFG.RETIRE_CE n, MEM_CFG.AUTO_SR n])))

/-- Accesses of a memory port, the scrubbers and the retirement of blocks. (R231, R237, R241, R242, R246, R247, R257)
A port that is up answers an access, a write with its end, a read with its end and the bytes. A scrubber reports what it finds of its next word and moves on. The patrol rewrites a unit with corrections or reports it lost, and moves to the next unit or starts a new pass. The oldest waiting block starts being copied into a free spare (which one is open, log 1) or sets RETIRE_FULL; MEM_RETIRE queues a block of a READY port; a finished copy maps the block to its spare and adds 1 to SPARES_USED. -/
def Obligations.PortAccessesAndScrubs : Prop :=
  (∀ (rq : Requester) (n : Lathe) (a : BitVec 36) (len : Fin 16777216) (d : Option (List Byte)) (s : State), s.portUp n = false →
      exec (.portAccess rq n a len d) s = .next s) ∧
  (∀ (rq : Requester) (n : Lathe) (a : BitVec 36) (len : Fin 16777216) (d : List Byte) (s : State), s.portUp n = true →
      exec (.portAccess rq n a len (some d)) s =
        .next ((s.portWrite rq n a.toNat d).1.send (.portDone ((s.portWrite rq n a.toNat d).2 = .ok) []))) ∧
  (∀ (rq : Requester) (n : Lathe) (a : BitVec 36) (len : Fin 16777216) (s : State), s.portUp n = true →
      exec (.portAccess rq n a len none) s =
        .next ((s.portRead rq n a.toNat len).1.send (.portDone ((s.portRead rq n a.toNat len).2.1 = .ok) (s.portRead rq n a.toNat len).2.2))) ∧
  (∀ (u : Fin 32) (s : State), u.val < 16 →
      let i := Cells.get 0 s.mem.scrubPos u
      let ws := wordsOf (u.val * 2 ^ 24 + 64 * i) 64
      let s1 := s.lsramCe u (fixable s.mem.lsramErr ws)
      (lostWord s.mem.lsramErr ws = none → exec (.sramScrubWord u) s = .next (s1.scrubLsram u ((i + 1) % (lsramSize / 64)) ws)) ∧
      (∀ w, lostWord s.mem.lsramErr ws = some w →
        exec (.sramScrubWord u) s = .next ((s1.reportUe u (w * 8 - u.val * 2 ^ 24)).scrubLsram u ((i + 1) % (lsramSize / 64)) ws))) ∧
  (∀ (u : Fin 32) (s : State), 16 ≤ u.val →
      let i := Cells.get 0 s.mem.scrubPos u
      let ws := wordsOf ((u.val - 16) * 2 ^ 22 + 128 * i) 128
      let s1 := if fixable s.mem.wayErr ws = 0 then s else s.reportCe (16 + (u.val - 16)) (fixable s.mem.wayErr ws)
      (lostWord s.mem.wayErr ws = none → exec (.sramScrubWord u) s = .next (s1.scrubWay u ((i + 1) % (waySize / 128)) ws)) ∧
      (∀ w, lostWord s.mem.wayErr ws = some w →
        exec (.sramScrubWord u) s = .next ((s1.reportUe (16 + (u.val - 16)) (w * 8 - (u.val - 16) * 2 ^ 22)).scrubWay u ((i + 1) % (waySize / 128)) ws))) ∧
  (∀ (n : Lathe) (s : State), s.portUp n = false → exec (.patrolScrubUnit n) s = .next s) ∧
  (∀ (n : Lathe) (s : State), s.portUp n = true →
      let s0 := s.wakePort n
      let u := s0.rd (MEM_SCRUB_POS.UNIT n)
      let pl := s0.place n (u * 128)
      let s1 := if s0.unitLost pl then (s0.reportLost n u (MEM_ERR_STAT.SCRUB_UE n)).memLost n u
        else { s0.countFixes n u with mem := { (s0.countFixes n u).mem with portErr := Cells.setList 0 (s0.countFixes n u).mem.portErr (pl / 8) ((s0.unitErrs pl).map correctWord) } }
      exec (.patrolScrubUnit n) s = .next (if (u + 1) * 128 < s1.portCap then s1.wr (MEM_SCRUB_POS.UNIT n) (u + 1)
        else (s1.wr (MEM_SCRUB_POS.UNIT n) 0).patrolWrap n)) ∧
  (∀ (n : Lathe) (s : State), Cells.get [] s.mem.retQueue n = [] ∨ (Cells.get none s.mem.retCopy n).isSome = true → exec (.retireBlock n) s = .next s) ∧
  (∀ (n : Lathe) (b : Nat) (rest : List Nat) (s : State), Cells.get [] s.mem.retQueue n = b :: rest → Cells.get none s.mem.retCopy n = none →
      let s1 := { s with mem := { s.mem with retQueue := Cells.set [] s.mem.retQueue n rest } }
      (s1.freeSpares n = [] → exec (.retireBlock n) s = .next (s1.wr (MEM_ERR_STAT.RETIRE_FULL n) 1)) ∧
      (s1.freeSpares n ≠ [] → ∃ t j, exec (.retireBlock n) s = .next t ∧ j ∈ s1.freeSpares n ∧ Cells.get none t.mem.retCopy n = some (b, j) ∧
        t.freeCtr = s.freeCtr + 1 ∧ t.regs = s.regs ∧ t.mem.port = s.mem.port ∧ t.out = s.out)) ∧
  (∀ (n : Lathe) (b : Fin 16777216) (s : State), (s.rd (MEM_STAT.STATE n) ≠ 3 → exec (.memRetire n b) s = .next (s.wr (MEM_STAT.CFG_BUSY_WR n) 1)) ∧
      (s.rd (MEM_STAT.STATE n) = 3 → exec (.memRetire n b) s = .next (s.queueRetire n b))) ∧
  (∀ (n : Lathe) (s : State), Cells.get none s.mem.retCopy n = none → exec (.retireCopyDone n) s = .next s) ∧
  (∀ (n : Lathe) (b j : Nat) (s : State), Cells.get none s.mem.retCopy n = some (b, j) → ∃ t, exec (.retireCopyDone n) s = .next t ∧
      t.mem.spare = Cells.set none s.mem.spare (n.val * 512 + j) (some b) ∧ Cells.get none t.mem.retCopy n = none ∧
      t.mem.port = Cells.copy s.mem.port (n.val * 2 ^ 36 + b * 4096) (n.val * 2 ^ 36 + (s.portCap - 2 ^ 21 + j * 4096)) 4096 ∧
      t.flag (MEM_ERR_STAT.RETIRED n) = true ∧ t.rd (MEM_STAT.SPARES_USED n) = (s.rd (MEM_STAT.SPARES_USED n) + 1) % 2 ^ 10 ∧
      t = { s with regs := t.regs, mem := t.mem } ∧
      ∀ f : Fld, f.key ≠ (MEM_ERR_STAT.RETIRED n).key → f.key ≠ (MEM_STAT.SPARES_USED n).key → t.rd f = s.rd f)

/-- Loading a key, rotating it, sweeping the regions and committing the key settings. (R250, R252, R253, R254, R255, R256, R258, R260)
A load into a slot that a valid region names, that a rotation leaves, after a failed test, or with two equal halves leaves the state as it was; else the 64 bytes stand in the slot. A rotation is refused with CFG_BUSY_WR or CFG_MISMATCH, else the new slot is current. The sweep rewrites the next unit of its region under the new key, or as zeros when it is lost. The drained slot is zero. A key commit without COMMIT does nothing, is refused in a teardown or rotation, checked and applied when no step runs, else staged. -/
def Obligations.KeysAndRotation : Prop :=
  (∀ (p : Part) (k : Fin 2) (key : List Byte) (s : State), let b := (List.range 64).map (fun i => key.getD i 0)
      (s.slotNamed p k = true ∨ (s.rd (KEY_PSTAT.STATE p) ≠ 0 ∧ s.rd (KEY_PSTAT.CURRENT p) ≠ k.val) ∨ s.flag KEY_ERR_STAT.KAT_FAIL = true ∨ b.take 32 = b.drop 32 →
        exec (.keyLoad p k key) s = .next s) ∧
      (s.slotNamed p k = false → (s.rd (KEY_PSTAT.STATE p) = 0 ∨ s.rd (KEY_PSTAT.CURRENT p) = k.val) → s.flag KEY_ERR_STAT.KAT_FAIL = false → b.take 32 ≠ b.drop 32 →
        ∃ t, exec (.keyLoad p k key) s = .next t ∧ t.keyBytes p k = b ∧ (∀ q j : Nat, 2 * q + j ≠ 2 * p.val + k.val → t.keyBytes q j = s.keyBytes q j) ∧
          t = { s with regs := t.regs, keys := t.keys } ∧ t.keys.staged = s.keys.staged)) ∧
  (∀ (p : Part) (s : State), s.rd (KEY_PSTAT.STATE p) ≠ 0 → exec (.keyRotateStart p) s = .next (s.wr (KEY_PSTAT.CFG_BUSY_WR p) 1)) ∧
  (∀ (p : Part) (s : State), let new := 1 - s.rd (KEY_PSTAT.CURRENT p)
      s.rd (KEY_PSTAT.STATE p) = 0 →
      (s.inEff (PLT_LIMITS.PORT_RES p) < s.inEff (KEY_PCFG.SWEEP_SHARE p) ∨ s.flag (KEY_LOADED p new) = false →
        exec (.keyRotateStart p) s = .next (s.wr (KEY_PSTAT.CFG_MISMATCH p) 1)) ∧
      (s.inEff (KEY_PCFG.SWEEP_SHARE p) ≤ s.inEff (PLT_LIMITS.PORT_RES p) → s.flag (KEY_LOADED p new) = true →
        let s1 := (s.validRegions p).foldl (fun (st : State) r =>
          ((st.wr (KEY_RGN_STAT.NEW_SLOT p r) new).wr (KEY_RGN_STAT.SWEEPING p r) 1).wr (KEY_RGN_WM.UNIT p r) (st.inEff (KEY_RGN_BASE.BASE p r) * 2 ^ 14)) s
        exec (.keyRotateStart p) s = .next (((s1.wr (KEY_PSTAT.CURRENT p) new).wr (KEY_PSTAT.STATE p) 1).sweepsDone p))) ∧
  (∀ (p : Nat) (s : State), ((s.validRegions p).any (fun r => s.flag (KEY_RGN_STAT.SWEEPING p r)) = true → s.sweepsDone p = s) ∧
      ((s.validRegions p).any (fun r => s.flag (KEY_RGN_STAT.SWEEPING p r)) = false → s.sweepsDone p = s.wr (KEY_PSTAT.STATE p) 2)) ∧
  (∀ (n : Lathe) (s : State), s.partOf n = none → exec (.rotationSweepUnit n) s = .next s) ∧
  (∀ (n : Lathe) (p : Nat) (s : State), s.partOf n = some p → (s.rd (KEY_PSTAT.STATE p) ≠ 1 ∨ s.sweepRegion p n = none) →
      exec (.rotationSweepUnit n) s = .next s) ∧
  (∀ (n : Lathe) (p r : Nat) (s : State), s.partOf n = some p → s.rd (KEY_PSTAT.STATE p) = 1 → s.sweepRegion p n = some r →
      let s0 := ((s.readKeyWord p (16 + 64 * p + r)).readKeyWord p (2 * p)).readKeyWord p (2 * p + 1)
      let u := s0.rd (KEY_RGN_WM.UNIT p r)
      let new := s0.rd (KEY_RGN_STAT.NEW_SLOT p r)
      (s0.keyFault p = true → exec (.rotationSweepUnit n) s = .next s0) ∧
      (s0.keyFault p = false →
        let s1 := if s0.unitLost (s0.place n (u * 128)) then
            (((s0.reportLost n u (MEM_ERR_STAT.UE n)).storeUnit n u (some (s0.keyBytes p new)) (List.replicate 128 0)).bump (KEY_LOST.UNITS p) 1).memLost n u
          else (s0.countFixes n u).storeUnit n u (some (s0.keyBytes p new))
            ((s0.countFixes n u).viewUnit n u (some ((s0.countFixes n u).keyBytes p ((s0.countFixes n u).rd (KEY_RGN_STAT.SLOT p r)))))
        let s2 := (s1.injectUnit n u).wr (KEY_RGN_WM.UNIT p r) (u + 1)
        exec (.rotationSweepUnit n) s = .next (if u + 1 < s2.regionTop p r then s2
          else ((s2.wr (KEY_RGN_STAT.SLOT p r) new).wr (KEY_RGN_STAT.SWEEPING p r) 0).sweepsDone p))) ∧
  (∀ (p : Part) (s : State), s.rd (KEY_PSTAT.STATE p) ≠ 2 → exec (.rotationDrainDone p) s = .next s) ∧
  (∀ (p : Part) (s : State), s.rd (KEY_PSTAT.STATE p) = 2 → ∃ t, exec (.rotationDrainDone p) s = .next t ∧
      t.keyBytes p (1 - s.rd (KEY_PSTAT.CURRENT p)) = List.replicate 64 0 ∧ t.rd (KEY_PSTAT.STATE p) = 0 ∧ t = { s with regs := t.regs, keys := t.keys }) ∧
  (∀ (p : Part) (en : Bool) (s : State), exec (.keyPcommit p false en) s = .next s) ∧
  (∀ (p : Part) (en : Bool) (s : State), s.tearing p = true ∨ s.rd (KEY_PSTAT.STATE p) ≠ 0 → exec (.keyPcommit p true en) s = .next (s.wr (KEY_PSTAT.CFG_BUSY_WR p) 1)) ∧
  (∀ (p : Part) (en : Bool) (s : State), s.tearing p = false → s.rd (KEY_PSTAT.STATE p) = 0 → s.stepRuns p = false →
      exec (.keyPcommit p true en) s = .next (match failingRule (s.keyRules p) with
        | some r => (s.wr (KEY_PSTAT.CFG_MISMATCH p) 1).wr (KEY_PSTAT.CFG_RULE p) r
        | none => s.keyApply p en)) ∧
  (∀ (p : Part) (en : Bool) (s : State), s.tearing p = false → s.rd (KEY_PSTAT.STATE p) = 0 → s.stepRuns p = true →
      (∀ r, failingRule (s.keyRules p) = some r → exec (.keyPcommit p true en) s = .next ((s.wr (KEY_PSTAT.CFG_MISMATCH p) 1).wr (KEY_PSTAT.CFG_RULE p) r)) ∧
      (failingRule (s.keyRules p) = none → exec (.keyPcommit p true en) s =
        .next (({ s with keys := { s.keys with staged := Cells.set none s.keys.staged p (some (b2n en)) } }).wr (KEY_PSTAT.PENDING p) 1)))

/-- A port access that the region check refuses leaves every byte, key and Lathe as it was. (R246, R250)
When the check of an access at a port refuses it, the read or write returns no data, and no memory byte, stored error, key, Lathe state or output differs; only status registers, records and reports may. -/
def Obligations.RefusedPortAccess : Prop :=
  ∀ (rq : Requester) (n : Lathe) (a : Nat) (d : List Byte) (len : Nat) (s : State),
  (((s.wakePort n).checkAccess rq n a d.length).2 = false → (s.portWrite rq n a d).2 = .refused ∧ (s.portWrite rq n a d).1.mem = s.mem ∧
      (s.portWrite rq n a d).1.lathe = s.lathe ∧ (s.portWrite rq n a d).1.out = s.out ∧ (s.portWrite rq n a d).1.keys.slot = s.keys.slot) ∧
  (((s.wakePort n).checkAccess rq n a len).2 = false → (s.portRead rq n a len).2.1 = .refused ∧ (s.portRead rq n a len).2.2 = [] ∧
      (s.portRead rq n a len).1.mem = s.mem ∧ (s.portRead rq n a len).1.lathe = s.lathe ∧ (s.portRead rq n a len).1.out = s.out ∧
      (s.portRead rq n a len).1.keys.slot = s.keys.slot)

/-- Kick, descriptor fetch, pulse points, errors and CLEAR of tensor DMA. (R262, R263, R265, R266, R267, R280, R281)
A kick of an IDLE channel of a Lathe the Peloton does not drive makes it ACTIVE at the address; otherwise CFG_BUSY_WR is set and nothing else. A fetch checks the address, the words and the descriptor, and stops the group with cause 1 or 7, or runs a descriptor without pulses to its end. A pulse follows the data before it. A bus error stops the group with its cause and address. CLEAR in IDLE, DONE or HALTED lets the group leave STOPPED, else sets CFG_BUSY_WR. A group that stops keeps the first cause. -/
def Obligations.TensorDmaCommands : Prop :=
  (∀ (g : Lathe) (c : Fin 4) (a : Fin 16777216) (s : State),
      (s.rd (TDMA_CH_STAT.STATE g c) ≠ 1 ∨ s.flag (LTH_PART.PLT_OWNED g) = true → exec (.tdmaChKick g c a) s = .next (s.wr (TDMA_GRP_STAT.CFG_BUSY_WR g) 1)) ∧
      (s.rd (TDMA_CH_STAT.STATE g c) = 1 → s.flag (LTH_PART.PLT_OWNED g) = false → ∃ t, exec (.tdmaChKick g c a) s = .next t ∧
        t.rd (TDMA_CH_STAT.STATE g c) = 2 ∧ t.tch g c = { next := a.val } ∧ t = { s with regs := t.regs, tdma := t.tdma } ∧
        (∀ f : Fld, f.key ≠ (TDMA_CH_STAT.STATE g c).key → f.key ≠ (TDMA_CH_STAT.DESC g c).key → t.rd f = s.rd f))) ∧
  (∀ (g : Lathe) (c : Fin 4) (s : State), s.rd (TDMA_CH_STAT.STATE g c) ≠ 2 ∨ (s.tch g c).words.isSome = true ∨ s.tdmaMasked g = true →
      exec (.tdmaDescFetch g c) s = .next s) ∧
  (∀ (g : Lathe) (c : Fin 4) (s : State), s.rd (TDMA_CH_STAT.STATE g c) = 2 → (s.tch g c).words = none → s.tdmaMasked g = false →
      let x := s.tch g c
      let r := s.lsramRead g x.next 128
      let w := wordsOfBytes 32 r.2.2
      let s1 := r.1.setTch g c { x with words := some w, passed := 0, sent := 0 }
      (tdescOk x.next = false → exec (.tdmaDescFetch g c) s = .next (s.tdmaStop g 1 x.next c)) ∧
      (tdescOk x.next = true → r.2.1 = false → exec (.tdmaDescFetch g c) s = .next (r.1.tdmaStop g 7 x.next c)) ∧
      (tdescOk x.next = true → r.2.1 = true → r.1.tdmaOk g w = false → exec (.tdmaDescFetch g c) s = .next (r.1.tdmaStop g 1 x.next c)) ∧
      (tdescOk x.next = true → r.2.1 = true → r.1.tdmaOk g w = true → dfld w 0 8 1 = 1 → exec (.tdmaDescFetch g c) s = .next s1) ∧
      (tdescOk x.next = true → r.2.1 = true → r.1.tdmaOk g w = true → dfld w 0 8 1 ≠ 1 → exec (.tdmaDescFetch g c) s = .next (
        match s1.tdmaMove g c w 0 (tdmaDst w).bytes with
        | .ok s2 => s2.tdmaDone g c w
        | .error (cause, addr, s2) => s2.tdmaStop g cause addr c))) ∧
  (∀ (g : Lathe) (c : Fin 4) (s : State), (s.tch g c).words = none ∨ s.rd (TDMA_CH_STAT.STATE g c) ≠ 2 ∨ s.tdmaMasked g = true →
      exec (.tdmaEventPulse g c) s = .next s) ∧
  (∀ (g : Lathe) (c : Fin 4) (w : List Nat) (s : State), (s.tch g c).words = some w → s.rd (TDMA_CH_STAT.STATE g c) = 2 → s.tdmaMasked g = false →
      let x := s.tch g c
      let step := pulseLines w * (tdmaDst w).line
      exec (.tdmaEventPulse g c) s = .next (
        match (if x.sent = x.passed then (s.setTch g c { x with sent := x.passed + 1 }).tdmaMove g c w (x.passed * step) step else .ok s) with
        | .error (cause, addr, s1) => s1.tdmaStop g cause addr c
        | .ok s1 => if s1.chanOutstanding g c then s1
          else if pulsePoints w ≤ x.passed + 1 then ((s1.setTch g c { s1.tch g c with passed := x.passed + 1 }).pulse g (dfld w 0 9 5)).tdmaDone g c w
          else (s1.setTch g c { s1.tch g c with passed := x.passed + 1 }).pulse g (dfld w 0 9 5))) ∧
  (∀ (g : Lathe) (cause : Fin 8) (a : BitVec 64) (s : State), exec (.tdmaBusError g cause a) s = .next (s.tdmaStop g cause a.toNat 0)) ∧
  (∀ (g : Lathe) (s : State), (s.seq g = 1 ∨ s.seq g = 5 ∨ s.seq g = 6 → exec (.tdmaGrpClear g) s = .next (s.tdmaUnstop g)) ∧
      (s.seq g = 0 ∨ s.seq g = 2 ∨ s.seq g = 3 ∨ s.seq g = 4 ∨ 7 ≤ s.seq g → exec (.tdmaGrpClear g) s = .next (s.wr (TDMA_GRP_STAT.CFG_BUSY_WR g) 1)))

/-- Fence, unfence, disable, enable and commit of the channels of both DMA engines. (R278, R279, R289, 09_dma_arbiters.md)
A fence of an IDLE tensor channel makes it FENCED, of an active one it stands in FENCE; UNFENCE returns a FENCED tensor channel to IDLE and lets a fenced host channel fetch. A DISABLE of a disabled channel does nothing; an enabled one is dropped and its count, or HEAD, holds a free value (log 1). An ENABLE of an enabled channel does nothing, else it is IDLE or, with FENCE, FENCED. A commit applies when no descriptor runs and else waits for the boundary; a BURST of 0 sets CFG_MISMATCH. -/
def Obligations.ChannelControls : Prop :=
  (∀ (g : Lathe) (c : Fin 4) (s : State),
      (s.rd (TDMA_CH_STAT.STATE g c) = 1 → exec (.channelFence (.tensor g c)) s = .next ((s.wr (TDMA_CH_CTRL.FENCE g c) 1).dropTch g c 3)) ∧
      (s.rd (TDMA_CH_STAT.STATE g c) ≠ 1 → exec (.channelFence (.tensor g c)) s = .next (s.wr (TDMA_CH_CTRL.FENCE g c) 1)) ∧
      (s.rd (TDMA_CH_STAT.STATE g c) = 3 → exec (.channelUnfence (.tensor g c)) s = .next ((s.wr (TDMA_CH_CTRL.FENCE g c) 0).wr (TDMA_CH_STAT.STATE g c) 1)) ∧
      (s.rd (TDMA_CH_STAT.STATE g c) ≠ 3 → exec (.channelUnfence (.tensor g c)) s = .next (s.wr (TDMA_CH_CTRL.FENCE g c) 0)) ∧
      (s.flag (TDMA_CH_CTRL.ENABLE g c) = false → exec (.channelDisable (.tensor g c)) s = .next s) ∧
      (s.flag (TDMA_CH_CTRL.ENABLE g c) = true →
        let s1 := (s.wr (TDMA_CH_CTRL.ENABLE g c) 0).cutTch g c 0
        exec (.channelDisable (.tensor g c)) s = .next ((s1.wr (TDMA_CH_BYTES.UNITS g c) (Config.freeValue s1.freeCtr)).drew)) ∧
      (s.flag (TDMA_CH_CTRL.ENABLE g c) = true → exec (.channelEnable (.tensor g c)) s = .next s) ∧
      (s.flag (TDMA_CH_CTRL.ENABLE g c) = false → ∃ t, exec (.channelEnable (.tensor g c)) s = .next t ∧ t.flag (TDMA_CH_CTRL.ENABLE g c) = true ∧
        t.rd (TDMA_CH_STAT.STATE g c) = (if s.flag (TDMA_CH_CTRL.FENCE g c) then 3 else 1) ∧ t = { s with regs := t.regs } ∧
        (∀ f : Fld, f.key ≠ (TDMA_CH_CTRL.ENABLE g c).key → f.key ≠ (TDMA_CH_STAT.STATE g c).key → t.rd f = s.rd f)) ∧
      (s.rd (TDMA_CH_STAT.STATE g c) = 2 → exec (.channelCfgCommit (.tensor g c)) s = .next (s.setTch g c { s.tch g c with staged := true })) ∧
      (s.rd (TDMA_CH_STAT.STATE g c) ≠ 2 → s.rd (TDMA_CH_CFG.BURST g c) = 0 → exec (.channelCfgCommit (.tensor g c)) s = .next (s.wr (TDMA_GRP_STAT.CFG_MISMATCH g) 1)) ∧
      (s.rd (TDMA_CH_STAT.STATE g c) ≠ 2 → s.rd (TDMA_CH_CFG.BURST g c) ≠ 0 →
        exec (.channelCfgCommit (.tensor g c)) s = .next (s.applyShadows [TDMA_CH_CFG.RATE g c, TDMA_CH_CFG.BURST g c]))) ∧
  (∀ (c : Fin 32) (s : State),
      (s.hState c = 1 ∨ s.hState c = 3 ∨ s.hState c = 4 ∨ (s.hState c = 2 ∧ (s.hch c).entry = none) →
        exec (.channelFence (.host c)) s = .next (((s.wr (HDMA_CH_CTRL.FENCE c) 1).hdmaBoundary c).setHState c 5)) ∧
      (s.hState c = 0 ∨ s.hState c = 5 ∨ s.hState c = 6 ∨ (s.hState c = 2 ∧ (s.hch c).entry.isSome = true) →
        exec (.channelFence (.host c)) s = .next (s.wr (HDMA_CH_CTRL.FENCE c) 1)) ∧
      (s.hState c = 5 → exec (.channelUnfence (.host c)) s = .next ((s.wr (HDMA_CH_CTRL.FENCE c) 0).hdmaFetch c)) ∧
      (s.hState c ≠ 5 → exec (.channelUnfence (.host c)) s = .next (s.wr (HDMA_CH_CTRL.FENCE c) 0)) ∧
      (s.flag (HDMA_CH_CTRL.ENABLE c) = false → exec (.channelDisable (.host c)) s = .next s) ∧
      (s.flag (HDMA_CH_CTRL.ENABLE c) = true → (s.hch c).entry = none →
        let s1 := (s.wr (HDMA_CH_CTRL.ENABLE c) 0).dropHch c 0
        exec (.channelDisable (.host c)) s = .next ((s1.wr (HDMA_CH_STAT.HEAD c) (Config.freeValue s1.freeCtr)).drew)) ∧
      (s.flag (HDMA_CH_CTRL.ENABLE c) = true → exec (.channelEnable (.host c)) s = .next s) ∧
      (s.flag (HDMA_CH_CTRL.ENABLE c) = false → ∃ t, exec (.channelEnable (.host c)) s = .next t ∧ t.flag (HDMA_CH_CTRL.ENABLE c) = true ∧
        t.rd (HDMA_CH_STAT.HEAD c) = 0 ∧ t.hState c = (if s.flag (HDMA_CH_CTRL.FENCE c) then 5 else 1) ∧ t = { s with regs := t.regs }) ∧
      ((s.hch c).entry.isSome = true → exec (.channelCfgCommit (.host c)) s = .next (s.setHch c { s.hch c with staged := true })) ∧
      ((s.hch c).entry = none → s.rd (HDMA_CH_CFG.BURST c) = 0 → exec (.channelCfgCommit (.host c)) s = .next (s.wr (HDMA_CH_STAT.CFG_MISMATCH c) 1)) ∧
      ((s.hch c).entry = none → s.rd (HDMA_CH_CFG.BURST c) ≠ 0 →
        exec (.channelCfgCommit (.host c)) s = .next (s.applyShadows [HDMA_CH_CFG.RATE c, HDMA_CH_CFG.BURST c])))

/-- Doorbells, entry fetch, triggers, writeback, resume, errors and restart of host DMA. (R268, R271, R272, R273, R274, R275, R282, R301, R356)
A doorbell of PF0 or of the VF of the channel's partition lets an IDLE channel fetch, is ignored by a disabled one and pends elsewhere; another VF's is refused. An entry whose OWN is 0 returns the channel to IDLE (or, with a doorbell pending, lets it fetch again); a refused one keeps its code, a triggered one waits. The trigger takes the oldest frame not taken. When all data has moved the entry is written back and the channel goes on, halted after a refusal. A bus error stops the engine. A restart waits while an HDMA_STOP record is held. -/
def Obligations.HostDmaCommands : Prop :=
  (∀ (c : Fin 32) (fn : Func) (s : State), (fn = .pf0 ∨ ∃ v, fn = .vf v ∧ s.hPart c = some v.val) →
      (s.hState c = 1 → exec (.hdmaDoorbell c fn) s = .next (s.hdmaFetch c)) ∧ (s.hState c = 0 → exec (.hdmaDoorbell c fn) s = .next s) ∧
      (2 ≤ s.hState c → exec (.hdmaDoorbell c fn) s = .next (s.wr (HDMA_CH_STAT.DB_PENDING c) 1))) ∧
  (∀ (c : Fin 32) (v : Part) (s : State), s.hPart c ≠ some v.val → exec (.hdmaDoorbell c (.vf v)) s = .next s.logUr) ∧
  (∀ (c : Nat) (s : State), (s.hdmaFetch c).hState c = 2 ∧ ((s.hdmaFetch c).hch c).fetch = true ∧ (s.hdmaFetch c).mem = s.mem ∧ (s.hdmaFetch c).out = s.out) ∧
  (∀ (c : Fin 32) (ws : List Word) (s : State), s.hState c ≠ 2 ∨ (s.hch c).fetch = false → exec (.hdmaEntryFetch c ws) s = .next s) ∧
  (∀ (c : Fin 32) (ws : List Word) (s s1 : State) (w : List Nat), s.hState c = 2 → (s.hch c).fetch = true →
      (s.rd (HDMA_CH_RING_CFG.SPACE c) = 0 → s.hdmaHostInjected (s.entryAddr c) = .ok s1 ∧ w = (List.range 16).map (fun i => (ws.getD i 0).toNat)) →
      (s.rd (HDMA_CH_RING_CFG.SPACE c) ≠ 0 → ∃ b, s.hdmaRead c 1 (s.entryAddr c) 64 = .ok (s1, b) ∧ w = wordsOfBytes 16 b) →
      (dfld w 0 0 1 = 0 → s1.flag (HDMA_CH_STAT.DB_PENDING c) = false →
        exec (.hdmaEntryFetch c ws) s = .next ((s1.setHch c { s1.hch c with fetch := false }).setHState c 1)) ∧
      (dfld w 0 0 1 = 0 → s1.flag (HDMA_CH_STAT.DB_PENDING c) = true → exec (.hdmaEntryFetch c ws) s = .next (s1.wr (HDMA_CH_STAT.DB_PENDING c) 0)) ∧
      (dfld w 0 0 1 ≠ 0 →
        let code := if s1.hdescBad c w then 0x10 else if !s1.hAccessOk c w then 0x11 else 0
        let s2 := s1.setHch c { s1.hch c with fetch := false, entry := some w, code := code, sent := 0 }
        exec (.hdmaEntryFetch c ws) s = .next (if code = 0 ∧ dfld w 0 23 1 = 1 then s2.setHState c 3 else s2))) ∧
  (∀ (c : Fin 32) (s : State), (s.hch c).entry = none ∨ s.hState c ≠ 3 → exec (.hdmaTrigger c) s = .next s) ∧
  (∀ (c : Fin 32) (w : List Nat) (k : Nat) (x : VidSlot) (s : State), (s.hch c).entry = some w → s.hState c = 3 →
      s.ctxOfChan (dfld w 0 20 3) c = some k → (s.vctx (dfld w 0 20 3) k).slots.find? (fun t => !t.taken.contains c.val) = some x →
      ∃ t, exec (.hdmaTrigger c) s = .next t ∧ t.hState c = 2 ∧ ((t.hch c).frame.map (fun f => (f.1, f.2.1, f.2.2.1))) = some (dfld w 0 20 3, k, x.slot) ∧
        t = { s with regs := t.regs, vid := t.vid, hdma := t.hdma }) ∧
  (∀ (c : Fin 32) (host : List Byte) (s : State), (s.hch c).entry = none ∨ s.hState c ≠ 2 → exec (.hdmaWriteback c host) s = .next s) ∧
  (∀ (c : Fin 32) (host : List Byte) (w : List Nat) (s : State), (s.hch c).entry = some w → s.hState c = 2 →
      ((s.hch c).code ≠ 0 → exec (.hdmaWriteback c host) s = .next (match s.hdmaStatus c w (s.hch c).code 0 with
        | .error s1 => s1
        | .ok s1 => s1.hdmaNext c true)) ∧
      (∀ s1 moved, (s.hch c).code = 0 → s.hdmaMove c w host = .ok (s1, moved) → moved < (hdmaDst w).bytes →
        exec (.hdmaWriteback c host) s = .next (s1.setHch c { s1.hch c with sent := moved })) ∧
      (∀ s1 moved, (s.hch c).code = 0 → s.hdmaMove c w host = .ok (s1, moved) → (hdmaDst w).bytes ≤ moved →
        exec (.hdmaWriteback c host) s = .next (match s1.hdmaStatus c w 1 (hdmaDst w).n1 with
          | .error s2 => s2
          | .ok s2 => s2.hdmaNext c false)) ∧
      (∀ s1, (s.hch c).code = 0 → s.hdmaMove c w host = .error s1 → exec (.hdmaWriteback c host) s = .next s1)) ∧
  (∀ (c : Fin 32) (s : State), (s.hState c = 4 → exec (.hdmaResume c) s = .next (s.hdmaFetch c)) ∧ (s.hState c ≠ 4 → exec (.hdmaResume c) s = .next s)) ∧
  (∀ (cause : Fin 8) (a : BitVec 64) (s : State), exec (.hdmaBusError cause a) s =
      .next ((s.raiseIf (cause = 1) PCI_ERR_STAT.UC_RX).hdmaStop cause a.toNat (if cause = 2 then some (a.toNat / 2 ^ 36 % 16, a.toNat % 2 ^ 36) else none))) ∧
  (∀ (s : State), (s.flag HDMA_ENG_STAT.STOPPED = false → exec .hdmaRestart s = .next s) ∧
      (s.flag HDMA_ENG_STAT.STOPPED = true → (List.range 8).any (fun p => s.holds p 0x14) = true →
        exec .hdmaRestart s = .next { s with hdma := { s.hdma with restart := true } }) ∧
      (s.flag HDMA_ENG_STAT.STOPPED = true → (List.range 8).any (fun p => s.holds p 0x14) = false → exec .hdmaRestart s = .next s.hdmaRestarted))

/-- An arbiter's owner is a requester that may have the slot: forced ones first, else the best class. (R277, R284, R285, R287)
With the settings that the decision takes into effect, pending requesters are those that ask, are not masked and have credit. With none the slot has no owner; otherwise the owner is one of them, among those whose wait has reached LIMIT when there are any, and else of the lowest class that is pending. PEND shows them, and nothing but registers, values in effect and the arbiter's own state changes. The classes in effect are codes 0 to 3. -/
def Obligations.ArbiterDecides : Prop :=
  ∀ (i : Fin 52) (slots : List Nat) (s : State),
  let s0 := s.arbApply i
  let pend := (List.range (arbNums i)).filter (fun r => 0 < slots.getD r 0 && !neverRequests i r && !s0.arbMasked i r && (s0.arbRate i r = 0 || 1024 ≤ s0.arbCredit i r))
  let forced := pend.filter (fun r => s0.inEff (ARB_REQ.LIMIT i r) ≤ Cells.get 0 (s0.arbOf i).wait r)
  (∀ r ∈ pend, s0.inEff (ARB_REQ.CLASS i r) ≤ 3) →
  ∃ t, exec (.arbDecision i slots) s = .next t ∧ t = { s with regs := t.regs, eff := t.eff, arb := t.arb } ∧
    t.rd (ARB_PEND.REQ i) = (pend.foldl (fun w r => w + 2 ^ r) 0) % 2 ^ 32 ∧
    (pend = [] → t.flag (ARB_STAT.OWNED i) = false) ∧
    (pend ≠ [] → t.flag (ARB_STAT.OWNED i) = true ∧ t.rd (ARB_STAT.OWNER i) ∈ pend ∧
      (forced ≠ [] → t.rd (ARB_STAT.OWNER i) ∈ forced) ∧
      (forced = [] → ∀ r ∈ pend, s0.inEff (ARB_REQ.CLASS i (t.rd (ARB_STAT.OWNER i))) ≤ s0.inEff (ARB_REQ.CLASS i r)))

/-- An arbiter commit is refused by its rules, or waits for the next decision. (R286, R288)
With a LIMIT or BURST of 0 among the requesters' shadows CFG_MISMATCH is set and CFG_RULE names the rule; otherwise the shadows as they stand wait for the next decision and nothing in effect changes yet. The bound of a requester is 2 + LIMIT + REQS - 1. -/
def Obligations.ArbiterCommit : Prop :=
  (∀ (i : Fin 52) (k : Nat) (s : State), failingRule (s.arbRules i) = some k →
      exec (.arbCommit i) s = .next ((s.wr (ARB_STAT.CFG_MISMATCH i) 1).wr (ARB_STAT.CFG_RULE i) k)) ∧
  (∀ (i : Fin 52) (s : State), failingRule (s.arbRules i) = none → ∃ t, exec (.arbCommit i) s = .next t ∧ t = { s with arb := t.arb } ∧
      (t.arbOf i).wait = (s.arbOf i).wait ∧ (t.arbOf i).credit = (s.arbOf i).credit ∧
      (t.arbOf i).staged = some ((List.range (arbNums i)).map (fun r =>
        (s.rd (ARB_REQ.CLASS i r), s.rd (ARB_REQ.LIMIT i r), s.rd (ARB_REQ.RATE i r), s.rd (ARB_REQ.BURST i r))))) ∧
  (∀ (i r : Nat) (s : State), s.arbBound i r = 2 + s.inEff (ARB_REQ.LIMIT i r) + arbReqs i - 1)

/-- Engine assignment, context commits, flush, resume and the sources of an encode context. (R291, R295, R297, R304, R310, R313, R356, 10_video.md)
An engine with an enabled context keeps its assignment and sets CFG_BUSY_WR; otherwise PART and ASSIGNED take the values, and clearing ASSIGNED starts zeroing its SRAM, whose stored errors are gone once it is cleared. A context commit without COMMIT does nothing, without ENABLE disables, of an enabled context with a changed fixed field sets CFG_BUSY_WR, is refused by its rules, and else takes its shadows. FLUSH empties the queue and the references; RESUME of a halted context returns it to WAIT_SYNC, or waits while a VIDEO_ERROR record is held. A source of another VF is refused. -/
def Obligations.VideoContextsAndEngines : Prop :=
  (∀ (e : Fin 4) (p : Part) (b : Bool) (s : State), s.rd (VID_ENG_STAT.ENABLED e) ≠ 0 → exec (.videoEngineAssign e p b) s = .next (s.wr (VID_ENG_STAT.CFG_BUSY_WR e) 1)) ∧
  (∀ (e : Fin 4) (p : Part) (b : Bool) (s : State), s.rd (VID_ENG_STAT.ENABLED e) = 0 → ∃ t, exec (.videoEngineAssign e p b) s = .next t ∧
      t.rd (VID_ENG_PART.PART e) = p.val ∧ t.flag (VID_ENG_PART.ASSIGNED e) = b ∧ Cells.get false t.vid.clearing e = (Cells.get false s.vid.clearing e || !b) ∧
      t = { s with regs := t.regs, vid := t.vid } ∧
      (∀ f : Fld, f.key ≠ (VID_ENG_PART.PART e).key → f.key ≠ (VID_ENG_PART.ASSIGNED e).key → t.rd f = s.rd f)) ∧
  (∀ (e : Fin 4) (s : State), (Cells.get false s.vid.clearing e = false → exec (.videoSramCleared e) s = .next s) ∧
      (Cells.get false s.vid.clearing e = true → ∃ t, exec (.videoSramCleared e) s = .next t ∧ Cells.get false t.vid.clearing e = false ∧
        (∀ w, 16 * e.val ≤ w → w < 16 * e.val + 16 → Cells.get 0 t.vid.sramErr w = 0) ∧ t = { s with vid := t.vid } ∧ t.vid.ctx = s.vid.ctx)) ∧
  (∀ (e : Fin 4) (k : Fin 16) (en : Bool) (s : State), exec (.vidCtxCommit e k false en) s = .next s ∧ exec (.vidCtxCommit e k true false) s = .next (s.vidDisable e k)) ∧
  (∀ (e : Fin 4) (k : Fin 16) (s : State), s.vidOn e k = true → (vidFixedFields e k).any (fun f => s.rd f ≠ s.inEff f) = true →
      exec (.vidCtxCommit e k true true) s = .next (s.wr (VID_CTX_STAT.CFG_BUSY_WR e k) 1)) ∧
  (∀ (e : Fin 4) (k : Fin 16) (s : State), (s.vidOn e k = false ∨ (vidFixedFields e k).any (fun f => s.rd f ≠ s.inEff f) = false) →
      (∀ r, failingRule (s.vidRules e k) = some r →
        exec (.vidCtxCommit e k true true) s = .next ((s.wr (VID_CTX_STAT.CFG_MISMATCH e k) 1).wr (VID_CTX_STAT.CFG_RULE e k) r)) ∧
      (failingRule (s.vidRules e k) = none → s.vidOn e k = true → exec (.vidCtxCommit e k true true) s = .next (s.applyShadows (vidRcFields e k))) ∧
      (failingRule (s.vidRules e k) = none → s.vidOn e k = false →
        let s1 := s.applyShadows (vidRcFields e k ++ vidFixedFields e k)
        let s2 := s1.wr (VID_ENG_STAT.ENABLED e) (s1.rd (VID_ENG_STAT.ENABLED e) ||| 2 ^ k.val)
        let s3 := ((s2.wr (VID_CTX_STAT.STATE e k) (if s2.inEff (VID_CTX_CFG.MODE e k) = 2 then 2 else 1)).wr (VID_CTX_STAT.CAUSE e k) 0).wr (VID_CTX_SEQ.SEQ e k) 0
        exec (.vidCtxCommit e k true true) s = .next ((s3.setVctx e k { totals := (s3.vctx e k).totals }).showLoad e))) ∧
  (∀ (e : Fin 4) (k : Fin 16) (s : State), (s.vidOn e k = false ∨ s.inEff (VID_CTX_CFG.MODE e k) ≠ 1 → exec (.vidFlush e k) s = .next s) ∧
      (s.vidOn e k = true → s.inEff (VID_CTX_CFG.MODE e k) = 1 → ∃ t, exec (.vidFlush e k) s = .next t ∧ (t.vctx e k).fill = 0 ∧ (t.vctx e k).cur = none ∧
        t.rd (VID_CTX_STAT.STATE e k) = 1 ∧ t = { s with regs := t.regs, vid := t.vid } ∧ ∀ f : Fld, f.key ≠ (VID_CTX_STAT.STATE e k).key → t.rd f = s.rd f)) ∧
  (∀ (e : Fin 4) (k : Fin 16) (s : State), (s.rd (VID_CTX_STAT.STATE e k) ≠ 3 → exec (.vidResume e k) s = .next s) ∧
      (s.rd (VID_CTX_STAT.STATE e k) = 3 → s.holds (s.vidPart e) 0x15 = true → exec (.vidResume e k) s = .next (s.setVctx e k { s.vctx e k with resume := true })) ∧
      (s.rd (VID_CTX_STAT.STATE e k) = 3 → s.holds (s.vidPart e) 0x15 = false → exec (.vidResume e k) s =
        .next (((s.setVctx e k { s.vctx e k with resume := false }).wr (VID_CTX_STAT.STATE e k) 1).wr (VID_CTX_STAT.CAUSE e k) 0))) ∧
  (∀ (e : Fin 4) (k slot : Fin 16) (v : Part) (rows : Fin 4096) (last force : Bool) (s : State), (s.flag (VID_ENG_PART.ASSIGNED e) = false ∨ s.vidPart e ≠ v.val) →
      exec (.vidCtxSrc e k (.vf v) slot rows last force) s = .next s.logUr) ∧
  (∀ (e : Fin 4) (k slot : Fin 16) (fn : Func) (rows : Fin 4096) (last force : Bool) (s : State),
      (fn = .pf0 ∨ ∃ v, fn = .vf v ∧ s.flag (VID_ENG_PART.ASSIGNED e) = true ∧ s.vidPart e = v.val) →
      exec (.vidCtxSrc e k fn slot rows last force) s = .next (s.vidSource e k slot rows last force)) ∧
  (∀ (e k slot rows : Nat) (last force : Bool) (s : State), s.vidOn e k = true → s.inEff (VID_CTX_CFG.MODE e k) = 2 →
      (s.slotCount e k ≤ slot → s.vidSource e k slot rows last force = s.wr (VID_CTX_STAT.SRC_BAD e k) 1) ∧
      (slot < s.slotCount e k → (s.vctx e k).srcs = [] →
        s.vidSource e k slot rows last force = s.setVctx e k { s.vctx e k with srcs := [⟨slot, rows, last, force⟩] }))

/-- A row of an enabled context in its mode is taken by the engine; a finished picture goes into a slot and is reported. (R295, R296, R299, R301, R303, 10_video.md)
A row for a context that is not enabled or not waiting for sync or running, or of the other mode, changes nothing; a decode row runs State.decodeRow and an encode row State.encodeRow, each to its end or to the halt it meets. The output stage reports the next picture of a decode context into a free slot (which one is open, log 1); with none free it waits, or with OVERRUN overwrites the oldest slot no channel holds and counts the drop. Reporting adds one to the frame sequence. -/
def Obligations.VideoRowsAndFrames : Prop :=
  (∀ (e : Fin 4) (k : Fin 16) (w : RowWork) (s : State), (s.vidOn e k = false ∨ (s.rd (VID_CTX_STAT.STATE e k) ≠ 1 ∧ s.rd (VID_CTX_STAT.STATE e k) ≠ 2)) →
      exec (.videoRow e k w) s = .next s ∧ exec (.frameReport e k) s = .next s) ∧
  (∀ (e : Fin 4) (k : Fin 16) (r : DecRow) (s : State), s.vidOn e k = true → (s.rd (VID_CTX_STAT.STATE e k) = 1 ∨ s.rd (VID_CTX_STAT.STATE e k) = 2) →
      (s.inEff (VID_CTX_CFG.MODE e k) = 1 → exec (.videoRow e k (.decode r)) s = .next (match s.decodeRow e k r with
        | .ok t => t
        | .error t => t)) ∧
      (s.inEff (VID_CTX_CFG.MODE e k) ≠ 1 → exec (.videoRow e k (.decode r)) s = .next s)) ∧
  (∀ (e : Fin 4) (k : Fin 16) (pay par : List Byte) (s : State), s.vidOn e k = true → (s.rd (VID_CTX_STAT.STATE e k) = 1 ∨ s.rd (VID_CTX_STAT.STATE e k) = 2) →
      (s.inEff (VID_CTX_CFG.MODE e k) = 2 → exec (.videoRow e k (.encode pay par)) s = .next (match s.encodeRow e k pay par with
        | .ok t => t
        | .error t => t)) ∧
      (s.inEff (VID_CTX_CFG.MODE e k) ≠ 2 → exec (.videoRow e k (.encode pay par)) s = .next s)) ∧
  (∀ (e : Fin 4) (k : Fin 16) (q : VidPic) (rest : List VidPic) (s : State), s.vidOn e k = true →
      (s.rd (VID_CTX_STAT.STATE e k) = 1 ∨ s.rd (VID_CTX_STAT.STATE e k) = 2) → s.inEff (VID_CTX_CFG.MODE e k) = 1 → (s.vctx e k).outs = q :: rest →
      let put (st : State) (slot : Nat) : State :=
        match (st.setVctx e k { st.vctx e k with slots := (st.vctx e k).slots.filter (fun t => t.slot ≠ slot) }).reportFrame e k slot q with
        | .ok t => t
        | .error t => t
      (s.freeSlots e k ≠ [] → ∃ slot, slot ∈ s.freeSlots e k ∧ exec (.frameReport e k) s = .next (put s.drew slot)) ∧
      (s.freeSlots e k = [] → s.flagEff (VID_CTX_CFG.OVERRUN e k) = false → exec (.frameReport e k) s = .next s) ∧
      (∀ x, s.freeSlots e k = [] → s.flagEff (VID_CTX_CFG.OVERRUN e k) = true → (s.vctx e k).slots.find? (fun t => t.held.isEmpty) = some x →
        exec (.frameReport e k) s = .next (put ((s.setVctx e k ((s.vctx e k).count 1)).bump (VID_CTX_COUNTS.DROPS e k) 1) x.slot)))

/-- Commits of the fabric settings, bring-up of a plane and the events that take it down. (R316, R318, R320, R321, R322, R336, R390, 11_fabric.md)
FAB_COMMIT without COMMIT does nothing, sets CFG_MISMATCH for a time-out below 80, and else takes the settings, training the planes they enable and taking the others down. FAB_PCOMMIT is refused in a teardown, by its rules, or while a checkpoint runs and a held field or the enable changes; else it takes effect. Training ends in LOCK, a time-out restarts it, lock ends in HELLO. A HELLO that agrees brings the plane UP, another is a conflict. A module with a locked plane sends its HELLO. A lost HELLO, a stalled acknowledgement and a loss of lock take the plane down; in lower states they change nothing. -/
def Obligations.FabricPlanes : Prop :=
  (∀ s : State, exec (.fabCommit false) s = .next s) ∧
  (∀ s : State, s.rd FAB_CFG.E2E_TIMEOUT < 80 → exec (.fabCommit true) s = .next (s.wr FAB_COMMIT.CFG_MISMATCH 1)) ∧
  (∀ s : State, 80 ≤ s.rd FAB_CFG.E2E_TIMEOUT → exec (.fabCommit true) s = .next ([0, 1].foldl (fun (st : State) pl =>
      if st.planeOn pl then (if st.rd (FAB_PLANE.STATE pl) = 0 then st.planeTrain pl else st) else st.planeFall pl)
      (s.applyShadows [FAB_CFG.EN_A, FAB_CFG.EN_B, FAB_CFG.FEC_PREF, FAB_CFG.E2E_TIMEOUT]))) ∧
  (∀ (p : Part) (en : Bool) (s : State), exec (.fabPcommit p false en) s = .next s) ∧
  (∀ (p : Part) (en : Bool) (s : State), s.tearing p = true → exec (.fabPcommit p true en) s = .next (s.wr FAB_ERR_STAT.CFG_BUSY_WR 1)) ∧
  (∀ (p : Part) (en : Bool) (s : State), s.tearing p = false →
      (∀ r, failingRule (s.fabRules p) = some r → exec (.fabPcommit p true en) s = .next ((s.wr (FAB_PSTAT.CFG_MISMATCH p) 1).wr (FAB_PSTAT.CFG_RULE p) r)) ∧
      (failingRule (s.fabRules p) = none → s.flag (FAB_CK_CTRL.START p) = false → exec (.fabPcommit p true en) s = .next (s.fabApply p en)) ∧
      (failingRule (s.fabRules p) = none → s.flag (FAB_CK_CTRL.START p) = true → s.rd (FAB_PSTAT.ENABLED p) ≠ b2n en →
        exec (.fabPcommit p true en) s = .next (s.wr FAB_ERR_STAT.CFG_BUSY_WR 1))) ∧
  (∀ (pl : Fin 2) (s : State), s.rd (FAB_PLANE.STATE pl) ≠ 1 → exec (.planeTrained pl) s = .next s ∧ exec (.trainingTimeout pl) s = .next s) ∧
  (∀ (pl : Fin 2) (s : State), s.rd (FAB_PLANE.STATE pl) = 1 → exec (.trainingTimeout pl) s = .next (s.planeTrain pl) ∧
      exec (.planeTrained pl) s = .next (((s.wr (FAB_PLANE.STATE pl) 2).wr (FAB_PLANE.LANES_OK pl) 15).planeInjected pl)) ∧
  (∀ (pl : Fin 2) (q : Fin 1024) (s : State), (s.rd (FAB_PLANE.STATE pl) ≠ 2 → exec (.planeLock pl q) s = .next s) ∧
      (s.rd (FAB_PLANE.STATE pl) = 2 → ∃ t, exec (.planeLock pl q) s = .next t ∧ t.rd (FAB_PLANE.STATE pl) = 3 ∧ t.rd (FAB_PLANE.LL pl) = 0 ∧
        (t.link pl).acc = q.val ∧ (t.link pl).discard = false ∧ (t.link pl).badRun = 0 ∧ t = { s with regs := t.regs, fab := t.fab })) ∧
  (∀ (pl : Fin 2) (h : Hello) (s : State), (s.rxOpen pl = false ∨ (s.rd (FAB_PLANE.STATE pl) ≠ 3 ∧ s.rd (FAB_PLANE.STATE pl) ≠ 4)) → exec (.helloRx pl h) s = .next s) ∧
  (∀ (pl : Fin 2) (h : Hello) (s : State), s.rxOpen pl = true → s.rd (FAB_PLANE.STATE pl) = 4 →
      let s1 := (s.setLink pl (s.link pl)).wr (FAB_PLANE.PORT pl) h.port
      (s.helloAgrees h = true → exec (.helloRx pl h) s = .next (s1.withReach (fun a => ((a.takeId pl h).wr (FAB_PLANE.STATE pl) 4).setReach pl h.reach.toNat))) ∧
      (s.helloAgrees h = false → exec (.helloRx pl h) s = .next (((s1.withReach (fun a => ((a.setLink pl { a.link pl with hasId := false }).wr
        (FAB_PLANE.STATE pl) 5).setReach pl h.reach.toNat)).idCheck).wr FAB_ERR_STAT.ID_CONFLICT 1))) ∧
  (∀ (pl : Fin 2) (s : State), s.rd (FAB_PLANE.STATE pl) < 3 → exec (.helloTx pl) s = .next s ∧ exec (.helloTimeout pl) s = .next s ∧
      exec (.ackStallTimeout pl) s = .next s) ∧
  (∀ (pl : Fin 2) (s : State), 3 ≤ s.rd (FAB_PLANE.STATE pl) → exec (.helloTimeout pl) s = .next (s.planeFall pl) ∧
      exec (.ackStallTimeout pl) s = .next (s.planeFall pl) ∧ exec (.planeDown pl) s = .next (s.planeFall pl) ∧
      ∃ t, exec (.helloTx pl) s = .next t ∧ t.out = s.out ++ [.flits pl (s.helloFlit pl)] ∧ t = { s with out := t.out }) ∧
  (∀ (pl : Fin 2) (s : State), (s.rd (FAB_PLANE.STATE pl) < 2 → exec (.planeDown pl) s = .next s) ∧
      (s.rd (FAB_PLANE.STATE pl) = 2 → exec (.planeDown pl) s = .next (s.planeFall pl)))

/-- Codewords are accepted in order, and control flits carry acknowledgement, credits and completions. (R318, R319, R322, R326, 11_fabric.md)
Below LOCK a codeword changes nothing. With no injection armed for its plane, one that cannot be decoded is counted and reported, starts discarding with a request to resend, and the sixteenth in a row takes the plane down; one out of order is discarded; one in order is the last accepted, with a corrected one counted. A control flit of an open receiver brings the acknowledgement, credits, NACK and, on a plane that is UP, at most six completions; eight NACKs in a row for one codeword take the plane down. -/
def Obligations.FabricCodewordsAndControl : Prop :=
  (∀ (pl : Fin 2) (q : Fin 1024) (d : CwDecode) (s : State), s.rd (FAB_PLANE.STATE pl) < 3 → exec (.codewordRx pl q d) s = .next s) ∧
  (∀ (pl : Fin 2) (q : Fin 1024) (s : State), 3 ≤ s.rd (FAB_PLANE.STATE pl) → s.rd FAB_INJ.PLANE ≠ pl.val →
      let x := s.link pl
      let s2 := ((s.fabCount pl 1).reportUe (98 + pl) 0).setLink pl { x with discard := true, badRun := x.badRun + 1 }
      exec (.codewordRx pl q .failed) s = .next (if 16 ≤ x.badRun + 1 then s2.planeFall pl else if x.discard then s2 else s2.sendControl pl [])) ∧
  (∀ (pl : Fin 2) (q : Fin 1024) (d : CwDecode) (s : State), 3 ≤ s.rd (FAB_PLANE.STATE pl) → s.rd FAB_INJ.PLANE ≠ pl.val → d ≠ .failed →
      let x := s.link pl
      let s2 := if d = .corrected then (s.fabCount pl 0).reportCe (98 + pl) 1 else s
      (q.val ≠ (x.acc + 1) % 1024 → exec (.codewordRx pl q d) s = .next (s2.setLink pl { x with badRun := 0 })) ∧
      (q.val = (x.acc + 1) % 1024 → exec (.codewordRx pl q d) s =
        .next ((s2.setLink pl { x with acc := q, discard := false, badRun := 0 }).wr (FAB_PLANE.LL pl) (if x.llAt = some q.val then 1 else s2.rd (FAB_PLANE.LL pl))))) ∧
  (∀ (pl : Fin 2) (ack : Fin 1024) (nack : Bool) (cr : List (Fin 65536)) (cs : List FabComp) (s : State), s.rxOpen pl = false →
      exec (.controlFlitRx pl ack nack cr cs) s = .next s) ∧
  (∀ (pl : Fin 2) (ack : Fin 1024) (cr : List (Fin 65536)) (cs : List FabComp) (s : State), s.rxOpen pl = true →
      let x := s.link pl
      let s1 := s.setLink pl { x with acked := ack, credFreed := cr.map (·.val), nackRun := if x.nackAt = some ack.val then x.nackRun else 0, nackAt := if x.nackAt = some ack.val then x.nackAt else none }
      exec (.controlFlitRx pl ack false cr cs) s =
        .next (if s1.rd (FAB_PLANE.STATE pl) ≠ 4 then s1 else (cs.take 6).foldl (fun (st : State) c => st.compEntry c) s1)) ∧
  (∀ (pl : Fin 2) (ack : Fin 1024) (cr : List (Fin 65536)) (cs : List FabComp) (s : State), s.rxOpen pl = true →
      let x := s.link pl
      let run := if x.nackAt = some ack.val then x.nackRun + 1 else 1
      let s2 := (s.setLink pl { x with acked := ack, credFreed := cr.map (·.val), nackRun := run, nackAt := some ack.val }).fabCount pl 2
      exec (.controlFlitRx pl ack true cr cs) s = .next (if 8 ≤ run then s2.planeFall pl
        else if s2.rd (FAB_PLANE.STATE pl) ≠ 4 then s2 else (cs.take 6).foldl (fun (st : State) c => st.compEntry c) s2))

/-- Egress of packets, time-outs, ingress by packet type, and checkpoints. (R323, R325, R326, R327, R328, R332, R333, R334, 11_fabric.md)
The oldest packet of a requester leaves with its plane's credits, loops back, completes with NO_ROUTE, or waits; an outstanding packet that times out is resent once and then completes with TIMEOUT. A packet on a plane that is UP and discards nothing goes through the ingress by its type: WRITE to memory, event counter or barrier, READ_REQ, READ_RESP, RELEASE; otherwise it changes nothing. A checkpoint starts, unless one runs, and ends with DONE, or with the first failing status and its entry. -/
def Obligations.FabricPackets : Prop :=
  (∀ (r : Fin 19) (cw : Fin 1024) (s : State), s.fab.sendQ.find? (fun t => t.owner.requester = r.val) = none → exec (.packetSend r cw) s = .next s) ∧
  (∀ (r : Fin 19) (cw : Fin 1024) (t : TxPkt) (s : State), s.fab.sendQ.find? (fun t => t.owner.requester = r.val) = some t →
      let s1 : State := { s with fab := { s.fab with sendQ := s.fab.sendQ.erase t } }
      let held := t.owner ≠ TxOwner.response ∧ 4096 ≤ (s.fab.outst.filter (fun x => x.pkt.dst = t.pkt.dst)).length
      (t.owner ≠ TxOwner.response → s.flag (FAB_PSTAT.ENABLED t.part) = false → exec (.packetSend r cw) s = .next s) ∧
      ((t.owner = TxOwner.response ∨ s.flag (FAB_PSTAT.ENABLED t.part) = true) →
        (s.flag FAB_ID.ID_VALID = false → exec (.packetSend r cw) s = .next (s1.txDone t 0xB)) ∧
        (s.flag FAB_ID.ID_VALID = true → t.pkt.dst = s.rd FAB_ID.MODULE_ID → exec (.packetSend r cw) s =
          .next ((((s1.assemble t true).1.awaitTx { t with pkt := (s1.assemble t true).2 }).ingress none (s1.assemble t true).2))) ∧
        (s.flag FAB_ID.ID_VALID = true → t.pkt.dst ≠ s.rd FAB_ID.MODULE_ID → held → exec (.packetSend r cw) s = .next s) ∧
        (s.flag FAB_ID.ID_VALID = true → t.pkt.dst ≠ s.rd FAB_ID.MODULE_ID → ¬held →
          (s.fabRoute t = none → exec (.packetSend r cw) s = .next (s1.txDone t 0xB)) ∧
          (∀ pl, s.fabRoute t = some pl → exec (.packetSend r cw) s =
            .next (if s.replayRoom pl cw = true ∧ (s.link pl).hasCredit (vcOf t.pkt.typ) (fabFlits t.pkt) = true then s1.sendOn t pl cw else s))))) ∧
  (∀ (n : Nat) (s : State), (s.fab.outst[n]? = none → exec (.e2eTimeout n) s = .next s) ∧ (∀ t, s.fab.outst[n]? = some t → exec (.e2eTimeout n) s = .next (s.txFailed t))) ∧
  (∀ (t : TxPkt) (s : State), t.resent = true → s.txFailed t = State.txDone { s with fab := { s.fab with outst := s.fab.outst.erase t } } t 9) ∧
  (∀ (pl : Fin 2) (k : FabPkt) (s : State), s.pktOpen pl = false → exec (.fabricWriteRx pl k) s = .next s ∧ exec (.fabricEventWrite pl k) s = .next s ∧
      exec (.barrierArrival pl k) s = .next s ∧ exec (.fabricReadReqRx pl k) s = .next s ∧ exec (.fabricReadRespRx pl k) s = .next s ∧
      exec (.fabricReleaseRx pl k) s = .next s) ∧
  (∀ (pl : Fin 2) (k : FabPkt) (s : State), s.pktOpen pl = true →
      (k.typ = 0x10 → isBarrier k.addr = false → isEvent k.addr = false → exec (.fabricWriteRx pl k) s = .next (s.ingress (some pl) k)) ∧
      (k.typ = 0x10 → isEvent k.addr = true → exec (.fabricEventWrite pl k) s = .next (s.ingress (some pl) k)) ∧
      (k.typ = 0x10 → isBarrier k.addr = true → exec (.barrierArrival pl k) s = .next (s.ingress (some pl) k)) ∧
      (k.typ = 0x11 → exec (.fabricReadReqRx pl k) s = .next (s.ingress (some pl) k)) ∧
      (k.typ = 0x12 → exec (.fabricReadRespRx pl k) s = .next (s.ingress (some pl) k)) ∧
      (k.typ = 0x13 → exec (.fabricReleaseRx pl k) s = .next (s.ingress (some pl) k))) ∧
  (∀ (p : Part) (count : Fin 65536) (peer : Fin 128) (pull q : Bool) (s : State),
      let s1 := (((s.wr (FAB_CK_CTRL.COUNT p) count).wr (FAB_CK_CTRL.PEER p) peer).wr (FAB_CK_CTRL.DIR p) (b2n pull)).wr (FAB_CK_CTRL.QUIESCE p) (b2n q)
      (s.flag (FAB_CK_CTRL.START p) = true → exec (.checkpointStart p count peer pull q) s = .next (s1.wr FAB_ERR_STAT.CFG_BUSY_WR 1)) ∧
      (s.flag (FAB_CK_CTRL.START p) = false → exec (.checkpointStart p count peer pull q) s = .next (s1.ckStart p count peer pull q))) ∧
  (∀ (p : Part) (s : State), (s.ckJob p = none → exec (.checkpointEnd p) s = .next s) ∧
      (∀ j, s.ckJob p = some j → j.outcome = none → exec (.checkpointEnd p) s = .next s) ∧
      (∀ j c, s.ckJob p = some j → j.outcome = some c →
        let s1 := ((s.setCk p none).wr (FAB_CK_CTRL.START p) 0).wr (FAB_CK_STAT.STATUS p) c
        exec (.checkpointEnd p) s = .next (if c = 0 then (s1.wr (FAB_CK_STAT.STATE p) 2).pulled p
          else (s1.wr (FAB_CK_STAT.STATE p) 3).wr (FAB_CK_STAT.ENTRY p) j.entry)))

/-- A packet that is complete here is answered again and applied no second time. (R326, R327)
A WRITE or RELEASE packet for this module with a good CRC whose sequence number of its source is complete with a status gives back that status, and no byte of memory, no key, no Lathe state and no register field of the model changes. -/
def Obligations.FabricWritesOnce : Prop :=
  ∀ (pl : Fin 2) (k : FabPkt) (st : Nat) (s : State), s.pktOpen pl = true → k.crcBad = false → s.flag FAB_ID.ID_VALID = true →
  k.dst = s.rd FAB_ID.MODULE_ID → (k.typ = 0x10 ∨ k.typ = 0x13) → s.rxStatus k.src k.pseq = some st →
  let t := s.ingress (some pl) k
  t = ((s.rxWindow k.src k.pseq).rxFree pl (vcOf k.typ) (fabFlits k)).sendControl pl [(k.src, s.rd FAB_ID.MODULE_ID, st, k.pseq)] ∧
    t.mem = s.mem ∧ t.keys = s.keys ∧ t.lathe = s.lathe ∧ t.regs = s.regs ∧ t.plt = s.plt ∧ t.fab.held = s.fab.held ∧ s.out <+: t.out

/-- The link, received errors, time-outs, configuration requests and aperture accesses. (R338, R342, R344, R345, R355, R359, R388, R430, R454, 12_host_interface.md)
Link-up shows rate and width and LINK_CHG when they differ; a loss of a link that is up counts it and fails what waits. A poisoned TLP sets POISON_RX, an ECRC error ECRC, a time-out CTO with the request's fault. A configuration request is answered with a retry status until phase 5 has completed, then with data. An aperture access beyond memory is refused with UR, to an assigned port refused with CA or served around the cipher as a counted debug access, else served by the port. -/
def Obligations.HostLinkAndRequests : Prop :=
  (∀ (sp w : Fin 16) (fl : Bool) (s : State), ∃ t, exec (.pcieLinkUp sp w fl) s = .next t ∧ t.flag PCI_LINK.UP = true ∧ t.rd PCI_LINK.SPEED = sp.val ∧
      t.rd PCI_LINK.WIDTH = w.val ∧ t.flag PCI_LINK.FLIT = fl ∧ t = { s with regs := t.regs } ∧
      t.flag PCI_ERR_STAT.LINK_CHG = (s.flag PCI_ERR_STAT.LINK_CHG || !s.flag PCI_LINK.UP || decide (s.rd PCI_LINK.SPEED ≠ sp.val) || decide (s.rd PCI_LINK.WIDTH ≠ w.val))) ∧
  (∀ (ws : List HostReq) (s : State), s.flag PCI_LINK.UP = false → exec (.linkLoss ws) s = .next s) ∧
  (∀ (ws : List HostReq) (s : State), s.flag PCI_LINK.UP = true → exec (.linkLoss ws) s =
      .next ((ws.foldl (fun (st : State) w => st.hostReqFailed w) (s.wr PCI_INJ.LINK 0).linkDown).raiseIf (!ws.isEmpty) PCI_ERR_STAT.CTO)) ∧
  (∀ (rd : Bool) (s : State), exec (.receivedTlpError false rd) s = .next (s.wr PCI_ERR_STAT.ECRC 1) ∧
      exec (.receivedTlpError true false) s = .next (s.wr PCI_ERR_STAT.POISON_RX 1) ∧
      exec (.receivedTlpError true true) s = .next ((s.wr PCI_ERR_STAT.POISON_RX 1).send .unsupported)) ∧
  (∀ (w : HostReq) (s : State), exec (.completionTimeout w) s = .next ((s.wr PCI_ERR_STAT.CTO 1).hostReqFailed w)) ∧
  (∀ (p : Part) (s : State), exec (.submissionReadFault p true) s = .next ((s.wr PCI_ERR_STAT.CTO 1).sqFault p 1) ∧
      exec (.submissionReadFault p false) s = .next ((s.wr PCI_ERR_STAT.UC_RX 1).sqFault p 2)) ∧
  (∀ (fn : Fin 9) (r : Fin 1024) (wr : Bool) (s : State), (s.run = 7 → exec (.configRequest fn r wr) s = .next s) ∧
      (s.run ≠ 7 → s.boot.phase5 = false → exec (.configRequest fn r wr) s = .next (s.send .retryStatus)) ∧
      (s.run ≠ 7 → s.boot.phase5 = true → exec (.configRequest fn r false) s = .next (s.send (.readData (leBytes 4 (s.configWord fn r)))) ∧
        exec (.configRequest fn r true) s = .next (s.send (.readData [])))) ∧
  (∀ (off : BitVec 36) (len : Fin 4097) (ok : Bool) (s : State), s.flag PCI_INJ.UR = false →
      let n := s.rd PCI_APER0.PORT
      (s.portCap < off.toNat + len.val → exec (.pf0ApertureAccess off len none ok) s = .next (s.refuseUr true)) ∧
      (off.toNat + len.val ≤ s.portCap → s.portUp n = true → s.partOf n = none → exec (.pf0ApertureAccess off len none ok) s =
        .next ((s.portRead .hostAperture n off.toNat len).1.apertureEnd ((s.portRead .hostAperture n off.toNat len).2.1 = .ok) true
          (s.portRead .hostAperture n off.toNat len).2.2)) ∧
      (∀ p, off.toNat + len.val ≤ s.portCap → s.portUp n = true → s.partOf n = some p → exec (.pf0ApertureAccess off len none ok) s =
        .next (if (s.debugAccess p ok).2 then
            ((s.debugAccess p ok).1.cipherRead n off.toNat len).1.apertureEnd ((s.debugAccess p ok).1.cipherRead n off.toNat len).2.1 true
              ((s.debugAccess p ok).1.cipherRead n off.toNat len).2.2
          else (s.debugAccess p ok).1.refuseCa true)) ∧
      (∀ d, off.toNat + d.length ≤ s.portCap → s.portUp n = true → s.partOf n = none → exec (.pf0ApertureAccess off len (some d) ok) s =
        .next ((s.portWrite .hostAperture n off.toNat d).1.apertureEnd ((s.portWrite .hostAperture n off.toNat d).2 = .ok) false [])) ∧
      (∀ d, off.toNat + d.length ≤ s.portCap → s.portUp n = true → s.partOf n ≠ none →
        exec (.pf0ApertureAccess off len (some d) ok) s = .next (s.wr PCI_ERR_STAT.CA 1))) ∧
  (∀ (v : Part) (off : BitVec 34) (len : Fin 4097) (d : List Byte) (s : State), s.flag PCI_INJ.UR = false →
      let a := (s.rd (PCI_APER.WIN v) * 2 ^ 34 + off.toNat) % 2 ^ 40
      exec (.vfApertureAccess v off len (some d)) s =
        .next ((s.partWrite .hostAperture v a d).1.apertureEnd ((s.partWrite .hostAperture v a d).2 = .ok) false []) ∧
      exec (.vfApertureAccess v off len none) s =
        .next ((s.partRead .hostAperture v a len).1.apertureEnd ((s.partRead .hostAperture v a len).2.1 = .ok) true (s.partRead .hostAperture v a len).2.2))

/-- Ring enables and indexes, event records, and the resets of functions. (R350, R353, R355, R356, R357, R358, R369, 12_host_interface.md)
While rings are enabled a write of PCI_RING_CFG changes ENABLE alone and flags a change of the rest; otherwise the fields are taken, and ENABLE is refused in a teardown or by the lowest failing rule, and else starts the rings with every index 0. Output and event index writes store the index. The oldest event record goes into an enabled ring with room, with its tail word after it; with none, or no room, nothing changes. VF_FLR runs State.flr; PF_RESET does so for every VF, clears PF0's registers, mailbox and vectors, and sets PF_RST. -/
def Obligations.RingsAndFunctionResets : Prop :=
  (∀ (v : Part) (x : Word) (s : State), s.flag (PCI_RING_CFG.ENABLE v) = true → exec (.ringEnable v x) s = .next
      ((s.wr (PCI_RING_CFG.ENABLE v) (b2n (bit x.toNat 31))).raiseIf ((ringCfgFields v).any (fun f => s.rd f ≠ bits x.toNat f.lo f.width)) (PCI_RING_STAT.CFG_BUSY_WR v))) ∧
  (∀ (v : Part) (x : Word) (s : State), s.flag (PCI_RING_CFG.ENABLE v) = false →
      let s1 := (ringCfgFields v).foldl (fun (st : State) f => st.wr f (bits x.toNat f.lo f.width)) s
      (bit x.toNat 31 = false → exec (.ringEnable v x) s = .next s1) ∧
      (bit x.toNat 31 = true → s.tearing v = true → exec (.ringEnable v x) s = .next (s1.wr (PCI_RING_STAT.CFG_BUSY_WR v) 1)) ∧
      (bit x.toNat 31 = true → s.tearing v = false →
        (∀ k, failingRule (s1.ringRules v) = some k → exec (.ringEnable v x) s = .next ((s1.wr (PCI_RING_STAT.CFG_MISMATCH v) 1).wr (PCI_RING_STAT.CFG_RULE v) k)) ∧
        (failingRule (s1.ringRules v) = none → exec (.ringEnable v x) s = .next (s1.ringsOn v)))) ∧
  (∀ (v : Part) (s : State), (s.ringsOn v).flag (PCI_RING_CFG.ENABLE v) = true ∧ (s.ringsOn v).rd (PCI_SQ_TAIL.INDEX v) = 0 ∧ (s.ringsOn v).rd (PCI_SQ_HEAD.INDEX v) = 0 ∧
      (s.ringsOn v).rd (PCI_OQ_FREE.INDEX v) = 0 ∧ (s.ringsOn v).rd (PCI_OQ_NEXT.INDEX v) = 0 ∧ (s.ringsOn v).rd (PCI_EQ_HEAD.INDEX v) = 0 ∧
      (s.ringsOn v).rd (PCI_EQ_TAIL.INDEX v) = 0 ∧ (s.ringsOn v).flag (PCI_RING_STAT.SQ_FAULT v) = false ∧ s.ringsOn v = { s with regs := (s.ringsOn v).regs }) ∧
  (∀ (v : Part) (i : BitVec 16) (s : State), exec (.oqFreeWrite v i) s = .next (s.wr (PCI_OQ_FREE.INDEX v) i.toNat) ∧
      exec (.eqHeadWrite v i) s = .next (s.wr (PCI_EQ_HEAD.INDEX v) i.toNat)) ∧
  (∀ (p : Part) (s : State), s.records p = [] ∨ s.flag (PCI_RING_CFG.ENABLE p) = false ∨ s.eqFull p = true → exec (.eventRecordWrite p) s = .next s) ∧
  (∀ (p : Part) (r : List Byte) (rest : List (List Byte)) (s : State), s.records p = r :: rest → s.flag (PCI_RING_CFG.ENABLE p) = true → s.eqFull p = false →
      let tail := s.rd (PCI_EQ_TAIL.INDEX p)
      let next := (tail + 1) % 65536
      let base := s.rd (PCI_EQ_LO.ADDR p) + s.rd (PCI_EQ_HI.ADDR p) * 2 ^ 32
      let word := s.rd (PCI_EQW_LO.ADDR p) + s.rd (PCI_EQW_HI.ADDR p) * 2 ^ 32
      let s1 := { s with evq := Cells.set [] s.evq p rest }.send (.hostWrite (1 + p) (base + tail % 2 ^ s.rd (PCI_RING_CFG.EQ_LOG2 p) * 64) r)
      let s2 := (s1.wr (PCI_EQ_TAIL.INDEX p) next).send (.hostWrite (1 + p) word (leBytes 4 next))
      exec (.eventRecordWrite p) s = .next ((if s2.flag (PCI_RING_CFG.EQ_IRQ p) then s2.sendVec (1 + p) (s2.rd (PCI_VEC.EQ p)) else s2).recordsMoved)) ∧
  (∀ (v : Part) (s : State), exec (.vfFlr v) s = .next (s.flr v)) ∧
  (∀ s : State, exec .pfReset s = .next
      (((((((List.range 8).foldl (fun (st : State) v => st.flr v) s).clearRegs bar4B (bar4B + 0x100000)).msixReset 0).wr PCI_APER0.PORT 0).wr PCI_PF_VEC.MBX 0).mbxReset 3 |>.wr PCI_ERR_STAT.PF_RST 1))

/-- A message is denied, aborted, dropped or stamped and delivered; doorbells gather; a read clears FULL. (R361, R362, R363, 12_host_interface.md)
TARGET shows the target of every send. A target that Table 12.9 forbids sets DENIED, one in reset ABORTED, one whose FULL is 1 DROPPED, and nothing else changes; otherwise FULL, the sender's ID and the word stand at the target and, when its notification becomes active, the host function gets its vector. A doorbell gathers bits unless denied or aborted. A read answers the word, and clears the word and FULL. -/
def Obligations.Mailboxes : Prop :=
  (∀ (a t : Fin 12) (w : Word) (s : State), let s1 := s.wr (MBX_STAT.TARGET a) t
      (mbxAllowed a t = false → exec (.mbxSend a t w) s = .next (s1.wr (MBX_STAT.DENIED a) 1) ∧ exec (.mbxRing a t w) s = .next (s1.wr (MBX_STAT.DENIED a) 1)) ∧
      (mbxAllowed a t = true → s.recvReset t = true →
        exec (.mbxSend a t w) s = .next (s1.wr (MBX_STAT.ABORTED a) 1) ∧ exec (.mbxRing a t w) s = .next (s1.wr (MBX_STAT.ABORTED a) 1)) ∧
      (mbxAllowed a t = true → s.recvReset t = false → s.flag (MBX_IN_FROM.FULL t) = true → exec (.mbxSend a t w) s = .next (s1.wr (MBX_STAT.DROPPED a) 1)) ∧
      (mbxAllowed a t = true → s.recvReset t = false → s.flag (MBX_IN_FROM.FULL t) = false →
        let s2 := ((s1.wr (MBX_IN_FROM.FULL t) 1).wr (MBX_IN_FROM.FROM t) a).wr (MBX_IN_DATA.DATA t) w.toNat
        exec (.mbxSend a t w) s = .next (if s1.mbxActive t then s2 else if t.val = 3 then s2.sendVec 0 (s2.rd PCI_PF_VEC.MBX)
          else if 4 ≤ t.val then s2.sendVec (t - 3) (s2.rd (PCI_VEC.MBX (t - 4))) else s2) ∧
        s2.rd (MBX_IN_FROM.FROM t) = a.val ∧ s2.rd (MBX_IN_DATA.DATA t) = w.toNat ∧ s2.flag (MBX_IN_FROM.FULL t) = true) ∧
      (mbxAllowed a t = true → s.recvReset t = false → exec (.mbxRing a t w) s =
        .next (s1.mbxChange t (fun st => st.wr (MBX_DB_PEND.PEND t) (st.rd (MBX_DB_PEND.PEND t) ||| w.toNat))))) ∧
  (∀ (t : Fin 12) (s : State), ∃ u, exec (.mbxInDataRead t) s = .next u ∧ u.rd (MBX_IN_DATA.DATA t) = 0 ∧ u.flag (MBX_IN_FROM.FULL t) = false ∧
      (if t.val < 3 then Out.busData (s.rd (MBX_IN_DATA.DATA t)) else .readData (leBytes 4 (s.rd (MBX_IN_DATA.DATA t)))) ∈ u.out ∧
      u = { s with regs := u.regs, out := u.out } ∧
      ∀ f : Fld, f.key ≠ (MBX_IN_DATA.DATA t).key → f.key ≠ (MBX_IN_FROM.FULL t).key → f.key ≠ PCI_INJ.ECRC.key → u.rd f = s.rd f)

/-- Pending bits: set while the level is 1, written as plain bits, hardware wins in the cycle of a write. (R365)
Before every access of the controller each pending bit whose filtered level is 1 is set; a write gives every bit of its word the written value, except that a bit whose level is 1 reads 1 afterwards. Neither changes anything but the pending bits (and, for a write, what the model remembers of withdrawn lines). A settled filter gives the level of its source the raw level, and the pending bit follows it. -/
def Obligations.InterruptPending : Prop :=
  (∀ (w : Fin 4) (s : State) (j : Nat), j < 32 → ((s.irqTick.rd (IRQ_PEND.PEND w)).testBit j = ((s.rd (IRQ_PEND.PEND w)).testBit j || (s.rd (IRQ_LEVEL.LEVEL w)).testBit j))) ∧
  (∀ s : State, s.irqTick = { s with regs := s.irqTick.regs } ∧ ∀ f : Fld, (∀ w : Fin 4, f.key ≠ (IRQ_PEND.PEND w).key) → s.irqTick.rd f = s.rd f) ∧
  (∀ (w : Fin 4) (v : Word) (s : State), ∃ t, exec (.irqPendWrite w v) s = .next t ∧
      (∀ j, j < 32 → (t.rd (IRQ_PEND.PEND w)).testBit j = (v.getLsbD j || (s.rd (IRQ_LEVEL.LEVEL w)).testBit j)) ∧
      (∀ (u : Fin 4) (j : Nat), u ≠ w → j < 32 → (t.rd (IRQ_PEND.PEND u)).testBit j = ((s.rd (IRQ_PEND.PEND u)).testBit j || (s.rd (IRQ_LEVEL.LEVEL u)).testBit j)) ∧
      t = { s with regs := t.regs, host := { s.host with withdrawn := t.host.withdrawn } } ∧
      ∀ f : Fld, (∀ u : Fin 4, f.key ≠ (IRQ_PEND.PEND u).key) → t.rd f = s.rd f) ∧
  (∀ (i : Fin 112) (s : State), ∃ t, exec (.irqFilterSettle i) s = .next t ∧ t = { s with regs := t.regs } ∧
      (t.rd (IRQ_LEVEL.LEVEL (i.val / 32))).testBit (i.val % 32) = s.irqRaw i ∧
      (s.irqRaw i = true → (t.rd (IRQ_PEND.PEND (i.val / 32))).testBit (i.val % 32) = true) ∧
      ∀ f : Fld, (∀ w : Fin 4, f.key ≠ (IRQ_PEND.PEND w).key ∧ f.key ≠ (IRQ_LEVEL.LEVEL w).key) → t.rd f = s.rd f)

/-- A claim takes the lowest pending source that is not masked, and the line stays low until it is done. (R366)
The line of a processor is asserted while IN_SERVICE is 0 and some source is pending and not masked there. A claim then answers the lowest such source, clears its pending bit alone, and sets IN_SERVICE, so the line is low; with none it answers no source. A claim in service answers the source in service and changes nothing. IRQ_DONE clears IN_SERVICE. Numbers are answered with bit 7 (VALID) set; the pending bits that hardware sets before the access are those of InterruptPending. -/
def Obligations.InterruptClaim : Prop :=
  (∀ (p : Nat) (s : State), s.irqLine p = true ↔ s.flag (IRQ_CLAIM.IN_SERVICE p) = false ∧ ∃ i, 1 ≤ i ∧ i < 112 ∧
      bit (s.rd (IRQ_PEND.PEND (i / 32))) (i % 32) = true ∧ bit (s.rd (IRQ_MASK.MASK p (i / 32))) (i % 32) = false) ∧
  (∀ (p : Fin 3) (soon : Bool) (i : Nat) (s : State), let s1 := s.irqTick
      s1.flag (IRQ_CLAIM.IN_SERVICE p) = false → 1 ≤ i → i < 112 →
      bit (s1.rd (IRQ_PEND.PEND (i / 32))) (i % 32) = true → bit (s1.rd (IRQ_MASK.MASK p (i / 32))) (i % 32) = false →
      (∀ j, 1 ≤ j → j < i → bit (s1.rd (IRQ_PEND.PEND (j / 32))) (j % 32) = false ∨ bit (s1.rd (IRQ_MASK.MASK p (j / 32))) (j % 32) = true) →
      ∃ t, exec (.irqClaim p soon) s = .next t ∧ t.out = s.out ++ [.busData (i + 128)] ∧ t.rd (IRQ_CLAIM.SOURCE p) = i ∧
        t.flag (IRQ_CLAIM.IN_SERVICE p) = true ∧ t.irqLine p = false ∧
        (∀ j, j < 32 → (t.rd (IRQ_PEND.PEND (i / 32))).testBit j = ((s1.rd (IRQ_PEND.PEND (i / 32))).testBit j && decide (j ≠ i % 32))) ∧
        t = { s with regs := t.regs, out := t.out } ∧
        ∀ f : Fld, f.key ≠ (IRQ_PEND.PEND (i / 32)).key → f.key ≠ (IRQ_CLAIM.SOURCE p).key → f.key ≠ (IRQ_CLAIM.IN_SERVICE p).key → t.rd f = s1.rd f) ∧
  (∀ (p : Fin 3) (soon : Bool) (s : State), let s1 := s.irqTick
      (s1.flag (IRQ_CLAIM.IN_SERVICE p) = true → exec (.irqClaim p soon) s = .next { s1 with out := s.out ++ [.busData (s1.rd (IRQ_CLAIM.SOURCE p) + 128)] }) ∧
      (s1.flag (IRQ_CLAIM.IN_SERVICE p) = false → s1.irqLowest p = none →
        exec (.irqClaim p soon) s = .next { s1 with out := s.out ++ [.busData (if soon && Cells.get false s1.host.withdrawn p then 127 else 0)] })) ∧
  (∀ (p : Fin 3) (s : State), exec (.irqDone p) s = .next (s.irqTick.wr (IRQ_CLAIM.IN_SERVICE p) 0))

/-- Building a partition step by step, and tearing it down in its six steps. (R374, R375, R376, R390, R497, 13_partitions_security.md)
A build command outside READY does nothing; during a teardown its result is 0x10, else the lowest failing rule, and with none the partition is BUILDING with its granules. Build steps follow one another; a teardown accepted meanwhile then starts. A teardown command of a FREE partition has result 0x11, of one tearing down 0x10, of one being built waits, and else starts. Its steps follow one another; a fence that takes too long drops its channels; after step 6 the memory of the ports is zero and the partition FREE. -/
def Obligations.PartitionBuildAndTeardown : Prop :=
  (∀ (p : Part) (s : State), (s.run ≠ 3 → exec (.partitionBuild p 0) s = .next s) ∧
      (s.run = 3 → s.tearing p = true → exec (.partitionBuild p 0) s = .next (s.partResult p 0x10)) ∧
      (∀ r, s.run = 3 → s.tearing p = false → failingRule (s.buildRules p) = some r → exec (.partitionBuild p 0) s = .next (s.partResult p r)) ∧
      (s.run = 3 → s.tearing p = false → failingRule (s.buildRules p) = none → ∃ t, exec (.partitionBuild p 0) s = .next t ∧
        t.rd (GLB_PART_STAT.STATE p) = 1 ∧ (t.prt p).step = 0 ∧ (t.prt p).result = 0 ∧ (t.prt p).bTenant = (s.prt p).tenant ∧
        t = { s with regs := t.regs, part := t.part } ∧
        ∀ f : Fld, f.key ≠ (GLB_PART_STAT.STATE p).key → f.key ≠ (GLB_PART_STAT.GRANULES p).key → t.rd f = s.rd f)) ∧
  (∀ (p : Part) (k : Fin 7) (s : State), k ≠ 0 → (s.rd (GLB_PART_STAT.STATE p) ≠ 1 ∨ k.val ≠ (s.prt p).step + 1) → exec (.partitionBuild p k) s = .next s) ∧
  (∀ (p : Part) (k : Fin 7) (s : State), k ≠ 0 → s.rd (GLB_PART_STAT.STATE p) = 1 → k.val = (s.prt p).step + 1 →
      let s2 := (s.buildStep p k).setPrt p { (s.buildStep p k).prt p with step := k.val }
      exec (.partitionBuild p k) s = .next (if (s2.prt p).tdWaits then s2.tdStart p (s2.prt p).tdZero else s2)) ∧
  (∀ (p : Part) (ok : Bool) (s : State), let z : Bool := (s.prt p).zero ≠ 0
      (s.rd (GLB_PART_STAT.STATE p) = 0 → exec (.partitionTeardown p 0 ok) s = .next (s.partResult p 0x11)) ∧
      (s.rd (GLB_PART_STAT.STATE p) = 4 → exec (.partitionTeardown p 0 ok) s = .next (s.partResult p 0x10)) ∧
      (s.rd (GLB_PART_STAT.STATE p) = 1 → exec (.partitionTeardown p 0 ok) s = .next (s.setPrt p { s.prt p with result := 0, tdWaits := true, tdZero := z })) ∧
      (s.rd (GLB_PART_STAT.STATE p) = 2 ∨ s.rd (GLB_PART_STAT.STATE p) = 3 → exec (.partitionTeardown p 0 ok) s = .next ((s.partResult p 0).tdStart p z))) ∧
  (∀ (p : Part) (k : Fin 7) (ok : Bool) (s : State), k ≠ 0 →
      ((s.tearing p = false ∨ k.val ≠ s.rd (GLB_PART_STAT.TD_STEP p) + 1) → exec (.partitionTeardown p k ok) s = .next s) ∧
      (s.tearing p = true → k.val = s.rd (GLB_PART_STAT.TD_STEP p) + 1 → exec (.partitionTeardown p k ok) s = .next (s.tdRun p k ok))) ∧
  (∀ (p : Part) (s : State), ((s.tearing p = false ∨ s.rd (GLB_PART_STAT.TD_STEP p) ≠ 2) → exec (.teardownFenceTimeout p) s = .next s) ∧
      (s.tearing p = true → s.rd (GLB_PART_STAT.TD_STEP p) = 2 → exec (.teardownFenceTimeout p) s = .next (((s.tdFence p).tdDrop p).tdMark p 3)) ∧
      ((s.tearing p = false ∨ s.rd (GLB_PART_STAT.TD_STEP p) ≠ 6) → exec (.teardownComplete p) s = .next s)) ∧
  (∀ (p : Part) (s : State), s.tearing p = true → s.rd (GLB_PART_STAT.TD_STEP p) = 6 → ∃ t, exec (.teardownComplete p) s = .next t ∧
      t.rd (GLB_PART_STAT.STATE p) = 0 ∧ t.rd (GLB_PART_STAT.GRANULES p) = 0 ∧ t = { s with regs := t.regs, part := t.part, mem := t.mem } ∧
      t.mem.lsram = s.mem.lsram ∧ t.mem.way = s.mem.way)

/-- Step 5 of a teardown leaves no key of the partition, and touches no memory. (R390, R391, 13_partitions_security.md)
When step 5 of a teardown runs, both key slots of the partition hold zeros and are not loaded, its key for deliveries is gone, no region of it is valid, and the key slots of every other partition, all memory and all outputs are as they were. -/
def Obligations.TeardownDestroysKeys : Prop :=
  ∀ (p : Part) (ok : Bool) (s : State), s.tearing p = true → s.rd (GLB_PART_STAT.TD_STEP p) = 4 → ∃ t, exec (.partitionTeardown p 5 ok) s = .next t ∧
  t.keyBytes p 0 = List.replicate 64 0 ∧ t.keyBytes p 1 = List.replicate 64 0 ∧ (t.prt p).kem = none ∧ t.validRegions p = [] ∧
  (∀ q k : Nat, k < 2 → q ≠ p.val → t.keyBytes q k = s.keyBytes q k) ∧ t.mem = s.mem ∧ t.out = s.out ∧ t.lathe = s.lathe ∧ t.rd (GLB_PART_STAT.TD_STEP p) = 5

/-- Reports, KEM requests, key deliveries, owner changes and aborted requests. (R381, R382, R383, R384, R386, R408, 13_partitions_security.md)
A report is made with the next sequence number, and becomes the DOE response of the function or the value of the requester's entry. A KEM request answers the partition's encapsulation key; while it has none, open bytes (log 1). A delivery outside KEY_WAIT and READY answers 1, for another build 6, with a key that does not unwrap 3, and else the result of the load; the state but the response is then as before. An owner change is refused with 1 after the fourth, with 2 by its signature, and else programs the digest. A DOE abort discards the response and nothing else. -/
def Obligations.AttestationKeysAndOwners : Prop :=
  (∀ (f : Func) (nonce : List Byte) (s : State), ∃ t, exec (.attestationRequest (.doe f) nonce) s = .next t ∧ t.dict.reportSeq = s.dict.reportSeq + 1 ∧
      t = ({ s with dict := { s.dict with reportSeq := s.dict.reportSeq + 1 } } : State).doePut (reqCode (.doe f)) (s.reportBytes (reqCode (.doe f)) (s.dict.reportSeq + 1) nonce)) ∧
  (∀ (rq : ReqPath) (nonce : List Byte) (s : State), (rq = .mirror ∨ ∃ m v, rq = .field m v) → exec (.attestationRequest rq nonce) s = .next { s with dict := { s.dict with
      reportSeq := s.dict.reportSeq + 1, reports := Cells.set none s.dict.reports (reqCode rq) (some (s.reportBytes (reporterOf (reqCode rq)) (s.dict.reportSeq + 1) nonce)) } }) ∧
  (∀ (p : Part) (nonce : List Byte) (s : State), (∀ seed, (s.prt p).kem = some seed →
        exec (.kemRequest p nonce) s = .next (s.doePut (1 + p) (s.kemObject p nonce (Config.kemEk seed)))) ∧
      ((s.prt p).kem = none → exec (.kemRequest p nonce) s = .next ((s.doePut (1 + p) (s.kemObject p nonce (s.freeBytes 1568))).drewMany 1568))) ∧
  (∀ (p : Part) (k : Fin 2) (rot : Bool) (b : Word) (ct w : List Byte) (s : State),
      exec (.keyDelivery p k rot b ct w) s = .next ((s.keyDelivered p k rot b.toNat ct w).1.doePut (1 + p) (leBytes 4 (s.keyDelivered p k rot b.toNat ct w).2))) ∧
  (∀ (p k b : Nat) (rot : Bool) (ct w : List Byte) (s : State), let st := s.rd (GLB_PART_STAT.STATE p)
      (st ≠ 2 → st ≠ 3 → s.keyDelivered p k rot b ct w = (s, 1)) ∧
      ((st = 2 ∨ st = 3) → b ≠ (s.prt p).buildId → s.keyDelivered p k rot b ct w = (s, 6))) ∧
  (∀ (d g : List Byte) (s : State), (4 ≤ s.ownerGen → exec (.ownerChange d g) s = .next { s with boot := { s.boot with ownerResult := 1 } }) ∧
      (s.ownerGen < 4 → s.ownerGen ≠ 0 → s.ownerSigned ['N', 'Z', '-', 'O', 'W'] (s.ownerNow ++ fitTo 64 d ++ leBytes 8 s.deviceId) g = false →
        exec (.ownerChange d g) s = .next { s with boot := { s.boot with ownerResult := 2 } }) ∧
      (s.ownerGen < 4 → (s.ownerGen = 0 ∨ s.ownerSigned ['N', 'Z', '-', 'O', 'W'] (s.ownerNow ++ fitTo 64 d ++ leBytes 8 s.deviceId) g = true) →
        let s1 := s.otpProgram (0x80 + 64 * s.ownerGen) (fitTo 64 d)
        exec (.ownerChange d g) s = .next { s1 with boot := { s1.boot with ownerResult := 0 } })) ∧
  (∀ (f : Func) (s : State), ∃ t, exec (.doeAbort f) s = .next t ∧ Cells.get none t.dict.doe (reqCode (.doe f)) = none ∧
      (∀ k, k ≠ reqCode (.doe f) → Cells.get none t.dict.doe k = Cells.get none s.dict.doe k) ∧ t = { s with dict := { s.dict with doe := t.dict.doe } })

/-- Debug sessions are counted before they serve; a way is served when its partition is stopped or there is none. (R387, R388, R389, 13_partitions_security.md)
OPEN of a closed session counts it, or, when its FRAM write fails, only flags that; of an open one it does nothing. CLOSE, and the time-out, close the session and forget the partitions touched. An access counts once per session for a partition, is refused when the count cannot be written, and reaches the way's word; a way whose partition has a Lathe that is not STOPPED is not served: a write does nothing, a read answers 0. -/
def Obligations.DebugSessions : Prop :=
  (∀ (ok : Bool) (s : State), (s.flag GLB_DBG_STAT.OPEN = true → exec (.debugOpen ok) s = .next s) ∧
      (s.flag GLB_DBG_STAT.OPEN = false → exec (.debugOpen false) s = .next (s.wr GLB_SEC_STAT.DBG_FRAM_FAIL 1) ∧
        exec (.debugOpen true) s = .next ((s.wr GLB_DBG_STAT.OPEN 1).wr GLB_DBG_COUNT.SESSIONS (s.rd GLB_DBG_COUNT.SESSIONS + 1)))) ∧
  (∀ s : State, exec .debugSessionTimeout s = exec .debugClose s ∧ ∃ t, exec .debugClose s = .next t ∧ t.flag GLB_DBG_STAT.OPEN = false ∧
      (∀ p, p < 8 → t.prt p = { s.prt p with touched := false }) ∧ t = { s with regs := t.regs, part := t.part } ∧
      ∀ f : Fld, f.key ≠ GLB_DBG_STAT.OPEN.key → t.rd f = s.rd f) ∧
  (∀ (p : Nat) (ok : Bool) (s : State), (s.flag GLB_DBG_STAT.OPEN = true → (s.prt p).touched = true → s.debugAccess p ok = (s, true)) ∧
      (s.flag GLB_DBG_STAT.OPEN = false ∨ (s.prt p).touched = false →
        s.debugAccess p false = (s.wr GLB_SEC_STAT.DBG_FRAM_FAIL 1, false) ∧ (s.debugAccess p true).2 = true ∧
        (((s.debugAccess p true).1.prt p).dbgPart = (s.prt p).dbgPart + 1) ∧ (s.debugAccess p true).1.flag GLB_DBG_STAT.OPEN = true)) ∧
  (∀ (ok : Bool) (s : State), let a := s.rd GLB_DBG_WAY_ADDR.ADDR
      let off := a % 2 ^ 22 / 4 * 4
      (s.wayPart (a / 2 ^ 22) = none → (∀ v, exec (.dbgWayDataAccess (some v) ok) s = .next (s.wayWrite (a / 2 ^ 22) off (leBytes 4 v.toNat)).1) ∧
        ((s.wayRead (a / 2 ^ 22) off 4).2.1 = true → exec (.dbgWayDataAccess none ok) s =
          .next ((s.wayRead (a / 2 ^ 22) off 4).1.send (.readData (s.wayRead (a / 2 ^ 22) off 4).2.2)))) ∧
      (∀ p, s.wayPart (a / 2 ^ 22) = some p → (s.lathesOf p).all (fun n => s.seq n = 7) = false →
        exec (.dbgWayDataAccess none ok) s = .next (s.send (.readData (leBytes 4 0))) ∧ (∀ v, exec (.dbgWayDataAccess (some v) ok) s = .next s)) ∧
      (∀ p v, s.wayPart (a / 2 ^ 22) = some p → (s.lathesOf p).all (fun n => s.seq n = 7) = true → exec (.dbgWayDataAccess (some v) ok) s =
        .next (if (s.debugAccess p ok).2 then ((s.debugAccess p ok).1.wayWrite (a / 2 ^ 22) off (leBytes 4 v.toNat)).1 else (s.debugAccess p ok).1)))

/-- Which dictionary requests are served, and the status of those that are not. (R398, R399, R403, R405, 14_object_dictionary.md)
DICT_READ, DICT_WRITE and DICT_DESCRIBE run the request that the PDU on the path spells, when its OP is theirs. In READY an unknown OP has status 11, an unknown entry 1, an entry without access 2; a READ of a WO entry 4, a WRITE of an RO entry 3; a scalar READ answers the entry's value and changes nothing, a scalar WRITE in range puts the value and one out of range has status 6. In ROM and the manufacturing test there is no response. Nothing changes where a request is refused. -/
def Obligations.DictionaryRequests : Prop :=
  (∀ (path : DictPath) (pdu : List Byte) (env : DictEnv) (s : State), let b := s.pduOn path pdu
      let op := hdrNum b 1 1
      (op ≠ 2 → op ≠ 5 → op ≠ 6 → exec (.dictRead path pdu env) s = .next (s.dictRequest path b env)) ∧ (op = 2 ∨ op = 6 → exec (.dictRead path pdu env) s = .next s) ∧
      (op = 2 → exec (.dictWrite path pdu env) s = .next (s.dictRequest path b env)) ∧ (op ≠ 2 → exec (.dictWrite path pdu env) s = .next s) ∧
      (op = 6 → exec (.dictDescribe path pdu env) s = .next (s.dictRequest path b env)) ∧ (op ≠ 6 → exec (.dictDescribe path pdu env) s = .next s)) ∧
  (∀ (pdu : List Byte) (env : DictEnv) (s : State), let r := s.dictServe env 0 .op false (dictReq pdu)
      (s.flag MBX_DICT_STAT.BUSY = false → s.dictRequest .mirror pdu env = s) ∧ (s.flag MBX_DICT_STAT.BUSY = true → r.2.status ≠ stNone →
        (s.dictRequest .mirror pdu env).dict.mirrorResp = r.1.dictResp .op false (dictReq pdu) r.2 ∧
        (s.dictRequest .mirror pdu env).flag MBX_DICT_STAT.BUSY = false ∧ (s.dictRequest .mirror pdu env).flag MBX_DICT_STAT.DONE = true)) ∧
  (∀ (fn : Func) (pdu : List Byte) (env : DictEnv) (s : State), let role : DictRole := match fn with | .pf0 => .op | .vf p => .tenant p
      let r := s.dictServe env (reqCode (.doe fn)) role true (dictReq pdu)
      r.2.status ≠ stNone → s.dictRequest (.doe fn) pdu env = r.1.doePut (reqCode (.doe fn)) (r.1.dictResp role false (dictReq pdu) r.2)) ∧
  (∀ (env : DictEnv) (rq : Nat) (role : DictRole) (doe : Bool) (q : DictReq) (s : State),
      (s.run = 0 ∨ s.run = 6 → s.dictServe env rq role doe q = (s, ⟨stNone, true, []⟩)) ∧
      (s.run = 3 → isDictOp q = false → s.dictServe env rq role doe q = (s, ⟨11, true, []⟩)) ∧
      (s.run = 3 → isDictOp q = true → dictEntry env rq role.part s q.idx q.sub = none → s.dictServe env rq role doe q = (s, ⟨1, true, []⟩))) ∧
  (∀ (env : DictEnv) (rq : Nat) (role : DictRole) (doe : Bool) (q : DictReq) (e : Ent) (s : State), s.run = 3 → isDictOp q = true →
      dictEntry env rq role.part s q.idx q.sub = some e →
      (e.access role = 0 → s.dictServe env rq role doe q = (s, ⟨2, true, []⟩)) ∧
      (q.op = 1 → e.access role = 2 → s.dictServe env rq role doe q = (s, ⟨4, true, []⟩)) ∧
      (q.op = 2 → e.access role = 1 → s.dictServe env rq role doe q = (s, ⟨3, true, []⟩)) ∧
      (∀ v, q.op = 1 → (e.access role = 1 ∨ e.access role = 3) → e.typ ≠ 11 → q.off = 0 → e.size ≤ q.len → e.get s = some v →
        s.dictServe env rq role doe q = (s, ⟨stOk, true, v⟩)) ∧
      (q.op = 2 → 2 ≤ e.access role → e.typ ≠ 11 → q.off = 0 → q.len = e.size → q.len ≤ 1024 → q.len ≤ q.data.length → q.last = true →
        let v := q.data.take q.len
        (e.lo ≤ leVal v → leVal v ≤ e.hi → s.dictServe env rq role doe q = ((e.put s v).1, ⟨(e.put s v).2, true, []⟩)) ∧
        (leVal v < e.lo ∨ e.hi < leVal v → s.dictServe env rq role doe q = (s, ⟨stRange, true, []⟩))))

/-- Snapshots and stagings expire; beacons out and in; partners, PLCA, the mirror and LOCATE#. (R394, R406, R407, R409, R410, R411, R413, R422, R509)
SNAPSHOT_EXPIRE and STAGING_EXPIRE drop exactly the requester's for the entry. BEACON_TX sends one frame and counts it, or, when told to skip, sends none. A bad frame is counted and has no other effect; a good beacon without TAG puts its sender's node here, and one of the own node by another device is a conflict with its interrupt line. A lost partner is no longer here. GO of the mirror sets BUSY, or CFG_BUSY_WR while BUSY. A PLCA beacon matters to a follower alone; LOCATE# is the level sampled. -/
def Obligations.FieldNetworkAndMirror : Prop :=
  (∀ (rq : ReqPath) (idx : BitVec 16) (sub : Byte) (s : State), let k := 256 * idx.toNat + sub.toNat
      (∃ t, exec (.snapshotExpire rq idx sub) s = .next t ∧ t.snapOf (reqCode rq) k = none ∧
        (∀ r j, ¬ (r = reqCode rq ∧ j = k) → t.snapOf r j = s.snapOf r j) ∧ t = { s with dict := { s.dict with snaps := t.dict.snaps } }) ∧
      (∃ t, exec (.stagingExpire rq idx sub) s = .next t ∧ t.stagedOf (reqCode rq) k = none ∧
        (∀ r j, ¬ (r = reqCode rq ∧ j = k) → t.stagedOf r j = s.stagedOf r j) ∧ t = { s with dict := { s.dict with stagings := t.dict.stagings } })) ∧
  (∀ s : State, (s.onField = false ∨ s.dict.conflict = true → exec .beaconTx s = .next s) ∧
      (s.onField = true → s.dict.conflict = false → s.dict.skip ≠ 0 → ∃ t, exec .beaconTx s = .next t ∧ t.out = s.out ∧ t.dict.skip + 1 = s.dict.skip ∧
        t.dict.beaconSeq = s.dict.beaconSeq ∧ t = { s with dict := t.dict }) ∧
      (s.onField = true → s.dict.conflict = false → s.dict.skip = 0 → exec .beaconTx s = .next { s with
        out := s.out ++ [.frame macAll (if s.fram.opKey.isEmpty then s.beaconPdu else s.beaconPdu ++ dictTag s.fram.opKey macAll s.ownMac s.beaconPdu)],
        dict := { s.dict with beaconSeq := s.dict.beaconSeq + 1, framesOut := s.dict.framesOut + 1 } })) ∧
  (∀ (src : BitVec 48) (pdu : List Byte) (s : State), (∀ good, s.onField = false → exec (.beaconRx src good pdu) s = .next s) ∧
      (s.onField = true → exec (.beaconRx src false pdu) s = .next { s with dict := { s.dict with badFrame := s.dict.badFrame + 1 } }) ∧
      (s.onField = true → beaconOk pdu = false → exec (.beaconRx src true pdu) s = .next { s with dict := { s.dict with framesIn := s.dict.framesIn + 1 } }) ∧
      (s.onField = true → beaconOk pdu = true → bit (hdrNum pdu 3 1) 1 = false → ∃ t, exec (.beaconRx src true pdu) s = .next t ∧
        let k := hdrNum pdu 0x21 1 % 32
        (t.partner k).here = true ∧ (t.partner k).device = hdrNum pdu 0x28 8 ∧ (t.partner k).mac = src.toNat ∧ t.dict.framesIn = s.dict.framesIn + 1 ∧
        (∀ j, j ≠ k → t.partner j = s.partner j) ∧ (k = s.nodeId → hdrNum pdu 0x28 8 ≠ s.deviceId → t.dict.conflict = true ∧ Cells.get false t.host.line 11 = true) ∧
        (k ≠ s.nodeId → t.dict.conflict = s.dict.conflict ∧ t.host = s.host) ∧ t = { s with dict := t.dict, host := { s.host with line := t.host.line } })) ∧
  (∀ (k : Fin 32) (s : State), ((s.partner k).here = false → exec (.partnerLost k) s = .next s) ∧
      ((s.partner k).here = true → ∃ t, exec (.partnerLost k) s = .next t ∧ (t.partner k).here = false ∧ (∀ j, j ≠ k.val → t.partner j = s.partner j) ∧
        t = { s with dict := t.dict })) ∧
  (∀ s : State, (s.flag MBX_DICT_STAT.BUSY = true → exec .mirrorGo s = .next (s.wr MBX_DICT_STAT.CFG_BUSY_WR 1)) ∧
      (s.flag MBX_DICT_STAT.BUSY = false → exec .mirrorGo s = .next (s.wr MBX_DICT_STAT.BUSY 1))) ∧
  (∀ s : State, (s.onField = true → s.nodeId ≠ 0 → exec .plcaBeaconHeard s = .next { s with dict := { s.dict with plca := true } }) ∧
      (s.onField = false ∨ s.nodeId = 0 → exec .plcaBeaconHeard s = .next s) ∧
      (s.nodeId ≠ 0 → exec .plcaBeaconLost s = .next { s with dict := { s.dict with plca := false } }) ∧ (s.nodeId = 0 → exec .plcaBeaconLost s = .next s)) ∧
  (∀ (low : Bool) (s : State), exec (.locatePinChange low) s = .next { s with boot := { s.boot with locate := low } })

/-- Writing a settings generation, locking updates, and the restore commands of a partition. (R418, R420, R455, R500, R501, 15_lifecycle_update.md)
A settings write outside READY and the phases before it does nothing; with four generations used its result is 1, with too many bytes 2, with an item that may not be persisted 3 and its number, with the store not charged 4; else it programs OTP alone and, when the read-back matches, marks the generation valid. An update lock needs an owner, a higher LOCK_SEQ and the owner's signature, else its result is 1, 2 or 3 and nothing else changes. The restore commands go armed, pulling, committed, each from the state it needs, or do nothing; an abort drops the marker and tears the partition down. -/
def Obligations.SettingsLockAndRestores : Prop :=
  (∀ (readOk : Bool) (s : State), let done (r item : Nat) : State := { s with boot := { s.boot with setResult := r, setItem := item } }
      let items := s.persistItems
      let body := items.flatMap (fun x => match persistEnt x.2.1 x.2.2 with | some e => settingsBytes x.2.1 x.2.2 e.size (s.persistGet e) | none => [])
      (s.run = 0 ∨ 4 ≤ s.run → exec (.settingsWrite readOk) s = .next s) ∧
      (s.run = 3 → 4 ≤ s.settingsUsed → exec (.settingsWrite readOk) s = .next (done 1 0)) ∧
      (s.run = 3 → s.settingsUsed < 4 → 236 < body.length → exec (.settingsWrite readOk) s = .next (done 2 0)) ∧
      (∀ x, s.run = 3 → s.settingsUsed < 4 → body.length ≤ 236 → items.find? (fun x => (persistEnt x.2.1 x.2.2).isNone) = some x →
        exec (.settingsWrite readOk) s = .next (done 3 x.1)) ∧
      (s.run = 3 → s.settingsUsed < 4 → body.length ≤ 236 → items.find? (fun x => (persistEnt x.2.1 x.2.2).isNone) = none →
        (s.holdupOk = false → exec (.settingsWrite readOk) s = .next (done 4 0)) ∧
        (s.holdupOk = true → bit s.dict.inj 2 = false → ∃ t, exec (.settingsWrite readOk) s = .next t ∧ t.boot.setResult = (if readOk then 0 else 5) ∧
          (readOk = true → Cells.get 0 t.boot.otp (0x1C00 + s.settingsUsed * 0x100 + 0xFF) = Cells.get 0 s.boot.otp (0x1C00 + s.settingsUsed * 0x100 + 0xFF) ||| 0xA5) ∧
          t = { s with boot := { s.boot with otp := t.boot.otp, setResult := t.boot.setResult, setItem := 0 } }))) ∧
  (∀ (lock : Bool) (seq : Word) (sig : List Byte) (s : State), let done (r : Nat) : State := { s with boot := { s.boot with lockResult := r } }
      let signed := s.ownerSigned ['N', 'Z', '-', 'U', 'L'] (leBytes 8 s.deviceId ++ leBytes 1 (b2n lock) ++ leBytes 4 seq.toNat) sig
      (s.ownerGen = 0 → exec (.updateLock lock seq sig) s = .next (done 1)) ∧
      (s.ownerGen ≠ 0 → seq.toNat ≤ s.fram.lockSeq → exec (.updateLock lock seq sig) s = .next (done 2)) ∧
      (s.ownerGen ≠ 0 → s.fram.lockSeq < seq.toNat → signed = false → exec (.updateLock lock seq sig) s = .next (done 3)) ∧
      (s.ownerGen ≠ 0 → s.fram.lockSeq < seq.toNat → signed = true → ∃ t, exec (.updateLock lock seq sig) s = .next t ∧ t.fram.lock = lock ∧
        t.fram.lockSeq = seq.toNat ∧ t.fram.opKey = s.fram.opKey ∧ t.fram.svcKey = s.fram.svcKey ∧ t.boot.lockResult = 0 ∧
        t = { s with boot := { s.boot with fram := t.boot.fram, lockResult := 0 } })) ∧
  (∀ (p : Part) (s : State), (s.rd (GLB_PART_STAT.STATE p) = 3 → (s.prt p).bKeySrc = 1 → s.rd (PLT_PSTAT.STATE p) = 0 → s.restoring p = false →
        ∃ t, exec (.restoreArm p) s = .next t ∧ (t.prt p).restore = 1 ∧ (t.prt p).cause = 0 ∧ Cells.get none t.boot.markers p = some ((s.prt p).buildId, false) ∧
          t = { s with boot := { s.boot with markers := t.boot.markers }, part := t.part }) ∧
      ((s.rd (GLB_PART_STAT.STATE p) ≠ 3 ∨ (s.prt p).bKeySrc ≠ 1 ∨ s.restoring p = true) → exec (.restoreArm p) s = .next s) ∧
      ((s.prt p).restore = 1 → s.flag (FAB_CK_CTRL.START p) = false → let s1 := (s.setPrt p { s.prt p with restore := 2 }).wr (FAB_CK_CTRL.DIR p) 1
        exec (.restoreStart p) s = .next (s1.ckStart p (s.rd (FAB_CK_CTRL.COUNT p)) (s.rd (FAB_CK_CTRL.PEER p)) true (s.flag (FAB_CK_CTRL.QUIESCE p)))) ∧
      ((s.prt p).restore ≠ 1 → exec (.restoreStart p) s = .next s) ∧
      ((s.prt p).restore = 3 → ∃ t, exec (.restoreCommit p) s = .next t ∧ (t.prt p).restore = 4 ∧ Cells.get none t.boot.markers p = some ((s.prt p).buildId, true) ∧
          t = { s with boot := { s.boot with markers := t.boot.markers }, part := t.part }) ∧
      ((s.prt p).restore ≠ 3 → exec (.restoreCommit p) s = .next s)) ∧
  (∀ (p : Part) (s : State), s.restoring p = true → s.tearing p = false → ∃ t, exec (.restoreAbort p true) s = .next t ∧ (t.prt p).restore = 5 ∧
        Cells.get none t.boot.markers p = none ∧ t.tearing p = true ∧ (t.prt p).tdZero = true ∧ t.flag ERR_STAT.RESTORE_ABORTED = true ∧ t.mem = s.mem) ∧
  (∀ (p : Part) (cmd : Bool) (s : State), s.restoring p = false → exec (.restoreAbort p cmd) s = .next s)

/-- Resets, what they keep, the ways into start-up, and a module that stays dead. (R425, R426, R429, R431, R435, R445, R454, R459, R462, R472, R474, 15_lifecycle_update.md)
Every module reset of a module that is not DEAD is the reset of the blocks and a start with its cause; before one that firmware or GLB_RST starts the lifetime store commits. A reset keeps OTP, FRAM, the saved state of the Tandem and the fall-back count, and loses memory; after a power-on reset RUN is ROM's until the start. A DEAD module stays as it is. A start that cannot read OTP ends in DEAD with cause 5. An input loss removes the compute and I/O rails. Compute rails rise in start-up with an owner and coolant in range; a rail that does not come up, or a self-test that fails, ends the start. -/
def Obligations.ResetsAndStartUp : Prop :=
  (∀ (u : StartUp) (s : State), s.run = 7 → (∀ c, exec (.moduleReset c u) s = .next s) ∧ exec (.glbRst 0x4E5A5253 u) s = .next s ∧
      exec (.svcWatchdogExpiry u) s = .next s ∧ exec (.updateCmdReset u) s = .next s) ∧
  (∀ (u : StartUp) (s : State), s.run ≠ 7 → exec (.svcWatchdogExpiry u) s = .next (s.resetBlocks.markersReport.startAgain 3 false u) ∧
      exec (.glbRst 0x4E5A5253 u) s = .next (s.lifeCommit.resetBlocks.markersReport.startAgain 1 false u) ∧
      (∀ c : Fin 6, c ≠ 2 → exec (.moduleReset c u) s = .next (s.lifeCommit.resetBlocks.markersReport.startAgain (1 + c) false u)) ∧
      exec (.moduleReset 2 u) s = exec (.svcWatchdogExpiry u) s ∧
      exec (.updateCmdReset u) s = .next (((s.wr THM_STAT.NO_RESTART 0).wr GLB_UPD.LAST_RESULT 0).lifeCommit.resetBlocks.markersReport.startAgain 2 false u)) ∧
  (∀ (key : Word) (u : StartUp) (s : State), key ≠ 0x4E5A5253 → exec (.glbRst key u) s = .next (s.wr GLB_LIFE.RST_BAD 1)) ∧
  (∀ (u : StartUp) (s : State), (s.inTrial = false → exec (.trialFailure u) s = .next s) ∧
      (s.inTrial = true → exec (.trialFailure u) s = .next (s.lifeCommit.moduleReset 5 u))) ∧
  (∀ (u : StartUp) (s : State), exec (.powerOnReset u) s = .next (({ s.framKept with boot := { s.framKept.boot with fresh := true } }).markersReport.startAgain 0 true u)) ∧
  (∀ s : State, s.framKept.run = 0 ∧ s.framKept.boot.otp = s.boot.otp ∧ s.framKept.boot.fram = s.boot.fram ∧ s.framKept.tdm = { saved := s.tdm.saved } ∧
      s.framKept.mem = { spare := s.mem.spare } ∧ s.framKept.keys = {} ∧ s.framKept.aon = [] ∧ s.framKept.out = s.out ∧
      s.framKept.rd GLB_FALLBACKS.COUNT = s.rd GLB_FALLBACKS.COUNT % 2 ^ GLB_FALLBACKS.COUNT.width ∧
      s.resetBlocks.boot.otp = s.boot.otp ∧ s.resetBlocks.boot.fram = s.boot.fram ∧ s.resetBlocks.aon = s.aon ∧ s.resetBlocks.tdm = s.tdm ∧
      s.resetBlocks.thm = s.thm ∧ s.resetBlocks.mem = { spare := s.mem.spare } ∧ s.resetBlocks.lathe = [] ∧ s.resetBlocks.out = s.out) ∧
  (∀ (cause : Nat) (cold : Bool) (u : StartUp) (s : State), u.otpOk = false → (s.start cause cold u).1.run = 7 ∧ (s.start cause cold u).2 = false ∧
      (s.start cause cold u).1.rd GLB_LIFE.DEAD_CAUSE = 5 ∧ (s.start cause cold u).1.flag PCI_LINK.UP = false ∧ (s.start cause cold u).1.mem.port = s.mem.port) ∧
  (∀ s : State, ∃ t, exec .inputLoss s = .next t ∧ t.boot.inputGone = true ∧ t.flag PWR_STAT.INPUT_LOST = true ∧ t.flag PWR_STAT.HOLDUP_OK = false ∧
      t.flag PWR_STAT.GROUP_C = false ∧ t.flag PWR_STAT.GROUP_I = false ∧ t.rd PWR_STAT.LOSSES = min 65535 (s.rd PWR_STAT.LOSSES + 1) ∧ t.lathe = [] ∧
      t.mem.lsram = [] ∧ t.mem.way = [] ∧ t.boot.otp = s.boot.otp ∧ t.out = s.out) ∧
  (∀ (u : StartUp) (s : State), (s.boot.inputGone = false → exec (.inputReturn u) s = .next s) ∧ (s.boot.inputGone = true → exec (.inputReturn u) s =
      .next { s.moduleReset 1 u with boot := { (s.moduleReset 1 u).boot with inputGone := false } })) ∧
  (∀ (u : StartUp) (s : State), let due := s.flag THM_STAT.TRIPPED && s.flagEff THM_CFG.AUTO_RESTART && !s.flag THM_STAT.NO_RESTART && s.safeAgain
      (due = true → exec (.autoRestart u) s = .next (s.lifeCommit.moduleReset 1 u)) ∧ (due = false → exec (.autoRestart u) s = .next s)) ∧
  (∀ (inlet outlet : BitVec 12) (flow : Fin 512) (u : StartUp) (s : State), let s1 := (s.wr THM_MODULE.VALVE 100).coolant inlet outlet flow
      let s2 := (s1.wr THM_STAT.NO_FLOW_START 0).computeUp
      (s.run ≠ 1 ∨ s.owned = false ∨ s.flag PWR_STAT.GROUP_C = true → exec (.raiseComputeRails inlet outlet flow u) s = .next s) ∧
      (s.run = 1 → s.owned = true → s.flag PWR_STAT.GROUP_C = false →
        (flow.val < 100 ∨ inlet.toNat < 120 ∨ 360 < inlet.toNat → exec (.raiseComputeRails inlet outlet flow u) s = .next (s1.wr THM_STAT.NO_FLOW_START 1)) ∧
        (100 ≤ flow.val → 120 ≤ inlet.toNat → inlet.toNat ≤ 360 → u.testOk = true → s2.flag KEY_ERR_STAT.KAT_FAIL = false →
          exec (.raiseComputeRails inlet outlet flow u) s = .next (s2.phase7 u.qualified.toNat)) ∧
        (100 ≤ flow.val → 120 ≤ inlet.toNat → inlet.toNat ≤ 360 → u.testOk = false →
          exec (.raiseComputeRails inlet outlet flow u) s = .next (s2.selfTestFailed u)))) ∧
  (∀ (rail : Fin 17) (u : StartUp) (s : State), let s1 := (s.wr PWR_STAT.RAIL_FAIL 1).wr PWR_STAT.RAIL rail
      (s.run ≠ 1 ∨ rail.val < 4 → exec (.railPgoodTimeout rail u) s = .next s) ∧
      (s.run = 1 → 4 ≤ rail.val → rail.val < 11 → exec (.railPgoodTimeout rail u) s = .next ((s1.railsOff railsI).selfTestFailed u)) ∧
      (s.run = 1 → 11 ≤ rail.val → s.flag PWR_STAT.GROUP_I = true → exec (.railPgoodTimeout rail u) s = .next ((s1.railsOff railsC).selfTestFailed u)))

/-- Requests of an update, from the header of a component to the confirmation of a bank. (R438, R439, R440, R441, R442, R443, R446, R451, 15_lifecycle_update.md)
Outside READY, MAINT and recovery a request does nothing. Where R439 names a reason every request has it as its result. A header that passes opens a session for its component; the erase makes it receive blocks; a block in place is programmed and counted, and a failed read-back ends the session; a finished or copied component is staged. An abort ends the session. Activation with every partition FREE puts the staged bank in TRIAL and resets; the command, or the hours, confirm a bank in TRIAL. The time-out ends a session. -/
def Obligations.UpdateSessions : Prop :=
  (∀ (rq : ReqPath) (h v : List Byte) (ok : Bool) (id : Fin 16) (u : StartUp) (s : State), s.updServed = false → exec (.updateHeader rq h) s = .next s ∧
      exec (.updateBlock rq v ok) s = .next s ∧ exec .updateConfirm s = .next s ∧ exec (.updateActivate rq ok u) s = .next s ∧
      exec (.updateFinish rq u) s = .next s ∧ exec (.updateSkip rq id) s = .next s ∧ exec .updateAbort s = .next s) ∧
  (∀ (rq : ReqPath) (h v : List Byte) (ok : Bool) (id : Fin 16) (u : StartUp) (r : Nat) (s : State), s.updServed = true → s.updGate = some r →
      let t := s.wr GLB_UPD.LAST_RESULT r
      exec (.updateHeader rq h) s = .next t ∧ exec (.updateBlock rq v ok) s = .next t ∧ exec (.updateFinish rq u) s = .next t ∧
      exec (.updateSkip rq id) s = .next t ∧ exec .updateAbort s = .next t) ∧
  (∀ (rq : ReqPath) (header : List Byte) (s : State), let h := fitTo 16384 header
      let id := hdrNum h 5 1
      s.updServed = true → s.updGate = none → s.updBusy (reqCode rq) = false → s.updTrial = false → headerOk h id = true → s.boot.session = none →
      s.updOrder id = true → s.vendorOk h = true → s.ownerOk h = true → s.compatible h (s.area s.stagingBank 1).header id = true →
      s.svnFloor ≤ hdrNum h 6 1 → ∃ t, exec (.updateHeader rq header) s = .next t ∧ t.rd GLB_UPD.SESSION = 1 ∧ t.rd GLB_UPD.COMPONENT = id ∧
        t.rd GLB_UPD.PAGES = 0 ∧ t.rd GLB_UPD.LAST_RESULT = 0 ∧ t.boot.session = some ⟨reqCode rq, id⟩ ∧ t.area s.stagingBank id = { header := h } ∧
        t = { s with regs := t.regs, boot := t.boot } ∧ t.boot.otp = s.boot.otp) ∧
  (∀ s : State, (s.rd GLB_UPD.SESSION = 1 → exec .updateEraseDone s = .next (s.wr GLB_UPD.SESSION 2)) ∧
      (s.rd GLB_UPD.SESSION ≠ 1 → exec .updateEraseDone s = .next s)) ∧
  (∀ (rq : ReqPath) (value : List Byte) (x : UpdSession) (s : State), s.updServed = true → s.updMine (reqCode rq) = .inr x →
      let a := s.area s.stagingBank x.comp
      let off := leVal (value.take 4)
      let data := value.drop 8
      let a1 : FwArea := { a with pages := (blockPages off data).foldl (fun m p => Cells.set [] m p.1 p.2) a.pages }
      off % 4096 = 0 → 4096 ≤ data.length → data.length ≤ 65536 → off + data.length ≤ hdrNum a.header 0x10 4 → data.length % 4096 = 0 →
      crc32 data = leVal ((value.drop 4).take 4) → (blockPages off data).all (fun p => !a.has p.1) = true →
      let s1 := (s.setArea s.stagingBank x.comp a1).wr GLB_UPD.PAGES a1.pages.length
      exec (.updateBlock rq value true) s = .next (s1.wr GLB_UPD.LAST_RESULT 0) ∧ (s.run ≠ 5 → exec (.updateBlock rq value false) s =
        .next ((s1.sessionEnd []).wr GLB_UPD.LAST_RESULT 0x11))) ∧
  (∀ (rq : ReqPath) (x : UpdSession) (u : StartUp) (s : State), s.updServed = true → s.updMine (reqCode rq) = .inr x →
      let a := s.area s.stagingBank x.comp
      (a.complete = false → exec (.updateFinish rq u) s = .next (s.wr GLB_UPD.LAST_RESULT 0x0F)) ∧
      (a.complete = true → s.signaturesOk a = false → exec (.updateFinish rq u) s = .next (s.wr GLB_UPD.LAST_RESULT 0x10)) ∧
      (a.complete = true → s.signaturesOk a = true → s.run ≠ 5 → exec (.updateFinish rq u) s = .next ((s.stageComponent x.comp).wr GLB_UPD.LAST_RESULT 0))) ∧
  (∀ (rq : ReqPath) (id : Fin 16) (s : State), let h := (s.area s.target id).header
      s.run = 3 → s.updGate = none → s.updTrial = false → s.boot.session = none → id.val = s.updNext →
      s.compatible h (if id.val = 1 then h else (s.area s.stagingBank 1).header) id = true → ∃ t, exec (.updateSkip rq id) s = .next t ∧
        t.rd GLB_UPD.SESSION = 4 ∧ t.rd GLB_UPD.COMPONENT = id.val ∧ t.boot.session = some ⟨reqCode rq, id⟩ ∧ t.rd GLB_UPD.LAST_RESULT = 0 ∧
        t = { s with regs := t.regs, boot := t.boot } ∧ t.boot.otp = s.boot.otp) ∧
  (∀ (readOk : Bool) (s : State), (s.boot.session = none ∨ s.rd GLB_UPD.SESSION ≠ 4 → exec (.updateSkipDone readOk) s = .next s) ∧
      (∀ x, s.boot.session = some x → s.rd GLB_UPD.SESSION = 4 →
        exec (.updateSkipDone true) s = .next ((s.setArea s.stagingBank x.comp (s.area s.target x.comp)).stageComponent x.comp))) ∧
  (∀ s : State, s.updServed = true → s.updGate = none → (s.boot.session = none → exec .updateAbort s = .next (s.wr GLB_UPD.LAST_RESULT 0x0A)) ∧
      (∀ x, s.boot.session = some x → exec .updateAbort s = .next ((s.sessionEnd []).wr GLB_UPD.LAST_RESULT 0))) ∧
  (∀ s : State, (s.run = 3 → s.inTrial = true → exec .updateConfirm s = .next (s.confirm.wr GLB_UPD.LAST_RESULT 0)) ∧
      (s.updServed = true → s.run ≠ 3 ∨ s.inTrial = false → exec .updateConfirm s = .next (s.wr GLB_UPD.LAST_RESULT 7)) ∧
      (s.run = 3 → s.inTrial = true → s.fram.confirmHours ≠ 0 → exec .trialHoursConfirm s = .next s.confirm) ∧
      (s.run ≠ 3 ∨ s.inTrial = false ∨ s.fram.confirmHours = 0 → exec .trialHoursConfirm s = .next s)) ∧
  (∀ (rq : ReqPath) (u : StartUp) (s : State), s.run = 3 → s.updBusy (reqCode rq) = false → s.bankState s.stagingBank = 2 → s.updGate = none →
      (s.allFree = false → exec (.updateActivate rq true u) s = .next (s.wr GLB_UPD.LAST_RESULT 0x13)) ∧
      (s.allFree = true → let s1 := ((s.setBank s.stagingBank 3 s.stagingBank).trialZero).supervisorsApply s.stagingBank
        exec (.updateActivate rq true u) s = .next ((s1.wr GLB_UPD.LAST_RESULT 0).lifeCommit.moduleReset 4 u))) ∧
  (∀ s : State, (s.boot.session = none → exec .updateSessionTimeout s = .next s) ∧ (∀ x, s.boot.session = some x → ∃ t, exec .updateSessionTimeout s = .next t ∧
      t.boot = { s.boot with session := none, staged := [] } ∧ t.rd GLB_UPD.SESSION = 0 ∧ t.rd GLB_UPD.COMPONENT = 0 ∧ t.rd GLB_UPD.PAGES = 0 ∧
      t = { s with regs := t.regs, boot := t.boot }))

/-- Power and coolant components, the brake, flow stop, keep-warm, and how the levels follow them. (R460, R461, R464, R465, R466, R470, R473, R482, 16_power_cooling_tandem.md)
Above 650 W the power component rises by 1 to at most 15, below 620 W it falls by 1. The brake acts with or without an owner and ends below 620 W. The coolant component follows its row of Table 16.2. A flow stop opens the valve and acts without a supervisor, and ends at 1 L/min. Keep-warm moves the valve first. A commit takes the thresholds when the rules hold. After any change of a component the module level is the highest component or override, every Lathe's effective level the higher of its own and the module's, and keep-warm is 0 above level 0. -/
def Obligations.PowerCoolantAndLevels : Prop :=
  (∀ (v w : Fin 8192) (s : State), let s1 := (s.wr PWR_INPUT.VOLTS v).wr PWR_INPUT.WATTS w
      (s.owned = false → exec (.powerComponentStep v w) s = .next s1) ∧
      (s.owned = true → 6500 < w.val → exec (.powerComponentStep v w) s = .next (s1.wr THM_MODULE.POWER (min 15 (s.rd THM_MODULE.POWER + 1))).outputs) ∧
      (s.owned = true → w.val < 6200 → exec (.powerComponentStep v w) s = .next (s1.wr THM_MODULE.POWER (s.rd THM_MODULE.POWER - 1)).outputs) ∧
      (s.owned = true → 6200 ≤ w.val → w.val ≤ 6500 → exec (.powerComponentStep v w) s = .next s1.outputs)) ∧
  (∀ s : State, exec .brake s = .next (((s.wr PWR_INJ.BRAKE 0).wr PWR_STAT.BRAKE_HIT 1).wr THM_MODULE.BRAKE 1).outputs) ∧
  (∀ (w : Fin 8192) (s : State), (s.owned = true → w.val < 6200 → exec (.brakeRelease w) s = .next ((s.wr PWR_INPUT.WATTS w).wr THM_MODULE.BRAKE 0).outputs) ∧
      (s.owned = false ∨ 6200 ≤ w.val → exec (.brakeRelease w) s = .next (s.wr PWR_INPUT.WATTS w))) ∧
  (∀ (ok : Bool) (s : State), (∀ n, n < 16 → bit (s.rd ERR_LATHE.SUSPECT) n = false) →
      exec (.holdupCharged ok) s = .next ((s.wr PWR_STAT.HOLDUP_OK 1).wr PWR_INJ.HOLDUP 0)) ∧
  (∀ (inlet outlet : BitVec 12) (flow : Fin 512) (clear : Bool) (s : State), let s1 := s.coolant inlet outlet flow
      let row := max (flowRow flow) (max (deltaRow ((outlet.toNat : Int) - inlet.toNat)) (inletRow inlet.toNat))
      let cur := coolRow (s.rd THM_MODULE.COOL)
      let new := if cur ≤ row then row else if clear then cur - 1 else cur
      (s.owned = false → exec (.coolantComponentUpdate inlet outlet flow clear) s = .next s1) ∧
      (s.owned = true → s.rd THM_MODULE.VALVE = 100 → exec (.coolantComponentUpdate inlet outlet flow clear) s =
        .next ((s1.wr THM_MODULE.COOL (coolOf new)).wr THM_STAT.COOL_DERATE (b2n (new ≠ 0))).outputs)) ∧
  (∀ s : State, exec .flowStop s =
      .next (((((s.wr THM_INJ.FLOW 0).wr THM_STAT.FLOW_STOP 1).wr THM_MODULE.STOP 1).wr THM_MODULE.KW 0).wr THM_MODULE.VALVE 100).levels) ∧
  (∀ (flow : Fin 512) (s : State), (100 ≤ flow.val → exec (.flowStopEnd flow) s = .next ((s.wr THM_FLOW.FLOW flow).wr THM_MODULE.STOP 0).outputs) ∧
      (flow.val < 100 → exec (.flowStopEnd flow) s = .next (s.wr THM_FLOW.FLOW flow))) ∧
  (∀ s : State, (s.owned = false → exec .keepWarmTick s = .next s) ∧
      (s.owned = true → s.flagEff THM_CFG.KW_EN = false → exec .keepWarmTick s = .next ((s.wr THM_MODULE.KW 0).wr THM_MODULE.VALVE 100)) ∧
      (s.owned = true → s.flagEff THM_CFG.KW_EN = true → s.warmBlocked = false → s.coldest < 8 * (s.inEff THM_CFG.FLOOR : Int) →
        s.rd THM_MODULE.VALVE ≤ s.inEff THM_CFG.VALVE_MIN → exec .keepWarmTick s = .next (s.wr THM_MODULE.KW (min 8 (s.rd THM_MODULE.KW + 1)))) ∧
      (s.owned = true → s.flagEff THM_CFG.KW_EN = true → s.warmBlocked = false → 8 * ((s.inEff THM_CFG.FLOOR : Int) + 3) < s.coldest →
        0 < s.rd THM_MODULE.KW → exec .keepWarmTick s = .next (s.wr THM_MODULE.KW (s.rd THM_MODULE.KW - 1)))) ∧
  (∀ s : State, exec (.thmCommit false) s = .next s ∧ (∀ k, failingRule s.thmRules = some k →
        exec (.thmCommit true) s = .next ((s.wr THM_COMMIT.CFG_MISMATCH 1).wr THM_COMMIT.CFG_RULE k)) ∧
      (failingRule s.thmRules = none → exec (.thmCommit true) s =
        .next (s.applyShadows [THM_CFG.THROTTLE_C, THM_CFG.FLOOR, THM_CFG.KW_EN, THM_CFG.AUTO_RESTART, THM_CFG.VALVE_MIN]).showTemps)) ∧
  (∀ s : State, s.levels.rd THM_MODULE.LEVEL = s.moduleLevel % 16 ∧ (s.moduleLevel ≠ 0 → s.levels.rd THM_MODULE.KW = 0) ∧
      (∀ n, n < 16 → s.levels.rd (THM_LATHE.EFFECTIVE n) % 16 = max (s.rd (THM_LATHE.LEVEL n)) (s.moduleLevel % 16) % 16) ∧
      (∀ n, n < 16 → Cells.get 16 s.levels.thm.ceil n = ceilOf (max (s.rd (THM_LATHE.LEVEL n)) (s.moduleLevel % 16)) ∧
        Cells.get 8 s.levels.thm.duty n = dutyOf (max (s.rd (THM_LATHE.LEVEL n)) (s.moduleLevel % 16))) ∧
      s.levels.mem = s.mem ∧ s.levels.lathe = s.lathe ∧ s.levels.out = s.out ∧ s.levels.boot = s.boot)

/-- Samples of a pair, invalid sensors, level steps and the thermal trip. (R467, R468, R470, R471, R472, 16_power_cooling_tandem.md)
A pair both of whose samples are valid counts a lasting difference above 6 °C as a fault and is wide above 15 °C; with an invalid one the other rules. An invalid sensor raises its hub's alarm. A level rises by 1 to at most 15 above the limit, falls 3 °C below it, and else stays; only an owner steps it. A reading above 105 °C trips: the compute rails go and what they hold, a third trip in 24 hours sets NO_RESTART, and a tripped module does not trip again. -/
def Obligations.SensorsAndTrips : Prop :=
  (∀ (pair : Fin 24) (a b : BitVec 12) (lasted : Bool) (s : State), let i := pairsAll.getD pair 0
      let s2 := (s.sample i a.toNat).sample (i + 1) b.toNat
      let d := (s2.temp i - s2.temp (i + 1)).natAbs
      s.flag THM_INJ.PAIR = false →
      ((s2.sensorOk i && s2.sensorOk (i + 1)) = false → exec (.pairDifference pair a b lasted) s = .next s2.showTemps.outputs) ∧
      ((s2.sensorOk i && s2.sensorOk (i + 1)) = true → lasted = true → 48 < d → let s3 := { s2.wr THM_STAT.PAIR_FAULT 1 with thm := { s2.thm with
          faults := Cells.set 0 s2.thm.faults i (min 255 (Cells.get 0 s2.thm.faults i + 1)),
          wide := Cells.set false s2.thm.wide i (decide (120 < d) || Cells.get false s2.thm.wide i) } }
        exec (.pairDifference pair a b lasted) s = .next s3.showTemps.outputs) ∧
      ((s2.sensorOk i && s2.sensorOk (i + 1)) = true → lasted = true → d ≤ 48 → exec (.pairDifference pair a b lasted) s =
        .next ({ s2 with thm := { s2.thm with wide := Cells.set false s2.thm.wide i false } }).showTemps.outputs)) ∧
  (∀ (i : Fin 64) (s : State), (s.flag THM_INJ.BAD = false → exec (.sensorInvalid i) s = .next ((s.sensorBad i).showTemps.outputs)) ∧
      (s.sensorBad i).sensorOk i = false ∧ (∀ j, j ≠ i.val → (s.sensorBad i).sensorOk j = s.sensorOk j) ∧
      (s.sensorBad i).rd THM_STAT.HUB_ALARM = (s.rd THM_STAT.HUB_ALARM ||| 2 ^ (if i.val < 48 then 0 else if i.val < 56 then 1 else 2)) % 8) ∧
  (∀ (r : List (Fin 64 × BitVec 12)) (s : State), let s1 := s.samples r
      (s1.owned = false → ∀ w, exec (.latheLevelStep w r) s = .next s1) ∧
      (s1.owned = true → (∀ n : Lathe, exec (.latheLevelStep (some n) r) s =
          .next (s1.wr (THM_LATHE.LEVEL n) (levelStep (s1.rd (THM_LATHE.LEVEL n)) (s1.tctrl n) (s1.limitLathe n))).outputs) ∧
        exec (.latheLevelStep none r) s = .next (s1.wr THM_MODULE.IODIE (levelStep (s1.rd THM_MODULE.IODIE) s1.tctrlIo s1.limitIo)).outputs)) ∧
  (∀ (l limit : Nat) (t : Int), (8 * (limit : Int) < t → levelStep l t limit = min 15 (l + 1)) ∧ (t < 8 * ((limit : Int) - 3) → levelStep l t limit = l - 1) ∧
      (8 * ((limit : Int) - 3) ≤ t → t ≤ 8 * (limit : Int) → levelStep l t limit = l)) ∧
  (∀ (i : Fin 64) (x : BitVec 12) (s : State), (sgn 12 x.toNat ≤ 840 ∨ s.flag THM_STAT.TRIPPED = true → exec (.thermalTrip i x) s = .next s) ∧
      (840 < sgn 12 x.toNat → s.flag THM_STAT.TRIPPED = false → exec (.thermalTrip i x) s = .next ((s.sample i x.toNat).showTemps).trip)) ∧
  (∀ s : State, s.trip.flag THM_STAT.TRIP = true ∧ s.trip.flag THM_STAT.TRIPPED = true ∧ s.trip.flag PWR_STAT.GROUP_C = false ∧ s.trip.lathe = [] ∧
      s.trip.mem.lsram = [] ∧ s.trip.mem.way = [] ∧ s.trip.mem.port = s.mem.port ∧ s.trip.thm.tripTotal = s.thm.tripTotal + 1 ∧
      (2 ≤ (s.thm.trips.filter (fun t => (Cells.get 0 s.aon 1 + 2 ^ 48 - t) % 2 ^ 48 ≤ 86400 * 32768)).length → s.trip.flag THM_STAT.NO_RESTART = true) ∧
      ((s.thm.trips.filter (fun t => (Cells.get 0 s.aon 1 + 2 ^ 48 - t) % 2 ^ 48 ≤ 86400 * 32768)).length < 2 →
        s.trip.rd THM_STAT.NO_RESTART = s.rd THM_STAT.NO_RESTART))

/-- Heartbeats, watchdogs, takeover, handover, reload, and what hardware does without an owner. (R476, R477, R478, R479, R480, 16_power_cooling_tandem.md)
Both paths silent fail a supervisor, and the owner's failure leaves no owner; one silent path is flagged alone. A watchdog's expiry raises the supervisor's line. With no owner a supervisor in WATCH takes over from the saved state, counted; with one, nothing happens. The saved copy that is not the newest is written by the owner, none after input loss. A reload whose image is not the recorded one does nothing; of A that passes its test takes control back, counted; three failures leave it OFFLINE. Without an owner for 1 s the override acts, for 60 s the compute rails go. -/
def Obligations.TandemOwnership : Prop :=
  (∀ (u : Fin 2) (s : State), s.flag TDM_INJ.BOTH = false → s.flag TDM_INJ.WIRE = false → s.flag TDM_INJ.MBX = false → Cells.get false s.tdm.held u = false →
      (∃ t, exec (.heartbeatSilent u true true) s = .next t ∧ Cells.get false t.tdm.held u = true ∧ t.rd (supState u) = 2 ∧ t.flag TDM_STAT.WIRE_MISS = true ∧
        t.flag TDM_STAT.MBX_MISS = true ∧ (s.owned = true → s.rd TDM_STAT.OWNER = u.val → t.owned = false) ∧ t.mem = s.mem ∧ t.keys = s.keys) ∧
      (∃ t, exec (.heartbeatSilent u true false) s = .next t ∧ t.flag TDM_STAT.WIRE_MISS = true ∧ Cells.get false t.tdm.held u = false ∧ t.owned = s.owned ∧
        t.rd (supState u) = s.rd (supState u)) ∧
      (∃ t, exec (.heartbeatSilent u false true) s = .next t ∧ t.flag TDM_STAT.MBX_MISS = true ∧ Cells.get false t.tdm.held u = false ∧ t.owned = s.owned)) ∧
  (∀ (u : Fin 2) (s : State), ∃ t, exec (.supervisorWatchdogExpiry u) s = .next t ∧ Cells.get false t.host.line (8 + u.val) = true ∧
      t.flag (MBX_IN_FROM.FULL (1 + u)) = false ∧ t.rd (MBX_DB_PEND.PEND (1 + u)) = 0 ∧ t.tdm = s.tdm ∧ t.mem = s.mem) ∧
  (∀ (r : List (Fin 64 × BitVec 12)) (s : State), (s.owned = true → exec (.takeover r) s = .next s) ∧
      (∀ u, s.owned = false → (List.range 2).find? (fun u => s.rd (supState u) = 1 && !Cells.get false s.tdm.held u) = some u →
        exec (.takeover r) s = .next ((((s.loadTandem.samples r).becomeOwner u).bump TDM_COUNTS.TAKEOVERS 1).wr TDM_INJ.BOTH 0))) ∧
  (∀ (r : List (Fin 64 × BitVec 12)) (s : State), let o := s.rd TDM_STAT.OWNER
      (s.owned = true → s.rd (supState (1 - o)) = 1 → Cells.get false s.tdm.held (1 - o) = false →
        exec (.plannedHandover r) s = .next (((s.saveTandem.wr (supState o) 1).loadTandem.samples r).becomeOwner (1 - o))) ∧
      (s.owned = false ∨ s.rd (supState (1 - o)) ≠ 1 → exec (.plannedHandover r) s = .next s)) ∧
  (∀ (u : Fin 2) (s : State), (s.ownedBy u).owned = true ∧ (s.ownedBy u).rd TDM_STAT.OWNER = u.val ∧ (s.ownedBy u).rd (supState u) = 0 ∧
      (s.ownedBy u).flag THM_MODULE.NO_OWNER = false) ∧
  (∀ s : State, (s.owned = true → s.boot.inputGone = false → ∃ t, exec .savedStateWrite s = .next t ∧ t = { s with tdm := { s.tdm with saved := t.tdm.saved } } ∧
        ∃ c, t.savedNow = some c ∧ c.regs = thmCells s ∧ c.thm = s.thm ∧ (∀ o, s.savedNow = some o → c.seq = o.seq + 1)) ∧
      (s.owned = false ∨ s.boot.inputGone = true → exec .savedStateWrite s = .next s)) ∧
  (∀ (u : Fin 2) (r : List (Fin 64 × BitVec 12)) (s : State), let same := (s.area (s.rd GLB_LIFE.BANK) 2).measure = Cells.get [] s.tdm.image u
      let s1 := (s.supReleased u).wr (supState u) 1
      (∀ ok, s.rd (supState u) ≠ 2 ∨ ¬ same → exec (.supervisorReload u ok r) s = .next s) ∧
      (s.rd (supState u) = 2 → same → u = 1 → exec (.supervisorReload u true r) s = .next s1) ∧
      (s.rd (supState u) = 2 → same → u = 0 → s.owned = true → exec (.supervisorReload u true r) s = .next ((s1.handover r).bump TDM_COUNTS.RETURNS 1)) ∧
      (s.rd (supState u) = 2 → same → u = 0 → s.owned = false →
        exec (.supervisorReload u true r) s = .next (((s1.loadTandem.samples r).becomeOwner 0).bump TDM_COUNTS.RETURNS 1)) ∧
      (s.rd (supState u) = 2 → same → ∃ t, exec (.supervisorReload u false r) s = .next t ∧ Cells.get 0 t.tdm.fails u = Cells.get 0 s.tdm.fails u + 1 ∧
        t.rd (supState u) = (if 2 ≤ Cells.get 0 s.tdm.fails u then 3 else 2) ∧ t.owned = s.owned)) ∧
  (∀ s : State, (s.owned = true → exec .noOwnerOverride s = .next s ∧ exec .noOwnerRailRemoval s = .next s) ∧
      (s.owned = false → exec .noOwnerOverride s = .next (((s.wr THM_MODULE.NO_OWNER 1).wr THM_MODULE.KW 0).wr THM_MODULE.VALVE 100).levels ∧
        ∃ t, exec .noOwnerRailRemoval s = .next t ∧ t.flag PWR_STAT.GROUP_C = false ∧ t.lathe = [] ∧ t.mem.lsram = [] ∧ t.mem.way = [] ∧ t.mem.port = s.mem.port))

/-- Error reports and buckets, known-answer passes, retirement, lifts and the lifetime store. (R485, R487, R489, R490, R492, R495, R496, R499, 17_reliability.md)
A report adds to its site's current bucket and total, an uncorrectable one joins the log; a reserved site is none. Buckets rotate, and the one that becomes current is empty. A commit takes the configuration when its rules hold. A log read removes the oldest entry. A pass starts, a missed one is flagged while one runs, a result counts in its cell. A Lathe that is not suspect is not retired, one in no partition or under policy 0 is, and one in teardown waits. A lift that cannot be has result 1, 2 or 3. A commit of the store writes the other half with its counts. -/
def Obligations.ErrorsTestsAndRetirement : Prop :=
  (∀ (site : Fin 112) (n : Fin 65536) (off : Fin 536870912) (s : State), (100 ≤ site.val → ∀ ue, exec (.errorReport site ue n off) s = .next s) ∧
      (site.val < 100 → ∃ t, exec (.errorReport site false n off) s = .next t ∧ t.err.log = s.err.log ∧
        Cells.get 0 t.err.ceTotal site = Cells.get 0 s.err.ceTotal site + n.val ∧ t.err.ueTotal = s.err.ueTotal ∧ t.mem = s.mem ∧ t.lathe = s.lathe ∧
        Cells.get 0 t.err.ce (8 * site.val + s.err.cur) = min 65535 (Cells.get 0 s.err.ce (8 * site.val + s.err.cur) + n.val)) ∧
      (site.val < 100 → ∃ t, exec (.errorReport site true n off) s = .next t ∧ Cells.get 0 t.err.ueTotal site = Cells.get 0 s.err.ueTotal site + 1 ∧
        t.err.ceTotal = s.err.ceTotal ∧ t.mem = s.mem ∧ t.lathe = s.lathe ∧
        (s.err.log.length < 256 → t.err.log = s.err.log ++ [⟨site, off, bits (Cells.get 0 s.aon 1) 15 24⟩]) ∧
        (256 ≤ s.err.log.length → t.err.log = s.err.log ∧ t.flag ERR_STAT.LOG_FULL = true))) ∧
  (∀ s : State, ∃ t, exec .bucketRotate s = .next t ∧ t.err.cur = (s.err.cur + 1) % 8 ∧ t.err.ceTotal = s.err.ceTotal ∧ t.err.ueTotal = s.err.ueTotal ∧
      (∀ site, Cells.get 0 t.err.ce (8 * site + t.err.cur) = 0 ∧ Cells.get 0 t.err.ue (8 * site + t.err.cur) = 0) ∧
      (∀ site b, b < 8 → b ≠ t.err.cur → Cells.get 0 t.err.ce (8 * site + b) = Cells.get 0 s.err.ce (8 * site + b)) ∧ t = { s with err := t.err }) ∧
  (∀ s : State, exec (.errCommit false) s = .next s ∧ (∀ k, failingRule s.errRules = some k → exec (.errCommit true) s =
        .next ((s.wr ERR_COMMIT.CFG_MISMATCH 1).wr ERR_COMMIT.CFG_RULE k)) ∧
      (failingRule s.errRules = none → ∃ t, exec (.errCommit true) s = .next t ∧ t.inEff ERR_CFG.CE_LIMIT = s.rd ERR_CFG.CE_LIMIT % 2 ^ ERR_CFG.CE_LIMIT.width ∧
        t.inEff ERR_CFG.WINDOW = s.rd ERR_CFG.WINDOW % 2 ^ ERR_CFG.WINDOW.width ∧ (s.rd ERR_CFG.WINDOW ≠ s.inEff ERR_CFG.WINDOW → t.err.ce = [] ∧ t.err.ue = []) ∧
        t = { s with eff := t.eff, err := t.err })) ∧
  (∀ s : State, (s.err.log = [] → exec .errLogRead s = .next (s.send (.readData (leBytes 4 0)))) ∧ (∀ e rest, s.err.log = e :: rest →
      ∃ t, exec .errLogRead s = .next t ∧ t.err.log = rest ∧ t.rd ERR_LOG_HI.SITE = e.site % 2 ^ ERR_LOG_HI.SITE.width ∧
        t.rd ERR_LOG_HI.TIME = e.time % 2 ^ ERR_LOG_HI.TIME.width ∧ .readData (leBytes 4 (e.offset % 2 ^ 29 + 2 ^ 31)) ∈ t.out ∧ t.mem = s.mem)) ∧
  (∀ (n : Lathe) (s : State), (bit s.boot.katRun n = false → exec (.katBackgroundStart n) s =
        .next { s with boot := { s.boot with katRun := setBit s.boot.katRun n true, katSeq := Cells.set 0 s.boot.katSeq n 0 } }) ∧
      (bit s.boot.katRun n = true → exec (.katBackgroundStart n) s = .next { s with boot := { s.boot with katMore := setBit s.boot.katMore n true } } ∧
        exec (.katPassMissed n) s = .next (s.wr ERR_STAT.KAT_MISSED 1)) ∧
      (bit s.boot.katRun n = false → exec (.katPassMissed n) s = .next s)) ∧
  (∀ (n : Lathe) (t : Fin 8) (dg : Word) (s : State), (t = 0 ∨ bit s.boot.katRun n = false → exec (.katResult n t dg) s = .next s) ∧
      (t ≠ 0 → bit s.boot.katRun n = true → s.flag (LTH_INJ.KAT_FLIP n) = false → exec (.katResult n t dg) s =
        .next (((s.katCell n).1.katCount n t (s.katCell n).2 (dg.toNat = katDigest t) false).katNext n t (dg.toNat = katDigest t)))) ∧
  (∀ (n : Lathe) (ok : Bool) (s : State), (bit (s.rd ERR_LATHE.SUSPECT) n = false → exec (.latheRetire n ok) s = .next s) ∧
      (bit (s.rd ERR_LATHE.SUSPECT) n = true → s.granuleOf n = none → exec (.latheRetire n ok) s = .next (s.retireLathe n ok)) ∧
      (∀ p, bit (s.rd ERR_LATHE.SUSPECT) n = true → s.granuleOf n = some p → (s.tearing p = true → exec (.latheRetire n ok) s = .next s) ∧
        (s.tearing p = false → s.inEff ERR_CFG2.RETIRE_POLICY = 0 → exec (.latheRetire n ok) s = .next (s.retireLathe n ok))) ∧
      (s.flag (LTH_ID.RETIRED n) = false → (s.retireLathe n ok).seq n = 8) ∧ (s.flag (LTH_ID.RETIRED n) = true → s.retireLathe n ok = s)) ∧
  (∀ (ok : Bool) (s : State), s.rd ERR_LATHE.SUSPECT = 0 → exec (.maintenanceWindow ok) s = .next s) ∧
  (∀ (ok : Bool) (s : State), exec (.maintenanceWindow ok) s =
      .next (s.retireSuspects ((List.range 16).filter (fun n => match s.granuleOf n with | some p => !s.tearing p | none => true)) ok)) ∧
  (∀ (n : Lathe) (bad : BitVec 8) (ok : Bool) (s : State), let res (r : Nat) : State := { s with boot := { s.boot with liftResult := r } }
      (s.flag (LTH_ID.RETIRED n) = false → exec (.latheLift n bad ok) s = .next (res 1)) ∧
      (s.flag (LTH_ID.RETIRED n) = true → (s.granuleOf n).isSome = true → exec (.latheLift n bad ok) s = .next (res 2)) ∧
      (s.flag (LTH_ID.RETIRED n) = true → s.granuleOf n = none → s.otpLathe n = 7 → exec (.latheLift n bad ok) s = .next (res 3)) ∧
      (s.flag (LTH_ID.RETIRED n) = true → s.granuleOf n = none → s.otpLathe n ≠ 7 → ∃ t, exec (.latheLift n 0 true) s = .next t ∧
        t.boot.liftResult = 0 ∧ t.seq n = 1 ∧ bit (t.rd ERR_LATHE.SUSPECT) n = false)) ∧
  (∀ s : State, (s.boot.inputGone = true ∨ s.boot.phase7 = false ∨ s.rd GLB_LIFE.RUN = 7 → exec .lifetimeCommit s = .next s) ∧
      (s.boot.inputGone = false → s.boot.phase7 = true → s.rd GLB_LIFE.RUN ≠ 7 → ∃ t, exec .lifetimeCommit s = .next t ∧
        t.boot.life.commits = s.boot.life.commits + 1 ∧ t = { s with boot := { s.boot with life := t.boot.life, areas := t.boot.areas } }))
end

