-- ==== Sys2Proof/Laws/Cells.lean ====
section
/-! SUPPORT. Sparse storage: reads after writes, and the canonical form that every operation keeps. -/

namespace Sys2Proof.Machine

variable {α : Type}

/-! Reads after writes. -/

@[simp] theorem Cells.get_nil (d : α) (k : Nat) : Cells.get d ([] : Cells α) k = d := rfl

theorem Cells.get_cons (d : α) (p : Nat × α) (t : Cells α) (k : Nat) :
    Cells.get d (p :: t) k = if p.1 = k then p.2 else Cells.get d t k := rfl

theorem Cells.get_erase_self (d : α) (m : Cells α) (k : Nat) : Cells.get d (Cells.erase m k) k = d := by
  induction m with
  | nil => rfl
  | cons p t ih =>
    simp only [Cells.erase, List.filter_cons] at ih ⊢
    by_cases h : p.1 = k <;> simp [h, ih, Cells.get_cons]

theorem Cells.get_erase_ne (d : α) (m : Cells α) {k j : Nat} (h : j ≠ k) : Cells.get d (Cells.erase m k) j = Cells.get d m j := by
  induction m with
  | nil => rfl
  | cons p t ih =>
    simp only [Cells.erase, List.filter_cons] at ih ⊢
    by_cases hk : p.1 = k
    · have hj : p.1 ≠ j := by omega
      simp [hk, ih, Cells.get_cons, Ne.symm h]
    · by_cases hj : p.1 = j <;> simp [hk, hj, ih, Cells.get_cons, h]

theorem Cells.get_ins_ne (d : α) (m : Cells α) {k j : Nat} (v : α) (h : j ≠ k) : Cells.get d (Cells.ins k v m) j = Cells.get d m j := by
  induction m with
  | nil => simp [Cells.ins, Cells.get_cons, Ne.symm h]
  | cons p t ih =>
    simp only [Cells.ins]
    split
    · simp [Cells.get_cons, Ne.symm h]
    · simp [Cells.get_cons, ih]

theorem Cells.get_ins_self (d : α) (m : Cells α) {k : Nat} (v : α) (h : ∀ p ∈ m, p.1 ≠ k) : Cells.get d (Cells.ins k v m) k = v := by
  induction m with
  | nil => simp [Cells.ins, Cells.get_cons]
  | cons p t ih =>
    simp only [Cells.ins]
    split
    · simp [Cells.get_cons]
    · have hp := h p (List.mem_cons_self ..)
      simp [Cells.get_cons, hp, ih (fun q hq => h q (List.mem_cons_of_mem _ hq))]

theorem Cells.mem_erase_ne {m : Cells α} {k : Nat} {p : Nat × α} (h : p ∈ Cells.erase m k) : p.1 ≠ k := by
  have := (List.mem_filter.mp h).2
  simpa using this

/-- The place written reads as what was written. -/
@[simp] theorem Cells.get_set_self [DecidableEq α] (d : α) (m : Cells α) (k : Nat) (v : α) : Cells.get d (Cells.set d m k v) k = v := by
  unfold Cells.set
  split
  · rename_i h; rw [Cells.get_erase_self, h]
  · exact Cells.get_ins_self _ _ _ (fun _ hp => Cells.mem_erase_ne hp)

/-- Every other place reads as before. -/
theorem Cells.get_set_ne [DecidableEq α] (d e : α) (m : Cells α) {k j : Nat} (v : α) (h : j ≠ k) :
    Cells.get e (Cells.set d m k v) j = Cells.get e m j := by
  unfold Cells.set
  split
  · exact Cells.get_erase_ne _ _ h
  · rw [Cells.get_ins_ne _ _ _ h, Cells.get_erase_ne _ _ h]

theorem Cells.get_filter (d : α) (m : Cells α) (q : Nat → Bool) (k : Nat) :
    Cells.get d (m.filter (fun p => q p.1)) k = if q k then Cells.get d m k else d := by
  induction m with
  | nil => simp
  | cons p t ih =>
    simp only [List.filter_cons]
    by_cases hk : p.1 = k
    · by_cases hq : q k <;> simp [hk, hq, Cells.get_cons, ih]
    · by_cases hq : q p.1 <;> simp [hk, hq, Cells.get_cons, ih]

/-- A cleared range reads as the default, every other place as before. -/
theorem Cells.get_clear (d : α) (m : Cells α) (lo hi k : Nat) :
    Cells.get d (Cells.clear m lo hi) k = if lo ≤ k ∧ k < hi then d else Cells.get d m k := by
  unfold Cells.clear
  rw [Cells.get_filter d m (fun j => !(lo ≤ j && j < hi))]
  by_cases h : lo ≤ k ∧ k < hi
  · simp [h]
  · simp only [h, if_false]
    have : (!(decide (lo ≤ k) && decide (k < hi))) = true := by
      simp only [Bool.not_eq_true', Bool.and_eq_false_iff, decide_eq_false_iff_not]; omega
    simp [this]

/-- A list written at consecutive places leaves every other place as before. -/
theorem Cells.get_setList_out [DecidableEq α] (d e : α) (l : List α) : ∀ (m : Cells α) (a j : Nat), (j < a ∨ a + l.length ≤ j) →
    Cells.get e (Cells.setList d m a l) j = Cells.get e m j := by
  induction l with
  | nil => intros; rfl
  | cons v t ih =>
    intro m a j h
    simp only [List.length_cons] at h
    simp only [Cells.setList]
    rw [ih _ _ _ (by omega), Cells.get_set_ne _ _ _ _ (by omega)]

/-- The places written read as the list. -/
theorem Cells.get_setList_in [DecidableEq α] (d : α) (l : List α) : ∀ (m : Cells α) (a i : Nat) (h : i < l.length),
    Cells.get d (Cells.setList d m a l) (a + i) = l[i] := by
  induction l with
  | nil => intro _ _ i h; simp at h
  | cons v t ih =>
    intro m a i h
    simp only [Cells.setList]
    cases i with
    | zero =>
      rw [Cells.get_setList_out _ _ _ _ _ _ (by omega)]; exact Cells.get_set_self d m a v
    | succ i =>
      have := ih (Cells.set d m a v) (a + 1) i (by simpa using h)
      rw [show a + (i + 1) = a + 1 + i by omega, this]; rfl

/-! The canonical form. -/

/-- Places strictly rising, no listed value equal to the default. -/
theorem Cells.wf_iff [DecidableEq α] (d : α) (m : Cells α) :
    Cells.wf d m = true ↔ m.Pairwise (fun p q => p.1 < q.1) ∧ ∀ p ∈ m, p.2 ≠ d := by
  induction m with
  | nil => simp [Cells.wf]
  | cons p t ih =>
    cases t with
    | nil => simp [Cells.wf]
    | cons q t =>
      simp only [Cells.wf, Bool.and_eq_true, decide_eq_true_eq, ih, List.pairwise_cons, List.mem_cons, forall_eq_or_imp]
      constructor
      · rintro ⟨⟨hp, hq⟩, ⟨hqt, ht⟩, hd, htd⟩
        exact ⟨⟨⟨hq, fun a ha => Nat.lt_trans hq (hqt a ha)⟩, hqt, ht⟩, hp, hd, htd⟩
      · rintro ⟨⟨⟨hq, _⟩, hqt, ht⟩, hp, hd, htd⟩
        exact ⟨⟨hp, hq⟩, ⟨hqt, ht⟩, hd, htd⟩

theorem Cells.wf_filter [DecidableEq α] {d : α} {m : Cells α} (q : Nat × α → Bool) (h : Cells.wf d m = true) :
    Cells.wf d (m.filter q) = true := by
  rw [Cells.wf_iff] at h ⊢
  exact ⟨h.1.filter _, fun p hp => h.2 p (List.mem_filter.mp hp).1⟩

theorem Cells.wf_erase [DecidableEq α] {d : α} {m : Cells α} (k : Nat) (h : Cells.wf d m = true) : Cells.wf d (Cells.erase m k) = true :=
  Cells.wf_filter _ h

theorem Cells.wf_clear [DecidableEq α] {d : α} {m : Cells α} (lo hi : Nat) (h : Cells.wf d m = true) :
    Cells.wf d (Cells.clear m lo hi) = true := Cells.wf_filter _ h

theorem Cells.wf_within [DecidableEq α] {d : α} {m : Cells α} (lo hi : Nat) (h : Cells.wf d m = true) :
    Cells.wf d (Cells.within m lo hi) = true := Cells.wf_filter _ h

theorem Cells.mem_ins {m : Cells α} {k : Nat} {v : α} {p : Nat × α} : p ∈ Cells.ins k v m ↔ p = (k, v) ∨ p ∈ m := by
  induction m with
  | nil => simp [Cells.ins]
  | cons q t ih =>
    simp only [Cells.ins]
    split
    · simp
    · simp only [List.mem_cons, ih]
      constructor
      · rintro (h | h | h) <;> simp [h]
      · rintro (h | h | h) <;> simp [h]

theorem Cells.wf_ins [DecidableEq α] {d : α} {m : Cells α} {k : Nat} {v : α} (h : Cells.wf d m = true) (hk : ∀ p ∈ m, p.1 ≠ k)
    (hv : v ≠ d) : Cells.wf d (Cells.ins k v m) = true := by
  rw [Cells.wf_iff] at h ⊢
  refine ⟨?_, fun p hp => ?_⟩
  · have hs := h.1
    clear h
    induction m with
    | nil => simp [Cells.ins]
    | cons p t ih =>
      have hp := hk p (List.mem_cons_self ..)
      rw [List.pairwise_cons] at hs
      simp only [Cells.ins]
      split
      · rename_i hlt
        refine List.pairwise_cons.mpr ⟨fun q hq => ?_, List.pairwise_cons.mpr hs⟩
        rcases List.mem_cons.mp hq with rfl | hq
        · exact hlt
        · exact Nat.lt_trans hlt (hs.1 q hq)
      · rename_i hlt
        refine List.pairwise_cons.mpr ⟨fun q hq => ?_, ih (fun q hq => hk q (List.mem_cons_of_mem _ hq)) hs.2⟩
        rcases Cells.mem_ins.mp hq with rfl | hq
        · show p.1 < k; omega
        · exact hs.1 q hq
  · rcases Cells.mem_ins.mp hp with rfl | hp
    · exact hv
    · exact h.2 p hp

theorem Cells.wf_set [DecidableEq α] {d : α} {m : Cells α} (k : Nat) (v : α) (h : Cells.wf d m = true) : Cells.wf d (Cells.set d m k v) = true := by
  unfold Cells.set
  split
  · exact Cells.wf_erase _ h
  · rename_i hv; exact Cells.wf_ins (Cells.wf_erase _ h) (fun _ hp => Cells.mem_erase_ne hp) hv

theorem Cells.wf_setList [DecidableEq α] {d : α} (l : List α) : ∀ {m : Cells α} (k : Nat), Cells.wf d m = true → Cells.wf d (Cells.setList d m k l) = true := by
  induction l with
  | nil => intro _ _ h; exact h
  | cons v t ih => intro m k h; exact ih _ (Cells.wf_set _ _ h)

theorem Cells.wf_fold {β : Type} [DecidableEq α] {d : α} (f : Cells α → β → Cells α) (hf : ∀ m b, Cells.wf d m = true → Cells.wf d (f m b) = true)
    (l : List β) : ∀ {m : Cells α}, Cells.wf d m = true → Cells.wf d (l.foldl f m) = true := by
  induction l with
  | nil => intro _ h; exact h
  | cons b t ih => intro m h; exact ih (hf _ _ h)

theorem Cells.wf_copy [DecidableEq α] {d : α} {m : Cells α} (src dst len : Nat) (h : Cells.wf d m = true) :
    Cells.wf d (Cells.copy m src dst len) = true := by
  have key : ∀ (l : Cells α) (acc : Cells α), Cells.wf d acc = true → Cells.wf d l = true →
      (∀ p ∈ l, src ≤ p.1) → (∀ p ∈ l, ∀ q ∈ acc, q.1 ≠ p.1 - src + dst) →
      Cells.wf d (l.foldl (fun acc p => Cells.ins (p.1 - src + dst) p.2 acc) acc) = true := by
    intro l
    induction l with
    | nil => intro acc ha _ _ _; exact ha
    | cons p t ih =>
      intro acc ha hl hs hq
      have hl' := (Cells.wf_iff d _).mp hl
      have ht : Cells.wf d t = true := (Cells.wf_iff d t).mpr ⟨(List.pairwise_cons.mp hl'.1).2, fun q hq => hl'.2 q (List.mem_cons_of_mem _ hq)⟩
      refine ih _ (Cells.wf_ins ha (hq p (List.mem_cons_self ..)) (hl'.2 p (List.mem_cons_self ..))) ht
        (fun q hq => hs q (List.mem_cons_of_mem _ hq)) (fun q hqt r hr => ?_)
      rcases Cells.mem_ins.mp hr with rfl | hr
      · have h1 := (List.pairwise_cons.mp hl'.1).1 q hqt
        have h2 := hs p (List.mem_cons_self ..)
        show p.1 - src + dst ≠ q.1 - src + dst
        omega
      · exact hq q (List.mem_cons_of_mem _ hqt) r hr
  unfold Cells.copy
  refine key _ _ (Cells.wf_clear _ _ h) (Cells.wf_within _ _ h) (fun p hp => ?_) (fun p hp q hq => ?_)
  · have := (List.mem_filter.mp hp).2
    simp at this; exact this.1
  · have hp' := (List.mem_filter.mp hp).2
    have hq' := (List.mem_filter.mp hq).2
    simp only [Bool.and_eq_true, decide_eq_true_eq, Bool.not_eq_true', Bool.and_eq_false_iff, decide_eq_false_iff_not] at hp' hq'
    omega

theorem Cells.wf_fill [DecidableEq α] {d v : α} {m : Cells α} (lo n : Nat) (hv : v ≠ d) (h : Cells.wf d m = true) :
    Cells.wf d (Cells.fill m lo n v) = true := by
  rw [Cells.wf_iff] at h ⊢
  unfold Cells.fill
  refine ⟨?_, fun p hp => ?_⟩
  · rw [List.pairwise_append, List.pairwise_append]
    refine ⟨⟨h.1.filter _, ?_, fun a ha b hb => ?_⟩, h.1.filter _, fun a ha b hb => ?_⟩
    · rw [List.pairwise_map]
      exact List.pairwise_lt_range.imp (fun hab => by show lo + _ < lo + _; omega)
    · have ha' := (List.mem_filter.mp ha).2
      obtain ⟨i, _, rfl⟩ := List.mem_map.mp hb
      simp at ha'
      show a.1 < lo + i
      omega
    · have hb' := (List.mem_filter.mp hb).2
      simp only [decide_eq_true_eq] at hb'
      rcases List.mem_append.mp ha with ha | ha
      · have ha' := (List.mem_filter.mp ha).2
        simp at ha'; omega
      · obtain ⟨i, hi, rfl⟩ := List.mem_map.mp ha
        have := List.mem_range.mp hi
        show lo + i < b.1
        omega
  · rcases List.mem_append.mp hp with hp | hp
    · rcases List.mem_append.mp hp with hp | hp
      · exact h.2 p (List.mem_filter.mp hp).1
      · obtain ⟨i, _, rfl⟩ := List.mem_map.mp hp; exact hv
    · exact h.2 p (List.mem_filter.mp hp).1

end Sys2Proof.Machine
end

