-- ==== Sys2Proof/Laws/Keeps.lean ====
section
/-! SUPPORT. What every operation of the model leaves in force: the waiting commands, the variant, OTP bits that are set, the canonical form of the
memories, and what has been sent. Each shared operation has one lemma that says so, in Laws/Keeps*.lean. -/

namespace Sys2Proof.Machine

theorem Memory.wf_iff (m : MemSt) : Memory.wf m = true ↔ Cells.wf 0 m.port = true ∧ Cells.wf 0 m.portErr = true ∧ Cells.wf none m.sealedBy = true ∧
    Cells.wf 0 m.lsram = true ∧ Cells.wf 0 m.lsramErr = true ∧ Cells.wf 0 m.way = true ∧ Cells.wf 0 m.wayErr = true := by
  simp [Memory.wf, and_assoc]

/-- Every OTP bit that is 1 stays 1. -/
def OtpKept (a b : Cells Nat) : Prop := ∀ k i, (Cells.get 0 a k).testBit i = true → (Cells.get 0 b k).testBit i = true

/-- From s to t: the queue and the variant are the same, OTP bits only rise, a canonical memory stays one, what was sent stays sent. -/
structure Keeps (s t : State) : Prop where
  pending : t.pending = s.pending
  var : t.is1T = s.is1T
  otp : OtpKept s.boot.otp t.boot.otp
  mem : Memory.wf s.mem = true → Memory.wf t.mem = true
  out : s.out <+: t.out

theorem OtpKept.refl (a : Cells Nat) : OtpKept a a := fun _ _ h => h
theorem OtpKept.trans {a b c : Cells Nat} (h : OtpKept a b) (k : OtpKept b c) : OtpKept a c := fun i j x => k i j (h i j x)

theorem Keeps.refl (s : State) : Keeps s s := ⟨rfl, rfl, OtpKept.refl _, id, List.prefix_refl _⟩

theorem Keeps.trans {s t u : State} (h : Keeps s t) (k : Keeps t u) : Keeps s u :=
  ⟨k.pending.trans h.pending, k.var.trans h.var, h.otp.trans k.otp, fun w => k.mem (h.mem w), h.out.trans k.out⟩

/-- A change of other fields. -/
theorem Keeps.congr {s u t : State} (h : Keeps s u) (h1 : t.pending = u.pending) (h2 : t.is1T = u.is1T) (h3 : t.boot.otp = u.boot.otp)
    (h4 : t.mem = u.mem) (h5 : t.out = u.out) : Keeps s t :=
  ⟨h1.trans h.pending, h2.trans h.var, h3 ▸ h.otp, fun w => h4 ▸ h.mem w, h5 ▸ h.out⟩

/-- A change of memory that keeps its form. -/
theorem Keeps.congrMem {s u t : State} (h : Keeps s u) (h1 : t.pending = u.pending) (h2 : t.is1T = u.is1T) (h3 : t.boot.otp = u.boot.otp)
    (h5 : t.out = u.out) (h4 : Memory.wf u.mem = true → Memory.wf t.mem = true) : Keeps s t :=
  ⟨h1.trans h.pending, h2.trans h.var, h3 ▸ h.otp, fun w => h4 (h.mem w), h5 ▸ h.out⟩

/-- The same of a state with a result beside it. -/
structure KeepsP {α : Type} (s : State) (x : State × α) : Prop where
  fst : Keeps s x.1

/-- The same of an outcome. -/
structure KeepsN (s : State) (x : Next) : Prop where
  out : ∀ t, x = .next t → Keeps s t

/-- The same of a result that may fail; `g` and `h` name the state in a failure and in a result. -/
inductive KeepsR {ε α : Type} (g : ε → State) (h : α → State) (s : State) : Except ε α → Prop where
  | ok {a : α} (k : Keeps s (h a)) : KeepsR g h s (.ok a)
  | error {e : ε} (k : Keeps s (g e)) : KeepsR g h s (.error e)

theorem KeepsN.next {s t : State} (h : Keeps s t) : KeepsN s (.next t) :=
  ⟨fun u hu => by cases hu; exact h⟩

theorem KeepsN.transL {s t : State} {x : Next} (h : Keeps s t) (k : KeepsN t x) : KeepsN s x := ⟨fun u hu => h.trans (k.out u hu)⟩
theorem KeepsP.transL {α : Type} {s t : State} {x : State × α} (h : Keeps s t) (k : KeepsP t x) : KeepsP s x := ⟨Keeps.trans h k.fst⟩
theorem KeepsR.transL {ε α : Type} {g : ε → State} {h : α → State} {s t : State} {x : Except ε α} (k : Keeps s t) (k' : KeepsR g h t x) :
    KeepsR g h s x := by
  cases k' with
  | ok h => exact .ok (k.trans h)
  | error h => exact .error (k.trans h)

theorem KeepsP.pair {α : Type} {s t : State} {a : α} (h : Keeps s t) : KeepsP s (t, a) := ⟨h⟩
theorem Keeps.fst {α : Type} {s : State} {x : State × α} (h : KeepsP s x) : Keeps s x.1 := h.fst

theorem Keeps.of_pair {α : Type} {s a : State} {b : α} {x : State × α} (e : x = (a, b)) (h : KeepsP s x) : Keeps s a := by
  subst e; exact h.fst

theorem Keeps.ite {s t u : State} {c : Prop} [Decidable c] (h : Keeps s t) (k : Keeps s u) : Keeps s (if c then t else u) := by
  split <;> assumption
theorem KeepsP.ite {α : Type} {s : State} {t u : State × α} {c : Prop} [Decidable c] (h : KeepsP s t) (k : KeepsP s u) :
    KeepsP s (if c then t else u) := by split <;> assumption
theorem KeepsN.ite {s : State} {t u : Next} {c : Prop} [Decidable c] (h : KeepsN s t) (k : KeepsN s u) : KeepsN s (if c then t else u) := by
  split <;> assumption
theorem KeepsR.ite {ε α : Type} {g : ε → State} {h : α → State} {s : State} {t u : Except ε α} {c : Prop} [Decidable c]
    (k : KeepsR g h s t) (l : KeepsR g h s u) : KeepsR g h s (if c then t else u) := by split <;> assumption

theorem Keeps.caseOf {α : Type} {s t : State} {o : Option α} {f : α → State} (h : Keeps s t) (hf : ∀ a, o = some a → Keeps s (f a)) : Keeps s (Sys2Proof.caseOf o t f) := by
  cases o
  · exact h
  · exact hf _ rfl
theorem KeepsP.caseOf {α β : Type} {s : State} {t : State × β} {o : Option α} {f : α → State × β} (h : KeepsP s t) (hf : ∀ a, o = some a → KeepsP s (f a)) :
    KeepsP s (Sys2Proof.caseOf o t f) := by
  cases o
  · exact h
  · exact hf _ rfl
theorem KeepsN.caseOf {α : Type} {s : State} {t : Next} {o : Option α} {f : α → Next} (h : KeepsN s t) (hf : ∀ a, o = some a → KeepsN s (f a)) :
    KeepsN s (Sys2Proof.caseOf o t f) := by
  cases o
  · exact h
  · exact hf _ rfl

theorem Keeps.foldl {β : Type} {s t : State} {f : State → β → State} (l : List β) (h : Keeps s t) (hf : ∀ a b, Keeps a (f a b)) :
    Keeps s (l.foldl f t) := by
  induction l generalizing t with
  | nil => exact h
  | cons b l ih => exact ih (h.trans (hf _ _))

theorem KeepsP.foldl {α β : Type} {s : State} {t : State × α} {f : State × α → β → State × α} (l : List β) (h : KeepsP s t)
    (hf : ∀ a b, KeepsP a.1 (f a b)) : KeepsP s (l.foldl f t) := by
  induction l generalizing t with
  | nil => exact h
  | cons b l ih => exact ih (KeepsP.transL h.fst (hf _ _))

theorem KeepsR.pure {ε α : Type} {g : ε → State} {h : α → State} {s : State} {a : α} (k : Keeps s (h a)) :
    KeepsR g h s (Pure.pure a : Except ε α) := .ok k

theorem KeepsR.okPair {ε α : Type} {g : ε → State} {s t : State} {b : α} (k : Keeps s t) : KeepsR g (fun a => a.1) s (.ok (t, b)) := .ok k
theorem KeepsR.okId {ε : Type} {g : ε → State} {s t : State} (k : Keeps s t) : KeepsR g (fun a => a) s (.ok t) := .ok k
theorem KeepsR.purePair {ε α : Type} {g : ε → State} {s t : State} {b : α} (k : Keeps s t) :
    KeepsR g (fun a => a.1) s (Pure.pure (t, b) : Except ε (State × α)) := .ok k
theorem KeepsR.errId {α : Type} {h : α → State} {s t : State} (k : Keeps s t) : KeepsR (fun e => e) h s (.error t) := .error k
theorem KeepsR.err1 {α β : Type} {h : α → State} {s t : State} {b : β} (k : Keeps s t) : KeepsR (fun e => e.2) h s (.error (b, t)) := .error k
theorem KeepsR.err2 {α β γ : Type} {h : α → State} {s t : State} {b : β} {c : γ} (k : Keeps s t) :
    KeepsR (fun e => e.2.2) h s (.error (b, c, t)) := .error k
theorem KeepsR.err3 {α β γ δ : Type} {h : α → State} {s t : State} {b : β} {c : γ} {d : δ} (k : Keeps s t) :
    KeepsR (fun e => e.2.2.2) h s (.error (b, c, d, t)) := .error k

/-- A result that goes on with what it gives. -/
theorem KeepsR.bind {ε α β : Type} {g : ε → State} {h : α → State} {k : β → State} {s : State} {x : Except ε α} {f : α → Except ε β}
    (hx : KeepsR g h s x) (hf : ∀ a, KeepsR g k (h a) (f a)) : KeepsR g k s (x >>= f) := by
  cases hx with
  | error k => exact .error k
  | ok k => exact KeepsR.transL k (hf _)

theorem KeepsR.foldlM {ε α β : Type} {g : ε → State} {h : α → State} {s : State} {f : α → β → Except ε α} (l : List β) {t : α} (ht : Keeps s (h t))
    (hf : ∀ a b, KeepsR g h (h a) (f a b)) : KeepsR g h s (l.foldlM f t) := by
  induction l generalizing s t with
  | nil => exact .ok ht
  | cons b l ih => exact KeepsR.bind (KeepsR.transL ht (hf t b)) (fun a => ih (Keeps.refl _))

theorem Keeps.of_ok {ε α : Type} {g : ε → State} {h : α → State} {s : State} {x : Except ε α} {a : α} (e : x = .ok a) (k : KeepsR g h s x) :
    Keeps s (h a) := by subst e; cases k; assumption
theorem Keeps.of_error {ε α : Type} {g : ε → State} {h : α → State} {s : State} {x : Except ε α} {a : ε} (e : x = .error a) (k : KeepsR g h s x) :
    Keeps s (g a) := by subst e; cases k; assumption

/-- A record whose other fields may be new. -/
theorem Keeps.rec' {s u : State} {is1T : Bool} {regs : Cells Nat} {eff : Cells Nat} {mem : MemSt} {keys : KeySt} {err : ErrSt} {pft : PftSt} {smp : SmpSt} {lathe : Cells LatheSt} {plt : PltSt} {thm : ThmSt} {part : Cells PartSt} {tdma : TdmaSt} {hdma : HdmaSt} {vid : VidSt} {arb : Cells ArbSt} {host : HostSt} {fab : FabSt} {boot : BootSt} {tdm : TandemSt} {dict : DictSt} {evq : Cells (List (List Byte))} {out : List Out} {now : BitVec 64} {aon : Cells Nat} {cyc : Cells Nat} {atsBytes : Cells Nat} {freeCtr : Nat} {ticks : Nat} {pending : List Instr}
    (h1 : pending = u.pending) (h2 : is1T = u.is1T) (h3 : boot.otp = u.boot.otp) (h4 : mem = u.mem) (h5 : out = u.out) (h : Keeps s u) :
    Keeps s (State.mk is1T regs eff mem keys err pft smp lathe plt thm part tdma hdma vid arb host fab boot tdm dict evq out now aon cyc atsBytes freeCtr ticks pending) := Keeps.congr h h1 h2 h3 h4 h5

/-- A record that has sent more. -/
theorem Keeps.recOut {s u : State} {is1T : Bool} {regs : Cells Nat} {eff : Cells Nat} {mem : MemSt} {keys : KeySt} {err : ErrSt} {pft : PftSt} {smp : SmpSt} {lathe : Cells LatheSt} {plt : PltSt} {thm : ThmSt} {part : Cells PartSt} {tdma : TdmaSt} {hdma : HdmaSt} {vid : VidSt} {arb : Cells ArbSt} {host : HostSt} {fab : FabSt} {boot : BootSt} {tdm : TandemSt} {dict : DictSt} {evq : Cells (List (List Byte))} {out : List Out} {now : BitVec 64} {aon : Cells Nat} {cyc : Cells Nat} {atsBytes : Cells Nat} {freeCtr : Nat} {ticks : Nat} {pending : List Instr}
    (h1 : pending = u.pending) (h2 : is1T = u.is1T) (h3 : boot.otp = u.boot.otp) (h4 : mem = u.mem) (h5 : u.out <+: out) (h : Keeps s u) :
    Keeps s (State.mk is1T regs eff mem keys err pft smp lathe plt thm part tdma hdma vid arb host fab boot tdm dict evq out now aon cyc atsBytes freeCtr ticks pending) :=
  ⟨h1.trans h.pending, h2.trans h.var, h3 ▸ h.otp, fun w => h4 ▸ h.mem w, h.out.trans h5⟩

/-- A record whose memory is new. -/
theorem Keeps.recMem {s u : State} {is1T : Bool} {regs : Cells Nat} {eff : Cells Nat} {mem : MemSt} {keys : KeySt} {err : ErrSt} {pft : PftSt} {smp : SmpSt} {lathe : Cells LatheSt} {plt : PltSt} {thm : ThmSt} {part : Cells PartSt} {tdma : TdmaSt} {hdma : HdmaSt} {vid : VidSt} {arb : Cells ArbSt} {host : HostSt} {fab : FabSt} {boot : BootSt} {tdm : TandemSt} {dict : DictSt} {evq : Cells (List (List Byte))} {out : List Out} {now : BitVec 64} {aon : Cells Nat} {cyc : Cells Nat} {atsBytes : Cells Nat} {freeCtr : Nat} {ticks : Nat} {pending : List Instr}
    (h1 : pending = u.pending) (h2 : is1T = u.is1T) (h3 : boot.otp = u.boot.otp) (h5 : out = u.out)
    (h4 : Memory.wf u.mem = true → Memory.wf mem = true) (h : Keeps s u) : Keeps s (State.mk is1T regs eff mem keys err pft smp lathe plt thm part tdma hdma vid arb host fab boot tdm dict evq out now aon cyc atsBytes freeCtr ticks pending) :=
  Keeps.congrMem h h1 h2 h3 h5 h4

/-! A result met by cases: the state in it. -/

theorem Keeps.okFst0 {α : Type} {s a : State} {b' : α} {x : Except (State) (State × α)} (e : x = .ok (a, b')) (k : KeepsR (fun e => e) (fun r => r.1) s x) : Keeps s a := by
  subst e; cases k; assumption
theorem Keeps.okId0  {s a : State} {x : Except (State) State} (e : x = .ok a) (k : KeepsR (fun e => e) (fun r => r) s x) : Keeps s a := by
  subst e; cases k; assumption
theorem Keeps.errFst0 {α : Type} {s a : State} {x : Except (State) (State × α)} (e : x = .error a) (k : KeepsR (fun e => e) (fun r => r.1) s x) : Keeps s a := by
  subst e; cases k; assumption
theorem Keeps.errId0  {s a : State} {x : Except (State) State} (e : x = .error a) (k : KeepsR (fun e => e) (fun r => r) s x) : Keeps s a := by
  subst e; cases k; assumption
theorem Keeps.okFst1 {α β : Type} {s a : State} {b' : α} {x : Except (β × State) (State × α)} (e : x = .ok (a, b')) (k : KeepsR (fun e => e.2) (fun r => r.1) s x) : Keeps s a := by
  subst e; cases k; assumption
theorem Keeps.okId1 {β : Type} {s a : State} {x : Except (β × State) State} (e : x = .ok a) (k : KeepsR (fun e => e.2) (fun r => r) s x) : Keeps s a := by
  subst e; cases k; assumption
theorem Keeps.errFst1 {α β : Type} {s a : State} {b : β} {x : Except (β × State) (State × α)} (e : x = .error (b, a)) (k : KeepsR (fun e => e.2) (fun r => r.1) s x) : Keeps s a := by
  subst e; cases k; assumption
theorem Keeps.errId1 {β : Type} {s a : State} {b : β} {x : Except (β × State) State} (e : x = .error (b, a)) (k : KeepsR (fun e => e.2) (fun r => r) s x) : Keeps s a := by
  subst e; cases k; assumption
theorem Keeps.okFst2 {α β γ : Type} {s a : State} {b' : α} {x : Except (β × γ × State) (State × α)} (e : x = .ok (a, b')) (k : KeepsR (fun e => e.2.2) (fun r => r.1) s x) : Keeps s a := by
  subst e; cases k; assumption
theorem Keeps.okId2 {β γ : Type} {s a : State} {x : Except (β × γ × State) State} (e : x = .ok a) (k : KeepsR (fun e => e.2.2) (fun r => r) s x) : Keeps s a := by
  subst e; cases k; assumption
theorem Keeps.errFst2 {α β γ : Type} {s a : State} {b : β} {c : γ} {x : Except (β × γ × State) (State × α)} (e : x = .error (b, c, a)) (k : KeepsR (fun e => e.2.2) (fun r => r.1) s x) : Keeps s a := by
  subst e; cases k; assumption
theorem Keeps.errId2 {β γ : Type} {s a : State} {b : β} {c : γ} {x : Except (β × γ × State) State} (e : x = .error (b, c, a)) (k : KeepsR (fun e => e.2.2) (fun r => r) s x) : Keeps s a := by
  subst e; cases k; assumption
theorem Keeps.okFst3 {α β γ δ : Type} {s a : State} {b' : α} {x : Except (β × γ × δ × State) (State × α)} (e : x = .ok (a, b')) (k : KeepsR (fun e => e.2.2.2) (fun r => r.1) s x) : Keeps s a := by
  subst e; cases k; assumption
theorem Keeps.okId3 {β γ δ : Type} {s a : State} {x : Except (β × γ × δ × State) State} (e : x = .ok a) (k : KeepsR (fun e => e.2.2.2) (fun r => r) s x) : Keeps s a := by
  subst e; cases k; assumption
theorem Keeps.errFst3 {α β γ δ : Type} {s a : State} {b : β} {c : γ} {d : δ} {x : Except (β × γ × δ × State) (State × α)} (e : x = .error (b, c, d, a)) (k : KeepsR (fun e => e.2.2.2) (fun r => r.1) s x) : Keeps s a := by
  subst e; cases k; assumption
theorem Keeps.errId3 {β γ δ : Type} {s a : State} {b : β} {c : γ} {d : δ} {x : Except (β × γ × δ × State) State} (e : x = .error (b, c, d, a)) (k : KeepsR (fun e => e.2.2.2) (fun r => r) s x) : Keeps s a := by
  subst e; cases k; assumption

theorem Keeps.okAny0 {α : Type} {s : State} {r : State × α} {x : Except (State) (State × α)} (e : x = .ok r) (k : KeepsR (fun e => e) (fun r => r.1) s x) : Keeps s r.1 := by
  subst e; cases k; assumption
theorem Keeps.okAny1 {α β : Type} {s : State} {r : State × α} {x : Except (β × State) (State × α)} (e : x = .ok r) (k : KeepsR (fun e => e.2) (fun r => r.1) s x) : Keeps s r.1 := by
  subst e; cases k; assumption
theorem Keeps.errAny1 {α β : Type} {s : State} {h : α → State} {r : β × State} {x : Except (β × State) α} (e : x = .error r) (k : KeepsR (fun e => e.2) h s x) : Keeps s r.2 := by
  subst e; cases k; assumption
theorem Keeps.okAny2 {α β γ : Type} {s : State} {r : State × α} {x : Except (β × γ × State) (State × α)} (e : x = .ok r) (k : KeepsR (fun e => e.2.2) (fun r => r.1) s x) : Keeps s r.1 := by
  subst e; cases k; assumption
theorem Keeps.errAny2 {α β γ : Type} {s : State} {h : α → State} {r : β × γ × State} {x : Except (β × γ × State) α} (e : x = .error r) (k : KeepsR (fun e => e.2.2) h s x) : Keeps s r.2.2 := by
  subst e; cases k; assumption
theorem Keeps.okAny3 {α β γ δ : Type} {s : State} {r : State × α} {x : Except (β × γ × δ × State) (State × α)} (e : x = .ok r) (k : KeepsR (fun e => e.2.2.2) (fun r => r.1) s x) : Keeps s r.1 := by
  subst e; cases k; assumption
theorem Keeps.errAny3 {α β γ δ : Type} {s : State} {h : α → State} {r : β × γ × δ × State} {x : Except (β × γ × δ × State) α} (e : x = .error r) (k : KeepsR (fun e => e.2.2.2) h s x) : Keeps s r.2.2.2 := by
  subst e; cases k; assumption

end Sys2Proof.Machine
end

