-- ==== Sys2Proof/Laws/KeepsShared.lean ====
section
/-! SUPPORT. What each shared operation keeps (Keeps), and a write of any entry of the object dictionary. -/

namespace Sys2Proof.Machine
open Reg

/-! Ops.lean -/

theorem State.wr_keeps {z : State} {s : State} {f : Fld} {v : Nat} (h : Keeps z s) :
    Keeps z (State.wr s f v) := by
  unfold State.wr
  with_reducible repeat' (first | assumption | refine Keeps.rec' rfl rfl rfl rfl rfl ?_)

theorem State.raise_keeps {z : State} {s : State} {f : Fld} (h : Keeps z s) :
    Keeps z (State.raise s f) := by
  unfold State.raise
  with_reducible repeat' (first | assumption | apply State.wr_keeps)

theorem State.raiseIf_keeps {z : State} {s : State} {b : Bool} {f : Fld} (h : Keeps z s) :
    Keeps z (State.raiseIf s b f) := by
  unfold State.raiseIf
  with_reducible repeat' (first | assumption | apply State.wr_keeps | apply Keeps.ite)

theorem State.bump_keeps {z : State} {s : State} {f : Fld} {n : Nat} (h : Keeps z s) :
    Keeps z (State.bump s f n) := by
  unfold State.bump
  with_reducible repeat' (first | assumption | apply State.wr_keeps)

theorem State.wrEff_keeps {z : State} {s : State} {f : Fld} {v : Nat} (h : Keeps z s) :
    Keeps z (State.wrEff s f v) := by
  unfold State.wrEff
  with_reducible repeat' (first | assumption | refine Keeps.rec' rfl rfl rfl rfl rfl ?_)

theorem State.applyShadows_keeps {z s : State} {l : List Fld} (h : Keeps z s) : Keeps z (State.applyShadows s l) := by
  induction l generalizing s with
  | nil => exact h
  | cons f t ih => exact ih (State.wrEff_keeps h)

theorem State.clearRegs_keeps {z : State} {s : State} {lo : Nat} {hi : Nat} (h : Keeps z s) :
    Keeps z (State.clearRegs s lo hi) := by
  unfold State.clearRegs
  with_reducible repeat' (first | assumption | refine Keeps.rec' rfl rfl rfl rfl rfl ?_)

theorem State.drew_keeps {z : State} {s : State} (h : Keeps z s) :
    Keeps z (State.drew s) := by
  unfold State.drew
  with_reducible repeat' (first | assumption | refine Keeps.rec' rfl rfl rfl rfl rfl ?_)

theorem State.send_keeps {z : State} {s : State} {o : Out} (h : Keeps z s) :
    Keeps z (State.send s o) := by
  unfold State.send
  split
  · exact Keeps.recOut rfl rfl rfl rfl (List.prefix_append _ _) (State.wr_keeps h)
  · exact Keeps.recOut rfl rfl rfl rfl (List.prefix_append _ _) h

theorem State.record_keeps {z : State} {s : State} {p : Nat} {r : List Byte} (h : Keeps z s) :
    Keeps z (State.record s p r) := by
  unfold State.record
  with_reducible repeat' (first | assumption | apply Keeps.ite | refine Keeps.rec' rfl rfl rfl rfl rfl ?_)

/-! Flags.lean -/

theorem State.markSuspect_keeps {z : State} {s : State} {n : Nat} (h : Keeps z s) :
    Keeps z (State.markSuspect s n) := by
  unfold State.markSuspect
  with_reducible repeat' (first | assumption | apply State.wr_keeps)

theorem State.lastingCheck_keeps {z : State} {s : State} {site : Nat} (h : Keeps z s) :
    Keeps z (State.lastingCheck s site) := by
  unfold State.lastingCheck
  with_reducible repeat' (first
    | assumption | apply State.raise_keeps | apply State.markSuspect_keeps | apply Keeps.ite | dsimp only | refine Keeps.rec' rfl rfl rfl rfl rfl ?_)

theorem State.logUe_keeps {z : State} {s : State} {site : Nat} {off : Nat} (h : Keeps z s) :
    Keeps z (State.logUe s site off) := by
  unfold State.logUe
  with_reducible repeat' (first
    | assumption | apply State.raise_keeps | apply Keeps.ite | dsimp only | refine Keeps.rec' rfl rfl rfl rfl rfl ?_)

theorem State.reportCe_keeps {z : State} {s : State} {site : Nat} {n : Nat} (h : Keeps z s) :
    Keeps z (State.reportCe s site n) := by
  unfold State.reportCe
  with_reducible repeat' (first
    | assumption | apply State.lastingCheck_keeps | dsimp only | refine Keeps.rec' rfl rfl rfl rfl rfl ?_)

theorem State.reportUe_keeps {z : State} {s : State} {site : Nat} {off : Nat} (h : Keeps z s) :
    Keeps z (State.reportUe s site off) := by
  unfold State.reportUe
  with_reducible repeat' (first
    | assumption | apply State.lastingCheck_keeps | apply State.logUe_keeps | dsimp only | refine Keeps.rec' rfl rfl rfl rfl rfl ?_)

/-! PortOps.lean -/

theorem State.readKeyWord_keeps {z : State} {s : State} {p : Nat} {w : Nat} (h : Keeps z s) :
    Keeps z (State.readKeyWord s p w) := by
  unfold State.readKeyWord
  with_reducible repeat' (first
    | assumption | apply State.reportCe_keeps | apply State.raise_keeps | apply State.reportUe_keeps | apply State.wr_keeps | apply Keeps.ite
    | dsimp only | refine Keeps.rec' rfl rfl rfl rfl rfl ?_)

theorem State.checkAccess_keeps {z : State} {s : State} {rq : Requester} {n : Nat} {a : Nat} {len : Nat} (h : Keeps z s) :
    KeepsP z (State.checkAccess s rq n a len) := by
  unfold State.checkAccess
  with_reducible repeat' (first
    | assumption | apply Keeps.refl | apply State.readKeyWord_keeps | apply State.raise_keeps | apply Keeps.foldl | apply KeepsP.ite | dsimp only
    | intro _ | split | apply KeepsP.pair)

theorem State.storeUnit_keeps {z : State} {s : State} {n : Nat} {u : Nat} {key : Option (List Byte)} {d : List Byte} (h : Keeps z s) :
    Keeps z (State.storeUnit s n u key d) := by
  unfold State.storeUnit
  repeat' (first
    | with_reducible assumption
    | dsimp only
    | ((with_reducible apply Keeps.recMem); (with_reducible rfl); (with_reducible rfl); (with_reducible rfl); (with_reducible rfl); focus (intro hw; rw [Memory.wf_iff] at hw ⊢; obtain ⟨h1, h2, h3, h4, h5, h6, h7⟩ := hw; exact ⟨Cells.wf_setList _ _ h1, Cells.wf_clear _ _ h2, Cells.wf_set _ _ h3, h4, h5, h6, h7⟩))
    )

theorem State.injectUnit_keeps {z : State} {s : State} {n : Nat} {u : Nat} (h : Keeps z s) :
    Keeps z (State.injectUnit s n u) := by
  unfold State.injectUnit
  repeat' (first
    | with_reducible assumption
    | with_reducible apply State.drew_keeps
    | with_reducible apply State.wr_keeps
    | with_reducible apply Keeps.ite
    | dsimp only
    | ((with_reducible apply Keeps.recMem); (with_reducible rfl); (with_reducible rfl); (with_reducible rfl); (with_reducible rfl); focus (intro hw; rw [Memory.wf_iff] at hw ⊢; obtain ⟨h1, h2, h3, h4, h5, h6, h7⟩ := hw; exact ⟨h1, Cells.wf_set _ _ h2, h3, h4, h5, h6, h7⟩))
    )

theorem State.queueRetire_keeps {z : State} {s : State} {n : Nat} {blk : Nat} (h : Keeps z s) :
    Keeps z (State.queueRetire s n blk) := by
  unfold State.queueRetire
  repeat' (first
    | with_reducible assumption
    | with_reducible apply Keeps.ite
    | dsimp only
    | ((with_reducible apply Keeps.recMem); (with_reducible rfl); (with_reducible rfl); (with_reducible rfl); (with_reducible rfl); focus (intro hw; rw [Memory.wf_iff] at hw ⊢; obtain ⟨h1, h2, h3, h4, h5, h6, h7⟩ := hw; exact ⟨h1, h2, h3, h4, h5, h6, h7⟩))
    )

theorem State.countFixes_keeps {z : State} {s : State} {n : Nat} {u : Nat} (h : Keeps z s) :
    Keeps z (State.countFixes s n u) := by
  unfold State.countFixes
  repeat' (first
    | with_reducible assumption
    | with_reducible apply State.wr_keeps
    | with_reducible apply State.bump_keeps
    | with_reducible apply State.raise_keeps
    | with_reducible apply State.reportCe_keeps
    | with_reducible apply State.queueRetire_keeps
    | with_reducible apply Keeps.ite
    | dsimp only
    | split
    | ((with_reducible apply Keeps.recMem); (with_reducible rfl); (with_reducible rfl); (with_reducible rfl); (with_reducible rfl); focus (intro hw; rw [Memory.wf_iff] at hw ⊢; obtain ⟨h1, h2, h3, h4, h5, h6, h7⟩ := hw; exact ⟨h1, h2, h3, h4, h5, h6, h7⟩))
    )

theorem State.reportLost_keeps {z : State} {s : State} {n : Nat} {u : Nat} {f : Fld} (h : Keeps z s) :
    Keeps z (State.reportLost s n u f) := by
  unfold State.reportLost
  repeat' (first
    | with_reducible assumption
    | with_reducible apply State.wr_keeps
    | with_reducible apply State.queueRetire_keeps
    | with_reducible apply State.reportUe_keeps
    | with_reducible apply State.raise_keeps
    | with_reducible apply Keeps.ite
    | dsimp only
    | ((with_reducible apply Keeps.recMem); (with_reducible rfl); (with_reducible rfl); (with_reducible rfl); (with_reducible rfl); focus (intro hw; rw [Memory.wf_iff] at hw ⊢; obtain ⟨h1, h2, h3, h4, h5, h6, h7⟩ := hw; exact ⟨h1, h2, h3, h4, h5, h6, h7⟩))
    )

theorem State.wakePort_keeps {z : State} {s : State} {n : Nat} (h : Keeps z s) :
    Keeps z (State.wakePort s n) := by
  unfold State.wakePort
  with_reducible repeat' (first | assumption | apply State.wr_keeps | apply Keeps.ite)

theorem State.crossLink_keeps {z : State} {s : State} {site : Nat} (h : Keeps z s) :
    KeepsP z (State.crossLink s site) := by
  unfold State.crossLink
  with_reducible repeat' (first
    | assumption | apply State.reportCe_keeps | apply State.wr_keeps | apply State.reportUe_keeps | split | apply KeepsP.pair)

theorem State.portRead_keeps {z : State} {s : State} {rq : Requester} {n : Nat} {a : Nat} {len : Nat} (h : Keeps z s) :
    KeepsP z (State.portRead s rq n a len) := by
  unfold State.portRead
  with_reducible repeat' (first
    | assumption | apply Keeps.refl | apply State.checkAccess_keeps | apply State.wakePort_keeps | apply State.countFixes_keeps
    | apply State.reportLost_keeps | apply State.crossLink_keeps | apply Keeps.fst | apply Keeps.foldl | apply KeepsP.ite | dsimp only | intro _
    | split | apply KeepsP.pair)

theorem State.writeUnit_keeps {z : State} {s : State} {n : Nat} {u : Nat} {a : Nat} {data : List Byte} (h : Keeps z s) :
    KeepsP z (State.writeUnit s n u a data) := by
  unfold State.writeUnit
  with_reducible repeat' (first
    | assumption | apply State.reportLost_keeps | apply State.countFixes_keeps | apply State.injectUnit_keeps | apply State.storeUnit_keeps
    | apply KeepsP.ite | dsimp only | split | apply KeepsP.pair)

theorem State.portWrite_keeps {z : State} {s : State} {rq : Requester} {n : Nat} {a : Nat} {data : List Byte} (h : Keeps z s) :
    KeepsP z (State.portWrite s rq n a data) := by
  unfold State.portWrite
  with_reducible repeat' (first
    | assumption | apply Keeps.refl | apply State.checkAccess_keeps | apply State.wakePort_keeps | apply State.crossLink_keeps
    | apply State.raise_keeps | apply State.writeUnit_keeps | apply Keeps.fst | apply KeepsP.foldl | apply KeepsP.ite | dsimp only | intro _ | split
    | apply KeepsP.pair)

theorem State.partRead_keeps {z : State} {s : State} {rq : Requester} {p : Nat} {addr : Nat} {len : Nat} (h : Keeps z s) :
    KeepsP z (State.partRead s rq p addr len) := by
  unfold State.partRead
  with_reducible repeat' (first | assumption | apply State.portRead_keeps | split | apply KeepsP.pair)

theorem State.partWrite_keeps {z : State} {s : State} {rq : Requester} {p : Nat} {addr : Nat} {data : List Byte} (h : Keeps z s) :
    KeepsP z (State.partWrite s rq p addr data) := by
  unfold State.partWrite
  with_reducible repeat' (first | assumption | apply State.portWrite_keeps | split | apply KeepsP.pair)

theorem State.zeroPort_keeps {z : State} {s : State} {n : Nat} (h : Keeps z s) :
    Keeps z (State.zeroPort s n) := by
  unfold State.zeroPort
  repeat' (first
    | with_reducible assumption
    | dsimp only
    | ((with_reducible apply Keeps.recMem); (with_reducible rfl); (with_reducible rfl); (with_reducible rfl); (with_reducible rfl); focus (intro hw; rw [Memory.wf_iff] at hw ⊢; obtain ⟨h1, h2, h3, h4, h5, h6, h7⟩ := hw; exact ⟨Cells.wf_clear _ _ h1, Cells.wf_clear _ _ h2, Cells.wf_clear _ _ h3, h4, h5, h6, h7⟩))
    )

/-! SramOps.lean -/

theorem State.lsramCe_keeps {z : State} {s : State} {n : Nat} {k : Nat} (h : Keeps z s) :
    Keeps z (State.lsramCe s n k) := by
  unfold State.lsramCe
  with_reducible repeat' (first
    | assumption | apply State.reportCe_keeps | apply State.bump_keeps | apply State.raise_keeps | apply Keeps.ite)

theorem State.lsramRead_keeps {z : State} {s : State} {n : Nat} {a : Nat} {len : Nat} (h : Keeps z s) :
    KeepsP z (State.lsramRead s n a len) := by
  unfold State.lsramRead
  with_reducible repeat' (first
    | assumption | apply State.lsramCe_keeps | apply State.reportUe_keeps | apply KeepsP.caseOf | intro _ | apply KeepsP.pair)

theorem State.injectLsram_keeps {z : State} {s : State} {n : Nat} {ws : List Nat} (h : Keeps z s) :
    Keeps z (State.injectLsram s n ws) := by
  unfold State.injectLsram
  repeat' (first
    | with_reducible assumption
    | with_reducible apply State.wr_keeps
    | with_reducible apply Keeps.ite
    | dsimp only
    | ((with_reducible apply Keeps.recMem); (with_reducible rfl); (with_reducible rfl); (with_reducible rfl); (with_reducible rfl); focus (intro hw; rw [Memory.wf_iff] at hw ⊢; obtain ⟨h1, h2, h3, h4, h5, h6, h7⟩ := hw; exact ⟨h1, h2, h3, h4, Cells.wf_set _ _ h5, h6, h7⟩))
    )

theorem mergeAccess_wf {cells : Cells Byte} {errs : Cells Nat} {a : Nat} {data : List Byte} {r : Cells Byte × Cells Nat}
    (e : mergeAccess cells errs a data = some r) (h1 : Cells.wf 0 cells = true) (h2 : Cells.wf 0 errs = true) :
    Cells.wf 0 r.1 = true ∧ Cells.wf 0 r.2 = true := by
  unfold mergeAccess at e
  dsimp only at e
  split at e
  · cases e
  · cases e
    refine ⟨Cells.wf_setList _ _ (Cells.wf_fold _ (fun m b hm => ?_) _ h1), Cells.wf_fold _ (fun m b hm => Cells.wf_set _ _ hm) _ h2⟩
    split
    · exact hm
    · exact Cells.wf_setList _ _ hm

theorem State.lsramWrite_keeps {z s : State} {n a : Nat} {data : List Byte} (h : Keeps z s) : KeepsP z (State.lsramWrite s n a data) := by
  have key : KeepsP z ((accessesOf 64 (n * 2 ^ 24 + a) data.length).foldl (fun (acc : State × Bool) x =>
      caseOf (mergeAccess acc.1.mem.lsram acc.1.mem.lsramErr (max (n * 2 ^ 24 + a) (64 * x))
        ((data.drop (max (n * 2 ^ 24 + a) (64 * x) - (n * 2 ^ 24 + a))).take (64 * x + 64 - max (n * 2 ^ 24 + a) (64 * x))))
        (acc.1.reportUe n (max (n * 2 ^ 24 + a) (64 * x) - n * 2 ^ 24), false)
        (fun r => (({ acc.1 with mem := { acc.1.mem with lsram := r.1, lsramErr := r.2 } }).lsramCe n
          (fixable acc.1.mem.lsramErr (partialWords (max (n * 2 ^ 24 + a) (64 * x))
            ((data.drop (max (n * 2 ^ 24 + a) (64 * x) - (n * 2 ^ 24 + a))).take (64 * x + 64 - max (n * 2 ^ 24 + a) (64 * x))).length
            (wordsOf (max (n * 2 ^ 24 + a) (64 * x))
              ((data.drop (max (n * 2 ^ 24 + a) (64 * x) - (n * 2 ^ 24 + a))).take (64 * x + 64 - max (n * 2 ^ 24 + a) (64 * x))).length))),
          acc.2))) (s, true)) := by
    refine KeepsP.foldl _ ⟨h⟩ (fun acc x => KeepsP.caseOf ⟨State.reportUe_keeps (Keeps.refl _)⟩ (fun r e => ⟨State.lsramCe_keeps ?_⟩))
    refine Keeps.congrMem (Keeps.refl acc.1) rfl rfl rfl rfl (fun hw => ?_)
    rw [Memory.wf_iff] at hw ⊢
    obtain ⟨h1, h2, h3, h4, h5, h6, h7⟩ := hw
    exact ⟨h1, h2, h3, (mergeAccess_wf e h4 h5).1, (mergeAccess_wf e h4 h5).2, h6, h7⟩
  unfold State.lsramWrite
  exact KeepsP.ite key ⟨State.injectLsram_keeps key.fst⟩

theorem State.wayRead_keeps {z : State} {s : State} {w : Nat} {a : Nat} {len : Nat} (h : Keeps z s) :
    KeepsP z (State.wayRead s w a len) := by
  unfold State.wayRead
  with_reducible repeat' (first
    | assumption | apply State.reportCe_keeps | apply State.reportUe_keeps | apply KeepsP.caseOf | intro _ | split | apply KeepsP.pair)

theorem State.injectWay_keeps {z : State} {s : State} {w : Nat} {ws : List Nat} (h : Keeps z s) :
    Keeps z (State.injectWay s w ws) := by
  unfold State.injectWay
  repeat' (first
    | with_reducible assumption
    | with_reducible apply State.wr_keeps
    | with_reducible apply Keeps.ite
    | dsimp only
    | ((with_reducible apply Keeps.recMem); (with_reducible rfl); (with_reducible rfl); (with_reducible rfl); (with_reducible rfl); focus (intro hw; rw [Memory.wf_iff] at hw ⊢; obtain ⟨h1, h2, h3, h4, h5, h6, h7⟩ := hw; exact ⟨h1, h2, h3, h4, h5, h6, Cells.wf_set _ _ h7⟩))
    )

theorem State.wayWrite_keeps {z s : State} {w a : Nat} {data : List Byte} (h : Keeps z s) : KeepsP z (State.wayWrite s w a data) := by
  have key : KeepsP z ((accessesOf 128 (w * 2 ^ 22 + a) data.length).foldl (fun (acc : State × Bool) x =>
      caseOf (mergeAccess acc.1.mem.way acc.1.mem.wayErr (max (w * 2 ^ 22 + a) (128 * x))
        ((data.drop (max (w * 2 ^ 22 + a) (128 * x) - (w * 2 ^ 22 + a))).take (128 * x + 128 - max (w * 2 ^ 22 + a) (128 * x))))
        (acc.1.reportUe (16 + w) (max (w * 2 ^ 22 + a) (128 * x) - w * 2 ^ 22), false)
        (fun x => ({ acc.1 with mem := { acc.1.mem with way := x.1, wayErr := x.2 } }, acc.2))) (s, true)) := by
    refine KeepsP.foldl _ ⟨h⟩ (fun acc x => KeepsP.caseOf ⟨State.reportUe_keeps (Keeps.refl _)⟩ (fun r e => ⟨?_⟩))
    refine Keeps.congrMem (Keeps.refl acc.1) rfl rfl rfl rfl (fun hw => ?_)
    rw [Memory.wf_iff] at hw ⊢
    obtain ⟨h1, h2, h3, h4, h5, h6, h7⟩ := hw
    exact ⟨h1, h2, h3, h4, h5, (mergeAccess_wf e h6 h7).1, (mergeAccess_wf e h6 h7).2⟩
  unfold State.wayWrite
  exact KeepsP.ite key ⟨State.injectWay_keeps key.fst⟩

theorem State.zeroLsram_keeps {z : State} {s : State} {n : Nat} (h : Keeps z s) :
    Keeps z (State.zeroLsram s n) := by
  unfold State.zeroLsram
  repeat' (first
    | with_reducible assumption
    | dsimp only
    | ((with_reducible apply Keeps.recMem); (with_reducible rfl); (with_reducible rfl); (with_reducible rfl); (with_reducible rfl); focus (intro hw; rw [Memory.wf_iff] at hw ⊢; obtain ⟨h1, h2, h3, h4, h5, h6, h7⟩ := hw; exact ⟨h1, h2, h3, Cells.wf_clear _ _ h4, Cells.wf_clear _ _ h5, h6, h7⟩))
    )

theorem State.zeroWay_keeps {z : State} {s : State} {w : Nat} (h : Keeps z s) :
    Keeps z (State.zeroWay s w) := by
  unfold State.zeroWay
  repeat' (first
    | with_reducible assumption
    | dsimp only
    | ((with_reducible apply Keeps.recMem); (with_reducible rfl); (with_reducible rfl); (with_reducible rfl); (with_reducible rfl); focus (intro hw; rw [Memory.wf_iff] at hw ⊢; obtain ⟨h1, h2, h3, h4, h5, h6, h7⟩ := hw; exact ⟨h1, h2, h3, h4, h5, Cells.wf_clear _ _ h6, Cells.wf_clear _ _ h7⟩))
    )

/-! Records.lean -/

theorem State.setLoop_keeps {z : State} {s : State} {p : Nat} {x : PltPart} (h : Keeps z s) :
    Keeps z (State.setLoop s p x) := by
  unfold State.setLoop
  with_reducible repeat' (first | assumption | dsimp only | refine Keeps.rec' rfl rfl rfl rfl rfl ?_)

theorem State.memLost_keeps {z : State} {s : State} {n : Nat} {u : Nat} (h : Keeps z s) :
    Keeps z (State.memLost s n u) := by
  unfold State.memLost
  with_reducible repeat' (first | assumption | apply State.record_keeps | split)

theorem State.sendVec_keeps {z : State} {s : State} {fn : Nat} {vec : Nat} (h : Keeps z s) :
    Keeps z (State.sendVec s fn vec) := by
  unfold State.sendVec
  with_reducible repeat' (first
    | assumption | apply State.send_keeps | apply Keeps.ite | dsimp only | refine Keeps.rec' rfl rfl rfl rfl rfl ?_)

theorem State.logUr_keeps {z : State} {s : State} (h : Keeps z s) :
    Keeps z (State.logUr s) := by
  unfold State.logUr
  with_reducible repeat' (first | assumption | apply State.raise_keeps)

theorem State.logCa_keeps {z : State} {s : State} (h : Keeps z s) :
    Keeps z (State.logCa s) := by
  unfold State.logCa
  with_reducible repeat' (first | assumption | apply State.raise_keeps)

theorem State.undefPort_keeps {z : State} {s : State} {n : Nat} {a : Nat} {len : Nat} (h : Keeps z s) :
    Keeps z (State.undefPort s n a len) := by
  unfold State.undefPort
  repeat' (first
    | with_reducible assumption
    | dsimp only
    | ((with_reducible apply Keeps.recMem); (with_reducible rfl); (with_reducible rfl); (with_reducible rfl); (with_reducible rfl); focus (intro hw; rw [Memory.wf_iff] at hw ⊢; obtain ⟨h1, h2, h3, h4, h5, h6, h7⟩ := hw; exact ⟨h1, Cells.wf_clear _ _ h2, Cells.wf_fill _ _ (by simp) h3, h4, h5, h6, h7⟩))
    )

theorem State.drewMany_keeps {z : State} {s : State} {len : Nat} (h : Keeps z s) :
    Keeps z (State.drewMany s len) := by
  unfold State.drewMany
  with_reducible repeat' (first | assumption | refine Keeps.rec' rfl rfl rfl rfl rfl ?_)

theorem State.undefMem_keeps {z : State} {s : State} {n : Nat} {a : Nat} {len : Nat} (h : Keeps z s) :
    Keeps z (State.undefMem s n a len) := by
  unfold State.undefMem
  with_reducible repeat' (first
    | assumption | apply Keeps.refl | apply State.undefPort_keeps | apply State.storeUnit_keeps | apply State.drewMany_keeps | apply Keeps.foldl
    | apply Keeps.ite | dsimp only | intro _)

theorem State.undefLsram_keeps {z : State} {s : State} {n : Nat} {a : Nat} {len : Nat} (h : Keeps z s) :
    Keeps z (State.undefLsram s n a len) := by
  unfold State.undefLsram
  repeat' (first
    | with_reducible assumption
    | with_reducible apply State.drewMany_keeps
    | dsimp only
    | ((with_reducible apply Keeps.recMem); (with_reducible rfl); (with_reducible rfl); (with_reducible rfl); (with_reducible rfl); focus (intro hw; rw [Memory.wf_iff] at hw ⊢; obtain ⟨h1, h2, h3, h4, h5, h6, h7⟩ := hw; exact ⟨h1, h2, h3, Cells.wf_setList _ _ h4, h5, h6, h7⟩))
    )

theorem State.undefWay_keeps {z : State} {s : State} {w : Nat} {a : Nat} {len : Nat} (h : Keeps z s) :
    Keeps z (State.undefWay s w a len) := by
  unfold State.undefWay
  repeat' (first
    | with_reducible assumption
    | with_reducible apply State.drewMany_keeps
    | dsimp only
    | ((with_reducible apply Keeps.recMem); (with_reducible rfl); (with_reducible rfl); (with_reducible rfl); (with_reducible rfl); focus (intro hw; rw [Memory.wf_iff] at hw ⊢; obtain ⟨h1, h2, h3, h4, h5, h6, h7⟩ := hw; exact ⟨h1, h2, h3, h4, h5, Cells.wf_setList _ _ h6, h7⟩))
    )

theorem State.writePltWord_keeps {z : State} {s : State} {w : Nat} (h : Keeps z s) :
    Keeps z (State.writePltWord s w) := by
  unfold State.writePltWord
  with_reducible repeat' (first
    | assumption | apply State.wr_keeps | apply Keeps.ite | dsimp only | refine Keeps.rec' rfl rfl rfl rfl rfl ?_)

theorem State.setSlot_keeps {z : State} {s : State} {k : Nat} {r : SlotRec} (h : Keeps z s) :
    Keeps z (State.setSlot s k r) := by
  unfold State.setSlot
  with_reducible repeat' (first
    | assumption | apply State.writePltWord_keeps | dsimp only | refine Keeps.rec' rfl rfl rfl rfl rfl ?_)

theorem State.slotReleased_keeps {z : State} {s : State} {k : Nat} (h : Keeps z s) :
    Keeps z (State.slotReleased s k) := by
  unfold State.slotReleased
  with_reducible repeat' (first | assumption | apply State.setSlot_keeps | apply Keeps.ite)

/-! TdmaOps.lean -/

theorem State.setTch_keeps {z : State} {s : State} {g : Nat} {c : Nat} {x : TdmaCh} (h : Keeps z s) :
    Keeps z (State.setTch s g c x) := by
  unfold State.setTch
  with_reducible repeat' (first | assumption | refine Keeps.rec' rfl rfl rfl rfl rfl ?_)

theorem State.setLth_keeps {z : State} {s : State} {n : Nat} {x : LatheSt} (h : Keeps z s) :
    Keeps z (State.setLth s n x) := by
  unfold State.setLth
  with_reducible repeat' (first | assumption | refine Keeps.rec' rfl rfl rfl rfl rfl ?_)

theorem State.tdmaApply_keeps {z : State} {s : State} {g : Nat} {c : Nat} (h : Keeps z s) :
    Keeps z (State.tdmaApply s g c) := by
  unfold State.tdmaApply
  with_reducible repeat' (first | assumption | apply State.raise_keeps | apply State.applyShadows_keeps | apply Keeps.ite)

theorem State.tdmaBoundary_keeps {z : State} {s : State} {g : Nat} {c : Nat} (h : Keeps z s) :
    Keeps z (State.tdmaBoundary s g c) := by
  unfold State.tdmaBoundary
  with_reducible repeat' (first | assumption | apply State.tdmaApply_keeps | apply State.setTch_keeps | apply Keeps.ite)

theorem State.dropTch_keeps {z : State} {s : State} {g : Nat} {c : Nat} {st : Nat} (h : Keeps z s) :
    Keeps z (State.dropTch s g c st) := by
  unfold State.dropTch
  with_reducible repeat' (first | assumption | apply State.wr_keeps | apply State.setTch_keeps | apply State.tdmaBoundary_keeps)

theorem State.cutTch_keeps {z : State} {s : State} {g : Nat} {c : Nat} {st : Nat} (h : Keeps z s) :
    Keeps z (State.cutTch s g c st) := by
  unfold State.cutTch
  with_reducible repeat' (first
    | assumption | apply Keeps.refl | apply State.undefLsram_keeps | apply State.undefWay_keeps | apply State.undefMem_keeps
    | apply State.dropTch_keeps | apply Keeps.foldl | apply Keeps.ite | dsimp only | intro _ | split | refine Keeps.rec' rfl rfl rfl rfl rfl ?_)

theorem State.tdmaStop_keeps {z : State} {s : State} {g : Nat} {cause : Nat} {addr : Nat} {chan : Nat} (h : Keeps z s) :
    Keeps z (State.tdmaStop s g cause addr chan) := by
  unfold State.tdmaStop
  with_reducible repeat' (first
    | assumption | apply Keeps.refl | apply State.cutTch_keeps | apply State.wr_keeps | apply State.setLth_keeps | apply Keeps.foldl | apply Keeps.ite
    | intro _)

theorem State.tdmaUnstop_keeps {z : State} {s : State} {g : Nat} (h : Keeps z s) :
    Keeps z (State.tdmaUnstop s g) := by
  unfold State.tdmaUnstop
  with_reducible repeat' (first
    | assumption | apply Keeps.refl | apply State.wr_keeps | apply Keeps.foldl | apply Keeps.ite | intro _)

theorem State.tdmaGroupReset_keeps {z : State} {s : State} {g : Nat} (h : Keeps z s) :
    Keeps z (State.tdmaGroupReset s g) := by
  unfold State.tdmaGroupReset
  with_reducible repeat' (first | assumption | apply State.clearRegs_keeps | dsimp only | refine Keeps.rec' rfl rfl rfl rfl rfl ?_)

theorem State.tensorFence_keeps {z : State} {s : State} {g : Nat} {c : Nat} (h : Keeps z s) :
    Keeps z (State.tensorFence s g c) := by
  unfold State.tensorFence
  with_reducible repeat' (first | assumption | apply State.wr_keeps | apply State.dropTch_keeps | apply Keeps.ite)

theorem State.tensorDisable_keeps {z : State} {s : State} {g : Nat} {c : Nat} (h : Keeps z s) :
    Keeps z (State.tensorDisable s g c) := by
  unfold State.tensorDisable
  with_reducible repeat' (first
    | assumption | apply State.cutTch_keeps | apply State.wr_keeps | apply State.drew_keeps | apply Keeps.ite)

theorem State.tdmaInjected_keeps {z : State} {s : State} {g : Nat} (h : Keeps z s) :
    KeepsR (fun e => e.2) (fun a => a) z (State.tdmaInjected s g) := by
  unfold State.tdmaInjected
  with_reducible repeat' (first | assumption | apply State.wr_keeps | apply KeepsR.okId | apply KeepsR.err1 | apply KeepsR.ite)

theorem State.tdmaRead_keeps {z : State} {s : State} {g : Nat} {space : Nat} {a : Int} {len : Nat} (h : Keeps z s) :
    KeepsR (fun e => e.2) (fun a => a.1) z (State.tdmaRead s g space a len) := by
  unfold State.tdmaRead
  with_reducible repeat' (first
    | assumption | apply Keeps.refl | apply State.lsramRead_keeps | apply State.wayRead_keeps | apply State.partRead_keeps
    | (apply KeepsR.bind; apply State.tdmaInjected_keeps) | apply Keeps.fst | apply KeepsR.okPair | apply KeepsR.err1 | apply KeepsR.ite | dsimp only
    | intro _ | split)

theorem State.queueWrites_keeps {z : State} {s : State} {g : Nat} {c : Nat} {p : Nat} {peer : Nat} {addr : Nat} {data : List Byte} (h : Keeps z s) :
    Keeps z (State.queueWrites s g c p peer addr data) := by
  unfold State.queueWrites
  with_reducible repeat' (first | assumption | dsimp only | refine Keeps.rec' rfl rfl rfl rfl rfl ?_)

theorem State.tdmaWrite_keeps {z : State} {s : State} {g : Nat} {c : Nat} {space : Nat} {a : Int} {data : List Byte} (h : Keeps z s) :
    KeepsR (fun e => e.2) (fun a => a) z (State.tdmaWrite s g c space a data) := by
  unfold State.tdmaWrite
  with_reducible repeat' (first
    | assumption | apply Keeps.refl | apply State.bump_keeps | apply State.lsramWrite_keeps | apply State.wayWrite_keeps
    | apply State.queueWrites_keeps | apply State.partWrite_keeps | (apply KeepsR.bind; apply State.tdmaInjected_keeps) | apply Keeps.fst
    | apply KeepsR.okId | apply KeepsR.err1 | apply KeepsR.ite | dsimp only | intro _ | split)

theorem State.tdmaMove_keeps {z : State} {s : State} {g : Nat} {c : Nat} {w : List Nat} {x : Nat} {len : Nat} (h : Keeps z s) :
    KeepsR (fun e => e.2.2) (fun a => a) z (State.tdmaMove s g c w x len) := by
  unfold State.tdmaMove
  with_reducible repeat' (first
    | assumption | apply Keeps.refl | apply State.tdmaRead_keeps | apply State.tdmaWrite_keeps
    | apply KeepsR.bind (h := (fun a => a.1 : State × _ → State)) | (apply Keeps.okFst1; assumption) | (apply Keeps.okId1; assumption)
    | (apply Keeps.errFst1; assumption) | (apply Keeps.errId1; assumption) | apply KeepsR.okPair | apply KeepsR.okId | apply KeepsR.err2
    | apply KeepsR.foldlM | dsimp only | intro _ | split)

theorem State.tdmaDone_keeps {z : State} {s : State} {g : Nat} {c : Nat} {w : List Nat} (h : Keeps z s) :
    Keeps z (State.tdmaDone s g c w) := by
  unfold State.tdmaDone
  with_reducible repeat' (first
    | assumption | apply State.dropTch_keeps | apply State.wr_keeps | apply State.setTch_keeps | apply State.tdmaBoundary_keeps | apply Keeps.ite)

theorem State.tdmaStart_keeps {z : State} {s : State} {g : Nat} {c : Nat} {addr : Nat} (h : Keeps z s) :
    Keeps z (State.tdmaStart s g c addr) := by
  unfold State.tdmaStart
  with_reducible repeat' (first | assumption | apply State.wr_keeps | apply State.setTch_keeps)

theorem State.evtAdd_keeps {z : State} {s : State} {n : Nat} {c : Nat} {k : Nat} (h : Keeps z s) :
    Keeps z (State.evtAdd s n c k) := by
  unfold State.evtAdd
  with_reducible repeat' (first | assumption | apply State.bump_keeps)

theorem State.pulse_keeps {z : State} {s : State} {n : Nat} {c : Nat} (h : Keeps z s) :
    Keeps z (State.pulse s n c) := by
  unfold State.pulse
  with_reducible repeat' (first | assumption | apply State.wr_keeps | apply State.evtAdd_keeps | apply Keeps.ite)

/-! Arb.lean -/

theorem State.setArb_keeps {z : State} {s : State} {i : Nat} {x : ArbSt} (h : Keeps z s) :
    Keeps z (State.setArb s i x) := by
  unfold State.setArb
  with_reducible repeat' (first | assumption | refine Keeps.rec' rfl rfl rfl rfl rfl ?_)

theorem State.arbApply_keeps {z : State} {s : State} {i : Nat} (h : Keeps z s) :
    Keeps z (State.arbApply s i) := by
  unfold State.arbApply
  with_reducible repeat' (first
    | assumption | apply Keeps.refl | apply State.wrEff_keeps | apply State.setArb_keeps | apply Keeps.foldl | dsimp only | intro _ | split)

/-! BootBase.lean -/

theorem State.setRun_keeps {z : State} {s : State} {v : Nat} (h : Keeps z s) :
    Keeps z (State.setRun s v) := by
  unfold State.setRun
  with_reducible repeat' (first | assumption | apply State.wr_keeps)

theorem State.railsOff_keeps {z : State} {s : State} {rs : List Nat} (h : Keeps z s) :
    Keeps z (State.railsOff s rs) := by
  unfold State.railsOff
  with_reducible repeat' (first
    | assumption | apply State.wr_keeps | apply Keeps.ite | dsimp only | refine Keeps.rec' rfl rfl rfl rfl rfl ?_)

theorem State.computeLost_keeps {z : State} {s : State} (h : Keeps z s) :
    Keeps z (State.computeLost s) := by
  unfold State.computeLost
  repeat' (first
    | with_reducible assumption
    | with_reducible apply State.clearRegs_keeps
    | dsimp only
    | ((with_reducible apply Keeps.recMem); (with_reducible rfl); (with_reducible rfl); (with_reducible rfl); (with_reducible rfl); focus (intro hw; rw [Memory.wf_iff] at hw ⊢; obtain ⟨h1, h2, h3, h4, h5, h6, h7⟩ := hw; exact ⟨h1, h2, h3, rfl, rfl, rfl, rfl⟩))
    )

theorem State.computeOff_keeps {z : State} {s : State} (h : Keeps z s) :
    Keeps z (State.computeOff s) := by
  unfold State.computeOff
  with_reducible repeat' (first | assumption | apply State.computeLost_keeps | apply State.railsOff_keeps)

theorem State.die_keeps {z : State} {s : State} {cause : Nat} (h : Keeps z s) :
    Keeps z (State.die s cause) := by
  unfold State.die
  with_reducible repeat' (first
    | assumption | apply State.wr_keeps | apply State.setRun_keeps | apply State.computeOff_keeps | dsimp only
    | refine Keeps.rec' rfl rfl rfl rfl rfl ?_)

theorem State.portHeld_keeps {z : State} {s : State} {n : Nat} (h : Keeps z s) :
    Keeps z (State.portHeld s n) := by
  unfold State.portHeld
  with_reducible repeat' (first | assumption | apply State.wr_keeps)

theorem State.bootReady_keeps {z : State} {s : State} (h : Keeps z s) :
    Keeps z (State.bootReady s) := by
  unfold State.bootReady
  with_reducible repeat' (first
    | assumption | apply Keeps.refl | apply State.portHeld_keeps | apply State.die_keeps | apply State.setRun_keeps | apply Keeps.foldl
    | apply Keeps.ite | intro _)

/-! KeyOps.lean -/

theorem State.writeKeyWord_keeps {z : State} {s : State} {w : Nat} (h : Keeps z s) :
    Keeps z (State.writeKeyWord s w) := by
  unfold State.writeKeyWord
  with_reducible repeat' (first
    | assumption | apply State.wr_keeps | apply Keeps.ite | dsimp only | refine Keeps.rec' rfl rfl rfl rfl rfl ?_)

theorem State.destroySlot_keeps {z : State} {s : State} {p : Nat} {k : Nat} (h : Keeps z s) :
    Keeps z (State.destroySlot s p k) := by
  unfold State.destroySlot
  with_reducible repeat' (first | assumption | apply State.wr_keeps | dsimp only | refine Keeps.rec' rfl rfl rfl rfl rfl ?_)

theorem State.keyPut_keeps {z : State} {s : State} {p : Nat} {k : Nat} {b : List Byte} (h : Keeps z s) :
    Keeps z (State.keyPut s p k b) := by
  unfold State.keyPut
  with_reducible repeat' (first
    | assumption | apply State.wr_keeps | apply State.writeKeyWord_keeps | dsimp only | refine Keeps.rec' rfl rfl rfl rfl rfl ?_)

theorem State.keyLoad_keeps {z : State} {s : State} {p : Nat} {k : Nat} {key : List Byte} (h : Keeps z s) :
    KeepsP z (State.keyLoad s p k key) := by
  unfold State.keyLoad
  with_reducible repeat' (first | assumption | apply State.keyPut_keeps | apply KeepsP.ite | apply KeepsP.pair)

theorem State.sweepsDone_keeps {z : State} {s : State} {p : Nat} (h : Keeps z s) :
    Keeps z (State.sweepsDone s p) := by
  unfold State.sweepsDone
  with_reducible repeat' (first | assumption | apply State.wr_keeps | apply Keeps.ite)

theorem State.keyApply_keeps {z : State} {s : State} {p : Nat} {enable : Bool} (h : Keeps z s) :
    Keeps z (State.keyApply s p enable) := by
  unfold State.keyApply
  with_reducible repeat' (first
    | assumption | apply Keeps.refl | apply State.wr_keeps | apply State.applyShadows_keeps | apply State.drew_keeps | apply State.writeKeyWord_keeps
    | apply Keeps.foldl | dsimp only | intro _ | refine Keeps.rec' rfl rfl rfl rfl rfl ?_)

theorem State.keyCheckApply_keeps {z : State} {s : State} {p : Nat} {enable : Bool} (h : Keeps z s) :
    Keeps z (State.keyCheckApply s p enable) := by
  unfold State.keyCheckApply
  with_reducible repeat' (first | assumption | apply State.wr_keeps | apply State.raise_keeps | apply State.keyApply_keeps | split)

theorem State.keyEpoch_keeps {z : State} {s : State} {p : Nat} (h : Keeps z s) :
    Keeps z (State.keyEpoch s p) := by
  unfold State.keyEpoch
  with_reducible repeat' (first
    | assumption | apply State.keyCheckApply_keeps | apply State.wr_keeps | dsimp only | split | refine Keeps.rec' rfl rfl rfl rfl rfl ?_)

/-! Memory.lean -/

theorem State.portFail_keeps {z : State} {s : State} {n : Nat} (h : Keeps z s) :
    Keeps z (State.portFail s n) := by
  unfold State.portFail
  with_reducible repeat' (first | assumption | apply State.raise_keeps | apply State.wr_keeps)

theorem scrubWords_wf {cells : Cells Byte} {errs : Cells Nat} {ws : List Nat} (h1 : Cells.wf 0 cells = true) (h2 : Cells.wf 0 errs = true) :
    Cells.wf 0 (scrubWords cells errs ws).1 = true ∧ Cells.wf 0 (scrubWords cells errs ws).2 = true := by
  unfold scrubWords
  generalize hc : cells = c0 at h1
  have key : ∀ (acc : Cells Byte × Cells Nat), Cells.wf 0 acc.1 = true → Cells.wf 0 acc.2 = true →
      ∀ r, r = ws.foldl (fun (acc : Cells Byte × Cells Nat) w =>
        match decodeWord (Cells.get 0 errs w) with
        | .corrected _ _ => (Cells.setList 0 acc.1 (8 * w) (decodedBytes cells errs (8 * w) 8), Cells.set 0 acc.2 w 0)
        | .clean => acc
        | .uncorrectable => acc) acc → Cells.wf 0 r.1 = true ∧ Cells.wf 0 r.2 = true := by
    induction ws with
    | nil => rintro acc a b r rfl; exact ⟨a, b⟩
    | cons w ws ih =>
      rintro acc a b r rfl
      simp only [List.foldl_cons]
      refine ih _ ?_ ?_ _ rfl
      · cases decodeWord (Cells.get 0 errs w) with
        | corrected _ _ => exact Cells.wf_setList _ _ a
        | clean => exact a
        | uncorrectable => exact a
      · cases decodeWord (Cells.get 0 errs w) with
        | corrected _ _ => exact Cells.wf_set w 0 b
        | clean => exact b
        | uncorrectable => exact b
  subst hc
  exact key (cells, errs) h1 h2 _ rfl

theorem State.scrubLsram_keeps {z s : State} {unit next : Nat} {ws : List Nat} (h : Keeps z s) : Keeps z (State.scrubLsram s unit next ws) := by
  refine Keeps.congrMem h rfl rfl rfl rfl (fun hw => ?_)
  rw [Memory.wf_iff] at hw ⊢
  exact ⟨hw.1, hw.2.1, hw.2.2.1, (scrubWords_wf hw.2.2.2.1 hw.2.2.2.2.1).1, (scrubWords_wf hw.2.2.2.1 hw.2.2.2.2.1).2, hw.2.2.2.2.2.1, hw.2.2.2.2.2.2⟩

theorem State.scrubWay_keeps {z : State} {s : State} {unit : Nat} {next : Nat} {ws : List Nat} (h : Keeps z s) :
    Keeps z (State.scrubWay s unit next ws) := by
  refine Keeps.congrMem h rfl rfl rfl rfl (fun hw => ?_)
  rw [Memory.wf_iff] at hw ⊢
  exact ⟨hw.1, hw.2.1, hw.2.2.1, hw.2.2.2.1, hw.2.2.2.2.1, (scrubWords_wf hw.2.2.2.2.2.1 hw.2.2.2.2.2.2).1, (scrubWords_wf hw.2.2.2.2.2.1 hw.2.2.2.2.2.2).2⟩

theorem State.patrolWrap_keeps {z : State} {s : State} {n : Nat} (h : Keeps z s) :
    Keeps z (State.patrolWrap s n) := by
  unfold State.patrolWrap
  repeat' (first
    | with_reducible assumption
    | dsimp only
    | ((with_reducible apply Keeps.recMem); (with_reducible rfl); (with_reducible rfl); (with_reducible rfl); (with_reducible rfl); focus (intro hw; rw [Memory.wf_iff] at hw ⊢; obtain ⟨h1, h2, h3, h4, h5, h6, h7⟩ := hw; exact ⟨h1, h2, h3, h4, h5, h6, h7⟩))
    )

theorem State.memCommit_keeps {z : State} {s : State} {n : Nat} (h : Keeps z s) :
    Keeps z (State.memCommit s n) := by
  unfold State.memCommit
  with_reducible repeat' (first | assumption | apply State.raise_keeps | apply State.applyShadows_keeps | apply Keeps.ite)

theorem State.rotateStart_keeps {z : State} {s : State} {p : Nat} (h : Keeps z s) :
    KeepsP z (State.rotateStart s p) := by
  unfold State.rotateStart
  with_reducible repeat' (first
    | assumption | apply Keeps.refl | apply State.raise_keeps | apply State.wr_keeps | apply State.sweepsDone_keeps | apply Keeps.foldl
    | apply KeepsP.ite | dsimp only | intro _ | apply KeepsP.pair)

/-! Operands.lean -/

theorem State.touchSpan_keeps {z : State} {s : State} {n : Nat} {p : Span} (h : Keeps z s) :
    KeepsP z (State.touchSpan s n p) := by
  unfold State.touchSpan
  with_reducible repeat' (first
    | assumption | apply State.lsramRead_keeps | apply State.wayRead_keeps | apply Keeps.fst | apply KeepsP.ite | dsimp only | apply KeepsP.pair)

theorem State.writeSpan_keeps {z : State} {s : State} {n : Nat} {addr : Nat} {delta : Int} {data : List Byte} (h : Keeps z s) :
    KeepsP z (State.writeSpan s n addr delta data) := by
  unfold State.writeSpan
  with_reducible repeat' (first | assumption | apply State.lsramWrite_keeps | apply State.wayWrite_keeps | apply KeepsP.ite)

/-! PftOps.lean -/

theorem State.pftFault_keeps {z : State} {s : State} {p : Nat} {f : Nat} {why : Fld} (h : Keeps z s) :
    Keeps z (State.pftFault s p f why) := by
  unfold State.pftFault
  with_reducible repeat' (first | assumption | apply State.wr_keeps | apply State.raise_keeps | apply Keeps.ite)

theorem State.tableRead_keeps {z : State} {s : State} {p : Nat} {off : Nat} {f : Nat} (h : Keeps z s) :
    KeepsR (fun e => e.2) (fun a => a.1) z (State.tableRead s p off f) := by
  unfold State.tableRead
  with_reducible repeat' (first
    | assumption | apply State.pftFault_keeps | apply State.wr_keeps | apply State.portRead_keeps | (apply Keeps.of_pair; assumption)
    | apply KeepsR.okPair | apply KeepsR.err1 | apply KeepsR.ite | split)

theorem State.tableWrite_keeps {z : State} {s : State} {p : Nat} {off : Nat} {f : Nat} {data : List Byte} (h : Keeps z s) :
    KeepsR (fun e => e.2) (fun a => a) z (State.tableWrite s p off f data) := by
  unfold State.tableWrite
  with_reducible repeat' (first
    | assumption | apply State.portWrite_keeps | apply State.pftFault_keeps | (apply Keeps.of_pair; assumption) | apply KeepsR.okId
    | apply KeepsR.err1 | split)

theorem State.frameRead_keeps {z : State} {s : State} {p : Nat} {f : Nat} (h : Keeps z s) :
    KeepsR (fun e => e.2) (fun a => a.1) z (State.frameRead s p f) := by
  unfold State.frameRead
  with_reducible repeat' (first | assumption | apply State.tableRead_keeps)

theorem State.frameWrite_keeps {z : State} {s : State} {p : Nat} {f : Nat} {count : Nat} {st : Nat} (h : Keeps z s) :
    KeepsR (fun e => e.2) (fun a => a) z (State.frameWrite s p f count st) := by
  unfold State.frameWrite
  with_reducible repeat' (first | assumption | apply State.tableWrite_keeps)

theorem State.setLine_keeps {z : State} {s : State} {p : Nat} {t : Nat} {l : Nat} {v : Nat} (h : Keeps z s) :
    Keeps z (State.setLine s p t l v) := by
  unfold State.setLine
  with_reducible repeat' (first | assumption | dsimp only | refine Keeps.rec' rfl rfl rfl rfl rfl ?_)

theorem State.setLeaf_keeps {z : State} {s : State} {p : Nat} {t : Nat} {v : Nat} (h : Keeps z s) :
    Keeps z (State.setLeaf s p t v) := by
  unfold State.setLeaf
  with_reducible repeat' (first | assumption | apply Keeps.refl | apply State.setLine_keeps | apply Keeps.foldl | intro _)

theorem State.slicesWrite_keeps {z : State} {s : State} {p : Nat} {f : Nat} {off : Nat} {data : List Byte} (h : Keeps z s) :
    KeepsR (fun e => e.2) (fun a => a) z (State.slicesWrite s p f off data) := by
  unfold State.slicesWrite
  with_reducible repeat' (first
    | assumption | apply Keeps.refl | apply State.portWrite_keeps | apply State.pftFault_keeps | (apply Keeps.of_pair; assumption) | apply KeepsR.okId
    | apply KeepsR.err1 | apply KeepsR.foldlM | intro _ | split)

theorem State.allocFrame_keeps {z : State} {s : State} {p : Nat} {prov : Bool} {st : Nat} {kind : Nat} (h : Keeps z s) :
    KeepsR (fun e => e.2) (fun a => a.1) z (State.allocFrame s p prov st kind) := by
  unfold State.allocFrame
  with_reducible repeat' (first
    | assumption | apply Keeps.refl | apply State.wr_keeps | apply State.drew_keeps | (apply KeepsR.bind; apply State.frameRead_keeps)
    | (apply KeepsR.bind; apply State.frameWrite_keeps) | (apply KeepsR.bind; apply State.slicesWrite_keeps) | apply Keeps.ite | apply KeepsR.okPair
    | apply KeepsR.err1 | apply KeepsR.ite | dsimp only | intro _ | split)

theorem State.allocLine_keeps {z : State} {s : State} {p : Nat} (h : Keeps z s) :
    KeepsR (fun e => e.2) (fun a => a.1) z (State.allocLine s p) := by
  unfold State.allocLine
  with_reducible repeat' (first
    | assumption | apply State.setLine_keeps | apply State.drew_keeps | apply KeepsR.okPair | apply KeepsR.err1 | dsimp only | split)

theorem State.allocLeaf_keeps {z : State} {s : State} {p : Nat} (h : Keeps z s) :
    KeepsR (fun e => e.2) (fun a => a.1) z (State.allocLeaf s p) := by
  unfold State.allocLeaf
  with_reducible repeat' (first
    | assumption | apply State.setLeaf_keeps | apply State.drew_keeps | apply KeepsR.okPair | apply KeepsR.err1 | dsimp only | split)

theorem State.showWalks_keeps {z : State} {s : State} {p : Nat} (h : Keeps z s) :
    Keeps z (State.showWalks s p) := by
  unfold State.showWalks
  with_reducible repeat' (first | assumption | apply State.wr_keeps)

theorem State.setCnt_keeps {z : State} {s : State} {p : Nat} {g : Nat} {v : Nat} (h : Keeps z s) :
    Keeps z (State.setCnt s p g v) := by
  unfold State.setCnt
  with_reducible repeat' (first | assumption | apply State.showWalks_keeps | dsimp only | refine Keeps.rec' rfl rfl rfl rfl rfl ?_)

theorem State.setPins_keeps {z : State} {s : State} {p : Nat} {g : Nat} {v : Nat} (h : Keeps z s) :
    Keeps z (State.setPins s p g v) := by
  unfold State.setPins
  with_reducible repeat' (first | assumption | dsimp only | refine Keeps.rec' rfl rfl rfl rfl rfl ?_)

theorem State.setRetired_keeps {z : State} {s : State} {p : Nat} {g : Nat} {l : List KvItem} (h : Keeps z s) :
    Keeps z (State.setRetired s p g l) := by
  unfold State.setRetired
  with_reducible repeat' (first | assumption | apply State.showWalks_keeps | dsimp only | refine Keeps.rec' rfl rfl rfl rfl rfl ?_)

theorem State.takePin_keeps {z : State} {s : State} {p : Nat} (h : Keeps z s) :
    Keeps z (State.takePin s p) := by
  unfold State.takePin
  with_reducible repeat' (first | assumption | apply State.setCnt_keeps)

theorem State.endPin_keeps {z : State} {s : State} {p : Nat} {g : Nat} (h : Keeps z s) :
    Keeps z (State.endPin s p g) := by
  unfold State.endPin
  with_reducible repeat' (first | assumption | apply State.setCnt_keeps)

theorem State.retireItem_keeps {z : State} {s : State} {p : Nat} {it : KvItem} (h : Keeps z s) :
    Keeps z (State.retireItem s p it) := by
  unfold State.retireItem
  with_reducible repeat' (first
    | assumption | apply State.setLine_keeps | apply State.setLeaf_keeps | apply State.setRetired_keeps | split)

theorem State.dropFrame_keeps {z : State} {s : State} {p : Nat} {f : Nat} (h : Keeps z s) :
    KeepsR (fun e => e.2) (fun a => a) z (State.dropFrame s p f) := by
  unfold State.dropFrame
  with_reducible repeat' (first
    | assumption | apply Keeps.refl | apply State.pftFault_keeps | apply State.wr_keeps | apply State.frameWrite_keeps | apply State.retireItem_keeps
    | (apply KeepsR.bind; apply State.frameRead_keeps) | (apply KeepsR.bind; apply State.frameWrite_keeps) | apply KeepsR.okId | apply KeepsR.err1
    | apply KeepsR.ite | dsimp only | intro _)

theorem State.freeItem_keeps {z : State} {s : State} {p : Nat} {it : KvItem} (h : Keeps z s) :
    KeepsR (fun e => e.2) (fun a => a) z (State.freeItem s p it) := by
  unfold State.freeItem
  with_reducible repeat' (first
    | assumption | apply Keeps.refl | apply State.wr_keeps | apply State.setLine_keeps | apply State.setLeaf_keeps
    | (apply KeepsR.bind; apply State.frameWrite_keeps) | apply Keeps.ite | apply KeepsR.okId | intro _ | split)

theorem State.setRec_keeps {z : State} {s : State} {slot : Nat} {r : KvRec} (h : Keeps z s) :
    Keeps z (State.setRec s slot r) := by
  unfold State.setRec
  with_reducible repeat' (first | assumption | dsimp only | refine Keeps.rec' rfl rfl rfl rfl rfl ?_)

theorem State.dirRead_keeps {z : State} {s : State} {p : Nat} {r : KvRec} {i : Nat} (h : Keeps z s) :
    KeepsR (fun e => e.2) (fun a => a.1) z (State.dirRead s p r i) := by
  unfold State.dirRead
  with_reducible repeat' (first
    | assumption | apply Keeps.refl | (apply KeepsR.bind; apply State.tableRead_keeps) | apply KeepsR.okPair | dsimp only | intro _)

theorem State.pageRead_keeps {z : State} {s : State} {p : Nat} {r : KvRec} {pg : Nat} (h : Keeps z s) :
    KeepsR (fun e => e.2) (fun a => a.1) z (State.pageRead s p r pg) := by
  unfold State.pageRead
  with_reducible repeat' (first
    | assumption | apply Keeps.refl | (apply KeepsR.bind; apply State.dirRead_keeps) | (apply KeepsR.bind; apply State.tableRead_keeps)
    | apply KeepsR.okPair | dsimp only | intro _ | split)

theorem State.copyLeaf_keeps {z : State} {s : State} {p : Nat} {old : Option Nat} {edits : List (Nat × Option Nat)} (h : Keeps z s) :
    KeepsR (fun e => e.2) (fun a => a.1) z (State.copyLeaf s p old edits) := by
  unfold State.copyLeaf
  with_reducible repeat' (first
    | assumption | apply Keeps.refl | apply State.tableWrite_keeps | (apply KeepsR.bind; apply State.allocLeaf_keeps)
    | (apply KeepsR.bind; apply State.tableRead_keeps) | apply KeepsR.bind (h := (fun a => a : State → State)) | apply KeepsR.okPair
    | apply KeepsR.foldlM | dsimp only | intro _ | split)

theorem State.editTable_keeps {z : State} {s : State} {p : Nat} {slot : Nat} {edits : List (Nat × Option Nat)} (h : Keeps z s) :
    KeepsR (fun e => e.2) (fun a => a) z (State.editTable s p slot edits) := by
  unfold State.editTable
  with_reducible repeat' (first
    | assumption | apply Keeps.refl | apply State.setRec_keeps | apply State.retireItem_keeps | (apply KeepsR.bind; apply State.allocLine_keeps)
    | (apply KeepsR.bind; apply State.dirRead_keeps) | (apply KeepsR.bind; apply State.copyLeaf_keeps)
    | (apply KeepsR.bind; apply State.tableWrite_keeps) | apply KeepsR.bind (h := (fun a => a.1 : State × _ → State)) | apply Keeps.foldl
    | apply KeepsR.okPair | apply KeepsR.okId | apply KeepsR.ite | apply KeepsR.foldlM | dsimp only | intro _)

theorem State.mappedPages_keeps {z : State} {s : State} {p : Nat} {r : KvRec} (h : Keeps z s) :
    KeepsR (fun e => e.2) (fun a => a.1) z (State.mappedPages s p r) := by
  unfold State.mappedPages
  with_reducible repeat' (first
    | assumption | apply Keeps.refl | (apply KeepsR.bind; apply State.dirRead_keeps) | (apply KeepsR.bind; apply State.tableRead_keeps)
    | apply KeepsR.bind (h := (fun a => a.1 : State × _ → State)) | apply KeepsR.okPair | apply KeepsR.foldlM | dsimp only | intro _ | split)

theorem State.unlockSlot_keeps {z : State} {s : State} {slot : Nat} (h : Keeps z s) :
    Keeps z (State.unlockSlot s slot) := by
  unfold State.unlockSlot
  with_reducible repeat' (first | assumption | dsimp only | refine Keeps.rec' rfl rfl rfl rfl rfl ?_)

theorem State.sliceRead_keeps {z : State} {s : State} {p : Nat} {n : Nat} {f : Nat} {off : Nat} {len : Nat} (h : Keeps z s) :
    KeepsP z (State.sliceRead s p n f off len) := by
  unfold State.sliceRead
  with_reducible repeat' (first
    | assumption | apply State.portRead_keeps | (apply Keeps.of_pair; assumption) | split | apply KeepsP.pair)

theorem State.sliceWrite_keeps {z : State} {s : State} {p : Nat} {n : Nat} {f : Nat} {off : Nat} {data : List Byte} (h : Keeps z s) :
    KeepsP z (State.sliceWrite s p n f off data) := by
  unfold State.sliceWrite
  with_reducible repeat' (first
    | assumption | apply State.portWrite_keeps | (apply Keeps.of_pair; assumption) | split | apply KeepsP.pair)

theorem State.putK_keeps {z : State} {s : State} {p : Nat} {n : Nat} {f : Nat} {layer : Nat} {h : Nat} {t : Nat} {k : List Nat} (hz : Keeps z s) :
    KeepsP z (State.putK s p n f layer h t k) := by
  unfold State.putK
  with_reducible repeat' (first
    | assumption | apply State.sliceWrite_keeps | apply Keeps.fst | apply KeepsP.ite | dsimp only | split | apply KeepsP.pair)

theorem State.sealV_keeps {z : State} {s : State} {p : Nat} {n : Nat} {f : Nat} {tail : Nat} {layer : Nat} {h : Nat} {j : Nat} (hz : Keeps z s) :
    KeepsP z (State.sealV s p n f tail layer h j) := by
  unfold State.sealV
  with_reducible repeat' (first
    | assumption | apply State.sliceRead_keeps | apply State.sliceWrite_keeps | apply Keeps.fst | (apply Keeps.of_pair; assumption) | dsimp only
    | split | apply KeepsP.pair)

theorem State.putV_keeps {z : State} {s : State} {p : Nat} {n : Nat} {f : Nat} {tail : Nat} {layer : Nat} {h : Nat} {pos : Nat} {v : List Nat} (hz : Keeps z s) :
    KeepsP z (State.putV s p n f tail layer h pos v) := by
  unfold State.putV
  with_reducible repeat' (first
    | assumption | apply Keeps.refl | apply State.sliceWrite_keeps | apply State.sealV_keeps | apply Keeps.fst | (apply Keeps.of_pair; assumption)
    | apply KeepsP.foldl | apply KeepsP.ite | dsimp only | intro _ | split | apply KeepsP.pair)

/-! PageTables.lean -/

theorem State.showPftQueue_keeps {z : State} {s : State} (h : Keeps z s) :
    Keeps z (State.showPftQueue s) := by
  unfold State.showPftQueue
  with_reducible repeat' (first | assumption | apply State.wr_keeps)

theorem State.pftPop_keeps {z : State} {s : State} {fromPf : Bool} (h : Keeps z s) :
    Keeps z (State.pftPop s fromPf) := by
  unfold State.pftPop
  with_reducible repeat' (first
    | assumption | apply State.showPftQueue_keeps | apply Keeps.ite | dsimp only | refine Keeps.rec' rfl rfl rfl rfl rfl ?_)

theorem State.pftAnswer_keeps {z : State} {s : State} {fromPf : Bool} {w : List Nat} {status : Nat} {gen : Nat} (h : Keeps z s) :
    Keeps z (State.pftAnswer s fromPf w status gen) := by
  unfold State.pftAnswer
  with_reducible repeat' (first
    | assumption | apply State.slotReleased_keeps | apply Keeps.ite | dsimp only | refine Keeps.rec' rfl rfl rfl rfl rfl ?_)

theorem State.pftUndo_keeps {z s0 s1 : State} {p : Nat} (h0 : Keeps z s0) (h : Keeps z s1) : Keeps z (State.pftUndo s0 s1 p) := by
  refine State.showWalks_keeps (State.wr_keeps ⟨h.pending, h.var, h.otp, fun hw => ?_, h.out⟩)
  have a := h0.mem hw
  have b := h.mem hw
  rw [Memory.wf_iff] at a b ⊢
  exact ⟨a.1, a.2.1, a.2.2.1, b.2.2.2⟩

theorem State.runPft_keeps {z : State} {s : State} {op : Nat} {body : State → Nat → Nat → List Nat → PftRes (State × Nat)} (h : Keeps z s)
    (hbody : ∀ {z x : State} {p slot : Nat} {w : List Nat}, Keeps z x → KeepsR (fun e => e.2) (fun a => a.1) z (body x p slot w)) :
    Keeps z (State.runPft s op body) := by
  unfold State.runPft
  with_reducible repeat' (first
    | assumption | apply State.pftAnswer_keeps | apply State.pftPop_keeps | apply State.pftUndo_keeps | apply hbody | (apply Keeps.okFst1; assumption)
    | (apply Keeps.errFst1; assumption) | apply Keeps.ite | dsimp only | split)

theorem State.needOpen_keeps {z : State} {s : State} {p : Nat} {slot : Nat} (h : Keeps z s) :
    KeepsR (fun e => e.2) (fun _ => s) z (State.needOpen s p slot) := by
  unfold State.needOpen
  with_reducible repeat' (first | assumption | apply KeepsR.err1 | apply KeepsR.ok | apply KeepsR.ite)

theorem State.need_keeps {z : State} {s : State} {b : Bool} {status : Nat} (h : Keeps z s) :
    KeepsR (fun e => e.2) (fun _ => s) z (State.need s b status) := by
  unfold State.need
  with_reducible repeat' (first | assumption | apply KeepsR.err1 | apply KeepsR.ok | apply KeepsR.ite)

theorem State.allocProv_keeps {z : State} {s : State} {p : Nat} (h : Keeps z s) :
    KeepsR (fun e => e.2) (fun a => a.1) z (State.allocProv s p) := by
  unfold State.allocProv
  with_reducible repeat' (first
    | assumption | apply Keeps.refl | (apply KeepsR.bind; apply State.allocFrame_keeps) | apply KeepsR.okPair | apply KeepsR.foldlM | dsimp only
    | intro _)

theorem pftOpen_keeps {z : State} {s : State} {p : Nat} {slot : Nat} {w : List Nat} (h : Keeps z s) :
    KeepsR (fun e => e.2) (fun a => a.1) z (pftOpen s p slot w) := by
  unfold pftOpen
  with_reducible repeat' (first
    | assumption | apply Keeps.refl | apply State.allocFrame_keeps | apply State.allocProv_keeps | apply State.setRec_keeps
    | (apply KeepsR.bind; apply State.need_keeps) | (apply KeepsR.bind; apply State.frameRead_keeps)
    | (apply KeepsR.bind; apply State.allocLine_keeps) | (apply KeepsR.bind; apply State.tableWrite_keeps)
    | apply KeepsR.bind (h := (fun a => a.1 : State × _ → State)) | apply KeepsR.okPair | apply KeepsR.ite | dsimp only | intro _)

theorem State.copyFrame_keeps {z : State} {s : State} {p : Nat} {src : Nat} {dst : Nat} (h : Keeps z s) :
    KeepsR (fun e => e.2) (fun a => a) z (State.copyFrame s p src dst) := by
  unfold State.copyFrame
  with_reducible repeat' (first
    | assumption | apply Keeps.refl | apply State.sliceRead_keeps | apply State.pftFault_keeps | apply State.sliceWrite_keeps
    | (apply Keeps.of_pair; assumption) | apply KeepsR.okId | apply KeepsR.err1 | apply KeepsR.foldlM | dsimp only | intro _ | split)

theorem pftPrepare_keeps {z : State} {s : State} {p : Nat} {slot : Nat} {w : List Nat} (h : Keeps z s) :
    KeepsR (fun e => e.2) (fun a => a.1) z (pftPrepare s p slot w) := by
  unfold pftPrepare
  with_reducible repeat' (first
    | assumption | apply Keeps.refl | apply State.dropFrame_keeps | apply State.setRec_keeps | (apply KeepsR.bind; apply State.needOpen_keeps)
    | (apply KeepsR.bind; apply State.need_keeps) | (apply KeepsR.bind; apply State.pageRead_keeps)
    | (apply KeepsR.bind; apply State.allocFrame_keeps) | (apply KeepsR.bind; apply State.frameRead_keeps)
    | (apply KeepsR.bind; apply State.copyFrame_keeps) | (apply KeepsR.bind; apply State.editTable_keeps)
    | apply KeepsR.bind (h := (fun a => a.1 : State × _ → State)) | apply KeepsR.bind (h := (fun a => a : State → State)) | apply KeepsR.okPair
    | apply KeepsR.ite | apply KeepsR.foldlM | dsimp only | intro _ | split | refine Keeps.rec' rfl rfl rfl rfl rfl ?_)

theorem State.commitLenTo_keeps {z : State} {s : State} {slot : Nat} {len : Nat} (h : Keeps z s) :
    Keeps z (State.commitLenTo s slot len) := by
  unfold State.commitLenTo
  with_reducible repeat' (first | assumption | apply State.unlockSlot_keeps | apply State.setRec_keeps)

theorem pftCommitLen_keeps {z : State} {s : State} {p : Nat} {slot : Nat} {w : List Nat} (h : Keeps z s) :
    KeepsR (fun e => e.2) (fun a => a.1) z (pftCommitLen s p slot w) := by
  unfold pftCommitLen
  with_reducible repeat' (first
    | assumption | apply Keeps.refl | apply State.commitLenTo_keeps | (apply KeepsR.bind; apply State.needOpen_keeps)
    | (apply KeepsR.bind; apply State.need_keeps) | (apply KeepsR.bind; apply State.frameRead_keeps) | apply KeepsR.okPair | dsimp only | intro _)

theorem State.copyTail_keeps {z : State} {s : State} {p : Nat} {src : Nat} {dst : Nat} {len : Nat} (h : Keeps z s) :
    KeepsR (fun e => e.2) (fun a => a) z (State.copyTail s p src dst len) := by
  unfold State.copyTail
  with_reducible repeat' (first
    | assumption | apply Keeps.refl | apply State.sliceRead_keeps | apply State.pftFault_keeps | apply State.sliceWrite_keeps
    | (apply Keeps.of_pair; assumption) | apply KeepsR.okId | apply KeepsR.err1 | apply KeepsR.ite | apply KeepsR.foldlM | intro _ | split)

theorem pftFork_keeps {z : State} {s : State} {p : Nat} {slot : Nat} {w : List Nat} (h : Keeps z s) :
    KeepsR (fun e => e.2) (fun a => a.1) z (pftFork s p slot w) := by
  unfold pftFork
  with_reducible repeat' (first
    | assumption | apply Keeps.refl | apply State.frameWrite_keeps | apply State.setRec_keeps | (apply KeepsR.bind; apply State.needOpen_keeps)
    | (apply KeepsR.bind; apply State.need_keeps) | (apply KeepsR.bind; apply State.mappedPages_keeps)
    | (apply KeepsR.bind; apply State.pageRead_keeps) | (apply KeepsR.bind; apply State.frameRead_keeps)
    | (apply KeepsR.bind; apply State.editTable_keeps) | (apply KeepsR.bind; apply State.copyTail_keeps)
    | apply KeepsR.bind (h := (fun a => a.1 : State × _ → State)) | apply KeepsR.bind (h := (fun a => a : State → State)) | apply KeepsR.okPair
    | apply KeepsR.foldlM | dsimp only | intro _)

theorem pftTruncate_keeps {z : State} {s : State} {p : Nat} {slot : Nat} {w : List Nat} (h : Keeps z s) :
    KeepsR (fun e => e.2) (fun a => a.1) z (pftTruncate s p slot w) := by
  unfold pftTruncate
  with_reducible repeat' (first
    | assumption | apply Keeps.refl | apply State.dropFrame_keeps | apply State.setRec_keeps | (apply KeepsR.bind; apply State.needOpen_keeps)
    | (apply KeepsR.bind; apply State.need_keeps) | (apply KeepsR.bind; apply State.mappedPages_keeps)
    | (apply KeepsR.bind; apply State.editTable_keeps) | apply KeepsR.bind (h := (fun a => a : State → State)) | apply KeepsR.okPair
    | apply KeepsR.foldlM | dsimp only | intro _)

theorem pftRelease_keeps {z : State} {s : State} {p : Nat} {slot : Nat} {_w : List Nat} (h : Keeps z s) :
    KeepsR (fun e => e.2) (fun a => a.1) z (pftRelease s p slot _w) := by
  unfold pftRelease
  with_reducible repeat' (first
    | assumption | apply Keeps.refl | apply State.dropFrame_keeps | apply State.retireItem_keeps | apply State.unlockSlot_keeps
    | apply State.setRec_keeps | (apply KeepsR.bind; apply State.needOpen_keeps) | (apply KeepsR.bind; apply State.mappedPages_keeps)
    | (apply KeepsR.bind; apply State.need_keeps) | (apply KeepsR.bind; apply State.dirRead_keeps)
    | apply KeepsR.bind (h := (fun a => a.1 : State × _ → State)) | apply KeepsR.bind (h := (fun a => a : State → State)) | apply Keeps.foldl
    | apply KeepsR.okPair | apply KeepsR.okId | apply KeepsR.ite | apply KeepsR.foldlM | dsimp only | intro _)

theorem pftPin_keeps {z : State} {s : State} {p : Nat} {_slot : Nat} {_w : List Nat} (h : Keeps z s) :
    KeepsR (fun e => e.2) (fun a => a.1) z (pftPin s p _slot _w) := by
  unfold pftPin
  with_reducible repeat' (first
    | assumption | apply Keeps.refl | apply State.setPins_keeps | apply State.takePin_keeps | (apply KeepsR.bind; apply State.need_keeps)
    | apply KeepsR.okPair | intro _)

theorem pftUnpin_keeps {z : State} {s : State} {p : Nat} {_slot : Nat} {w : List Nat} (h : Keeps z s) :
    KeepsR (fun e => e.2) (fun a => a.1) z (pftUnpin s p _slot w) := by
  unfold pftUnpin
  with_reducible repeat' (first
    | assumption | apply Keeps.refl | apply State.setPins_keeps | apply State.endPin_keeps | (apply KeepsR.bind; apply State.need_keeps)
    | apply KeepsR.okPair | intro _)

theorem pftAbortStep_keeps {z : State} {s : State} {p : Nat} {slot : Nat} {_w : List Nat} (h : Keeps z s) :
    KeepsR (fun e => e.2) (fun a => a.1) z (pftAbortStep s p slot _w) := by
  unfold pftAbortStep
  with_reducible repeat' (first
    | assumption | apply Keeps.refl | apply State.unlockSlot_keeps | apply State.setRec_keeps | (apply KeepsR.bind; apply State.needOpen_keeps)
    | (apply KeepsR.bind; apply State.frameRead_keeps) | apply KeepsR.okPair | dsimp only | intro _)

theorem State.provRows_keeps {z : State} {s : State} {p : Nat} {n : Nat} {r : KvRec} {layer : Nat} {h : Nat} {node : Nat} (hz : Keeps z s) :
    KeepsP z (State.provRows s p n r layer h node) := by
  unfold State.provRows
  with_reducible repeat' (first
    | assumption | apply State.sliceRead_keeps | (apply Keeps.of_pair; assumption) | dsimp only | split | apply KeepsP.pair)

theorem pftRelink_keeps {z : State} {s : State} {p : Nat} {slot : Nat} {w : List Nat} (h : Keeps z s) :
    KeepsR (fun e => e.2) (fun a => a.1) z (pftRelink s p slot w) := by
  unfold pftRelink
  with_reducible repeat' (first
    | assumption | apply Keeps.refl | apply State.provRows_keeps | apply State.pftFault_keeps | apply State.putK_keeps | apply State.putV_keeps
    | apply State.commitLenTo_keeps | (apply KeepsR.bind; apply State.needOpen_keeps) | (apply KeepsR.bind; apply State.need_keeps)
    | (apply KeepsR.bind; apply State.frameRead_keeps) | (apply KeepsR.bind; apply State.pageRead_keeps)
    | apply KeepsR.bind (h := (fun a => a : State → State)) | apply Keeps.fst | (apply Keeps.of_pair; assumption) | apply KeepsR.okPair
    | apply KeepsR.okId | apply KeepsR.err1 | apply KeepsR.ite | apply KeepsR.foldlM | dsimp only | intro _ | split)

/-! Streamer.lean -/

theorem State.atsError_keeps {z : State} {s : State} {n : Nat} {f : Fld} {slot : Nat} {page : Nat} (h : Keeps z s) :
    Keeps z (State.atsError s n f slot page) := by
  unfold State.atsError
  with_reducible repeat' (first | assumption | apply State.wr_keeps | apply State.raise_keeps | apply Keeps.ite)

theorem State.atsTable_keeps {z : State} {s : State} {n : Nat} {p : Nat} {off : Nat} {slot : Nat} {page : Nat} (h : Keeps z s) :
    KeepsR (fun e => e.2.2.2) (fun a => a.1) z (State.atsTable s n p off slot page) := by
  unfold State.atsTable
  with_reducible repeat' (first
    | assumption | apply State.wr_keeps | apply State.portRead_keeps | (apply Keeps.of_pair; assumption) | apply KeepsR.okPair | apply KeepsR.err3
    | apply KeepsR.ite | split)

theorem State.atsPage_keeps {z : State} {s : State} {n : Nat} {p : Nat} {slot : Nat} {r : KvRec} {pg : Nat} (h : Keeps z s) :
    KeepsR (fun e => e.2.2.2) (fun a => a.1) z (State.atsPage s n p slot r pg) := by
  unfold State.atsPage
  with_reducible repeat' (first
    | assumption | apply Keeps.refl | (apply KeepsR.bind; apply State.atsTable_keeps) | apply KeepsR.okPair | apply KeepsR.err3 | apply KeepsR.ite
    | dsimp only | intro _)

theorem State.atsCount_keeps {z : State} {s : State} {n : Nat} {k : Nat} (h : Keeps z s) :
    Keeps z (State.atsCount s n k) := by
  unfold State.atsCount
  with_reducible repeat' (first | assumption | refine Keeps.rec' rfl rfl rfl rfl rfl ?_)

theorem State.atsSlice_keeps {z : State} {s : State} {n : Nat} {p : Nat} {f : Nat} {off : Nat} {len : Nat} {slot : Nat} {page : Nat} (h : Keeps z s) :
    KeepsR (fun e => e.2.2.2) (fun a => a.1) z (State.atsSlice s n p f off len slot page) := by
  unfold State.atsSlice
  with_reducible repeat' (first
    | assumption | apply State.wr_keeps | apply State.sliceRead_keeps | apply State.atsCount_keeps | (apply Keeps.of_pair; assumption)
    | apply KeepsR.okPair | apply KeepsR.err3 | apply KeepsR.ite | split)

theorem State.atsHeader_keeps {z : State} {s : State} {n : Nat} {p : Nat} {f : Nat} {kind : Nat} {slot : Nat} {page : Nat} (h : Keeps z s) :
    KeepsR (fun e => e.2.2.2) (fun a => a) z (State.atsHeader s n p f kind slot page) := by
  unfold State.atsHeader
  with_reducible repeat' (first
    | assumption | apply Keeps.refl | apply State.wr_keeps | (apply KeepsR.bind; apply State.atsSlice_keeps) | apply KeepsR.okId | apply KeepsR.err3
    | apply KeepsR.ite | dsimp only | intro _)

theorem atsPut_keeps {z : State} {n slot page : Nat} {r : State × SliceEnd × Exc} (h : KeepsP z r) :
    KeepsR (fun e => e.2.2.2) (fun a => a.1) z (atsPut n slot page r) := by
  unfold atsPut
  split
  · exact .okPair h.fst
  · exact .err3 h.fst

theorem State.readPage_keeps {z : State} {s : State} {n : Nat} {p : Nat} {slot : Nat} {d : Desc} {r : KvRec} {f : Nat} {pg : Nat} {h : Nat} {e : Nat} (hz : Keeps z s) :
    KeepsR (fun e => e.2.2.2) (fun a => a.1) z (State.readPage s n p slot d r f pg h e) := by
  unfold State.readPage
  with_reducible repeat' (first
    | assumption | apply Keeps.refl | (apply KeepsR.bind; apply State.atsSlice_keeps) | (apply KeepsR.bind; apply State.atsHeader_keeps)
    | apply KeepsR.bind (h := (fun a => a.1 : State × _ → State)) | apply KeepsR.okPair | apply KeepsR.ite | apply KeepsR.foldlM | dsimp only
    | intro _)

theorem State.readNodes_keeps {z : State} {s : State} {n : Nat} {p : Nat} {slot : Nat} {d : Desc} {r : KvRec} {q : Nat} {h : Nat} (hz : Keeps z s) :
    KeepsR (fun e => e.2.2.2) (fun a => a.1) z (State.readNodes s n p slot d r q h) := by
  unfold State.readNodes
  with_reducible repeat' (first
    | assumption | apply Keeps.refl | apply State.atsHeader_keeps | (apply KeepsR.bind; apply State.atsSlice_keeps)
    | apply KeepsR.bind (h := (fun a => a.1 : State × _ → State)) | apply KeepsR.bind (h := (fun a => a : State → State)) | apply KeepsR.okPair
    | apply KeepsR.foldlM | dsimp only | intro _)

theorem State.atsAppend_keeps {z : State} {s : State} {n : Nat} {p : Nat} {slot : Nat} {d : Desc} {r : KvRec} {en : LenEntry} (h : Keeps z s) :
    KeepsR (fun e => e.2.2.2) (fun a => a.1) z (State.atsAppend s n p slot d r en) := by
  unfold State.atsAppend
  with_reducible repeat' (first
    | assumption | apply Keeps.refl | apply State.atsPage_keeps | apply State.sliceWrite_keeps | apply State.atsCount_keeps | apply State.putK_keeps
    | apply State.putV_keeps | (apply KeepsR.bind; apply atsPut_keeps) | apply KeepsR.bind (h := (fun a => a.1 : State × _ → State)) | apply Keeps.fst
    | apply KeepsR.okPair | apply KeepsR.ite | apply KeepsR.foldlM | dsimp only | intro _ | apply KeepsP.pair)

theorem State.atsRequest_keeps {z : State} {s : State} {n : Nat} {p : Nat} {slot : Nat} {d : Desc} {r : KvRec} {en : LenEntry} {parents : List Nat} (h : Keeps z s) :
    KeepsR (fun e => e.2.2.2) (fun a => a.1) z (State.atsRequest s n p slot d r en parents) := by
  unfold State.atsRequest
  with_reducible repeat' (first
    | assumption | apply Keeps.refl | apply State.wr_keeps | apply State.bump_keeps | (apply KeepsR.bind; apply State.atsAppend_keeps)
    | (apply KeepsR.bind; apply State.atsPage_keeps) | (apply KeepsR.bind; apply State.atsHeader_keeps)
    | (apply KeepsR.bind; apply State.readPage_keeps) | (apply KeepsR.bind; apply State.readNodes_keeps)
    | apply KeepsR.bind (h := (fun a => a.1 : State × _ → State)) | apply KeepsR.okPair | apply KeepsR.err3 | apply KeepsR.ite | apply KeepsR.foldlM
    | dsimp only | intro _)

theorem State.atsRun_keeps {z : State} {s : State} {n : Nat} {p : Nat} {d : Desc} {recs : List (Nat × KvRec)} (h : Keeps z s) :
    KeepsR (fun e => e.2.2.2) (fun a => a.1) z (State.atsRun s n p d recs) := by
  unfold State.atsRun
  with_reducible repeat' (first
    | assumption | apply Keeps.refl | apply State.wr_keeps | (apply KeepsR.bind; apply State.atsRequest_keeps) | apply KeepsR.okPair
    | apply KeepsR.foldlM | dsimp only | intro _)

theorem State.atsLatch_keeps {z : State} {s : State} {n : Nat} {p : Nat} {d : Desc} (h : Keeps z s) :
    KeepsR (fun e => e.2.2.2) (fun a => a.1) z (State.atsLatch s n p d) := by
  unfold State.atsLatch
  with_reducible repeat' (first
    | assumption | apply Keeps.refl | apply State.wr_keeps | apply Keeps.ite | apply KeepsR.okPair | apply KeepsR.err3 | apply KeepsR.ite
    | apply KeepsR.foldlM | dsimp only | intro _)

/-! DebugOps.lean -/

theorem State.setPrt_keeps {z : State} {s : State} {p : Nat} {x : PartSt} (h : Keeps z s) :
    Keeps z (State.setPrt s p x) := by
  unfold State.setPrt
  with_reducible repeat' (first | assumption | refine Keeps.rec' rfl rfl rfl rfl rfl ?_)

theorem State.openSession_keeps {z : State} {s : State} (h : Keeps z s) :
    Keeps z (State.openSession s) := by
  unfold State.openSession
  with_reducible repeat' (first | assumption | apply State.wr_keeps)

theorem State.closeSession_keeps {z : State} {s : State} (h : Keeps z s) :
    Keeps z (State.closeSession s) := by
  unfold State.closeSession
  with_reducible repeat' (first
    | assumption | apply Keeps.refl | apply State.setPrt_keeps | apply State.wr_keeps | apply Keeps.foldl | dsimp only | intro _)

theorem State.debugAccess_keeps {z : State} {s : State} {p : Nat} {framOk : Bool} (h : Keeps z s) :
    KeepsP z (State.debugAccess s p framOk) := by
  unfold State.debugAccess
  with_reducible repeat' (first
    | assumption | apply State.raise_keeps | apply State.openSession_keeps | apply State.setPrt_keeps | apply KeepsP.ite | dsimp only | split
    | apply KeepsP.pair)

theorem State.katRun_keeps {z : State} {s : State} {n : Nat} {t : Nat} (h : Keeps z s) :
    KeepsP z (State.katRun s n t) := by
  unfold State.katRun
  with_reducible repeat' (first | assumption | apply State.wr_keeps | apply KeepsP.ite | apply KeepsP.pair)

theorem State.katCell_keeps {z : State} {s : State} {n : Nat} (h : Keeps z s) :
    KeepsP z (State.katCell s n) := by
  unfold State.katCell
  with_reducible repeat' (first | assumption | apply State.drew_keeps | apply KeepsP.pair)

theorem State.katCount_keeps {z : State} {s : State} {n : Nat} {test : Nat} {cell : Nat} {pass : Bool} {desc : Bool} (h : Keeps z s) :
    Keeps z (State.katCount s n test cell pass desc) := by
  unfold State.katCount
  with_reducible repeat' (first
    | assumption | apply State.markSuspect_keeps | apply State.raise_keeps | apply State.record_keeps | apply Keeps.ite | dsimp only | split
    | refine Keeps.rec' rfl rfl rfl rfl rfl ?_)

/-! LatheOps.lean -/

theorem State.reclock_keeps {z : State} {s : State} {n : Nat} (h : Keeps z s) :
    Keeps z (State.reclock s n) := by
  unfold State.reclock
  with_reducible repeat' (first | assumption | apply State.drew_keeps | apply State.wr_keeps)

theorem State.throttle_keeps {z : State} {s : State} {n : Nat} (h : Keeps z s) :
    Keeps z (State.throttle s n) := by
  unfold State.throttle
  with_reducible repeat' (first | assumption | apply State.reclock_keeps | apply State.wr_keeps | apply Keeps.ite)

theorem State.lthApply_keeps {z : State} {s : State} {n : Nat} (h : Keeps z s) :
    Keeps z (State.lthApply s n) := by
  unfold State.lthApply
  with_reducible repeat' (first
    | assumption | apply State.wr_keeps | apply State.raise_keeps | apply State.applyShadows_keeps | apply State.reclock_keeps | dsimp only | split)

theorem State.lthBoundary_keeps {z : State} {s : State} {n : Nat} (h : Keeps z s) :
    Keeps z (State.lthBoundary s n) := by
  unfold State.lthBoundary
  with_reducible repeat' (first | assumption | apply State.lthApply_keeps | apply Keeps.ite)

theorem State.epochOpen_keeps {z : State} {s : State} {n : Nat} (h : Keeps z s) :
    Keeps z (State.epochOpen s n) := by
  unfold State.epochOpen
  with_reducible repeat' (first
    | assumption | apply Keeps.refl | apply State.wr_keeps | apply State.tdmaUnstop_keeps | apply State.lthApply_keeps | apply State.setLth_keeps
    | apply Keeps.foldl | apply Keeps.ite | intro _)

theorem State.toFetch_keeps {z : State} {s : State} {n : Nat} {i : Nat} (h : Keeps z s) :
    Keeps z (State.toFetch s n i) := by
  unfold State.toFetch
  with_reducible repeat' (first
    | assumption | apply State.wr_keeps | apply State.setLth_keeps | apply State.lthBoundary_keeps | apply Keeps.ite)

theorem State.startPlan_keeps {z : State} {s : State} {n : Nat} {len : Nat} {base : Nat} {buf : Nat} (h : Keeps z s) :
    Keeps z (State.startPlan s n len base buf) := by
  unfold State.startPlan
  with_reducible repeat' (first | assumption | apply State.toFetch_keeps | apply State.wr_keeps | apply State.setLth_keeps)

theorem State.goPlan_keeps {z : State} {s : State} {n : Nat} {len : Nat} {buf : Nat} (h : Keeps z s) :
    Keeps z (State.goPlan s n len buf) := by
  unfold State.goPlan
  with_reducible repeat' (first
    | assumption | apply State.raise_keeps | apply State.startPlan_keeps | apply State.wr_keeps | apply State.setLth_keeps | apply Keeps.ite)

theorem State.planDone_keeps {z : State} {s : State} {n : Nat} (h : Keeps z s) :
    Keeps z (State.planDone s n) := by
  unfold State.planDone
  with_reducible repeat' (first
    | assumption | apply State.lthBoundary_keeps | apply State.wr_keeps | apply State.epochOpen_keeps | apply State.startPlan_keeps | apply Keeps.ite)

theorem State.kickFrom_keeps {z s : State} {n : Nat} {d : Desc} {k i : Nat} (h : Keeps z s) : KeepsP z (State.kickFrom s n d k i) := by
  induction k generalizing s i with
  | zero => exact ⟨h⟩
  | succ k ih =>
    unfold State.kickFrom
    exact .ite (ih h) (.ite (ih (State.tdmaStart_keeps h)) ⟨h⟩)

theorem State.publishAt_keeps {z : State} {s : State} {n : Nat} {ctr : Nat} {v : Nat} (h : Keeps z s) :
    KeepsP z (State.publishAt s n ctr v) := by
  unfold State.publishAt
  with_reducible repeat' (first
    | assumption | apply State.wayRead_keeps | apply State.raise_keeps | apply State.wayWrite_keeps | apply Keeps.fst | apply KeepsP.ite
    | apply KeepsP.pair)

theorem State.signal_keeps {z : State} {s : State} {n : Nat} {d : Desc} {i : Nat} {r : Nat} {last : Bool} (h : Keeps z s) :
    KeepsP z (State.signal s n d i r last) := by
  unfold State.signal
  with_reducible repeat' (first
    | assumption | apply State.evtAdd_keeps | apply State.publishAt_keeps | apply KeepsP.ite | apply KeepsP.pair)

theorem State.putStatus_keeps {z : State} {s : State} {n : Nat} {i : Nat} {code : Nat} {done : Nat} (h : Keeps z s) :
    Keeps z (State.putStatus s n i code done) := by
  unfold State.putStatus
  with_reducible repeat' (first | assumption | apply State.lsramWrite_keeps | apply Keeps.fst)

theorem State.flagCode_keeps {z : State} {s : State} {n : Nat} {i : Nat} {code : Nat} (h : Keeps z s) :
    Keeps z (State.flagCode s n i code) := by
  unfold State.flagCode
  with_reducible repeat' (first
    | assumption | apply State.wr_keeps | apply State.raise_keeps | apply Keeps.ite | dsimp only | split)

theorem State.dropPins_keeps {z : State} {s : State} {n : Nat} {fs : List Flight} (h : Keeps z s) :
    Keeps z (State.dropPins s n fs) := by
  unfold State.dropPins
  with_reducible repeat' (first
    | assumption | apply Keeps.refl | apply State.endPin_keeps | apply Keeps.foldl | dsimp only | intro _ | split)

theorem State.endDesc_keeps {z : State} {s : State} {n : Nat} {i : Nat} {code : Nat} {done : Nat} (h : Keeps z s) :
    Keeps z (State.endDesc s n i code done) := by
  unfold State.endDesc
  with_reducible repeat' (first
    | assumption | apply Keeps.refl | apply State.putStatus_keeps | apply State.dropPins_keeps | apply State.wr_keeps | apply State.flagCode_keeps
    | apply State.raise_keeps | apply State.setLth_keeps | apply State.lthBoundary_keeps | apply State.epochOpen_keeps | apply Keeps.foldl
    | apply Keeps.ite | intro _)

theorem State.stopInRun_keeps {z : State} {s : State} {n : Nat} (h : Keeps z s) :
    Keeps z (State.stopInRun s n) := by
  unfold State.stopInRun
  with_reducible repeat' (first
    | assumption | apply State.lthBoundary_keeps | apply State.wr_keeps | apply State.setLth_keeps | apply Keeps.ite)

theorem State.scramble_keeps {z : State} {s : State} {n : Nat} {ps : List Span} (h : Keeps z s) :
    Keeps z (State.scramble s n ps) := by
  unfold State.scramble
  with_reducible repeat' (first
    | assumption | apply Keeps.refl | apply State.writeSpan_keeps | apply Keeps.fst | apply Keeps.foldl | dsimp only | intro _
    | refine Keeps.rec' rfl rfl rfl rfl rfl ?_)

theorem State.readOperands_keeps {z : State} {s : State} {n : Nat} {ps : List Span} (h : Keeps z s) :
    KeepsP z (State.readOperands s n ps) := by
  unfold State.readOperands
  with_reducible repeat' (first
    | assumption | apply Keeps.refl | apply State.touchSpan_keeps | apply Keeps.fst | apply KeepsP.foldl | dsimp only | intro _ | split
    | apply KeepsP.pair)

theorem State.writeResults_keeps {z : State} {s : State} {n : Nat} {ws : List (Nat × Int × List Byte)} (h : Keeps z s) :
    KeepsP z (State.writeResults s n ws) := by
  unfold State.writeResults
  with_reducible repeat' (first
    | assumption | apply Keeps.refl | apply State.writeSpan_keeps | apply Keeps.fst | apply KeepsP.foldl | dsimp only | intro _ | split
    | apply KeepsP.pair)

theorem State.spdExc_keeps {z : State} {s : State} {n : Nat} {sp : Nat} {e : Exc} (h : Keeps z s) :
    Keeps z (State.spdExc s n sp e) := by
  unfold State.spdExc
  with_reducible repeat' (first | assumption | apply State.raiseIf_keeps | apply State.wr_keeps | apply Keeps.ite)

theorem State.vecExc_keeps {z : State} {s : State} {n : Nat} {e : Exc} (h : Keeps z s) :
    Keeps z (State.vecExc s n e) := by
  unfold State.vecExc
  with_reducible repeat' (first | assumption | apply State.raiseIf_keeps)

theorem State.interrupted_keeps {z : State} {s : State} {n : Nat} {d : Desc} {r : Nat} (h : Keeps z s) :
    Keeps z (State.interrupted s n d r) := by
  unfold State.interrupted
  with_reducible repeat' (first | assumption | apply State.scramble_keeps)

theorem State.asRead_keeps {z : State} {s : State} {n : Nat} {d : Desc} {r : Nat} (h : Keeps z s) :
    Keeps z (State.asRead s n d r) := by
  unfold State.asRead
  with_reducible repeat' (first | assumption | apply State.scramble_keeps)

theorem State.drawnAs_keeps {z : State} {s t : State} (h : Keeps z s) : Keeps z (State.drawnAs s t) := by
  unfold State.drawnAs
  exact Keeps.rec' rfl rfl rfl rfl rfl h

theorem State.withSrams_keeps {z : State} {s t : State} (ht : Keeps z t) (h : Keeps z s) : Keeps z (State.withSrams s t) := by
  refine ⟨h.pending, h.var, h.otp, fun w => ?_, h.out⟩
  have h1 := h.mem w
  have h2 := ht.mem w
  rw [Memory.wf_iff] at h1 h2 ⊢
  exact ⟨h1.1, h1.2.1, h1.2.2.1, h2.2.2.2.1, h2.2.2.2.2.1, h2.2.2.2.2.2.1, h2.2.2.2.2.2.2⟩

theorem State.openOut_keeps {z : State} {s : State} {n : Nat} {d : Desc} {r : Nat} (h : Keeps z s) :
    Keeps z (State.openOut s n d r) := by
  unfold State.openOut
  with_reducible repeat' (first | assumption | apply State.scramble_keeps | apply Keeps.ite)

theorem State.runCompute_keeps {z : State} {s : State} {n : Nat} {d : Desc} {r : Nat} (h : Keeps z s) :
    KeepsP z (State.runCompute s n d r) := by
  unfold State.runCompute
  with_reducible repeat' (first
    | assumption | apply Keeps.refl | apply State.readOperands_keeps | apply State.interrupted_keeps | apply State.scramble_keeps
    | apply State.openOut_keeps | apply State.drawnAs_keeps | apply State.withSrams_keeps | apply State.asRead_keeps
    | apply State.drew_keeps | apply State.writeResults_keeps | apply State.spdExc_keeps | apply State.vecExc_keeps | apply State.setLth_keeps
    | apply Keeps.fst | apply Keeps.foldl | apply KeepsP.ite | dsimp only | intro _ | split | apply KeepsP.pair)

theorem State.runAttention_keeps {z : State} {s : State} {n : Nat} {d : Desc} {p : Nat} {recs : List (Nat × KvRec)} (h : Keeps z s) :
    KeepsP z (State.runAttention s n d p recs) := by
  unfold State.runAttention
  with_reducible repeat' (first
    | assumption | apply State.readOperands_keeps | apply State.interrupted_keeps | apply State.atsRun_keeps | apply State.atsError_keeps
    | apply State.scramble_keeps | apply State.writeResults_keeps | apply State.openOut_keeps | apply State.drawnAs_keeps | apply State.withSrams_keeps | apply State.asRead_keeps
    | apply State.drew_keeps | apply State.vecExc_keeps | apply State.spdExc_keeps
    | apply Keeps.fst | (apply Keeps.okFst3; assumption) | (apply Keeps.errFst3; assumption) | apply KeepsP.ite | dsimp only | split
    | apply KeepsP.pair)

/-! PelotonOps.lean -/

theorem State.setBucket_keeps {z : State} {s : State} {b : Nat} {x : Bucket} (h : Keeps z s) :
    Keeps z (State.setBucket s b x) := by
  unfold State.setBucket
  with_reducible repeat' (first
    | assumption | apply State.writePltWord_keeps | dsimp only | refine Keeps.rec' rfl rfl rfl rfl rfl ?_)

theorem State.usePltWord_keeps {z : State} {s : State} {w : Nat} (h : Keeps z s) :
    KeepsP z (State.usePltWord s w) := by
  unfold State.usePltWord
  with_reducible repeat' (first
    | assumption | apply State.reportCe_keeps | apply State.bump_keeps | apply State.raise_keeps | apply State.reportUe_keeps | apply KeepsP.ite
    | dsimp only | apply KeepsP.pair | refine Keeps.rec' rfl rfl rfl rfl rfl ?_)

theorem State.breach_keeps {z : State} {s : State} {p : Nat} {k : Nat} {typ : Nat} {reason : Nat} {detail : Nat} (h : Keeps z s) :
    Keeps z (State.breach s p k typ reason detail) := by
  unfold State.breach
  with_reducible repeat' (first | assumption | apply State.record_keeps | apply State.setLoop_keeps | apply State.setSlot_keeps)

theorem State.breachPart_keeps {z : State} {s : State} {p : Nat} {typ : Nat} {reason : Nat} {detail : Nat} (h : Keeps z s) :
    Keeps z (State.breachPart s p typ reason detail) := by
  unfold State.breachPart
  with_reducible repeat' (first | assumption | apply State.record_keeps | apply State.setLoop_keeps)

theorem State.closeRecord_keeps {z : State} {s : State} {p : Nat} {typ : Nat} {code : Nat} {slot : Nat} {reqId : Nat} {step : Nat} {gen : Nat} (h : Keeps z s) :
    Keeps z (State.closeRecord s p typ code slot reqId step gen) := by
  unfold State.closeRecord
  with_reducible repeat' (first | assumption | apply State.record_keeps)

theorem State.submitRecord_keeps {z : State} {s : State} {p : Nat} {typ : Nat} {code : Nat} {slot : Nat} {reqId : Nat} {sq : Nat} {st : Nat} (h : Keeps z s) :
    Keeps z (State.submitRecord s p typ code slot reqId sq st) := by
  unfold State.submitRecord
  with_reducible repeat' (first | assumption | apply State.record_keeps)

theorem State.moveHold_keeps {z : State} {s : State} {k : Nat} {used : Nat} {close : Bool} (h : Keeps z s) :
    Keeps z (State.moveHold s k used close) := by
  unfold State.moveHold
  with_reducible repeat' (first | assumption | apply State.setBucket_keeps | apply State.setSlot_keeps)

theorem State.pltCmd_keeps {z : State} {s : State} {w : List Nat} (h : Keeps z s) :
    Keeps z (State.pltCmd s w) := by
  unfold State.pltCmd
  with_reducible repeat' (first | assumption | dsimp only | refine Keeps.rec' rfl rfl rfl rfl rfl ?_)

theorem State.pftNow_keeps {z : State} {s : State} {p : Nat} {slot : Nat} {w : List Nat} {body : State → Nat → Nat → List Nat → PftRes (State × Nat)} (h : Keeps z s)
    (hbody : ∀ {z x : State} {p slot : Nat} {w : List Nat}, Keeps z x → KeepsR (fun e => e.2) (fun a => a.1) z (body x p slot w)) :
    KeepsP z (State.pftNow s p slot w body) := by
  unfold State.pftNow
  with_reducible repeat' (first
    | assumption | apply State.pftUndo_keeps | apply hbody | (apply Keeps.okFst1; assumption) | (apply Keeps.errFst1; assumption) | apply KeepsP.ite
    | split | apply KeepsP.pair)

theorem State.cancelsDone_keeps {z : State} {s : State} {p : Nat} {k : Nat} {code : Nat} {step : Nat} {gen : Nat} (h : Keeps z s) :
    Keeps z (State.cancelsDone s p k code step gen) := by
  unfold State.cancelsDone
  with_reducible repeat' (first
    | assumption | apply Keeps.refl | apply State.closeRecord_keeps | apply State.setSlot_keeps | apply Keeps.foldl | intro _)

theorem State.closeSlot_keeps {z : State} {s : State} {p : Nat} {k : Nat} {endCode : Nat} (h : Keeps z s) :
    Keeps z (State.closeSlot s p k endCode) := by
  unfold State.closeSlot
  with_reducible repeat' (first
    | assumption | apply State.moveHold_keeps | apply State.setSlot_keeps | apply State.pltCmd_keeps | apply Keeps.ite)

theorem State.closeSilent_keeps {z : State} {s : State} {p : Nat} {k : Nat} {endCode : Nat} {step : Nat} (h : Keeps z s) :
    Keeps z (State.closeSilent s p k endCode step) := by
  unfold State.closeSilent
  with_reducible repeat' (first
    | assumption | apply State.cancelsDone_keeps | apply State.closeRecord_keeps | apply State.closeSlot_keeps)

theorem State.showPlt_keeps {z : State} {s : State} {p : Nat} (h : Keeps z s) :
    Keeps z (State.showPlt s p) := by
  unfold State.showPlt
  with_reducible repeat' (first | assumption | apply State.wr_keeps)

theorem State.demote_keeps {z : State} {s : State} {p : Nat} {k : Nat} {reason : Nat} (h : Keeps z s) :
    Keeps z (State.demote s p k reason) := by
  unfold State.demote
  with_reducible repeat' (first | assumption | apply State.breach_keeps | apply State.setSlot_keeps)

theorem State.demoteUntil_keeps {z s : State} {p reason k : Nat} (h : Keeps z s) : Keeps z (State.demoteUntil s p reason k) := by
  induction k generalizing s with
  | zero => exact h
  | succ k ih =>
    unfold State.demoteUntil
    refine .ite h ?_
    split
    · exact h
    · exact ih (State.demote_keeps h)

theorem State.restoreMany_keeps {z s : State} {p k : Nat} (h : Keeps z s) : Keeps z (State.restoreMany s p k) := by
  induction k generalizing s with
  | zero => exact h
  | succ k ih =>
    unfold State.restoreMany
    dsimp only
    split
    · exact h
    · exact .ite (ih (State.breach_keeps (State.setSlot_keeps h))) h

theorem State.reassess_keeps {z : State} {s : State} {p : Nat} {reason : Nat} (h : Keeps z s) :
    Keeps z (State.reassess s p reason) := by
  unfold State.reassess
  with_reducible repeat' (first
    | assumption | apply State.demoteUntil_keeps | apply State.showPlt_keeps | apply State.restoreMany_keeps | apply Keeps.ite)

theorem State.settle_keeps {z : State} {s : State} {p : Nat} {before : List (Nat × SlotRec)} (h : Keeps z s) :
    Keeps z (State.settle s p before) := by
  unfold State.settle
  with_reducible repeat' (first
    | assumption | apply State.reassess_keeps | apply State.showPlt_keeps | apply State.demoteUntil_keeps | apply Keeps.ite)

theorem State.partitionStop_keeps {z : State} {s : State} {p : Nat} {lost : List Nat} (h : Keeps z s) :
    Keeps z (State.partitionStop s p lost) := by
  unfold State.partitionStop
  with_reducible repeat' (first
    | assumption | apply Keeps.refl | apply State.record_keeps | apply State.demote_keeps | apply State.wr_keeps | apply State.breachPart_keeps
    | apply State.setLoop_keeps | apply State.showPlt_keeps | apply State.closeSilent_keeps | apply Keeps.foldl | intro _)

theorem State.pelotonUe_keeps {z : State} {s : State} {p : Nat} {slot : Nat} (h : Keeps z s) :
    Keeps z (State.pelotonUe s p slot) := by
  unfold State.pelotonUe
  with_reducible repeat' (first | assumption | apply State.record_keeps)

theorem State.slotUe_keeps {z : State} {s : State} {k : Nat} (h : Keeps z s) :
    Keeps z (State.slotUe s k) := by
  unfold State.slotUe
  with_reducible repeat' (first
    | assumption | apply State.closeSilent_keeps | apply State.pelotonUe_keeps | apply State.settle_keeps | apply State.setLoop_keeps
    | apply Keeps.ite)

theorem State.costUe_keeps {z : State} {s : State} {p : Nat} (h : Keeps z s) :
    Keeps z (State.costUe s p) := by
  unfold State.costUe
  with_reducible repeat' (first | assumption | apply State.pelotonUe_keeps | apply State.wr_keeps | apply Keeps.ite)

theorem State.bucketUe_keeps {z : State} {s : State} {b : Nat} (h : Keeps z s) :
    Keeps z (State.bucketUe s b) := by
  unfold State.bucketUe
  with_reducible repeat' (first | assumption | apply State.pelotonUe_keeps | apply State.setBucket_keeps)

theorem State.useBucket_keeps {z : State} {s : State} {b : Nat} (h : Keeps z s) :
    Keeps z (State.useBucket s b) := by
  unfold State.useBucket
  with_reducible repeat' (first
    | assumption | apply State.usePltWord_keeps | apply State.bucketUe_keeps | apply Keeps.fst | apply Keeps.ite)

/-! SamplingOps.lean -/

theorem State.setSmpErr_keeps {z : State} {s : State} {w : Nat} {v : Nat} (h : Keeps z s) :
    Keeps z (State.setSmpErr s w v) := by
  unfold State.setSmpErr
  with_reducible repeat' (first | assumption | dsimp only | refine Keeps.rec' rfl rfl rfl rfl rfl ?_)

theorem State.writeSmpWord_keeps {z : State} {s : State} {w : Nat} (h : Keeps z s) :
    Keeps z (State.writeSmpWord s w) := by
  unfold State.writeSmpWord
  with_reducible repeat' (first | assumption | apply State.wr_keeps | apply State.setSmpErr_keeps | apply Keeps.ite)

theorem State.useSmpWord_keeps {z : State} {s : State} {w : Nat} (h : Keeps z s) :
    KeepsP z (State.useSmpWord s w) := by
  unfold State.useSmpWord
  with_reducible repeat' (first
    | assumption | apply State.setSmpErr_keeps | apply State.reportCe_keeps | apply State.bump_keeps | apply State.raise_keeps
    | apply State.reportUe_keeps | apply KeepsP.ite | apply KeepsP.pair)

theorem State.profRefuse_keeps {z : State} {s : State} {k : Nat} (h : Keeps z s) :
    Keeps z (State.profRefuse s k) := by
  unfold State.profRefuse
  with_reducible repeat' (first | assumption | apply State.wr_keeps | apply State.raise_keeps)

theorem State.profEpoch_keeps {z : State} {s : State} {p : Nat} (h : Keeps z s) :
    Keeps z (State.profEpoch s p) := by
  unfold State.profEpoch
  with_reducible repeat' (first
    | assumption | apply Keeps.refl | apply State.profRefuse_keeps | apply State.writeSmpWord_keeps | apply State.wr_keeps | apply Keeps.foldl
    | dsimp only | intro _ | split | refine Keeps.rec' rfl rfl rfl rfl rfl ?_)

theorem State.showJmax_keeps {z : State} {s : State} (h : Keeps z s) :
    Keeps z (State.showJmax s) := by
  unfold State.showJmax
  with_reducible repeat' (first | assumption | apply Keeps.refl | apply State.wr_keeps | apply Keeps.foldl | intro _)

theorem State.smpApply_keeps {z : State} {s : State} {p : Nat} (h : Keeps z s) :
    Keeps z (State.smpApply s p) := by
  unfold State.smpApply
  with_reducible repeat' (first
    | assumption | apply State.wr_keeps | apply State.raise_keeps | apply State.showJmax_keeps | apply State.applyShadows_keeps | split)

theorem State.smpEpoch_keeps {z : State} {s : State} {p : Nat} (h : Keeps z s) :
    Keeps z (State.smpEpoch s p) := by
  unfold State.smpEpoch
  with_reducible repeat' (first
    | assumption | apply State.smpApply_keeps | apply State.wr_keeps | apply State.setLoop_keeps | apply Keeps.ite)

theorem State.readLogits_keeps {z : State} {s : State} {p : Nat} {r : Nat} (h : Keeps z s) :
    KeepsR (fun e => e.2.2) (fun a => a.1) z (State.readLogits s p r) := by
  unfold State.readLogits
  with_reducible repeat' (first
    | assumption | apply Keeps.refl | apply State.raise_keeps | apply State.wr_keeps | apply State.lsramRead_keeps | apply Keeps.fst
    | apply KeepsR.okPair | apply KeepsR.err2 | apply KeepsR.ite | apply KeepsR.foldlM | dsimp only | intro _)

theorem State.readCounts_keeps {z : State} {s : State} {p : Nat} {k : Nat} (h : Keeps z s) :
    KeepsR (fun e => e.2.2) (fun a => a.1) z (State.readCounts s p k) := by
  unfold State.readCounts
  with_reducible repeat' (first
    | assumption | apply State.raise_keeps | apply State.wr_keeps | apply State.portRead_keeps | (apply Keeps.of_pair; assumption)
    | apply KeepsR.okPair | apply KeepsR.err2 | apply KeepsR.ite | split)

theorem State.writeCounts_keeps {z : State} {s : State} {p : Nat} {k : Nat} {tbl : List (Nat × Nat)} {ovf : Bool} (h : Keeps z s) :
    Keeps z (State.writeCounts s p k tbl ovf) := by
  unfold State.writeCounts
  with_reducible repeat' (first
    | assumption | apply State.portWrite_keeps | apply State.writeSmpWord_keeps | apply State.raiseIf_keeps | apply Keeps.fst | dsimp only | split
    | refine Keeps.rec' rfl rfl rfl rfl rfl ?_)

theorem KeepsR.mapFst {ε α : Type} {g : ε → State} {z : State} {x : Except ε (State × α)} (h : KeepsR g (fun a => a.1) z x) :
    KeepsR g (fun a => a) z (x.map (·.1)) := by
  cases h with
  | ok k => exact .ok k
  | error k => exact .error k

theorem State.draw_keeps {z s : State} {p row pos req : Nat} {w : List Nat} {tbl : List (Nat × Nat)} (h : Keeps z s) :
    KeepsR (fun e => e.2.2) (fun a => a.1) z (State.draw s p row pos req w tbl) := by
  unfold State.draw
  refine KeepsR.bind (State.readLogits_keeps h) (fun a => ?_)
  obtain ⟨s1, ls⟩ := a
  refine KeepsR.bind (h := fun a => a) (KeepsR.ite (KeepsR.mapFst (State.readLogits_keeps (Keeps.refl _))) (.okId (Keeps.refl _))) (fun s2 => ?_)
  exact .okPair (State.bump_keeps (Keeps.ite (State.wr_keeps (Keeps.refl _)) (Keeps.refl _)))

theorem State.walk_keeps {z s : State} {p : Nat} {w : List Nat} {q : StepReq} {r : SlotRec} {par drafts : List Nat} {fuel i : Nat} {x : Walk}
    (h : Keeps z s) : KeepsR (fun e => e.2.2) (fun a => a.1) z (State.walk s p w q r par drafts fuel i x) := by
  induction fuel generalizing z s i x with
  | zero => exact .okPair h
  | succ fuel ih =>
    unfold State.walk
    refine KeepsR.bind (State.draw_keeps h) (fun a => ?_)
    obtain ⟨s1, t, dg⟩ := a
    refine KeepsR.ite (.okPair (Keeps.refl _)) (KeepsR.ite (.okPair (Keeps.refl _)) ?_)
    split
    · exact ih (Keeps.refl _)
    · exact .okPair (Keeps.refl _)

/-! Template.lean -/

theorem State.readTmpl_keeps {z : State} {s : State} {p : Nat} (h : Keeps z s) :
    KeepsP z (State.readTmpl s p) := by
  unfold State.readTmpl
  with_reducible repeat' (first
    | assumption | apply State.portRead_keeps | (apply Keeps.of_pair; assumption) | dsimp only | split | apply KeepsP.pair)

theorem State.tmplBad_keeps {z : State} {s : State} {p : Nat} {at_ : Nat × Nat} (h : Keeps z s) :
    Keeps z (State.tmplBad s p at_) := by
  unfold State.tmplBad
  with_reducible repeat' (first | assumption | apply State.wr_keeps | apply State.raise_keeps)

/-! Sampling.lean -/

theorem State.toPhase_keeps {z : State} {s : State} {p : Nat} {ph : StepPhase} (h : Keeps z s) :
    Keeps z (State.toPhase s p ph) := by
  unfold State.toPhase
  with_reducible repeat' (first | assumption | apply State.setLoop_keeps)

theorem State.showSmp_keeps {z : State} {s : State} (h : Keeps z s) :
    Keeps z (State.showSmp s) := by
  unfold State.showSmp
  with_reducible repeat' (first | assumption | apply State.wr_keeps)

theorem State.sampleReq_keeps {z : State} {s : State} {p : Nat} {q : StepReq} (h : Keeps z s) :
    KeepsR (fun e => e.2.2) (fun a => a.1) z (State.sampleReq s p q) := by
  unfold State.sampleReq
  with_reducible repeat' (first
    | assumption | apply Keeps.refl | apply State.useSmpWord_keeps | apply State.pelotonUe_keeps | apply State.bump_keeps
    | (apply KeepsR.bind; apply State.readCounts_keeps) | (apply KeepsR.bind; apply State.walk_keeps) | apply Keeps.fst | apply Keeps.ite
    | apply KeepsR.okPair | apply KeepsR.ite | dsimp only | intro _ | refine Keeps.rec' rfl rfl rfl rfl rfl ?_)

theorem State.sampleAll_keeps {z : State} {s : State} {p : Nat} {qs : List StepReq} (h : Keeps z s) :
    KeepsP z (State.sampleAll s p qs) := by
  unfold State.sampleAll
  with_reducible repeat' (first
    | assumption | apply Keeps.refl | apply State.sampleReq_keeps | (apply Keeps.okFst2; assumption) | (apply Keeps.errFst2; assumption)
    | apply KeepsP.foldl | intro _ | split | apply KeepsP.pair)

theorem State.samplePaths_keeps {z : State} {s : State} {p : Nat} {ws : List (Nat × Walk)} (h : Keeps z s) :
    Keeps z (State.samplePaths s p ws) := by
  unfold State.samplePaths
  with_reducible repeat' (first
    | assumption | apply Keeps.refl | apply State.writeCounts_keeps | apply Keeps.foldl | apply Keeps.ite | dsimp only | intro _
    | refine Keeps.rec' rfl rfl rfl rfl rfl ?_)

/-! Lathe.lean -/

theorem State.lresetStart_keeps {z : State} {s : State} {n : Nat} (h : Keeps z s) :
    Keeps z (State.lresetStart s n) := by
  unfold State.lresetStart
  with_reducible repeat' (first | assumption | apply State.wr_keeps | apply State.setLth_keeps | apply State.dropPins_keeps)

theorem State.latheClear_keeps {z : State} {s : State} {n : Nat} (h : Keeps z s) :
    Keeps z (State.latheClear s n) := by
  unfold State.latheClear
  with_reducible repeat' (first
    | assumption | apply Keeps.refl | apply State.wr_keeps | apply State.clearRegs_keeps | apply State.setLth_keeps | apply State.tdmaGroupReset_keeps
    | apply State.zeroLsram_keeps | apply Keeps.foldl | intro _)

theorem State.stepAbort_keeps {z : State} {s : State} {n : Nat} (h : Keeps z s) :
    Keeps z (State.stepAbort s n) := by
  unfold State.stepAbort
  with_reducible repeat' (first | assumption | apply State.endDesc_keeps | apply Keeps.ite)

theorem State.issueRep_keeps {z : State} {s : State} {n : Nat} {d : Desc} {r : Nat} (h : Keeps z s) :
    Keeps z (State.issueRep s n d r) := by
  unfold State.issueRep
  with_reducible repeat' (first
    | assumption | apply State.katRun_keeps | apply State.katCell_keeps | apply State.katCount_keeps | apply State.runAttention_keeps
    | apply State.setLth_keeps | apply State.runCompute_keeps | apply State.wr_keeps | apply State.toFetch_keeps | apply Keeps.fst | apply Keeps.ite
    | apply KeepsP.ite | dsimp only | split | apply KeepsP.pair)

theorem State.signals_keeps {z : State} {s : State} {n : Nat} {f : Flight} (h : Keeps z s) :
    KeepsP z (State.signals s n f) := by
  unfold State.signals
  with_reducible repeat' (first | assumption | apply State.signal_keeps | apply Keeps.fst | dsimp only | apply KeepsP.pair)

theorem State.lthCommit_keeps {z : State} {s : State} {n : Nat} {atEpoch : Bool} (h : Keeps z s) :
    Keeps z (State.lthCommit s n atEpoch) := by
  unfold State.lthCommit
  with_reducible repeat' (first | assumption | apply State.wr_keeps | apply State.lthApply_keeps | apply Keeps.ite)

/-! Steps.lean -/

theorem State.pltApply_keeps {z : State} {s : State} {p : Nat} {enable : Bool} (h : Keeps z s) :
    Keeps z (State.pltApply s p enable) := by
  unfold State.pltApply
  with_reducible repeat' (first
    | assumption | apply State.wr_keeps | apply State.raise_keeps | apply State.showJmax_keeps | apply State.applyShadows_keeps
    | apply State.reassess_keeps | apply State.showPlt_keeps | apply Keeps.ite | dsimp only | split)

theorem State.pltEpoch_keeps {z : State} {s : State} {p : Nat} (h : Keeps z s) :
    Keeps z (State.pltEpoch s p) := by
  unfold State.pltEpoch
  with_reducible repeat' (first
    | assumption | apply State.pltApply_keeps | apply State.wr_keeps | apply State.setLoop_keeps | dsimp only | split)

theorem State.useSlots_keeps {z : State} {s : State} {p : Nat} (h : Keeps z s) :
    Keeps z (State.useSlots s p) := by
  unfold State.useSlots
  with_reducible repeat' (first
    | assumption | apply Keeps.refl | apply State.usePltWord_keeps | apply State.slotUe_keeps | apply Keeps.fst | apply Keeps.foldl | apply Keeps.ite
    | dsimp only | intro _)

theorem State.prepareReq_keeps {z : State} {s : State} {p : Nat} {q : StepReq} (h : Keeps z s) :
    KeepsP z (State.prepareReq s p q) := by
  unfold State.prepareReq
  with_reducible repeat' (first
    | assumption | apply State.pftNow_keeps | apply pftPrepare_keeps | apply State.demote_keeps | apply Keeps.fst | apply KeepsP.ite | split
    | apply KeepsP.pair)

theorem State.rowTokens_keeps {z : State} {s : State} {p : Nat} {q : StepReq} (h : Keeps z s) :
    KeepsP z (State.rowTokens s p q) := by
  unfold State.rowTokens
  with_reducible repeat' (first
    | assumption | apply State.partRead_keeps | apply State.drewMany_keeps | (apply Keeps.of_pair; assumption) | apply KeepsP.ite | split
    | apply KeepsP.pair)

theorem State.buildLathe_keeps {z : State} {s : State} {p : Nat} {n : Nat} {k : Nat} {buf : Nat} {rows : Nat} {c : PltCfg} {t : Option Tmpl} {rowtab : List Byte} {qs : List StepReq} (h : Keeps z s) :
    Keeps z (State.buildLathe s p n k buf rows c t rowtab qs) := by
  unfold State.buildLathe
  with_reducible repeat' (first
    | assumption | apply State.undefLsram_keeps | apply State.lsramWrite_keeps | apply Keeps.fst | dsimp only | split)

theorem State.openOn_keeps {z : State} {s : State} {p : Nat} {n : Nat} (h : Keeps z s) :
    Keeps z (State.openOn s p n) := by
  unfold State.openOn
  with_reducible repeat' (first
    | assumption | apply State.epochOpen_keeps | apply State.setLoop_keeps | apply State.wr_keeps | apply State.setLth_keeps | apply Keeps.ite)

theorem State.commitReq_keeps {z : State} {s : State} {p : Nat} {q : StepReq} (h : Keeps z s) :
    KeepsP z (State.commitReq s p q) := by
  unfold State.commitReq
  with_reducible repeat' (first
    | assumption | apply State.pftNow_keeps | apply pftRelink_keeps | apply pftCommitLen_keeps | apply Keeps.fst | apply KeepsP.ite | dsimp only
    | split | apply KeepsP.pair)

theorem State.sendRecord_keeps {z : State} {s : State} {p : Nat} {parts : List (List Byte)} (h : Keeps z s) :
    Keeps z (State.sendRecord s p parts) := by
  unfold State.sendRecord
  with_reducible repeat' (first
    | assumption | apply Keeps.refl | apply State.send_keeps | apply State.wr_keeps | apply State.sendVec_keeps | apply Keeps.foldl | apply Keeps.ite
    | dsimp only | intro _)

theorem State.commitSlot_keeps {z : State} {s : State} {p : Nat} {q : StepReq} (h : Keeps z s) :
    Keeps z (State.commitSlot s p q) := by
  unfold State.commitSlot
  with_reducible repeat' (first
    | assumption | apply State.moveHold_keeps | apply State.setSlot_keeps | apply State.closeSlot_keeps | apply Keeps.ite)

theorem State.lateStep_keeps {z : State} {s : State} {p : Nat} {late : Bool} {excess : Nat} {counts : List Nat} (h : Keeps z s) :
    Keeps z (State.lateStep s p late excess counts) := by
  unfold State.lateStep
  with_reducible repeat' (first
    | assumption | apply State.breachPart_keeps | apply State.reassess_keeps | apply State.wr_keeps | apply State.setLoop_keeps | apply Keeps.ite)

theorem State.ttftMissed_keeps {z : State} {s : State} {p : Nat} {before : List (Nat × SlotRec)} (h : Keeps z s) :
    Keeps z (State.ttftMissed s p before) := by
  unfold State.ttftMissed
  with_reducible repeat' (first
    | assumption | apply Keeps.refl | apply State.breach_keeps | apply State.setSlot_keeps | apply Keeps.foldl | apply Keeps.ite | dsimp only
    | intro _)

/-! Serving.lean -/

theorem State.pltCommit_keeps {z : State} {s : State} {p : Nat} {enable : Bool} (h : Keeps z s) :
    Keeps z (State.pltCommit s p enable) := by
  unfold State.pltCommit
  with_reducible repeat' (first
    | assumption | apply State.raise_keeps | apply State.pltApply_keeps | apply State.wr_keeps | apply State.setLoop_keeps | apply Keeps.ite
    | dsimp only | split)

theorem State.sqTake_keeps {z : State} {s : State} {p : Nat} {k : Nat} (h : Keeps z s) :
    Keeps z (State.sqTake s p k) := by
  unfold State.sqTake
  with_reducible repeat' (first | assumption | apply State.wr_keeps)

theorem State.sqFault_keeps {z : State} {s : State} {p : Nat} {code : Nat} (h : Keeps z s) :
    Keeps z (State.sqFault s p code) := by
  unfold State.sqFault
  with_reducible repeat' (first | assumption | apply State.submitRecord_keeps | apply State.wr_keeps)

theorem State.sqTimedOut_keeps {z : State} {s : State} {p : Nat} (h : Keeps z s) :
    Keeps z (State.sqTimedOut s p) := by
  unfold State.sqTimedOut
  with_reducible repeat' (first | assumption | apply State.sqFault_keeps | apply State.raise_keeps | apply State.wr_keeps)

theorem State.accept_keeps {z : State} {s : State} {p : Nat} {k : Nat} {r : SlotRec} (h : Keeps z s) :
    Keeps z (State.accept s p k r) := by
  unfold State.accept
  with_reducible repeat' (first
    | assumption | apply State.setBucket_keeps | apply State.setSlot_keeps | apply State.setLoop_keeps | apply State.showPlt_keeps
    | apply State.writeSmpWord_keeps | dsimp only | refine Keeps.rec' rfl rfl rfl rfl rfl ?_)

theorem State.openSlot_keeps {z : State} {s : State} {p : Nat} {k : Nat} {e : Submission} (h : Keeps z s) :
    KeepsP z (State.openSlot s p k e) := by
  unfold State.openSlot
  with_reducible repeat' (first
    | assumption | apply State.pftNow_keeps | apply pftOpen_keeps | apply pftFork_keeps | apply pftRelease_keeps | apply Keeps.fst | apply KeepsP.ite
    | apply KeepsP.pair)

theorem State.countRefusal_keeps {z : State} {s : State} {p : Nat} {code : Nat} (h : Keeps z s) :
    Keeps z (State.countRefusal s p code) := by
  unfold State.countRefusal
  with_reducible repeat' (first | assumption | apply State.setLoop_keeps)

/-! FabOps.lean -/

theorem State.setLink_keeps {z : State} {s : State} {pl : Nat} {x : FabLink} (h : Keeps z s) :
    Keeps z (State.setLink s pl x) := by
  unfold State.setLink
  with_reducible repeat' (first | assumption | dsimp only | refine Keeps.rec' rfl rfl rfl rfl rfl ?_)

theorem State.fabCount_keeps {z : State} {s : State} {pl : Nat} {i : Nat} (h : Keeps z s) :
    Keeps z (State.fabCount s pl i) := by
  unfold State.fabCount
  with_reducible repeat' (first | assumption | dsimp only | refine Keeps.rec' rfl rfl rfl rfl rfl ?_)

theorem State.sendControl_keeps {z : State} {s : State} {pl : Nat} {comps : List (Nat × Nat × Nat × Nat)} (h : Keeps z s) :
    Keeps z (State.sendControl s pl comps) := by
  unfold State.sendControl
  with_reducible repeat' (first | assumption | apply State.send_keeps)

theorem State.setCk_keeps {z : State} {s : State} {p : Nat} {j : Option CkJob} (h : Keeps z s) :
    Keeps z (State.setCk s p j) := by
  unfold State.setCk
  with_reducible repeat' (first | assumption | dsimp only | refine Keeps.rec' rfl rfl rfl rfl rfl ?_)

theorem State.fabRead_keeps {z : State} {s : State} {p : Nat} {addr : Nat} {len : Nat} (h : Keeps z s) :
    KeepsP z (State.fabRead s p addr len) := by
  unfold State.fabRead
  with_reducible repeat' (first
    | assumption | apply State.portRead_keeps | (apply Keeps.of_pair; assumption) | split | apply KeepsP.pair)

theorem State.fabWrite_keeps {z : State} {s : State} {p : Nat} {addr : Nat} {data : List Byte} (h : Keeps z s) :
    KeepsP z (State.fabWrite s p addr data) := by
  unfold State.fabWrite
  with_reducible repeat' (first
    | assumption | apply State.portWrite_keeps | (apply Keeps.of_pair; assumption) | split | apply KeepsP.pair)

theorem State.queueTx_keeps {z : State} {s : State} {t : TxPkt} (h : Keeps z s) :
    Keeps z (State.queueTx s t) := by
  unfold State.queueTx
  with_reducible repeat' (first | assumption | dsimp only | refine Keeps.rec' rfl rfl rfl rfl rfl ?_)

theorem State.ckNext_keeps {z : State} {s : State} {p : Nat} (h : Keeps z s) :
    Keeps z (State.ckNext s p) := by
  unfold State.ckNext
  with_reducible repeat' (first
    | assumption | apply State.setCk_keeps | apply State.fabRead_keeps | apply State.queueTx_keeps | apply Keeps.fst
    | (apply Keeps.of_pair; assumption) | apply Keeps.ite | dsimp only | split | apply KeepsP.pair | refine Keeps.rec' rfl rfl rfl rfl rfl ?_)

theorem State.ckDone_keeps {z : State} {s : State} {p : Nat} {len : Nat} {status : Nat} (h : Keeps z s) :
    Keeps z (State.ckDone s p len status) := by
  unfold State.ckDone
  with_reducible repeat' (first
    | assumption | apply State.setCk_keeps | apply State.wr_keeps | apply State.ckNext_keeps | apply Keeps.ite | dsimp only | split)

theorem State.txDone_keeps {z : State} {s : State} {t : TxPkt} {status : Nat} (h : Keeps z s) :
    Keeps z (State.txDone s t status) := by
  unfold State.txDone
  with_reducible repeat' (first
    | assumption | apply State.wr_keeps | apply State.raise_keeps | apply State.tdmaStop_keeps | apply State.ckDone_keeps | apply Keeps.ite
    | dsimp only | split | refine Keeps.rec' rfl rfl rfl rfl rfl ?_)

theorem State.completeAll_keeps {z : State} {s : State} {sel : TxPkt → Bool} {status : Nat} (h : Keeps z s) :
    Keeps z (State.completeAll s sel status) := by
  unfold State.completeAll
  with_reducible repeat' (first
    | assumption | apply Keeps.refl | apply State.txDone_keeps | apply Keeps.foldl | dsimp only | intro _ | refine Keeps.rec' rfl rfl rfl rfl rfl ?_)

theorem State.completion_keeps {z : State} {s : State} {src : Nat} {status : Nat} {pseq : Nat} (h : Keeps z s) :
    Keeps z (State.completion s src status pseq) := by
  unfold State.completion
  with_reducible repeat' (first | assumption | apply State.completeAll_keeps)

theorem State.txFailed_keeps {z : State} {s : State} {t : TxPkt} (h : Keeps z s) :
    Keeps z (State.txFailed s t) := by
  unfold State.txFailed
  with_reducible repeat' (first
    | assumption | apply State.txDone_keeps | apply State.fabCount_keeps | apply Keeps.ite | dsimp only | refine Keeps.rec' rfl rfl rfl rfl rfl ?_)

theorem State.withReach_keeps {z : State} {s : State} {f : State → State} (h : Keeps z s) (hf : ∀ {z x : State}, Keeps z x → Keeps z (f x)) :
    Keeps z (State.withReach s f) := by
  unfold State.withReach
  with_reducible repeat' (first
    | assumption | apply Keeps.refl | apply State.raise_keeps | apply State.txDone_keeps | apply State.completeAll_keeps | apply hf
    | apply Keeps.foldl | apply Keeps.ite | dsimp only | intro _ | refine Keeps.rec' rfl rfl rfl rfl rfl ?_)

theorem State.idCheck_keeps {z : State} {s : State} (h : Keeps z s) :
    Keeps z (State.idCheck s) := by
  unfold State.idCheck
  with_reducible repeat' (first | assumption | apply State.wr_keeps | apply Keeps.ite)

theorem State.planeTrain_keeps {z : State} {s : State} {pl : Nat} (h : Keeps z s) :
    Keeps z (State.planeTrain s pl) := by
  unfold State.planeTrain
  with_reducible repeat' (first | assumption | apply State.setLink_keeps | apply State.wr_keeps)

theorem State.planeFall_keeps {z : State} {s : State} {pl : Nat} (h : Keeps z s) :
    Keeps z (State.planeFall s pl) := by
  unfold State.planeFall
  with_reducible repeat' (first
    | assumption | apply Keeps.refl | apply State.withReach_keeps | apply State.setLink_keeps | apply State.wr_keeps | apply State.idCheck_keeps
    | apply State.raise_keeps | apply State.bump_keeps | apply State.txFailed_keeps | apply State.planeTrain_keeps | apply Keeps.foldl
    | apply Keeps.ite | dsimp only | intro _)

theorem State.planeInjected_keeps {z : State} {s : State} {pl : Nat} (h : Keeps z s) :
    Keeps z (State.planeInjected s pl) := by
  unfold State.planeInjected
  with_reducible repeat' (first | assumption | apply State.planeFall_keeps | apply State.wr_keeps | apply Keeps.ite)

theorem State.rxFree_keeps {z : State} {s : State} {pl : Nat} {vc : Nat} {n : Nat} (h : Keeps z s) :
    Keeps z (State.rxFree s pl vc n) := by
  unfold State.rxFree
  with_reducible repeat' (first | assumption | apply State.setLink_keeps)

theorem State.ingressPart_keeps {z : State} {s : State} {pl : Nat} {k : FabPkt} (h : Keeps z s) :
    KeepsP z (State.ingressPart s pl k) := by
  unfold State.ingressPart
  with_reducible repeat' (first
    | assumption | apply State.fabCount_keeps | apply State.readKeyWord_keeps | apply KeepsP.ite | split | apply KeepsP.pair)

theorem State.rxComplete_keeps {z : State} {s : State} {src : Nat} {pseq : Nat} {status : Nat} (h : Keeps z s) :
    Keeps z (State.rxComplete s src pseq status) := by
  unfold State.rxComplete
  with_reducible repeat' (first | assumption | dsimp only | refine Keeps.rec' rfl rfl rfl rfl rfl ?_)

theorem State.rxWindow_keeps {z : State} {s : State} {src : Nat} {pseq : Nat} (h : Keeps z s) :
    Keeps z (State.rxWindow s src pseq) := by
  unfold State.rxWindow
  with_reducible repeat' (first | assumption | apply Keeps.ite | dsimp only | refine Keeps.rec' rfl rfl rfl rfl rfl ?_)

theorem State.answer_keeps {z : State} {s : State} {o : Option (Fin 2)} {k : FabPkt} {status : Nat} (h : Keeps z s) :
    Keeps z (State.answer s o k status) := by
  unfold State.answer
  with_reducible repeat' (first
    | assumption | apply State.sendControl_keeps | apply State.rxFree_keeps | apply State.completion_keeps | split)

theorem State.rxFinish_keeps {z : State} {s : State} {o : Option (Fin 2)} {k : FabPkt} {status : Nat} (h : Keeps z s) :
    Keeps z (State.rxFinish s o k status) := by
  unfold State.rxFinish
  with_reducible repeat' (first | assumption | apply State.answer_keeps | apply State.rxComplete_keeps)

theorem State.barrierArrive_keeps {z : State} {s : State} {p : Nat} {b : Nat} {k : FabPkt} (h : Keeps z s) :
    KeepsP z (State.barrierArrive s p b k) := by
  unfold State.barrierArrive
  with_reducible repeat' (first
    | assumption | apply Keeps.refl | apply State.wr_keeps | apply State.queueTx_keeps | apply Keeps.foldl | apply KeepsP.ite | dsimp only | intro _
    | apply KeepsP.pair)

theorem State.releaseApply_keeps {z : State} {s : State} {p : Nat} {k : FabPkt} (h : Keeps z s) :
    KeepsP z (State.releaseApply s p k) := by
  unfold State.releaseApply
  with_reducible repeat' (first
    | assumption | apply Keeps.refl | apply State.wr_keeps | apply State.evtAdd_keeps | apply Keeps.foldl | apply KeepsP.ite | intro _
    | apply KeepsP.pair)

theorem State.heldApply_keeps {z : State} {s : State} {h : FabHeld} (hz : Keeps z s) :
    Keeps z (State.heldApply s h) := by
  unfold State.heldApply
  with_reducible repeat' (first
    | assumption | apply State.releaseApply_keeps | apply State.evtAdd_keeps | apply State.barrierArrive_keeps | apply State.rxFinish_keeps
    | apply Keeps.fst | apply KeepsP.ite | split | apply KeepsP.pair)

theorem State.drainHeld_keeps {z : State} {n : Nat} {s : State} (h : Keeps z s) : Keeps z (State.drainHeld n s) := by
  induction n generalizing s with
  | zero => exact h
  | succ n ih =>
    unfold State.drainHeld
    split
    · exact h
    · exact ih (State.heldApply_keeps (Keeps.congr h rfl rfl rfl rfl rfl))

theorem State.drain_keeps {z : State} {s : State} (h : Keeps z s) :
    Keeps z (State.drain s) := by
  unfold State.drain
  with_reducible repeat' (first | assumption | apply State.drainHeld_keeps)

theorem State.hold_keeps {z : State} {s : State} {o : Option (Fin 2)} {p : Nat} {k : FabPkt} (h : Keeps z s) :
    Keeps z (State.hold s o p k) := by
  unfold State.hold
  with_reducible repeat' (first | assumption | apply State.drain_keeps | dsimp only | refine Keeps.rec' rfl rfl rfl rfl rfl ?_)

theorem State.respond_keeps {z : State} {s : State} {o : Option (Fin 2)} {p : Nat} {k : FabPkt} {status : Nat} {data : List Byte} (h : Keeps z s) :
    Keeps z (State.respond s o p k status data) := by
  unfold State.respond
  with_reducible repeat' (first | assumption | apply State.rxFree_keeps | apply State.queueTx_keeps | split)

theorem State.readResp_keeps {z : State} {s : State} {pl : Nat} {k : FabPkt} (h : Keeps z s) :
    Keeps z (State.readResp s pl k) := by
  unfold State.readResp
  with_reducible repeat' (first
    | assumption | apply State.ingressPart_keeps | apply State.txDone_keeps | apply State.fabWrite_keeps | apply Keeps.fst
    | (apply Keeps.of_pair; assumption) | apply Keeps.ite | dsimp only | split | refine Keeps.rec' rfl rfl rfl rfl rfl ?_)

theorem State.ingress_keeps {z : State} {s : State} {o : Option (Fin 2)} {k : FabPkt} (h : Keeps z s) :
    Keeps z (State.ingress s o k) := by
  unfold State.ingress
  with_reducible repeat' (first
    | assumption | apply State.rxFree_keeps | apply State.fabCount_keeps | apply State.readResp_keeps | apply State.ingressPart_keeps
    | apply State.respond_keeps | apply State.fabRead_keeps | apply State.rxWindow_keeps | apply State.answer_keeps | apply State.drain_keeps
    | apply State.rxFinish_keeps | apply State.hold_keeps | apply State.fabWrite_keeps | apply State.lsramWrite_keeps | apply State.wayWrite_keeps
    | apply Keeps.fst | (apply Keeps.of_pair; assumption) | apply Keeps.ite | dsimp only | split)

theorem State.ckStart_keeps {z : State} {s : State} {p : Nat} {count : Nat} {peer : Nat} {pull : Bool} {quiesce : Bool} (h : Keeps z s) :
    Keeps z (State.ckStart s p count peer pull quiesce) := by
  unfold State.ckStart
  with_reducible repeat' (first | assumption | apply State.wr_keeps | apply State.ckNext_keeps | apply State.setCk_keeps)

/-! Fabric.lean -/

theorem State.fabCommit_keeps {z : State} {s : State} (h : Keeps z s) :
    Keeps z (State.fabCommit s) := by
  unfold State.fabCommit
  with_reducible repeat' (first
    | assumption | apply Keeps.refl | apply State.raise_keeps | apply State.applyShadows_keeps | apply State.planeTrain_keeps
    | apply State.planeFall_keeps | apply Keeps.foldl | apply Keeps.ite | intro _)

theorem State.fabApply_keeps {z : State} {s : State} {p : Nat} {enable : Bool} (h : Keeps z s) :
    Keeps z (State.fabApply s p enable) := by
  unfold State.fabApply
  with_reducible repeat' (first
    | assumption | apply Keeps.refl | apply State.wr_keeps | apply State.applyShadows_keeps | apply Keeps.foldl | intro _)

theorem State.fabCheckApply_keeps {z : State} {s : State} {p : Nat} {enable : Bool} (h : Keeps z s) :
    Keeps z (State.fabCheckApply s p enable) := by
  unfold State.fabCheckApply
  with_reducible repeat' (first
    | assumption | apply State.wr_keeps | apply State.raise_keeps | apply State.fabApply_keeps | apply Keeps.ite | split)

theorem State.fabPcommit_keeps {z : State} {s : State} {p : Nat} {enable : Bool} (h : Keeps z s) :
    Keeps z (State.fabPcommit s p enable) := by
  unfold State.fabPcommit
  with_reducible repeat' (first | assumption | apply State.raise_keeps | apply State.fabCheckApply_keeps | apply Keeps.ite)

theorem State.setReach_keeps {z : State} {s : State} {pl : Nat} {m : Nat} (h : Keeps z s) :
    Keeps z (State.setReach s pl m) := by
  unfold State.setReach
  with_reducible repeat' (first | assumption | apply Keeps.refl | apply State.wr_keeps | apply Keeps.foldl | intro _)

theorem State.takeId_keeps {z : State} {s : State} {pl : Nat} {h : Hello} (hz : Keeps z s) :
    Keeps z (State.takeId s pl h) := by
  unfold State.takeId
  with_reducible repeat' (first
    | assumption | apply State.setLink_keeps | apply State.wr_keeps | apply State.idCheck_keeps | apply Keeps.ite)

theorem State.cwInjected_keeps {z : State} {s : State} {pl : Nat} {d : CwDecode} (h : Keeps z s) :
    KeepsP z (State.cwInjected s pl d) := by
  unfold State.cwInjected
  with_reducible repeat' (first | assumption | apply State.wr_keeps | apply KeepsP.ite | split | apply KeepsP.pair)

theorem State.compEntry_keeps {z : State} {s : State} {c : FabComp} (h : Keeps z s) :
    Keeps z (State.compEntry s c) := by
  unfold State.compEntry
  with_reducible repeat' (first | assumption | apply State.wr_keeps | apply State.completion_keeps | apply Keeps.ite)

theorem State.assemble_keeps {z : State} {s : State} {t : TxPkt} {loop : Bool} (h : Keeps z s) :
    KeepsP z (State.assemble s t loop) := by
  unfold State.assemble
  with_reducible repeat' (first
    | assumption | apply KeepsP.ite | dsimp only | split | apply KeepsP.pair | refine Keeps.rec' rfl rfl rfl rfl rfl ?_)

theorem State.awaitTx_keeps {z : State} {s : State} {t : TxPkt} (h : Keeps z s) :
    Keeps z (State.awaitTx s t) := by
  unfold State.awaitTx
  with_reducible repeat' (first | assumption | apply Keeps.ite | dsimp only | refine Keeps.rec' rfl rfl rfl rfl rfl ?_)

theorem State.sendInjected_keeps {z : State} {s : State} {k : FabPkt} (h : Keeps z s) :
    KeepsP z (State.sendInjected s k) := by
  unfold State.sendInjected
  with_reducible repeat' (first | assumption | apply State.wr_keeps | dsimp only | split | apply KeepsP.pair)

theorem State.sendOn_keeps {z : State} {s : State} {t : TxPkt} {pl : Nat} {cw : Nat} (h : Keeps z s) :
    Keeps z (State.sendOn s t pl cw) := by
  unfold State.sendOn
  with_reducible repeat' (first
    | assumption | apply State.crossLink_keeps | apply State.tdmaStop_keeps | apply State.ckDone_keeps | apply State.assemble_keeps
    | apply State.sendInjected_keeps | apply State.send_keeps | apply State.awaitTx_keeps | apply State.setLink_keeps | apply Keeps.fst
    | apply Keeps.ite | apply KeepsP.ite | split | apply KeepsP.pair)

theorem State.pulled_keeps {z : State} {s : State} {p : Nat} (h : Keeps z s) :
    Keeps z (State.pulled s p) := by
  unfold State.pulled
  with_reducible repeat' (first | assumption | apply Keeps.ite | refine Keeps.rec' rfl rfl rfl rfl rfl ?_)

/-! VideoOps.lean -/

theorem State.setVctx_keeps {z : State} {s : State} {e : Nat} {k : Nat} {x : VidCtx} (h : Keeps z s) :
    Keeps z (State.setVctx s e k x) := by
  unfold State.setVctx
  with_reducible repeat' (first | assumption | dsimp only | refine Keeps.rec' rfl rfl rfl rfl rfl ?_)

theorem State.undefArea_keeps {z : State} {s : State} {p : Nat} {addr : Nat} {len : Nat} (h : Keeps z s) :
    Keeps z (State.undefArea s p addr len) := by
  unfold State.undefArea
  with_reducible repeat' (first | assumption | apply State.undefPort_keeps | split)

theorem State.vidHalt_keeps {z : State} {s : State} {e : Nat} {k : Nat} {cause : Nat} {addr : Nat} (h : Keeps z s) :
    Keeps z (State.vidHalt s e k cause addr) := by
  unfold State.vidHalt
  with_reducible repeat' (first
    | assumption | apply State.raise_keeps | apply State.wr_keeps | apply State.setVctx_keeps | apply State.record_keeps | apply Keeps.ite | split)

theorem State.vidRead_keeps {z : State} {s : State} {e : Nat} {k : Nat} {addr : Nat} {len : Nat} (h : Keeps z s) :
    KeepsR (fun e => e) (fun a => a.1) z (State.vidRead s e k addr len) := by
  unfold State.vidRead
  with_reducible repeat' (first
    | assumption | apply State.vidHalt_keeps | apply State.wr_keeps | apply State.partRead_keeps | (apply Keeps.of_pair; assumption)
    | apply KeepsR.okPair | apply KeepsR.errId | apply KeepsR.ite | split)

theorem State.vidWrite_keeps {z : State} {s : State} {e : Nat} {k : Nat} {addr : Nat} {data : List Byte} (h : Keeps z s) :
    KeepsR (fun e => e) (fun a => a) z (State.vidWrite s e k addr data) := by
  unfold State.vidWrite
  with_reducible repeat' (first
    | assumption | apply State.partWrite_keeps | apply State.vidHalt_keeps | (apply Keeps.of_pair; assumption) | apply KeepsR.okId
    | apply KeepsR.errId | apply KeepsR.ite | split)

theorem State.vidSram_keeps {z : State} {s : State} {e : Nat} {k : Nat} (h : Keeps z s) :
    KeepsR (fun e => e) (fun a => a) z (State.vidSram s e k) := by
  unfold State.vidSram
  with_reducible repeat' (first
    | assumption | apply State.reportCe_keeps | apply State.bump_keeps | apply State.raise_keeps | apply State.vidHalt_keeps
    | apply State.reportUe_keeps | apply KeepsR.okId | apply KeepsR.errId | dsimp only | split | refine Keeps.rec' rfl rfl rfl rfl rfl ?_)

theorem State.vidInject_keeps {z : State} {s : State} {e : Nat} {k : Nat} (h : Keeps z s) :
    Keeps z (State.vidInject s e k) := by
  unfold State.vidInject
  with_reducible repeat' (first
    | assumption | apply State.wr_keeps | apply Keeps.ite | dsimp only | refine Keeps.rec' rfl rfl rfl rfl rfl ?_)

theorem State.queueRead_keeps {z : State} {s : State} {e : Nat} {k : Nat} {off : Nat} {len : Nat} (h : Keeps z s) :
    KeepsR (fun e => e) (fun a => a.1) z (State.queueRead s e k off len) := by
  unfold State.queueRead
  with_reducible repeat' (first
    | assumption | apply Keeps.refl | (apply KeepsR.bind; apply State.vidRead_keeps) | apply KeepsR.okPair | apply KeepsR.foldlM | dsimp only
    | intro _)

theorem State.queueWrite_keeps {z : State} {s : State} {e : Nat} {k : Nat} {off : Nat} {data : List Byte} (h : Keeps z s) :
    KeepsR (fun e => e) (fun a => a) z (State.queueWrite s e k off data) := by
  unfold State.queueWrite
  with_reducible repeat' (first
    | assumption | apply Keeps.refl | (apply KeepsR.bind; apply State.vidWrite_keeps) | apply KeepsR.bind (h := (fun a => a.1 : State × _ → State))
    | apply KeepsR.okPair | apply KeepsR.okId | apply KeepsR.foldlM | dsimp only | intro _)

theorem State.showLoad_keeps {z : State} {s : State} {e : Nat} (h : Keeps z s) :
    Keeps z (State.showLoad s e) := by
  unfold State.showLoad
  with_reducible repeat' (first | assumption | apply State.wr_keeps)

theorem State.vidDisable_keeps {z : State} {s : State} {e : Nat} {k : Nat} (h : Keeps z s) :
    Keeps z (State.vidDisable s e k) := by
  unfold State.vidDisable
  with_reducible repeat' (first
    | assumption | apply Keeps.refl | apply State.undefArea_keeps | apply State.wr_keeps | apply State.showLoad_keeps | apply State.setVctx_keeps
    | apply Keeps.foldl | apply Keeps.ite | intro _)

theorem State.vidFinish_keeps {z : State} {s : State} {e : Nat} {k : Nat} {q : VidPic} {keep : Bool} {waits : Bool} (h : Keeps z s) :
    Keeps z (State.vidFinish s e k q keep waits) := by
  unfold State.vidFinish
  with_reducible repeat' (first | assumption | apply State.undefArea_keeps | apply State.setVctx_keeps)

theorem State.vidStart_keeps {z : State} {s : State} {e : Nat} {k : Nat} {i : PicInfo} (h : Keeps z s) :
    KeepsR (fun e => e) (fun a => a) z (State.vidStart s e k i) := by
  unfold State.vidStart
  with_reducible repeat' (first
    | assumption | apply State.vidHalt_keeps | apply State.setVctx_keeps | apply KeepsR.okId | apply KeepsR.errId | apply KeepsR.ite | dsimp only
    | split | refine Keeps.rec' rfl rfl rfl rfl rfl ?_)

/-! HdmaOps.lean -/

theorem State.setHch_keeps {z : State} {s : State} {c : Nat} {x : HdmaCh} (h : Keeps z s) :
    Keeps z (State.setHch s c x) := by
  unfold State.setHch
  with_reducible repeat' (first | assumption | dsimp only | refine Keeps.rec' rfl rfl rfl rfl rfl ?_)

theorem State.setHState_keeps {z : State} {s : State} {c : Nat} {v : Nat} (h : Keeps z s) :
    Keeps z (State.setHState s c v) := by
  unfold State.setHState
  with_reducible repeat' (first | assumption | apply State.wr_keeps)

theorem State.releaseFrame_keeps {z : State} {s : State} {c : Nat} (h : Keeps z s) :
    Keeps z (State.releaseFrame s c) := by
  unfold State.releaseFrame
  with_reducible repeat' (first | assumption | apply State.setHch_keeps | apply State.setVctx_keeps | dsimp only | split)

theorem State.undefHost_keeps {z : State} {s : State} {c : Nat} {space : Nat} {a : Int} {len : Nat} (h : Keeps z s) :
    Keeps z (State.undefHost s c space a len) := by
  unfold State.undefHost
  with_reducible repeat' (first
    | assumption | apply State.undefMem_keeps | apply State.undefLsram_keeps | apply State.undefWay_keeps | apply Keeps.ite | split)

theorem State.undefDest_keeps {z : State} {s : State} {c : Nat} (h : Keeps z s) :
    Keeps z (State.undefDest s c) := by
  unfold State.undefDest
  with_reducible repeat' (first
    | assumption | apply Keeps.refl | apply State.undefHost_keeps | apply Keeps.foldl | apply Keeps.ite | dsimp only | intro _ | split)

theorem State.hdmaApply_keeps {z : State} {s : State} {c : Nat} (h : Keeps z s) :
    Keeps z (State.hdmaApply s c) := by
  unfold State.hdmaApply
  with_reducible repeat' (first | assumption | apply State.raise_keeps | apply State.applyShadows_keeps | apply Keeps.ite)

theorem State.hdmaBoundary_keeps {z : State} {s : State} {c : Nat} (h : Keeps z s) :
    Keeps z (State.hdmaBoundary s c) := by
  unfold State.hdmaBoundary
  with_reducible repeat' (first
    | assumption | apply State.setHch_keeps | apply State.releaseFrame_keeps | apply State.hdmaApply_keeps | apply Keeps.ite)

theorem State.dropHch_keeps {z : State} {s : State} {c : Nat} {st : Nat} (h : Keeps z s) :
    Keeps z (State.dropHch s c st) := by
  unfold State.dropHch
  with_reducible repeat' (first
    | assumption | apply State.setHState_keeps | apply State.wr_keeps | apply State.hdmaBoundary_keeps | apply State.undefDest_keeps)

theorem State.hdmaStop_keeps {z : State} {s : State} {cause : Nat} {addr : Nat} {place : Option (Nat × Nat)} (h : Keeps z s) :
    Keeps z (State.hdmaStop s cause addr place) := by
  unfold State.hdmaStop
  with_reducible repeat' (first
    | assumption | apply Keeps.refl | apply State.dropHch_keeps | apply State.wr_keeps | apply State.record_keeps | apply Keeps.foldl
    | apply Keeps.ite | intro _)

theorem State.hdmaInjected_keeps {z : State} {s : State} {a : Int} (h : Keeps z s) :
    KeepsR (fun e => e) (fun a => a) z (State.hdmaInjected s a) := by
  unfold State.hdmaInjected
  with_reducible repeat' (first
    | assumption | apply State.hdmaStop_keeps | apply State.wr_keeps | apply KeepsR.okId | apply KeepsR.errId | apply KeepsR.ite)

theorem State.hdmaHostInjected_keeps {z : State} {s : State} {a : Int} (h : Keeps z s) :
    KeepsR (fun e => e) (fun a => a) z (State.hdmaHostInjected s a) := by
  unfold State.hdmaHostInjected
  with_reducible repeat' (first
    | assumption | apply Keeps.refl | apply State.hdmaStop_keeps | apply State.raise_keeps | apply State.wr_keeps
    | (apply KeepsR.bind; apply State.hdmaInjected_keeps) | apply KeepsR.okId | apply KeepsR.errId | apply KeepsR.ite | intro _)

theorem State.hdmaRead_keeps {z : State} {s : State} {c : Nat} {space : Nat} {a : Int} {len : Nat} (h : Keeps z s) :
    KeepsR (fun e => e) (fun a => a.1) z (State.hdmaRead s c space a len) := by
  unfold State.hdmaRead
  with_reducible repeat' (first
    | assumption | apply Keeps.refl | apply State.hdmaStop_keeps | apply State.portRead_keeps | apply State.lsramRead_keeps
    | apply State.wayRead_keeps | (apply KeepsR.bind; apply State.hdmaInjected_keeps) | apply Keeps.fst | (apply Keeps.of_pair; assumption)
    | apply KeepsR.okPair | apply KeepsR.errId | apply KeepsR.ite | dsimp only | intro _ | split)

theorem State.hdmaWrite_keeps {z : State} {s : State} {c : Nat} {space : Nat} {a : Int} {data : List Byte} (h : Keeps z s) :
    KeepsR (fun e => e) (fun a => a) z (State.hdmaWrite s c space a data) := by
  unfold State.hdmaWrite
  with_reducible repeat' (first
    | assumption | apply Keeps.refl | apply State.send_keeps | apply State.hdmaStop_keeps | apply State.portWrite_keeps | apply State.lsramWrite_keeps
    | apply State.wayWrite_keeps | (apply KeepsR.bind; apply State.hdmaInjected_keeps) | apply Keeps.fst | (apply Keeps.of_pair; assumption)
    | apply KeepsR.okId | apply KeepsR.errId | apply KeepsR.ite | dsimp only | intro _ | split)

theorem State.hdmaGather_keeps {z : State} {s : State} {c : Nat} {d : TdmaSide} {host : List Byte} {x : Nat} {len : Nat} (h : Keeps z s) :
    KeepsR (fun e => e) (fun a => a.1) z (State.hdmaGather s c d host x len) := by
  unfold State.hdmaGather
  with_reducible repeat' (first
    | assumption | apply Keeps.refl | apply State.partRead_keeps | apply State.hdmaStop_keeps | apply State.setVctx_keeps
    | (apply KeepsR.bind; apply State.hdmaHostInjected_keeps) | (apply KeepsR.bind; apply State.hdmaInjected_keeps)
    | (apply KeepsR.bind; apply State.hdmaRead_keeps) | apply KeepsR.bind (h := (fun a => a.1 : State × _ → State))
    | (apply Keeps.of_pair; assumption) | apply KeepsR.okPair | apply KeepsR.errId | apply KeepsR.ite | apply KeepsR.foldlM | dsimp only | intro _
    | split)

theorem State.hdmaScatter_keeps {z : State} {s : State} {c : Nat} {d : TdmaSide} {x : Nat} {data : List Byte} (h : Keeps z s) :
    KeepsR (fun e => e) (fun a => a) z (State.hdmaScatter s c d x data) := by
  unfold State.hdmaScatter
  with_reducible repeat' (first
    | assumption | apply Keeps.refl | apply State.partWrite_keeps | apply State.hdmaStop_keeps | apply State.setVctx_keeps
    | (apply KeepsR.bind; apply State.hdmaInjected_keeps) | (apply KeepsR.bind; apply State.hdmaWrite_keeps)
    | apply KeepsR.bind (h := (fun a => a.1 : State × _ → State)) | (apply Keeps.of_pair; assumption) | apply KeepsR.okPair | apply KeepsR.okId
    | apply KeepsR.errId | apply KeepsR.ite | apply KeepsR.foldlM | dsimp only | intro _ | split)

theorem State.hdmaMove_keeps {z : State} {s : State} {c : Nat} {w : List Nat} {host : List Byte} (h : Keeps z s) :
    KeepsR (fun e => e) (fun a => a.1) z (State.hdmaMove s c w host) := by
  unfold State.hdmaMove
  with_reducible repeat' (first
    | assumption | apply Keeps.refl | (apply KeepsR.bind; apply State.hdmaGather_keeps) | (apply KeepsR.bind; apply State.hdmaScatter_keeps)
    | (apply KeepsR.bind; apply State.hdmaWrite_keeps) | apply KeepsR.bind (h := (fun a => a.1 : State × _ → State))
    | apply KeepsR.bind (h := (fun a => a : State → State)) | apply KeepsR.okPair | apply KeepsR.okId | apply KeepsR.ite | apply KeepsR.foldlM
    | dsimp only | intro _)

theorem State.hdmaFetch_keeps {z : State} {s : State} {c : Nat} (h : Keeps z s) :
    Keeps z (State.hdmaFetch s c) := by
  unfold State.hdmaFetch
  with_reducible repeat' (first | assumption | apply State.setHState_keeps | apply State.setHch_keeps)

theorem State.hdmaStatus_keeps {z : State} {s : State} {c : Nat} {w : List Nat} {code : Nat} {lines : Nat} (h : Keeps z s) :
    KeepsR (fun e => e) (fun a => a) z (State.hdmaStatus s c w code lines) := by
  unfold State.hdmaStatus
  with_reducible repeat' (first
    | assumption | apply Keeps.refl | apply State.wr_keeps | apply State.sendVec_keeps | (apply KeepsR.bind; apply State.hdmaWrite_keeps)
    | apply Keeps.ite | apply KeepsR.okId | dsimp only | intro _)

theorem State.hdmaNext_keeps {z : State} {s : State} {c : Nat} {refused : Bool} (h : Keeps z s) :
    Keeps z (State.hdmaNext s c refused) := by
  unfold State.hdmaNext
  with_reducible repeat' (first
    | assumption | apply State.wr_keeps | apply State.hdmaBoundary_keeps | apply State.setHState_keeps | apply State.hdmaFetch_keeps | apply Keeps.ite)

theorem State.hostFence_keeps {z : State} {s : State} {c : Nat} (h : Keeps z s) :
    Keeps z (State.hostFence s c) := by
  unfold State.hostFence
  with_reducible repeat' (first
    | assumption | apply State.wr_keeps | apply State.setHState_keeps | apply State.hdmaBoundary_keeps | apply Keeps.ite)

theorem State.hostDisable_keeps {z : State} {s : State} {c : Nat} (h : Keeps z s) :
    Keeps z (State.hostDisable s c) := by
  unfold State.hostDisable
  with_reducible repeat' (first
    | assumption | apply State.undefHost_keeps | apply State.dropHch_keeps | apply State.wr_keeps | apply State.drew_keeps | apply Keeps.ite)

/-! Hdma.lean -/

theorem State.hdmaRestarted_keeps {z : State} {s : State} (h : Keeps z s) :
    Keeps z (State.hdmaRestarted s) := by
  unfold State.hdmaRestarted
  with_reducible repeat' (first
    | assumption | apply Keeps.refl | apply State.setHState_keeps | apply State.hdmaFetch_keeps | apply State.wr_keeps | apply Keeps.foldl
    | apply Keeps.ite | dsimp only | intro _ | refine Keeps.rec' rfl rfl rfl rfl rfl ?_)

/-! Video.lean -/

theorem State.vidAssign_keeps {z : State} {s : State} {e : Nat} {part : Nat} {assigned : Bool} (h : Keeps z s) :
    Keeps z (State.vidAssign s e part assigned) := by
  unfold State.vidAssign
  with_reducible repeat' (first
    | assumption | apply State.raise_keeps | apply State.wr_keeps | apply Keeps.ite | dsimp only | split | refine Keeps.rec' rfl rfl rfl rfl rfl ?_)

theorem State.decodeRow_keeps {z : State} {s : State} {e : Nat} {k : Nat} {r : DecRow} (h : Keeps z s) :
    KeepsR (fun e => e) (fun a => a) z (State.decodeRow s e k r) := by
  unfold State.decodeRow
  with_reducible repeat' (first
    | assumption | apply Keeps.refl | apply State.setVctx_keeps | apply State.vidHalt_keeps | apply State.wr_keeps | apply State.raise_keeps
    | apply State.vidFinish_keeps | apply State.vidInject_keeps | (apply KeepsR.bind; apply State.vidSram_keeps)
    | (apply KeepsR.bind; apply State.queueRead_keeps) | (apply KeepsR.bind; apply State.vidStart_keeps)
    | apply KeepsR.bind (h := (fun a => a : State → State)) | apply Keeps.ite | apply KeepsR.okId | apply KeepsR.errId | apply KeepsR.ite | dsimp only
    | intro _ | split)

theorem State.encFrameStart_keeps {z : State} {s : State} {e : Nat} {k : Nat} {src : VidSrc} (h : Keeps z s) :
    KeepsR (fun e => e) (fun a => a) z (State.encFrameStart s e k src) := by
  unfold State.encFrameStart
  with_reducible repeat' (first
    | assumption | apply State.vidHalt_keeps | apply State.setVctx_keeps | apply KeepsR.okId | apply KeepsR.errId | dsimp only | split)

theorem State.encFrameEnd_keeps {z : State} {s : State} {e : Nat} {k : Nat} (h : Keeps z s) :
    Keeps z (State.encFrameEnd s e k) := by
  unfold State.encFrameEnd
  with_reducible repeat' (first | assumption | apply State.undefArea_keeps | apply State.wr_keeps | apply State.setVctx_keeps)

theorem State.encSource_keeps {z : State} {s : State} {e : Nat} {k : Nat} {slot : Nat} {r : Nat} (h : Keeps z s) :
    KeepsR (fun e => e) (fun a => a) z (State.encSource s e k slot r) := by
  unfold State.encSource
  with_reducible repeat' (first
    | assumption | apply Keeps.refl | (apply KeepsR.bind; apply State.vidRead_keeps) | apply KeepsR.okId | dsimp only | intro _)

theorem State.encodeRow_keeps {z : State} {s : State} {e : Nat} {k : Nat} {payload : List Byte} {params : List Byte} (h : Keeps z s) :
    KeepsR (fun e => e) (fun a => a) z (State.encodeRow s e k payload params) := by
  unfold State.encodeRow
  with_reducible repeat' (first
    | assumption | apply Keeps.refl | apply State.setVctx_keeps | apply State.vidInject_keeps | apply State.drew_keeps | apply State.bump_keeps
    | apply State.encFrameEnd_keeps | (apply KeepsR.bind; apply State.vidSram_keeps) | (apply KeepsR.bind; apply State.encSource_keeps)
    | (apply KeepsR.bind; apply State.queueWrite_keeps) | (apply KeepsR.bind; apply State.encFrameStart_keeps)
    | apply KeepsR.bind (h := (fun a => a : State → State)) | apply Keeps.ite | apply KeepsR.okId | apply KeepsR.ite | apply KeepsR.foldlM
    | dsimp only | intro _ | split)

theorem State.reportFrame_keeps {z : State} {s : State} {e : Nat} {k : Nat} {slot : Nat} {q : VidPic} (h : Keeps z s) :
    KeepsR (fun e => e) (fun a => a) z (State.reportFrame s e k slot q) := by
  unfold State.reportFrame
  with_reducible repeat' (first
    | assumption | apply Keeps.refl | apply State.wr_keeps | apply State.setVctx_keeps | apply State.bump_keeps
    | (apply KeepsR.bind; apply State.vidSram_keeps) | (apply KeepsR.bind; apply State.vidWrite_keeps)
    | apply KeepsR.bind (h := (fun a => a.1 : State × _ → State)) | apply Keeps.ite | apply KeepsR.okPair | apply KeepsR.okId | apply KeepsR.foldlM
    | dsimp only | intro _)

theorem State.vidResumed_keeps {z : State} {s : State} {e : Nat} {k : Nat} (h : Keeps z s) :
    Keeps z (State.vidResumed s e k) := by
  unfold State.vidResumed
  with_reducible repeat' (first | assumption | apply State.wr_keeps | apply State.setVctx_keeps)

theorem State.vidSource_keeps {z : State} {s : State} {e : Nat} {k : Nat} {slot : Nat} {rows16 : Nat} {last : Bool} {force : Bool} (h : Keeps z s) :
    Keeps z (State.vidSource s e k slot rows16 last force) := by
  unfold State.vidSource
  with_reducible repeat' (first | assumption | apply State.raise_keeps | apply State.setVctx_keeps | apply Keeps.ite | split)

/-! HostOps.lean -/

theorem State.mbxChange_keeps {z : State} {s : State} {t : Nat} {f : State → State} (h : Keeps z s) (hf : ∀ {z x : State}, Keeps z x → Keeps z (f x)) :
    Keeps z (State.mbxChange s t f) := by
  unfold State.mbxChange
  with_reducible repeat' (first | assumption | apply State.sendVec_keeps | apply hf | apply Keeps.ite)

theorem State.mbxReset_keeps {z : State} {s : State} {t : Nat} (h : Keeps z s) :
    Keeps z (State.mbxReset s t) := by
  unfold State.mbxReset
  with_reducible repeat' (first | assumption | apply State.raiseIf_keeps | apply State.wr_keeps)

theorem State.irqTick_keeps {z : State} {s : State} (h : Keeps z s) :
    Keeps z (State.irqTick s) := by
  unfold State.irqTick
  with_reducible repeat' (first | assumption | apply Keeps.refl | apply State.wr_keeps | apply Keeps.foldl | intro _)

theorem State.irqWrite_keeps {z : State} {s : State} {f : State → State} (h : Keeps z s) (hf : ∀ {z x : State}, Keeps z x → Keeps z (f x)) :
    Keeps z (State.irqWrite s f) := by
  unfold State.irqWrite
  with_reducible repeat' (first | assumption | apply hf | dsimp only | refine Keeps.rec' rfl rfl rfl rfl rfl ?_)

theorem State.ringsOn_keeps {z : State} {s : State} {v : Nat} (h : Keeps z s) :
    Keeps z (State.ringsOn s v) := by
  unfold State.ringsOn
  with_reducible repeat' (first | assumption | apply Keeps.refl | apply State.wr_keeps | apply Keeps.foldl | intro _)

theorem State.msixReset_keeps {z : State} {s : State} {fn : Nat} (h : Keeps z s) :
    Keeps z (State.msixReset s fn) := by
  unfold State.msixReset
  with_reducible repeat' (first | assumption | dsimp only | refine Keeps.rec' rfl rfl rfl rfl rfl ?_)

theorem State.flrChannel_keeps {z : State} {s : State} {c : Nat} (h : Keeps z s) :
    Keeps z (State.flrChannel s c) := by
  unfold State.flrChannel
  with_reducible repeat' (first | assumption | apply State.hostFence_keeps | apply State.hostDisable_keeps | apply Keeps.ite)

theorem State.flr_keeps {z : State} {s : State} {v : Nat} (h : Keeps z s) :
    Keeps z (State.flr s v) := by
  unfold State.flr
  with_reducible repeat' (first
    | assumption | apply Keeps.refl | apply State.flrChannel_keeps | apply State.wr_keeps | apply State.mbxReset_keeps | apply State.msixReset_keeps
    | apply State.clearRegs_keeps | apply Keeps.foldl | intro _)

/-! SecOps.lean -/

theorem State.otpProgram_keeps {z s : State} {off : Nat} {data : List Byte} (h : Keeps z s) : Keeps z (State.otpProgram s off data) := by
  refine h.trans ⟨rfl, rfl, fun k i hb => ?_, id, List.prefix_refl _⟩
  show (Cells.get 0 (Cells.setList 0 s.boot.otp off _) k).testBit i = true
  by_cases hk : off ≤ k ∧ k < off + data.length
  · have e : k = off + (k - off) := by omega
    have hl : k - off < ((List.range data.length).map (fun i => Cells.get 0 s.boot.otp (off + i) ||| (data.getD i 0).toNat)).length := by
      simp; omega
    rw [e, Cells.get_setList_in _ _ _ _ _ hl, List.getElem_map, List.getElem_range, ← e, Nat.testBit_or, hb, Bool.true_or]
  · rw [Cells.get_setList_out _ _ _ _ _ _ (by simp; omega)]; exact hb

theorem State.setArea_keeps {z : State} {s : State} {bank : Nat} {id : Nat} {a : FwArea} (h : Keeps z s) :
    Keeps z (State.setArea s bank id a) := by
  unfold State.setArea
  with_reducible repeat' (first | assumption | dsimp only | refine Keeps.rec' rfl rfl rfl rfl rfl ?_)

theorem State.setFram_keeps {z : State} {s : State} {f : FramSet} (h : Keeps z s) :
    Keeps z (State.setFram s f) := by
  unfold State.setFram
  with_reducible repeat' (first | assumption | dsimp only | split | refine Keeps.rec' rfl rfl rfl rfl rfl ?_)

theorem State.doePut_keeps {z : State} {s : State} {fn : Nat} {b : List Byte} (h : Keeps z s) :
    Keeps z (State.doePut s fn b) := by
  unfold State.doePut
  with_reducible repeat' (first | assumption | dsimp only | refine Keeps.rec' rfl rfl rfl rfl rfl ?_)

/-! PartOps.lean -/

theorem State.showRetired_keeps {z : State} {s : State} {n : Nat} (h : Keeps z s) :
    Keeps z (State.showRetired s n) := by
  unfold State.showRetired
  with_reducible repeat' (first | assumption | apply State.wr_keeps)

theorem State.otpLatheNext_keeps {z : State} {s : State} {n : Nat} {ok : Bool} (h : Keeps z s) :
    Keeps z (State.otpLatheNext s n ok) := by
  unfold State.otpLatheNext
  with_reducible repeat' (first
    | assumption | apply State.showRetired_keeps | apply State.otpProgram_keeps | apply State.raise_keeps | apply Keeps.ite | dsimp only | split)

theorem State.latheOffline_keeps {z : State} {s : State} {n : Nat} (h : Keeps z s) :
    Keeps z (State.latheOffline s n) := by
  unfold State.latheOffline
  with_reducible repeat' (first | assumption | apply State.wr_keeps | apply State.latheClear_keeps | apply State.dropPins_keeps)

theorem State.stopForRetired_keeps {z : State} {s : State} {n : Nat} (h : Keeps z s) :
    Keeps z (State.stopForRetired s n) := by
  unfold State.stopForRetired
  with_reducible repeat' (first
    | assumption | apply Keeps.refl | apply State.partitionStop_keeps | apply State.stepAbort_keeps | apply Keeps.foldl | apply Keeps.ite | intro _
    | split)

theorem State.retireLathe_keeps {z : State} {s : State} {n : Nat} {ok : Bool} (h : Keeps z s) :
    Keeps z (State.retireLathe s n ok) := by
  unfold State.retireLathe
  with_reducible repeat' (first
    | assumption | apply State.latheOffline_keeps | apply State.stopForRetired_keeps | apply State.otpLatheNext_keeps | apply Keeps.ite)

theorem State.retireSuspects_keeps {z : State} {s : State} {ns : List Nat} {ok : Bool} (h : Keeps z s) :
    Keeps z (State.retireSuspects s ns ok) := by
  unfold State.retireSuspects
  with_reducible repeat' (first | assumption | apply Keeps.refl | apply State.retireLathe_keeps | apply Keeps.foldl | intro _)

theorem State.partResult_keeps {z : State} {s : State} {p : Nat} {r : Nat} (h : Keeps z s) :
    Keeps z (State.partResult s p r) := by
  unfold State.partResult
  with_reducible repeat' (first | assumption | apply State.setPrt_keeps)

theorem State.buildCmd_keeps {z : State} {s : State} {p : Nat} (h : Keeps z s) :
    Keeps z (State.buildCmd s p) := by
  unfold State.buildCmd
  with_reducible repeat' (first
    | assumption | apply State.partResult_keeps | apply State.wr_keeps | apply State.setPrt_keeps | apply Keeps.ite | dsimp only | split)

theorem State.buildStep_keeps {z : State} {s : State} {p : Nat} {k : Nat} (h : Keeps z s) :
    Keeps z (State.buildStep s p k) := by
  unfold State.buildStep
  with_reducible repeat' (first
    | assumption | apply Keeps.refl | apply State.setPrt_keeps | apply State.wr_keeps | apply State.vidAssign_keeps | apply State.fabCheckApply_keeps
    | apply State.drewMany_keeps | apply State.keyPut_keeps | apply Keeps.foldl | apply Keeps.ite | dsimp only | intro _
    | refine Keeps.rec' rfl rfl rfl rfl rfl ?_)

theorem State.setMarker_keeps {z : State} {s : State} {p : Nat} {v : Option (Nat × Bool)} (h : Keeps z s) :
    Keeps z (State.setMarker s p v) := by
  unfold State.setMarker
  with_reducible repeat' (first | assumption | dsimp only | refine Keeps.rec' rfl rfl rfl rfl rfl ?_)

theorem State.restoreAborted_keeps {z : State} {s : State} {p : Nat} {cause : Nat} (h : Keeps z s) :
    Keeps z (State.restoreAborted s p cause) := by
  unfold State.restoreAborted
  with_reducible repeat' (first | assumption | apply State.raise_keeps | apply State.setPrt_keeps | apply State.setMarker_keeps)

theorem State.tdStart_keeps {z : State} {s : State} {p : Nat} {zero : Bool} (h : Keeps z s) :
    Keeps z (State.tdStart s p zero) := by
  unfold State.tdStart
  with_reducible repeat' (first
    | assumption | apply State.restoreAborted_keeps | apply State.wr_keeps | apply State.setPrt_keeps | apply Keeps.ite)

theorem State.tdCmd_keeps {z : State} {s : State} {p : Nat} {zero : Bool} (h : Keeps z s) :
    Keeps z (State.tdCmd s p zero) := by
  unfold State.tdCmd
  with_reducible repeat' (first
    | assumption | apply State.partResult_keeps | apply State.setPrt_keeps | apply State.tdStart_keeps | apply Keeps.ite)

theorem State.tdMark_keeps {z : State} {s : State} {p : Nat} {k : Nat} (h : Keeps z s) :
    Keeps z (State.tdMark s p k) := by
  unfold State.tdMark
  with_reducible repeat' (first | assumption | apply State.wr_keeps | apply State.setPrt_keeps)

theorem State.tdHalt_keeps {z : State} {s : State} {p : Nat} (h : Keeps z s) :
    Keeps z (State.tdHalt s p) := by
  unfold State.tdHalt
  with_reducible repeat' (first
    | assumption | apply Keeps.refl | apply State.stepAbort_keeps | apply State.setLoop_keeps | apply State.breachPart_keeps
    | apply State.showPlt_keeps | apply State.closeSilent_keeps | apply Keeps.foldl | dsimp only | intro _ | refine Keeps.rec' rfl rfl rfl rfl rfl ?_)

theorem State.tdFence_keeps {z : State} {s : State} {p : Nat} (h : Keeps z s) :
    Keeps z (State.tdFence s p) := by
  unfold State.tdFence
  with_reducible repeat' (first
    | assumption | apply Keeps.refl | apply State.tensorFence_keeps | apply State.hostFence_keeps | apply State.vidDisable_keeps
    | apply State.wr_keeps | apply State.setCk_keeps | apply Keeps.foldl | dsimp only | intro _ | split | refine Keeps.rec' rfl rfl rfl rfl rfl ?_)

theorem State.tdDrop_keeps {z : State} {s : State} {p : Nat} (h : Keeps z s) :
    Keeps z (State.tdDrop s p) := by
  unfold State.tdDrop
  with_reducible repeat' (first
    | assumption | apply Keeps.refl | apply State.tensorDisable_keeps | apply State.hostDisable_keeps | apply State.setPrt_keeps | apply Keeps.foldl
    | intro _)

theorem State.tdEpoch_keeps {z : State} {s : State} {p : Nat} (h : Keeps z s) :
    Keeps z (State.tdEpoch s p) := by
  unfold State.tdEpoch
  with_reducible repeat' (first | assumption | apply State.wrEff_keeps | apply State.wr_keeps)

theorem State.tdKeys_keeps {z : State} {s : State} {p : Nat} (h : Keeps z s) :
    Keeps z (State.tdKeys s p) := by
  unfold State.tdKeys
  with_reducible repeat' (first
    | assumption | apply Keeps.refl | apply State.destroySlot_keeps | apply State.wr_keeps | apply State.wrEff_keeps | apply State.setPrt_keeps
    | apply State.setLoop_keeps | apply Keeps.foldl | dsimp only | intro _ | split | refine Keeps.rec' rfl rfl rfl rfl rfl ?_)

theorem State.tdScrub_keeps {z : State} {s : State} {p : Nat} {otpOk : Bool} (h : Keeps z s) :
    Keeps z (State.tdScrub s p otpOk) := by
  unfold State.tdScrub
  with_reducible repeat' (first
    | assumption | apply Keeps.refl | apply State.zeroWay_keeps | apply State.latheClear_keeps | apply State.dropPins_keeps
    | apply State.vidAssign_keeps | apply State.wr_keeps | apply State.retireSuspects_keeps | apply State.showWalks_keeps | apply Keeps.foldl
    | dsimp only | intro _ | refine Keeps.rec' rfl rfl rfl rfl rfl ?_)

theorem State.tdFree_keeps {z : State} {s : State} {p : Nat} (h : Keeps z s) :
    Keeps z (State.tdFree s p) := by
  unfold State.tdFree
  with_reducible repeat' (first | assumption | apply State.setPrt_keeps | apply State.wr_keeps)

theorem State.tdRun_keeps {z : State} {s : State} {p : Nat} {k : Nat} {otpOk : Bool} (h : Keeps z s) :
    Keeps z (State.tdRun s p k otpOk) := by
  unfold State.tdRun
  with_reducible repeat' (first
    | assumption | apply State.tdMark_keeps | apply State.wr_keeps | apply State.tdHalt_keeps | apply State.tdFence_keeps | apply State.tdEpoch_keeps
    | apply State.tdKeys_keeps | apply State.tdScrub_keeps | apply State.tdFree_keeps | apply Keeps.ite)

/-! LifeOps.lean -/

theorem State.lastingEnd_keeps {z : State} {s : State} (h : Keeps z s) :
    Keeps z (State.lastingEnd s) := by
  unfold State.lastingEnd
  with_reducible repeat' (first | assumption | dsimp only | refine Keeps.rec' rfl rfl rfl rfl rfl ?_)

theorem State.rotateBuckets_keeps {z : State} {s : State} (h : Keeps z s) :
    Keeps z (State.rotateBuckets s) := by
  unfold State.rotateBuckets
  with_reducible repeat' (first
    | assumption | apply State.lastingEnd_keeps | dsimp only | refine Keeps.rec' rfl rfl rfl rfl rfl ?_)

theorem State.ageBuckets_keeps {z s : State} {k : Nat} (h : Keeps z s) : Keeps z (State.ageBuckets s k) := by
  induction k generalizing s with
  | zero => exact h
  | succ k ih => exact ih (State.rotateBuckets_keeps h)

theorem State.lifeWrite_keeps {z : State} {s : State} {i : Nat} {fmt : Nat} (h : Keeps z s) :
    Keeps z (State.lifeWrite s i fmt) := by
  unfold State.lifeWrite
  with_reducible repeat' (first | assumption | dsimp only | split | refine Keeps.rec' rfl rfl rfl rfl rfl ?_)

theorem State.lifeCommit_keeps {z : State} {s : State} (h : Keeps z s) :
    Keeps z (State.lifeCommit s) := by
  unfold State.lifeCommit
  with_reducible repeat' (first
    | assumption | apply State.lifeWrite_keeps | apply Keeps.ite | dsimp only | refine Keeps.rec' rfl rfl rfl rfl rfl ?_)

theorem State.lifeLoad_keeps {z : State} {s : State} {h : LifeHalf} {aged : Bool} (hz : Keeps z s) :
    Keeps z (State.lifeLoad s h aged) := by
  unfold State.lifeLoad
  with_reducible repeat' (first
    | assumption | apply State.lastingEnd_keeps | apply State.ageBuckets_keeps | dsimp only | refine Keeps.rec' rfl rfl rfl rfl rfl ?_)

theorem State.lifeOpen_keeps {z : State} {s : State} (h : Keeps z s) :
    Keeps z (State.lifeOpen s) := by
  unfold State.lifeOpen
  with_reducible repeat' (first
    | assumption | apply State.lifeLoad_keeps | apply State.lifeWrite_keeps | apply Keeps.ite | dsimp only | split)

theorem State.restoreArm_keeps {z : State} {s : State} {p : Nat} (h : Keeps z s) :
    KeepsP z (State.restoreArm s p) := by
  unfold State.restoreArm
  with_reducible repeat' (first
    | assumption | apply State.setPrt_keeps | apply State.setMarker_keeps | apply KeepsP.ite | apply KeepsP.pair)

theorem State.restoreStart_keeps {z : State} {s : State} {p : Nat} (h : Keeps z s) :
    KeepsP z (State.restoreStart s p) := by
  unfold State.restoreStart
  with_reducible repeat' (first
    | assumption | apply State.ckStart_keeps | apply State.wr_keeps | apply State.setPrt_keeps | apply KeepsP.ite | dsimp only | apply KeepsP.pair)

theorem State.restoreCommit_keeps {z : State} {s : State} {p : Nat} (h : Keeps z s) :
    KeepsP z (State.restoreCommit s p) := by
  unfold State.restoreCommit
  with_reducible repeat' (first
    | assumption | apply State.setPrt_keeps | apply State.setMarker_keeps | apply KeepsP.ite | apply KeepsP.pair)

theorem State.restoreStop_keeps {z : State} {s : State} {p : Nat} {cause : Nat} (h : Keeps z s) :
    KeepsP z (State.restoreStop s p cause) := by
  unfold State.restoreStop
  with_reducible repeat' (first
    | assumption | apply State.restoreAborted_keeps | apply State.setPrt_keeps | apply State.tdStart_keeps | apply KeepsP.ite | dsimp only | split
    | apply KeepsP.pair)

/-! Reliability.lean -/

theorem State.errCommit_keeps {z : State} {s : State} (h : Keeps z s) :
    Keeps z (State.errCommit s) := by
  unfold State.errCommit
  with_reducible repeat' (first
    | assumption | apply State.wr_keeps | apply State.raise_keeps | apply State.applyShadows_keeps | apply State.lastingEnd_keeps | apply Keeps.ite
    | dsimp only | split | refine Keeps.rec' rfl rfl rfl rfl rfl ?_)

theorem State.katStart_keeps {z : State} {s : State} {n : Nat} (h : Keeps z s) :
    Keeps z (State.katStart s n) := by
  unfold State.katStart
  with_reducible repeat' (first | assumption | apply Keeps.ite | dsimp only | refine Keeps.rec' rfl rfl rfl rfl rfl ?_)

theorem State.katNext_keeps {z : State} {s : State} {n : Nat} {t : Nat} {pass : Bool} (h : Keeps z s) :
    Keeps z (State.katNext s n t pass) := by
  unfold State.katNext
  with_reducible repeat' (first | assumption | apply Keeps.ite | dsimp only | split | refine Keeps.rec' rfl rfl rfl rfl rfl ?_)

theorem State.maintenance_keeps {z : State} {s : State} {otpOk : Bool} (h : Keeps z s) :
    Keeps z (State.maintenance s otpOk) := by
  unfold State.maintenance
  with_reducible repeat' (first | assumption | apply State.retireSuspects_keeps)

theorem State.liftTests_keeps {z : State} {s : State} {n : Nat} {bad : Nat} (h : Keeps z s) :
    KeepsP z (State.liftTests s n bad) := by
  unfold State.liftTests
  with_reducible repeat' (first
    | assumption | apply Keeps.refl | apply State.wr_keeps | apply State.katCell_keeps | apply State.katCount_keeps | apply Keeps.fst
    | apply KeepsP.foldl | dsimp only | intro _ | split | apply KeepsP.pair)

theorem State.lift_keeps {z : State} {s : State} {n : Nat} {bad : Nat} {otpOk : Bool} (h : Keeps z s) :
    Keeps z (State.lift s n bad otpOk) := by
  unfold State.lift
  with_reducible repeat' (first
    | assumption | apply State.latheClear_keeps | apply State.dropPins_keeps | apply State.liftTests_keeps | apply State.raise_keeps
    | apply State.otpLatheNext_keeps | apply State.wr_keeps | apply Keeps.fst | apply Keeps.ite | dsimp only
    | refine Keeps.rec' rfl rfl rfl rfl rfl ?_)

/-! ThermOps.lean -/

theorem State.levelLathe_keeps {z : State} {s : State} {n : Nat} (h : Keeps z s) :
    Keeps z (State.levelLathe s n) := by
  unfold State.levelLathe
  with_reducible repeat' (first
    | assumption | apply State.reclock_keeps | apply State.wr_keeps | apply State.raiseIf_keeps | apply Keeps.ite | dsimp only
    | refine Keeps.rec' rfl rfl rfl rfl rfl ?_)

theorem State.levels_keeps {z : State} {s : State} (h : Keeps z s) :
    Keeps z (State.levels s) := by
  unfold State.levels
  with_reducible repeat' (first
    | assumption | apply Keeps.refl | apply State.wr_keeps | apply State.raiseIf_keeps | apply State.levelLathe_keeps | apply Keeps.foldl
    | apply Keeps.ite | intro _)

theorem State.showLathe_keeps {z : State} {s : State} {n : Nat} (h : Keeps z s) :
    Keeps z (State.showLathe s n) := by
  unfold State.showLathe
  with_reducible repeat' (first
    | assumption | apply State.wr_keeps | apply State.katStart_keeps | apply Keeps.ite | dsimp only | refine Keeps.rec' rfl rfl rfl rfl rfl ?_)

theorem State.showTemps_keeps {z : State} {s : State} (h : Keeps z s) :
    Keeps z (State.showTemps s) := by
  unfold State.showTemps
  with_reducible repeat' (first
    | assumption | apply Keeps.refl | apply State.wr_keeps | apply State.showLathe_keeps | apply Keeps.foldl | intro _)

theorem State.sensorBad_keeps {z : State} {s : State} {i : Nat} (h : Keeps z s) :
    Keeps z (State.sensorBad s i) := by
  unfold State.sensorBad
  with_reducible repeat' (first | assumption | apply State.wr_keeps | dsimp only | refine Keeps.rec' rfl rfl rfl rfl rfl ?_)

theorem State.trip_keeps {z : State} {s : State} (h : Keeps z s) :
    Keeps z (State.trip s) := by
  unfold State.trip
  with_reducible repeat' (first
    | assumption | apply State.raiseIf_keeps | apply State.wr_keeps | apply State.raise_keeps | apply State.computeOff_keeps | dsimp only
    | refine Keeps.rec' rfl rfl rfl rfl rfl ?_)

theorem State.sample_keeps {z : State} {s : State} {i : Nat} {raw : Nat} (h : Keeps z s) :
    Keeps z (State.sample s i raw) := by
  unfold State.sample
  with_reducible repeat' (first
    | assumption | apply State.sensorBad_keeps | apply State.wr_keeps | apply State.trip_keeps | apply Keeps.ite | dsimp only | split
    | refine Keeps.rec' rfl rfl rfl rfl rfl ?_)

theorem State.samples_keeps {z : State} {s : State} {l : List (Fin 64 × BitVec 12)} (h : Keeps z s) :
    Keeps z (State.samples s l) := by
  unfold State.samples
  with_reducible repeat' (first
    | assumption | apply Keeps.refl | apply State.showTemps_keeps | apply State.sample_keeps | apply Keeps.foldl | intro _)

theorem State.warmCheck_keeps {z : State} {s : State} (h : Keeps z s) :
    Keeps z (State.warmCheck s) := by
  unfold State.warmCheck
  with_reducible repeat' (first | assumption | apply State.wr_keeps | apply Keeps.ite)

theorem State.saveTandem_keeps {z : State} {s : State} (h : Keeps z s) :
    Keeps z (State.saveTandem s) := by
  unfold State.saveTandem
  with_reducible repeat' (first | assumption | dsimp only | split | refine Keeps.rec' rfl rfl rfl rfl rfl ?_)

theorem State.ownedBy_keeps {z : State} {s : State} {u : Nat} (h : Keeps z s) :
    Keeps z (State.ownedBy s u) := by
  unfold State.ownedBy
  with_reducible repeat' (first | assumption | apply State.wr_keeps)

theorem State.outputs_keeps {z : State} {s : State} (h : Keeps z s) :
    Keeps z (State.outputs s) := by
  unfold State.outputs
  with_reducible repeat' (first | assumption | apply State.warmCheck_keeps | apply State.levels_keeps)

theorem State.becomeOwner_keeps {z : State} {s : State} {u : Nat} (h : Keeps z s) :
    Keeps z (State.becomeOwner s u) := by
  unfold State.becomeOwner
  with_reducible repeat' (first | assumption | apply State.outputs_keeps | apply State.ownedBy_keeps)

theorem State.supFailed_keeps {z : State} {s : State} {u : Nat} (h : Keeps z s) :
    Keeps z (State.supFailed s u) := by
  unfold State.supFailed
  with_reducible repeat' (first
    | assumption | apply State.wr_keeps | apply State.mbxReset_keeps | apply Keeps.ite | dsimp only | refine Keeps.rec' rfl rfl rfl rfl rfl ?_)

theorem State.supReleased_keeps {z : State} {s : State} {u : Nat} (h : Keeps z s) :
    Keeps z (State.supReleased s u) := by
  unfold State.supReleased
  with_reducible repeat' (first | assumption | dsimp only | refine Keeps.rec' rfl rfl rfl rfl rfl ?_)

theorem State.loadTandem_keeps {z : State} {s : State} (h : Keeps z s) :
    Keeps z (State.loadTandem s) := by
  unfold State.loadTandem
  with_reducible repeat' (first
    | assumption | apply Keeps.refl | apply State.wr_keeps | apply Keeps.foldl | dsimp only | intro _ | split
    | refine Keeps.rec' rfl rfl rfl rfl rfl ?_)

/-! SettingsOps.lean -/

theorem State.persistPut_keeps {z : State} {s : State} {e : PEnt} {v : Nat} (h : Keeps z s) :
    Keeps z (State.persistPut s e v) := by
  unfold State.persistPut
  with_reducible repeat' (first
    | assumption | apply State.wr_keeps | apply State.setFram_keeps | dsimp only | split | refine Keeps.rec' rfl rfl rfl rfl rfl ?_)

theorem State.thmCommit_keeps {z : State} {s : State} (h : Keeps z s) :
    Keeps z (State.thmCommit s) := by
  unfold State.thmCommit
  with_reducible repeat' (first
    | assumption | apply State.wr_keeps | apply State.raise_keeps | apply State.showTemps_keeps | apply State.applyShadows_keeps | split)

theorem State.persistCommit_keeps {z : State} {s : State} {idx : Nat} (h : Keeps z s) :
    KeepsP z (State.persistCommit s idx) := by
  unfold State.persistCommit
  with_reducible repeat' (first
    | assumption | apply State.lthCommit_keeps | apply State.memCommit_keeps | apply State.thmCommit_keeps | apply State.errCommit_keeps
    | apply KeepsP.ite | dsimp only | apply KeepsP.pair)

theorem State.settingsItem_keeps {z : State} {s : State} {idx : Nat} {sub : Nat} {len : Nat} {v : Nat} (h : Keeps z s) :
    KeepsP z (State.settingsItem s idx sub len v) := by
  unfold State.settingsItem
  with_reducible repeat' (first | assumption | apply State.persistPut_keeps | apply KeepsP.ite | split | apply KeepsP.pair)

theorem State.settingsApply_keeps {z : State} {s : State} (h : Keeps z s) :
    Keeps z (State.settingsApply s) := by
  unfold State.settingsApply
  with_reducible repeat' (first
    | assumption | apply Keeps.refl | apply State.settingsItem_keeps | apply State.persistCommit_keeps | apply Keeps.fst | apply Keeps.foldl
    | apply Keeps.ite | apply KeepsP.foldl | apply KeepsP.ite | dsimp only | intro _ | split | apply KeepsP.pair
    | refine Keeps.rec' rfl rfl rfl rfl rfl ?_)

theorem State.settingsWrite_keeps {z : State} {s : State} {readOk : Bool} (h : Keeps z s) :
    KeepsP z (State.settingsWrite s readOk) := by
  unfold State.settingsWrite
  with_reducible repeat' (first
    | assumption | apply State.otpProgram_keeps | apply KeepsP.ite | dsimp only | split | apply KeepsP.pair | refine Keeps.rec' rfl rfl rfl rfl rfl ?_)

/-! BootOps.lean -/

theorem State.writeRec_keeps {z : State} {s : State} {target : Nat} {st0 : Nat} {st1 : Nat} (h : Keeps z s) :
    Keeps z (State.writeRec s target st0 st1) := by
  unfold State.writeRec
  with_reducible repeat' (first | assumption | dsimp only | split | refine Keeps.rec' rfl rfl rfl rfl rfl ?_)

theorem State.setBank_keeps {z : State} {s : State} {b : Nat} {v : Nat} {target : Nat} (h : Keeps z s) :
    Keeps z (State.setBank s b v target) := by
  unfold State.setBank
  with_reducible repeat' (first | assumption | apply State.writeRec_keeps | apply Keeps.ite)

theorem State.runs_keeps {z : State} {s : State} {c : Nat} {id : Nat} {b : Nat} (h : Keeps z s) :
    Keeps z (State.runs s c id b) := by
  unfold State.runs
  with_reducible repeat' (first | assumption | dsimp only | refine Keeps.rec' rfl rfl rfl rfl rfl ?_)

theorem State.countFallback_keeps {z : State} {s : State} (h : Keeps z s) :
    Keeps z (State.countFallback s) := by
  unfold State.countFallback
  with_reducible repeat' (first | assumption | apply State.bump_keeps | dsimp only | refine Keeps.rec' rfl rfl rfl rfl rfl ?_)

theorem State.chooseBank_keeps {z : State} {s : State} {cause : Nat} (h : Keeps z s) :
    KeepsP z (State.chooseBank s cause) := by
  unfold State.chooseBank
  with_reducible repeat' (first
    | assumption | apply State.countFallback_keeps | apply State.setBank_keeps | apply KeepsP.ite | split | apply KeepsP.pair)

theorem State.handover_keeps {z : State} {s : State} {readings : List (Fin 64 × BitVec 12)} (h : Keeps z s) :
    Keeps z (State.handover s readings) := by
  unfold State.handover
  with_reducible repeat' (first
    | assumption | apply State.becomeOwner_keeps | apply State.samples_keeps | apply State.loadTandem_keeps | apply State.wr_keeps
    | apply State.saveTandem_keeps | apply Keeps.ite)

theorem State.supervisorsRun_keeps {z : State} {s : State} {b : Nat} (h : Keeps z s) :
    Keeps z (State.supervisorsRun s b) := by
  unfold State.supervisorsRun
  with_reducible repeat' (first | assumption | apply State.runs_keeps | dsimp only | refine Keeps.rec' rfl rfl rfl rfl rfl ?_)

theorem State.supervisorsApply_keeps {z : State} {s : State} {b : Nat} (h : Keeps z s) :
    Keeps z (State.supervisorsApply s b) := by
  unfold State.supervisorsApply
  with_reducible repeat' (first | assumption | apply State.supervisorsRun_keeps | apply State.handover_keeps | apply Keeps.ite)

theorem State.romReads_keeps {z : State} {s : State} (h : Keeps z s) :
    Keeps z (State.romReads s) := by
  unfold State.romReads
  with_reducible repeat' (first
    | assumption | apply Keeps.refl | apply State.wr_keeps | apply State.showRetired_keeps | apply State.drewMany_keeps | apply Keeps.foldl
    | dsimp only | intro _ | split | refine Keeps.rec' rfl rfl rfl rfl rfl ?_)

theorem State.phase7_keeps {z : State} {s : State} {qualified : Nat} (h : Keeps z s) :
    Keeps z (State.phase7 s qualified) := by
  unfold State.phase7
  with_reducible repeat' (first
    | assumption | apply Keeps.refl | apply State.setRun_keeps | apply State.runs_keeps | apply State.settingsApply_keeps | apply State.lifeOpen_keeps
    | apply State.wr_keeps | apply Keeps.foldl | apply Keeps.ite | dsimp only | intro _ | refine Keeps.rec' rfl rfl rfl rfl rfl ?_)

theorem State.selfTestDead_keeps {z : State} {s : State} (h : Keeps z s) :
    Keeps z (State.selfTestDead s) := by
  unfold State.selfTestDead
  with_reducible repeat' (first | assumption | apply State.die_keeps)

theorem State.recovery_keeps {z : State} {s : State} (h : Keeps z s) :
    Keeps z (State.recovery s) := by
  unfold State.recovery
  with_reducible repeat' (first | assumption | apply State.setRun_keeps | apply State.computeOff_keeps)

theorem State.start_keeps {z : State} {s : State} {cause : Nat} {cold : Bool} {u : StartUp} (h : Keeps z s) :
    KeepsP z (State.start s cause cold u) := by
  unfold State.start
  with_reducible repeat' (first
    | assumption | apply State.wr_keeps | apply State.die_keeps | apply State.romReads_keeps | apply State.setRun_keeps | apply State.chooseBank_keeps
    | apply State.recovery_keeps | apply State.runs_keeps | apply State.ownedBy_keeps | apply State.supervisorsRun_keeps
    | apply State.supervisorsApply_keeps | apply State.phase7_keeps | apply State.selfTestDead_keeps | (apply Keeps.of_pair; assumption)
    | apply KeepsP.ite | dsimp only | split | apply KeepsP.pair | refine Keeps.rec' rfl rfl rfl rfl rfl ?_)

theorem State.framKept_keeps {z : State} {s : State} (h : Keeps z s) :
    Keeps z (State.framKept s) := by
  unfold State.framKept
  repeat' (first
    | with_reducible assumption
    | with_reducible apply Keeps.refl
    | with_reducible apply State.wr_keeps
    | with_reducible apply Keeps.foldl
    | intro _
    | ((with_reducible apply Keeps.recMem); (with_reducible rfl); (with_reducible rfl); (with_reducible rfl); (with_reducible rfl); focus (intro hw; rw [Memory.wf_iff] at hw ⊢; obtain ⟨h1, h2, h3, h4, h5, h6, h7⟩ := hw; exact ⟨by first | exact h1 | exact Cells.wf_set _ _ h1 | exact Cells.wf_clear _ _ h1 | exact Cells.wf_setList _ _ h1 | exact Cells.wf_fill _ _ (by simp) h1 | exact Cells.wf_copy _ _ _ h1 | rfl, by first | exact h2 | exact Cells.wf_set _ _ h2 | exact Cells.wf_clear _ _ h2 | exact Cells.wf_setList _ _ h2 | exact Cells.wf_fill _ _ (by simp) h2 | exact Cells.wf_copy _ _ _ h2 | rfl, by first | exact h3 | exact Cells.wf_set _ _ h3 | exact Cells.wf_clear _ _ h3 | exact Cells.wf_setList _ _ h3 | exact Cells.wf_fill _ _ (by simp) h3 | exact Cells.wf_copy _ _ _ h3 | rfl, by first | exact h4 | exact Cells.wf_set _ _ h4 | exact Cells.wf_clear _ _ h4 | exact Cells.wf_setList _ _ h4 | exact Cells.wf_fill _ _ (by simp) h4 | exact Cells.wf_copy _ _ _ h4 | rfl, by first | exact h5 | exact Cells.wf_set _ _ h5 | exact Cells.wf_clear _ _ h5 | exact Cells.wf_setList _ _ h5 | exact Cells.wf_fill _ _ (by simp) h5 | exact Cells.wf_copy _ _ _ h5 | rfl, by first | exact h6 | exact Cells.wf_set _ _ h6 | exact Cells.wf_clear _ _ h6 | exact Cells.wf_setList _ _ h6 | exact Cells.wf_fill _ _ (by simp) h6 | exact Cells.wf_copy _ _ _ h6 | rfl, by first | exact h7 | exact Cells.wf_set _ _ h7 | exact Cells.wf_clear _ _ h7 | exact Cells.wf_setList _ _ h7 | exact Cells.wf_fill _ _ (by simp) h7 | exact Cells.wf_copy _ _ _ h7 | rfl⟩))
    )

theorem State.markersReport_keeps {z : State} {s : State} (h : Keeps z s) :
    Keeps z (State.markersReport s) := by
  unfold State.markersReport
  with_reducible repeat' (first
    | assumption | apply Keeps.refl | apply State.raise_keeps | apply State.setPrt_keeps | apply State.setMarker_keeps | apply Keeps.foldl
    | dsimp only | intro _ | split)

theorem State.resetBlocks_keeps {z : State} {s : State} (h : Keeps z s) :
    Keeps z (State.resetBlocks s) := by
  unfold State.resetBlocks
  with_reducible repeat' (first
    | assumption | apply Keeps.refl | apply State.framKept_keeps | apply State.wr_keeps | apply State.raiseIf_keeps | apply State.throttle_keeps
    | apply Keeps.foldl | dsimp only | intro _ | refine Keeps.rec' rfl rfl rfl rfl rfl ?_)

theorem State.startAgain_keeps {z : State} {s : State} {cause : Nat} {cold : Bool} {u : StartUp} (h : Keeps z s) :
    Keeps z (State.startAgain s cause cold u) := by
  unfold State.startAgain
  with_reducible repeat' (first
    | assumption | apply State.start_keeps | apply State.markersReport_keeps | apply State.resetBlocks_keeps | apply State.lifeCommit_keeps
    | apply Keeps.fst | (apply Keeps.of_pair; assumption) | split)

theorem State.moduleReset_keeps {z : State} {s : State} {cause : Nat} {u : StartUp} (h : Keeps z s) :
    Keeps z (State.moduleReset s cause u) := by
  unfold State.moduleReset
  with_reducible repeat' (first
    | assumption | apply State.startAgain_keeps | apply State.markersReport_keeps | apply State.resetBlocks_keeps | apply Keeps.ite)

theorem State.powerOn_keeps {z : State} {s : State} {u : StartUp} (h : Keeps z s) :
    Keeps z (State.powerOn s u) := by
  unfold State.powerOn
  with_reducible repeat' (first
    | assumption | apply State.startAgain_keeps | apply State.markersReport_keeps | apply State.framKept_keeps | dsimp only
    | refine Keeps.rec' rfl rfl rfl rfl rfl ?_)

/-! Partitions.lean -/

theorem State.storeReport_keeps {z : State} {s : State} {code : Nat} {nonce : List Byte} (h : Keeps z s) :
    Keeps z (State.storeReport s code nonce) := by
  unfold State.storeReport
  with_reducible repeat' (first | assumption | dsimp only | refine Keeps.rec' rfl rfl rfl rfl rfl ?_)

theorem State.makeReport_keeps {z : State} {s : State} {rq : ReqPath} {nonce : List Byte} (h : Keeps z s) :
    Keeps z (State.makeReport s rq nonce) := by
  unfold State.makeReport
  with_reducible repeat' (first
    | assumption | apply State.doePut_keeps | apply State.storeReport_keeps | dsimp only | split | refine Keeps.rec' rfl rfl rfl rfl rfl ?_)

theorem State.keyDelivered_keeps {z : State} {s : State} {p : Nat} {slot : Nat} {rotate : Bool} {buildId : Nat} {ct : List Byte} {wrapped : List Byte} (h : Keeps z s) :
    KeepsP z (State.keyDelivered s p slot rotate buildId ct wrapped) := by
  unfold State.keyDelivered
  with_reducible repeat' (first
    | assumption | apply State.keyLoad_keeps | apply State.wr_keeps | apply State.rotateStart_keeps | apply Keeps.fst
    | (apply Keeps.of_pair; assumption) | apply KeepsP.ite | dsimp only | split | apply KeepsP.pair)

theorem State.ownerChange_keeps {z : State} {s : State} {digest : List Byte} {sig : List Byte} (h : Keeps z s) :
    Keeps z (State.ownerChange s digest sig) := by
  unfold State.ownerChange
  with_reducible repeat' (first
    | assumption | apply State.otpProgram_keeps | apply Keeps.ite | dsimp only | refine Keeps.rec' rfl rfl rfl rfl rfl ?_)

/-! UpdateOps.lean -/

theorem State.updDone_keeps {z : State} {s : State} {r : Nat} (h : Keeps z s) :
    KeepsP z (State.updDone s r) := by
  unfold State.updDone
  with_reducible repeat' (first | assumption | apply State.wr_keeps | apply KeepsP.pair)

theorem State.sessionEnd_keeps {z : State} {s : State} {staged : List Nat} (h : Keeps z s) :
    Keeps z (State.sessionEnd s staged) := by
  unfold State.sessionEnd
  with_reducible repeat' (first | assumption | apply State.wr_keeps | dsimp only | refine Keeps.rec' rfl rfl rfl rfl rfl ?_)

theorem State.sessionOpen_keeps {z : State} {s : State} {who : Nat} {comp : Nat} {st : Nat} (h : Keeps z s) :
    Keeps z (State.sessionOpen s who comp st) := by
  unfold State.sessionOpen
  with_reducible repeat' (first | assumption | apply State.wr_keeps | dsimp only | refine Keeps.rec' rfl rfl rfl rfl rfl ?_)

theorem State.updFlash_keeps {z : State} {s : State} (h : Keeps z s) :
    KeepsP z (State.updFlash s) := by
  unfold State.updFlash
  with_reducible repeat' (first
    | assumption | apply State.updDone_keeps | apply State.sessionEnd_keeps | apply State.die_keeps | apply Keeps.fst | apply KeepsP.ite
    | apply KeepsP.pair)

theorem State.updHeader_keeps {z : State} {s : State} {who : Nat} {header : List Byte} (h : Keeps z s) :
    KeepsP z (State.updHeader s who header) := by
  unfold State.updHeader
  with_reducible repeat' (first
    | assumption | apply State.updDone_keeps | apply State.setBank_keeps | apply State.sessionOpen_keeps | apply State.setArea_keeps | apply Keeps.ite
    | apply KeepsP.ite | dsimp only | split)

theorem State.eraseDone_keeps {z : State} {s : State} (h : Keeps z s) :
    Keeps z (State.eraseDone s) := by
  unfold State.eraseDone
  with_reducible repeat' (first | assumption | apply State.wr_keeps | apply Keeps.ite)

theorem State.updBlock_keeps {z : State} {s : State} {who : Nat} {value : List Byte} {readOk : Bool} (h : Keeps z s) :
    KeepsP z (State.updBlock s who value readOk) := by
  unfold State.updBlock
  with_reducible repeat' (first
    | assumption | apply State.updDone_keeps | apply State.wr_keeps | apply State.setArea_keeps | apply State.updFlash_keeps | apply KeepsP.ite
    | dsimp only | split)

theorem State.stageComponent_keeps {z : State} {s : State} {id : Nat} (h : Keeps z s) :
    Keeps z (State.stageComponent s id) := by
  unfold State.stageComponent
  with_reducible repeat' (first | assumption | apply State.sessionEnd_keeps | apply State.setBank_keeps | apply Keeps.ite)

theorem State.updFinish_keeps {z : State} {s : State} {who : Nat} {u : StartUp} (h : Keeps z s) :
    KeepsP z (State.updFinish s who u) := by
  unfold State.updFinish
  with_reducible repeat' (first
    | assumption | apply State.updDone_keeps | apply State.sessionEnd_keeps | apply State.setBank_keeps | apply State.moduleReset_keeps
    | apply State.stageComponent_keeps | apply Keeps.fst | apply KeepsP.ite | dsimp only | split | apply KeepsP.pair)

theorem State.updSkip_keeps {z : State} {s : State} {who : Nat} {id : Nat} (h : Keeps z s) :
    KeepsP z (State.updSkip s who id) := by
  unfold State.updSkip
  with_reducible repeat' (first
    | assumption | apply State.updDone_keeps | apply State.setBank_keeps | apply State.sessionOpen_keeps | apply Keeps.ite | apply KeepsP.ite
    | dsimp only | split)

theorem State.skipDone_keeps {z : State} {s : State} {readOk : Bool} (h : Keeps z s) :
    Keeps z (State.skipDone s readOk) := by
  unfold State.skipDone
  with_reducible repeat' (first
    | assumption | apply State.stageComponent_keeps | apply State.setArea_keeps | apply State.updFlash_keeps | apply Keeps.fst | apply Keeps.ite
    | split)

theorem State.updAbort_keeps {z : State} {s : State} (h : Keeps z s) :
    KeepsP z (State.updAbort s) := by
  unfold State.updAbort
  with_reducible repeat' (first | assumption | apply State.updDone_keeps | apply State.sessionEnd_keeps | apply KeepsP.ite | split)

theorem State.trialZero_keeps {z : State} {s : State} (h : Keeps z s) :
    Keeps z (State.trialZero s) := by
  unfold State.trialZero
  with_reducible repeat' (first | assumption | apply State.wr_keeps | dsimp only | refine Keeps.rec' rfl rfl rfl rfl rfl ?_)

theorem State.activated_keeps {z : State} {s : State} {b : Nat} {old : Nat} {applyOk : Bool} {u : StartUp} (h : Keeps z s) :
    KeepsP z (State.activated s b old applyOk u) := by
  unfold State.activated
  with_reducible repeat' (first
    | assumption | apply State.updDone_keeps | apply State.setBank_keeps | apply State.supervisorsApply_keeps | apply State.moduleReset_keeps
    | apply State.lifeCommit_keeps | apply Keeps.fst | apply KeepsP.ite | dsimp only | apply KeepsP.pair)

theorem State.updActivate_keeps {z : State} {s : State} {who : Nat} {applyOk : Bool} {u : StartUp} (h : Keeps z s) :
    KeepsP z (State.updActivate s who applyOk u) := by
  unfold State.updActivate
  with_reducible repeat' (first
    | assumption | apply State.updDone_keeps | apply State.activated_keeps | apply State.trialZero_keeps | apply State.setBank_keeps
    | apply KeepsP.ite | split)

theorem State.confirm_keeps {z : State} {s : State} (h : Keeps z s) :
    Keeps z (State.confirm s) := by
  unfold State.confirm
  with_reducible repeat' (first
    | assumption | apply Keeps.refl | apply State.otpProgram_keeps | apply State.trialZero_keeps | apply State.wr_keeps | apply State.setBank_keeps
    | apply State.setArea_keeps | apply Keeps.foldl | apply Keeps.ite | intro _)

theorem State.updConfirm_keeps {z : State} {s : State} (h : Keeps z s) :
    KeepsP z (State.updConfirm s) := by
  unfold State.updConfirm
  with_reducible repeat' (first | assumption | apply State.updDone_keeps | apply State.confirm_keeps | apply KeepsP.ite)

theorem State.updReset_keeps {z : State} {s : State} {u : StartUp} (h : Keeps z s) :
    KeepsP z (State.updReset s u) := by
  unfold State.updReset
  with_reducible repeat' (first
    | assumption | apply State.updDone_keeps | apply State.wr_keeps | apply State.moduleReset_keeps | apply State.lifeCommit_keeps | apply Keeps.fst
    | dsimp only | apply KeepsP.pair)

theorem State.updLock_keeps {z : State} {s : State} {lock : Bool} {seq : Nat} {sig : List Byte} (h : Keeps z s) :
    KeepsP z (State.updLock s lock seq sig) := by
  unfold State.updLock
  with_reducible repeat' (first
    | assumption | apply State.setFram_keeps | apply KeepsP.ite | dsimp only | apply KeepsP.pair | refine Keeps.rec' rfl rfl rfl rfl rfl ?_)

/-! HostIf.lean -/

theorem State.hostReqFailed_keeps {z : State} {s : State} {who : HostReq} (h : Keeps z s) :
    Keeps z (State.hostReqFailed s who) := by
  unfold State.hostReqFailed
  with_reducible repeat' (first | assumption | apply State.sqFault_keeps | apply State.hdmaStop_keeps | split)

theorem State.linkDown_keeps {z : State} {s : State} (h : Keeps z s) :
    Keeps z (State.linkDown s) := by
  unfold State.linkDown
  with_reducible repeat' (first
    | assumption | apply State.raise_keeps | apply State.bump_keeps | apply State.wr_keeps | apply Keeps.ite)

theorem State.refuseUr_keeps {z : State} {s : State} {read : Bool} (h : Keeps z s) :
    Keeps z (State.refuseUr s read) := by
  unfold State.refuseUr
  with_reducible repeat' (first | assumption | apply State.send_keeps | apply State.logUr_keeps | apply Keeps.ite)

theorem State.refuseCa_keeps {z : State} {s : State} {read : Bool} (h : Keeps z s) :
    Keeps z (State.refuseCa s read) := by
  unfold State.refuseCa
  with_reducible repeat' (first | assumption | apply State.send_keeps | apply State.logCa_keeps | apply Keeps.ite)

theorem State.cipherRead_keeps {z : State} {s : State} {n : Nat} {a : Nat} {len : Nat} (h : Keeps z s) :
    KeepsP z (State.cipherRead s n a len) := by
  unfold State.cipherRead
  with_reducible repeat' (first
    | assumption | apply Keeps.refl | apply State.countFixes_keeps | apply State.wakePort_keeps | apply State.reportLost_keeps | apply Keeps.foldl
    | dsimp only | intro _ | split | apply KeepsP.pair)

theorem State.apertureEnd_keeps {z : State} {s : State} {ok : Bool} {read : Bool} {data : List Byte} (h : Keeps z s) :
    Keeps z (State.apertureEnd s ok read data) := by
  unfold State.apertureEnd
  with_reducible repeat' (first | assumption | apply State.refuseCa_keeps | apply State.send_keeps | apply Keeps.ite)

theorem State.recordsMoved_keeps {z : State} {s : State} (h : Keeps z s) :
    Keeps z (State.recordsMoved s) := by
  unfold State.recordsMoved
  with_reducible repeat' (first
    | assumption | apply Keeps.refl | apply State.vidResumed_keeps | apply State.hdmaRestarted_keeps | apply Keeps.foldl | apply Keeps.ite
    | dsimp only | intro _)

/-! RegOps.lean -/

theorem State.urTaken_keeps {z : State} {s : State} {read : Bool} (h : Keeps z s) :
    Keeps z (State.urTaken s read) := by
  unfold State.urTaken
  with_reducible repeat' (first | assumption | apply State.refuseUr_keeps | apply State.wr_keeps)

theorem State.fieldWrite_keeps {z : State} {s : State} {f : Fld} {v : Nat} (h : Keeps z s) :
    Keeps z (State.fieldWrite s f v) := by
  unfold State.fieldWrite
  with_reducible repeat' (first | assumption | apply State.wr_keeps | split)

theorem State.fieldsWrite_keeps {z : State} {s : State} {a : Nat} {v : Nat} (h : Keeps z s) :
    Keeps z (State.fieldsWrite s a v) := by
  unfold State.fieldsWrite
  with_reducible repeat' (first
    | assumption | apply Keeps.refl | apply State.wr_keeps | apply State.fieldWrite_keeps | apply Keeps.foldl | apply Keeps.ite | dsimp only | intro _
    | refine Keeps.rec' rfl rfl rfl rfl rfl ?_)

theorem State.afterWrite_keeps {z : State} {s : State} {a : Nat} (h : Keeps z s) :
    Keeps z (State.afterWrite s a) := by
  unfold State.afterWrite
  repeat' (first
    | with_reducible assumption
    | with_reducible apply State.planeInjected_keeps
    | with_reducible apply Keeps.ite
    | dsimp only
    | (with_reducible apply Keeps.rec'; with_reducible rfl; with_reducible rfl; with_reducible rfl; with_reducible rfl; with_reducible rfl)
    | ((with_reducible apply Keeps.recMem); (with_reducible rfl); (with_reducible rfl); (with_reducible rfl); (with_reducible rfl); focus (intro hw; rw [Memory.wf_iff] at hw ⊢; obtain ⟨h1, h2, h3, h4, h5, h6, h7⟩ := hw; exact ⟨h1, h2, h3, h4, h5, h6, h7⟩))
    )

theorem State.regWrite_keeps {z : State} {s : State} {a : Nat} {v : Nat} (h : Keeps z s) :
    Keeps z (State.regWrite s a v) := by
  unfold State.regWrite
  with_reducible repeat' (first
    | assumption | apply State.raise_keeps | apply State.afterWrite_keeps | apply State.fieldsWrite_keeps | apply State.irqWrite_keeps
    | apply State.mbxChange_keeps | apply Keeps.ite | dsimp only | intro _ | split)

theorem State.msixWrite_keeps {z : State} {s : State} {fn : Nat} {w : Nat} {v : Nat} (h : Keeps z s) :
    Keeps z (State.msixWrite s fn w v) := by
  unfold State.msixWrite
  with_reducible repeat' (first
    | assumption | apply State.sendVec_keeps | apply Keeps.ite | dsimp only | split | refine Keeps.rec' rfl rfl rfl rfl rfl ?_)

theorem State.rcClear_keeps {z : State} {s : State} {a : Nat} (h : Keeps z s) :
    Keeps z (State.rcClear s a) := by
  unfold State.rcClear
  with_reducible repeat' (first
    | assumption | apply Keeps.refl | apply State.wr_keeps | apply Keeps.foldl | apply Keeps.ite | dsimp only | intro _
    | refine Keeps.rec' rfl rfl rfl rfl rfl ?_)

theorem State.answerRead_keeps {z : State} {s : State} {pl : RegPlace} {v : Nat} (h : Keeps z s) :
    Keeps z (State.answerRead s pl v) := by
  unfold State.answerRead
  with_reducible repeat' (first | assumption | apply State.send_keeps | apply Keeps.ite)

/-! Thermal.lean -/

theorem State.railsOn_keeps {z : State} {s : State} {rs : List Nat} (h : Keeps z s) :
    Keeps z (State.railsOn s rs) := by
  unfold State.railsOn
  with_reducible repeat' (first
    | assumption | apply Keeps.refl | apply State.drew_keeps | apply Keeps.foldl | dsimp only | intro _ | split
    | refine Keeps.rec' rfl rfl rfl rfl rfl ?_)

theorem State.selfTestFailed_keeps {z : State} {s : State} {u : StartUp} (h : Keeps z s) :
    Keeps z (State.selfTestFailed s u) := by
  unfold State.selfTestFailed
  with_reducible repeat' (first
    | assumption | apply State.start_keeps | apply State.markersReport_keeps | apply State.resetBlocks_keeps | apply State.lifeCommit_keeps
    | apply State.selfTestDead_keeps | apply Keeps.fst | apply Keeps.ite)

theorem State.coolant_keeps {z : State} {s : State} {inlet : BitVec 12} {outlet : BitVec 12} {flow : Fin 512} (h : Keeps z s) :
    Keeps z (State.coolant s inlet outlet flow) := by
  unfold State.coolant
  with_reducible repeat' (first | assumption | apply State.wr_keeps)

theorem State.computeUp_keeps {z : State} {s : State} (h : Keeps z s) :
    Keeps z (State.computeUp s) := by
  unfold State.computeUp
  with_reducible repeat' (first
    | assumption | apply Keeps.refl | apply State.wr_keeps | apply State.railsOn_keeps | apply State.outputs_keeps | apply Keeps.foldl
    | apply Keeps.ite | intro _)

/-! DictEntries.lean -/

theorem commitVia_keeps {z : State} {flags : List Fld} {f : State → State} {s : State} (h : Keeps z s) (hf : ∀ {z x : State}, Keeps z x → Keeps z (f x)) :
    KeepsP z (commitVia flags f s) := by
  unfold commitVia
  with_reducible repeat' (first
    | assumption | apply Keeps.refl | apply State.wr_keeps | apply State.raiseIf_keeps | apply hf | apply Keeps.foldl | dsimp only | intro _ | split
    | apply KeepsP.pair)

theorem State.setRoleKey_keeps {z : State} {s : State} {svc : Bool} {k : List Byte} (h : Keeps z s) :
    Keeps z (State.setRoleKey s svc k) := by
  unfold State.setRoleKey
  with_reducible repeat' (first
    | assumption | apply State.setFram_keeps | dsimp only | split | refine Keeps.rec' rfl rfl rfl rfl rfl ?_)

theorem updPut_keeps {z : State} {r : State × Nat} {reset : Bool} (h : KeepsP z r) : KeepsP z (updPut r reset) := ⟨h.fst⟩

theorem State.updCommand_keeps {z : State} {s : State} {env : DictEnv} {rq : Nat} {v : Nat} (h : Keeps z s) :
    KeepsP z (State.updCommand s env rq v) := by
  unfold State.updCommand
  with_reducible repeat' (first
    | assumption | apply updPut_keeps | apply State.updReset_keeps | apply State.updConfirm_keeps | apply State.updActivate_keeps
    | apply State.updFinish_keeps | apply State.updSkip_keeps | apply State.updAbort_keeps | apply KeepsP.ite | apply KeepsP.pair)

/-- A write of the entry keeps. -/
structure EntKeeps (e : Ent) : Prop where
  put : ∀ s v, Keeps s (e.put s v).1

/-- So does an entry that may be absent, and every entry of a list. -/
structure EntOKeeps (o : Option Ent) : Prop where
  some : ∀ e, o = .some e → EntKeeps e
structure EntsKeep (l : List Ent) : Prop where
  all : ∀ e ∈ l, EntKeeps e

theorem EntsKeep.nil : EntsKeep [] := ⟨fun _ h => by cases h⟩
theorem EntsKeep.cons {e : Ent} {l : List Ent} (h : EntKeeps e) (k : EntsKeep l) : EntsKeep (e :: l) :=
  ⟨fun x hx => (List.mem_cons.mp hx).elim (fun e => e ▸ h) (k.all x)⟩
theorem EntOKeeps.none : EntOKeeps .none := ⟨fun _ h => by cases h⟩
theorem EntOKeeps.one {e : Ent} (h : EntKeeps e) : EntOKeeps (.some e) := ⟨fun _ k => by cases k; exact h⟩
theorem EntOKeeps.ite {c : Prop} [Decidable c] {a b : Option Ent} (h : EntOKeeps a) (k : EntOKeeps b) : EntOKeeps (if c then a else b) := by
  split <;> assumption
theorem EntOKeeps.map {α : Type} {o : Option α} {f : α → Ent} (h : ∀ a, EntKeeps (f a)) : EntOKeeps (o.map f) :=
  ⟨fun e k => by cases o <;> cases k; exact h _⟩
theorem EntOKeeps.mine {o : Option Ent} {f : Ent → Ent} (h : EntOKeeps o) (hf : ∀ e, (f e).put = e.put) : EntOKeeps (o.map f) :=
  ⟨fun e k => by cases o with
    | none => cases k
    | some a => cases k; exact ⟨fun s v => by rw [hf]; exact (h.some a rfl).put s v⟩⟩
theorem ofPart_ents {t : Option Nat} {p : Nat} {o : Option Ent} (h : EntOKeeps o) : EntOKeeps (ofPart t p o) := h.mine fun _ => rfl
theorem nth_ents {l : List Ent} {sub : Nat} (h : EntsKeep l) : EntOKeeps (nth l sub) :=
  ⟨fun e k => by
    unfold nth at k
    split at k
    · cases k
    · exact h.all e (List.mem_of_getElem? k)⟩

theorem numEnt_keeps {w a d : Nat} {g : State → Nat} : EntKeeps (numEnt w a d g) := ⟨fun s _ => Keeps.refl s⟩
theorem rawEnt_keeps {t n a : Nat} {d : List Byte} {g : State → Option (List Byte)} : EntKeeps (rawEnt t n a d g) := ⟨fun s _ => Keeps.refl s⟩
theorem f32Ent_keeps {a : Nat} {g : State → Int × Nat} : EntKeeps (f32Ent a g) := ⟨fun s _ => Keeps.refl s⟩
theorem fldEnt_keeps {a : Nat} {f : Fld} : EntKeeps (fldEnt a f) := ⟨fun s _ => State.wr_keeps (Keeps.refl s)⟩
theorem wordEnt_keeps {a n : Nat} : EntKeeps (wordEnt a n) := ⟨fun s _ => State.fieldsWrite_keeps (Keeps.refl s)⟩
theorem injEnt_keeps {f : Fld} : EntKeeps (injEnt f) := ⟨fun s _ => State.wr_keeps (Keeps.refl s)⟩
theorem pEnt_keeps {a : Nat} {e : PEnt} : EntKeeps (pEnt a e) := ⟨fun s _ => State.persistPut_keeps (Keeps.refl s)⟩
theorem pCommit_keeps {n : Nat} : EntKeeps (pCommit n) := ⟨fun s _ => (State.persistCommit_keeps (Keeps.refl s)).fst⟩
theorem setEnt_keeps {w a d hi : Nat} {g : State → Nat} {p : State → Nat → State} (h : ∀ s v, Keeps s (p s v)) : EntKeeps (setEnt w a d hi g p) :=
  ⟨fun s _ => h s _⟩
theorem cmdEnt_keeps {a lo hi : Nat} {p : State → Nat → State × Nat} (h : ∀ s v, Keeps s (p s v).1) : EntKeeps (cmdEnt a lo hi p) :=
  ⟨fun s _ => h s _⟩
theorem mapEnt_keeps {a : Nat} {f : Nat → Fld} : EntKeeps (mapEnt a f) :=
  ⟨fun s _ => Keeps.foldl _ (Keeps.refl s) fun a _ => State.wr_keeps (Keeps.refl a)⟩
theorem updPut_fst {r : State × Nat} {b : Bool} : (updPut r b).1 = r.1 := rfl

theorem entIdentity_keeps {s : State} {sub : Nat} : EntOKeeps (entIdentity s sub) := by
  unfold entIdentity
  exact nth_ents (by repeat (first | exact EntsKeep.nil | refine EntsKeep.cons (by first | exact rawEnt_keeps | exact numEnt_keeps) ?_))

theorem entField_keeps {sub : Nat} : EntOKeeps (entField sub) := by
  unfold entField
  exact nth_ents (by repeat (first | exact EntsKeep.nil | refine EntsKeep.cons (by first | exact rawEnt_keeps | exact numEnt_keeps | exact ⟨fun s v => Keeps.congr (Keeps.refl _) rfl rfl rfl rfl rfl⟩) ?_))

theorem entKeys_keeps {sub : Nat} : EntOKeeps (entKeys sub) := by
  unfold entKeys
  exact nth_ents (by repeat (first | exact EntsKeep.nil | refine EntsKeep.cons (by first | exact numEnt_keeps | exact ⟨fun s v => State.setRoleKey_keeps (Keeps.refl s)⟩) ?_))

theorem entPartner_keeps {k sub : Nat} : EntOKeeps (entPartner k sub) := by
  unfold entPartner
  exact nth_ents (by repeat (first | exact EntsKeep.nil | refine EntsKeep.cons (by first | exact rawEnt_keeps | exact numEnt_keeps) ?_))

theorem entSettings_keeps {env : DictEnv} {idx sub : Nat} : EntOKeeps (entSettings env idx sub) := by
  unfold entSettings
  exact .ite (nth_ents (by repeat (first | exact EntsKeep.nil | refine EntsKeep.cons (by first | exact numEnt_keeps) ?_)))
    (.ite (.ite (.one numEnt_keeps) (.ite (.one numEnt_keeps) (.ite (.one (cmdEnt_keeps fun s v => (State.settingsWrite_keeps (Keeps.refl s)).fst)) .none)))
      (.ite (.one (setEnt_keeps fun s v => Keeps.congr (Keeps.refl _) rfl rfl rfl rfl rfl)) .none))

theorem entPartition_keeps {env : DictEnv} {idx sub p : Nat} : EntOKeeps (entPartition env idx sub p) := by
  unfold entPartition
  refine .ite (.ite (.one (cmdEnt_keeps fun s v => ?_)) (.ite (.one numEnt_keeps) (nth_ents ?_))) (nth_ents (by repeat (first | exact EntsKeep.nil | refine EntsKeep.cons (by first | exact numEnt_keeps) ?_)))
  · split
    · exact Keeps.refl s
    · exact Keeps.ite (State.buildCmd_keeps (Keeps.refl s)) (State.tdCmd_keeps (Keeps.refl s))
  · repeat (first | exact EntsKeep.nil | refine EntsKeep.cons (setEnt_keeps fun s v => State.setPrt_keeps (Keeps.refl s)) ?_)

theorem entSecurity_keeps {rq idx sub : Nat} : EntOKeeps (entSecurity rq idx sub) := by
  unfold entSecurity
  refine .ite (nth_ents (by repeat (first | exact EntsKeep.nil | refine EntsKeep.cons (by first | exact rawEnt_keeps | exact numEnt_keeps) ?_)))
    (.ite (nth_ents (.cons ⟨fun s v => State.storeReport_keeps (Keeps.refl s)⟩ (.cons rawEnt_keeps .nil))) (nth_ents (.cons ⟨fun s v => ?_⟩ (.cons numEnt_keeps .nil))))
  dsimp only
  split
  · exact State.ownerChange_keeps (Keeps.refl s)
  · exact Keeps.refl s

theorem entThermal_keeps {idx sub : Nat} : EntOKeeps (entThermal idx sub) := by
  unfold entThermal
  exact .ite (nth_ents (by repeat (first | exact EntsKeep.nil | refine EntsKeep.cons (by first | exact numEnt_keeps | exact f32Ent_keeps) ?_))) (.ite (nth_ents (by repeat (first | exact EntsKeep.nil | refine EntsKeep.cons (by first | exact numEnt_keeps | exact f32Ent_keeps) ?_)))
    (.ite (.ite (.one numEnt_keeps) (.ite (.one numEnt_keeps) (.ite (.one numEnt_keeps) .none))) (.ite (nth_ents (by repeat (first | exact EntsKeep.nil | refine EntsKeep.cons (by first | exact numEnt_keeps) ?_)))
      (.ite (.ite (.one f32Ent_keeps) .none) (.ite (nth_ents (by repeat (first | exact EntsKeep.nil | refine EntsKeep.cons (by first | exact numEnt_keeps) ?_))) .none)))))

theorem entErrors_keeps {env : DictEnv} {idx sub : Nat} : EntOKeeps (entErrors env idx sub) := by
  unfold entErrors
  refine .ite (.ite (.one ⟨fun s v => State.lifeCommit_keeps (Keeps.refl s)⟩) .none)
    (.ite (.ite (.one numEnt_keeps) (.ite (.one numEnt_keeps) (.ite (.one (cmdEnt_keeps fun s v => State.lift_keeps (Keeps.refl s)))
        (.ite (.one ⟨fun s v => State.maintenance_keeps (Keeps.refl s)⟩) (.ite (.one numEnt_keeps) .none)))))
      (.ite (.ite (.one numEnt_keeps) .none) (.ite (nth_ents (by repeat (first | exact EntsKeep.nil | refine EntsKeep.cons (by first | exact numEnt_keeps) ?_))) (.ite (nth_ents (by repeat (first | exact EntsKeep.nil | refine EntsKeep.cons (by first | exact rawEnt_keeps) ?_))) (.ite (nth_ents (by repeat (first | exact EntsKeep.nil | refine EntsKeep.cons (by first | exact rawEnt_keeps) ?_)))
        (.ite (.ite (.one numEnt_keeps) (.ite (.one numEnt_keeps) (.ite (.one (cmdEnt_keeps fun s v => ?_)) .none))) .none))))))
  refine (KeepsP.ite (State.restoreArm_keeps (Keeps.refl s)) (.ite (State.restoreStart_keeps (Keeps.refl s)) (.ite (State.restoreCommit_keeps (Keeps.refl s))
    (State.restoreStop_keeps (Keeps.refl s))))).fst

theorem netInj_keeps {b : Nat} : EntKeeps (netInj b) := by
  refine setEnt_keeps fun s v => ?_
  split
  · exact Keeps.refl s
  · exact Keeps.congr (Keeps.refl _) rfl rfl rfl rfl rfl

theorem entInjection_keeps {idx sub : Nat} : EntOKeeps (entInjection idx sub) := by
  unfold entInjection
  exact .ite (nth_ents (by repeat (first | exact EntsKeep.nil | refine EntsKeep.cons (by first | exact injEnt_keeps | exact fldEnt_keeps) ?_))) (.ite (nth_ents (by repeat (first | exact EntsKeep.nil | refine EntsKeep.cons (by first | exact netInj_keeps) ?_)))
    (.ite (.ite (.one ⟨fun s v => by dsimp only [cmdEnt]; exact State.katStart_keeps (Keeps.refl s)⟩) .none) .none))

theorem entServing_keeps {p idx sub : Nat} : EntOKeeps (entServing p idx sub) := by
  unfold entServing
  exact .ite (.ite (.one (cmdEnt_keeps fun s v => (commitVia_keeps (Keeps.refl s) fun h => State.pltCommit_keeps h).fst)) (nth_ents (by repeat (first | exact EntsKeep.nil | refine EntsKeep.cons (by first | exact fldEnt_keeps) ?_))))
    (.ite (.ite (.one fldEnt_keeps) (.ite (.one fldEnt_keeps) .none)) (.ite (.one numEnt_keeps) (nth_ents (by repeat (first | exact EntsKeep.nil | refine EntsKeep.cons (by first | exact numEnt_keeps) ?_)))))

theorem entBucket_keeps {b sub : Nat} : EntOKeeps (entBucket b sub) := by
  unfold entBucket
  exact nth_ents (by repeat (first | exact EntsKeep.nil | refine EntsKeep.cons (by first | exact (setEnt_keeps fun s v => State.setBucket_keeps (Keeps.refl s)) | exact ⟨fun s v => Keeps.refl s⟩) ?_))

theorem entFabric_keeps {p idx sub : Nat} : EntOKeeps (entFabric p idx sub) := by
  unfold entFabric
  refine .ite (.ite (.one (cmdEnt_keeps fun s v => (commitVia_keeps (Keeps.refl s) fun h => State.fabCommit_keeps h).fst)) (nth_ents (by repeat (first | exact EntsKeep.nil | refine EntsKeep.cons (by first | exact fldEnt_keeps) ?_))))
    (.ite (nth_ents (by repeat (first | exact EntsKeep.nil | refine EntsKeep.cons (by first | exact numEnt_keeps | exact mapEnt_keeps) ?_))) (.ite (.ite (.one numEnt_keeps) .none)
      (.ite (.ite (.one (cmdEnt_keeps fun s v => ?_)) (nth_ents (by repeat (first | exact EntsKeep.nil | refine EntsKeep.cons (by first | exact fldEnt_keeps | exact wordEnt_keeps | exact mapEnt_keeps) ?_))))
        (.ite (.ite (.one wordEnt_keeps) .none) (nth_ents (.cons (setEnt_keeps fun s v => State.wr_keeps (State.wr_keeps (Keeps.refl s)))
          (.cons ⟨fun s v => ?_⟩ (.cons numEnt_keeps (.cons fldEnt_keeps .nil)))))))))
  · split
    · exact Keeps.refl s
    · exact (commitVia_keeps (Keeps.refl s) fun h => State.fabPcommit_keeps h).fst
  · dsimp only
    split
    · split
      · exact State.raise_keeps (Keeps.refl s)
      · exact State.ckStart_keeps (State.fieldsWrite_keeps (Keeps.refl s))
    · exact State.fieldsWrite_keeps (Keeps.refl s)

theorem entVideo_keeps {idx sub : Nat} : EntOKeeps (entVideo idx sub) := by
  unfold entVideo
  exact .ite (nth_ents (by repeat (first | exact EntsKeep.nil | refine EntsKeep.cons (by first | exact numEnt_keeps) ?_))) (.ite (nth_ents (by repeat (first | exact EntsKeep.nil | refine EntsKeep.cons (by first | exact numEnt_keeps | exact fldEnt_keeps) ?_))) (nth_ents (by repeat (first | exact EntsKeep.nil | refine EntsKeep.cons (by first | exact numEnt_keeps) ?_))))

theorem entUpdate_keeps {env : DictEnv} {rq idx sub : Nat} : EntOKeeps (entUpdate env rq idx sub) := by
  unfold entUpdate
  refine .ite (.ite (.one (cmdEnt_keeps fun s v => (State.updCommand_keeps (Keeps.refl s)).fst)) (.ite (.one numEnt_keeps) (.ite (.one pEnt_keeps) (nth_ents (by repeat (first | exact EntsKeep.nil | refine EntsKeep.cons (by first | exact numEnt_keeps) ?_))))))
    (.ite (nth_ents (by repeat (first | exact EntsKeep.nil | refine EntsKeep.cons (by first | exact numEnt_keeps) ?_))) (.ite (.ite (.one ⟨fun s v => ?_⟩) .none) (.ite (.ite (.one ⟨fun s v => ?_⟩) .none)
      (.ite (nth_ents (.cons ⟨fun s v => ?_⟩ (.cons numEnt_keeps .nil))) .none))))
  · dsimp only
    split
    · split
      · exact (State.updHeader_keeps (Keeps.refl s)).fst
      · exact Keeps.refl s
    · exact Keeps.refl s
  · dsimp only
    split
    · exact (State.updBlock_keeps (Keeps.refl s)).fst
    · exact Keeps.refl s
  · dsimp only
    split
    · exact (State.updLock_keeps (Keeps.refl s)).fst
    · exact Keeps.refl s

theorem dictEnt_keeps {env : DictEnv} {rq : Nat} {tenant : Option Nat} {s : State} {idx sub : Nat} : EntOKeeps (dictEnt env rq tenant s idx sub) := by
  unfold dictEnt
  exact .ite .none (.ite entIdentity_keeps (.ite (.ite (.map fun _ => pEnt_keeps) entField_keeps) (.ite entKeys_keeps (.ite entPartner_keeps
    (.ite (nth_ents (.cons numEnt_keeps (.cons numEnt_keeps .nil))) (.ite entSettings_keeps (.ite (.ite (.one pCommit_keeps) (.map fun _ => pEnt_keeps))
      (.ite (nth_ents (.cons numEnt_keeps (.cons numEnt_keeps .nil))) (.ite (ofPart_ents entPartition_keeps) (.ite entThermal_keeps (.ite (ofPart_ents entErrors_keeps)
        (.ite entErrors_keeps (.ite (nth_ents (.cons numEnt_keeps (.cons numEnt_keeps .nil))) (.ite (ofPart_ents entServing_keeps) (.ite (ofPart_ents entBucket_keeps)
          (.ite entFabric_keeps (.ite (ofPart_ents entFabric_keeps) (.ite entVideo_keeps (.ite (.mine entVideo_keeps fun _ => rfl) (.ite entSecurity_keeps
            (.ite entUpdate_keeps entInjection_keeps)))))))))))))))))))))

theorem dictEntry_keeps {env : DictEnv} {rq : Nat} {tenant : Option Nat} {s : State} {idx sub : Nat} : EntOKeeps (dictEntry env rq tenant s idx sub) := by
  unfold dictEntry
  exact .ite dictEnt_keeps (.ite .none (.one ⟨fun s _ => Keeps.refl s⟩))

/-! DictOps.lean -/

theorem State.snapDrop_keeps {z : State} {s : State} {rq : Nat} {key : Nat} (h : Keeps z s) :
    Keeps z (State.snapDrop s rq key) := by
  unfold State.snapDrop
  with_reducible repeat' (first | assumption | dsimp only | refine Keeps.rec' rfl rfl rfl rfl rfl ?_)

theorem State.stagedDrop_keeps {z : State} {s : State} {rq : Nat} {key : Nat} (h : Keeps z s) :
    Keeps z (State.stagedDrop s rq key) := by
  unfold State.stagedDrop
  with_reducible repeat' (first | assumption | dsimp only | refine Keeps.rec' rfl rfl rfl rfl rfl ?_)

theorem State.snapRead_keeps {z : State} {s : State} {rq : Nat} {key : Nat} {off : Nat} {len : Nat} {v : List Byte} (h : Keeps z s) :
    KeepsP z (State.snapRead s rq key off len v) := by
  unfold State.snapRead
  with_reducible repeat' (first | assumption | apply State.snapDrop_keeps | dsimp only | split | apply KeepsP.pair)

theorem State.dictRead_keeps {z : State} {s : State} {rq : Nat} {role : DictRole} {q : DictReq} {e : Ent} (h : Keeps z s) :
    KeepsP z (State.dictRead s rq role q e) := by
  unfold State.dictRead
  with_reducible repeat' (first
    | assumption | apply State.snapDrop_keeps | apply State.snapRead_keeps | apply KeepsP.ite | dsimp only | split | apply KeepsP.pair
    | refine Keeps.rec' rfl rfl rfl rfl rfl ?_)

theorem State.dictWrite_keeps {z : State} {s : State} {rq : Nat} {role : DictRole} {q : DictReq} {e : Ent} (he : EntKeeps e) (h : Keeps z s) :
    KeepsP z (State.dictWrite s rq role q e) := by
  unfold State.dictWrite
  extract_lets key a v done old s1
  have hd : ∀ r : State × Nat, Keeps z r.1 → KeepsP z (done r) := fun r k => ⟨k⟩
  have h1 : Keeps z s1 := State.stagedDrop_keeps h
  clear_value old s1
  refine .ite (hd _ h) (.ite (hd _ h) (.ite (hd _ h) (.ite (.ite (hd _ h) (.ite (hd _ h) (hd _ (h.trans (he.put s v))))) ?_)))
  split
  · exact hd _ h1
  · exact .ite (hd _ h1) (.ite (hd _ (h1.trans (he.put _ _))) (hd _ (Keeps.congr h1 rfl rfl rfl rfl rfl)))

theorem State.dictServe_keeps {z : State} {s : State} {env : DictEnv} {rq : Nat} {role : DictRole} {doe : Bool} {q : DictReq} (h : Keeps z s) :
    KeepsP z (State.dictServe s env rq role doe q) := by
  unfold State.dictServe
  split
  · exact ⟨h⟩
  · refine .ite ⟨h⟩ (.ite ⟨h⟩ ?_)
    split
    · exact ⟨h⟩
    · next e he => exact .ite (State.dictRead_keeps h) (.ite (State.dictWrite_keeps (dictEntry_keeps.some e he) h) ⟨h⟩)

theorem State.sendFrame_keeps {z : State} {s : State} {dst : Nat} {pdu : List Byte} (h : Keeps z s) :
    Keeps z (State.sendFrame s dst pdu) := by
  unfold State.sendFrame
  split
  · exact h
  · exact Keeps.recOut rfl rfl rfl rfl (List.prefix_append _ _) h

theorem State.dictCount_keeps {z : State} {s : State} {f : DictSt → DictSt} (h : Keeps z s) :
    Keeps z (State.dictCount s f) := by
  unfold State.dictCount
  with_reducible repeat' (first | assumption | refine Keeps.rec' rfl rfl rfl rfl rfl ?_)

theorem State.fieldServe_keeps {z : State} {s : State} {env : DictEnv} {src : Nat} {dst : Nat} {b : List Byte} (h : Keeps z s) :
    Keeps z (State.fieldServe s env src dst b) := by
  unfold State.fieldServe
  with_reducible repeat' (first
    | assumption | apply State.dictCount_keeps | apply State.dictServe_keeps | apply State.sendFrame_keeps | apply Keeps.fst | apply Keeps.ite
    | dsimp only | split)

theorem State.dictRequest_keeps {z : State} {s : State} {path : DictPath} {pdu : List Byte} {env : DictEnv} (h : Keeps z s) :
    Keeps z (State.dictRequest s path pdu env) := by
  unfold State.dictRequest
  with_reducible repeat' (first
    | assumption | apply State.dictServe_keeps | apply State.doePut_keeps | apply State.raise_keeps | apply State.wr_keeps
    | apply State.dictCount_keeps | apply State.fieldServe_keeps | apply Keeps.fst | apply Keeps.ite | dsimp only | split
    | refine Keeps.rec' rfl rfl rfl rfl rfl ?_)

theorem State.forgetMac_keeps {z : State} {s : State} {mac : Nat} (h : Keeps z s) :
    Keeps z (State.forgetMac s mac) := by
  unfold State.forgetMac
  with_reducible repeat' (first | assumption | dsimp only | refine Keeps.rec' rfl rfl rfl rfl rfl ?_)

theorem State.beaconTaken_keeps {z : State} {s : State} {src : Nat} {b : List Byte} (h : Keeps z s) :
    Keeps z (State.beaconTaken s src b) := by
  unfold State.beaconTaken
  with_reducible repeat' (first
    | assumption | apply State.dictCount_keeps | apply State.forgetMac_keeps | apply Keeps.ite | dsimp only | split
    | refine Keeps.rec' rfl rfl rfl rfl rfl ?_)

/-! Registers.lean -/

theorem State.placeWrite_keeps {z : State} {s : State} {pl : RegPlace} {v : Nat} {be : BitVec 4} (h : Keeps z s) :
    Keeps z (State.placeWrite s pl v be) := by
  unfold State.placeWrite
  with_reducible repeat' (first
    | assumption | apply State.urTaken_keeps | apply State.logUr_keeps | apply State.regWrite_keeps | apply State.msixWrite_keeps
    | apply State.refuseUr_keeps | apply Keeps.ite | dsimp only | split | refine Keeps.rec' rfl rfl rfl rfl rfl ?_)

end Sys2Proof.Machine
end

