-- ==== Sys2Proof/Laws/KeepsCommands.lean ====
section
/-! SUPPORT. What each command keeps (Keeps). -/

namespace Sys2Proof.Machine
open Reg

/-! Arb.lean -/

theorem execArbDecision_keeps {z : State} {i : Fin 52} {slots : List Nat} {s : State} (h : Keeps z s) :
    KeepsN z (execArbDecision i slots s) := by
  unfold execArbDecision
  with_reducible repeat' (first
    | assumption | apply State.arbApply_keeps | apply State.wr_keeps | apply State.setArb_keeps | apply State.bump_keeps | apply KeepsN.next
    | apply Keeps.ite | dsimp only | split)

theorem execArbCommit_keeps {z : State} {i : Fin 52} {s : State} (h : Keeps z s) :
    KeepsN z (execArbCommit i s) := by
  unfold execArbCommit
  with_reducible repeat' (first
    | assumption | apply State.wr_keeps | apply State.raise_keeps | apply State.setArb_keeps | apply KeepsN.next | dsimp only | split)

/-! Memory.lean -/

theorem execPortTrainingDone_keeps {z : State} {n : Lathe} {failed : Fin 32} {s : State} (h : Keeps z s) :
    KeepsN z (execPortTrainingDone n failed s) := by
  unfold execPortTrainingDone
  with_reducible repeat' (first
    | assumption | apply Keeps.refl | apply State.bootReady_keeps | apply State.wr_keeps | apply State.portFail_keeps | apply Keeps.foldl
    | apply KeepsN.next | apply Keeps.ite | intro _)

theorem execPortZeroingDone_keeps {z : State} {n : Lathe} {s : State} (h : Keeps z s) :
    KeepsN z (execPortZeroingDone n s) := by
  unfold execPortZeroingDone
  with_reducible repeat' (first
    | assumption | apply State.bootReady_keeps | apply State.wr_keeps | apply State.zeroPort_keeps | apply KeepsN.next | apply Keeps.ite)

theorem execRefreshRateUpdate_keeps {z : State} {n : Lathe} {modes : List (Fin 3)} {s : State} (h : Keeps z s) :
    KeepsN z (execRefreshRateUpdate n modes s) := by
  unfold execRefreshRateUpdate
  with_reducible repeat' (first | assumption | apply State.wr_keeps | apply KeepsN.next)

theorem execSelfRefreshEntry_keeps {z : State} {n : Lathe} {s : State} (h : Keeps z s) :
    KeepsN z (execSelfRefreshEntry n s) := by
  unfold execSelfRefreshEntry
  with_reducible repeat' (first | assumption | apply State.wr_keeps | apply KeepsN.next | apply Keeps.ite)

theorem execPortAccess_keeps {z : State} {rq : Requester} {n : Lathe} {addr : BitVec 36} {len : Fin 16777216} {data : Option (List Byte)} {s : State} (h : Keeps z s) :
    KeepsN z (execPortAccess rq n addr len data s) := by
  unfold execPortAccess
  with_reducible repeat' (first
    | assumption | apply State.portWrite_keeps | apply State.send_keeps | apply State.portRead_keeps | apply Keeps.fst | apply KeepsN.next
    | apply KeepsN.ite | dsimp only | split)

theorem execSramScrubWord_keeps {z : State} {unit : Fin 32} {s : State} (h : Keeps z s) :
    KeepsN z (execSramScrubWord unit s) := by
  unfold execSramScrubWord
  with_reducible repeat' (first
    | assumption | apply State.lsramCe_keeps | apply State.reportUe_keeps | apply State.scrubLsram_keeps | apply State.reportCe_keeps
    | apply State.scrubWay_keeps | apply KeepsN.next | apply Keeps.caseOf | apply Keeps.ite | apply KeepsN.ite | intro _)

theorem execPatrolScrubUnit_keeps {z : State} {n : Lathe} {s : State} (h : Keeps z s) :
    KeepsN z (execPatrolScrubUnit n s) := by
  unfold execPatrolScrubUnit
  repeat' (first
    | with_reducible assumption
    | with_reducible apply State.wakePort_keeps
    | with_reducible apply State.memLost_keeps
    | with_reducible apply State.reportLost_keeps
    | with_reducible apply State.countFixes_keeps
    | with_reducible apply State.wr_keeps
    | with_reducible apply State.patrolWrap_keeps
    | with_reducible apply KeepsN.next
    | with_reducible apply Keeps.ite
    | with_reducible apply KeepsN.ite
    | dsimp only
    | ((with_reducible apply Keeps.recMem); (with_reducible rfl); (with_reducible rfl); (with_reducible rfl); (with_reducible rfl); focus (intro hw; rw [Memory.wf_iff] at hw ⊢; obtain ⟨h1, h2, h3, h4, h5, h6, h7⟩ := hw; exact ⟨h1, Cells.wf_setList _ _ h2, h3, h4, h5, h6, h7⟩))
    )

theorem execRetireBlock_keeps {z : State} {n : Lathe} {s : State} (h : Keeps z s) :
    KeepsN z (execRetireBlock n s) := by
  unfold execRetireBlock
  repeat' (first
    | with_reducible assumption
    | with_reducible apply State.raise_keeps
    | with_reducible apply State.drew_keeps
    | with_reducible apply KeepsN.next
    | with_reducible apply KeepsN.ite
    | dsimp only
    | split
    | ((with_reducible apply Keeps.recMem); (with_reducible rfl); (with_reducible rfl); (with_reducible rfl); (with_reducible rfl); focus (intro hw; rw [Memory.wf_iff] at hw ⊢; obtain ⟨h1, h2, h3, h4, h5, h6, h7⟩ := hw; exact ⟨h1, h2, h3, h4, h5, h6, h7⟩))
    )

theorem execMemRetire_keeps {z : State} {n : Lathe} {block : Fin 16777216} {s : State} (h : Keeps z s) :
    KeepsN z (execMemRetire n block s) := by
  unfold execMemRetire
  with_reducible repeat' (first
    | assumption | apply State.raise_keeps | apply State.queueRetire_keeps | apply KeepsN.next | apply Keeps.ite)

theorem execRetireCopyDone_keeps {z : State} {n : Lathe} {s : State} (h : Keeps z s) :
    KeepsN z (execRetireCopyDone n s) := by
  unfold execRetireCopyDone
  split
  · exact .next h
  · refine .next (State.wr_keeps (State.raise_keeps (Keeps.congrMem h rfl rfl rfl rfl (fun hw => ?_))))
    rw [Memory.wf_iff] at hw ⊢
    dsimp only
    exact ⟨Cells.wf_copy _ _ _ hw.1, Cells.wf_setList _ _ hw.2.1, Cells.wf_copy _ _ _ hw.2.2.1, hw.2.2.2⟩

theorem execMemCommit_keeps {z : State} {n : Lathe} {s : State} (h : Keeps z s) :
    KeepsN z (execMemCommit n s) := by
  unfold execMemCommit
  with_reducible repeat' (first | assumption | apply State.memCommit_keeps | apply KeepsN.next)

theorem execKeyLoad_keeps {z : State} {p : Part} {k : Fin 2} {key : List Byte} {s : State} (h : Keeps z s) :
    KeepsN z (execKeyLoad p k key s) := by
  unfold execKeyLoad
  with_reducible repeat' (first | assumption | apply State.keyLoad_keeps | apply Keeps.fst | apply KeepsN.next)

theorem execKeyRotateStart_keeps {z : State} {p : Part} {s : State} (h : Keeps z s) :
    KeepsN z (execKeyRotateStart p s) := by
  unfold execKeyRotateStart
  with_reducible repeat' (first | assumption | apply State.rotateStart_keeps | apply Keeps.fst | apply KeepsN.next)

theorem execRotationSweepUnit_keeps {z : State} {n : Lathe} {s : State} (h : Keeps z s) :
    KeepsN z (execRotationSweepUnit n s) := by
  unfold execRotationSweepUnit
  with_reducible repeat' (first
    | assumption | apply State.readKeyWord_keeps | apply State.memLost_keeps | apply State.bump_keeps | apply State.storeUnit_keeps
    | apply State.reportLost_keeps | apply State.countFixes_keeps | apply State.wr_keeps | apply State.injectUnit_keeps | apply State.sweepsDone_keeps
    | apply KeepsN.next | apply Keeps.ite | apply KeepsN.ite | dsimp only | split)

theorem execRotationDrainDone_keeps {z : State} {p : Part} {s : State} (h : Keeps z s) :
    KeepsN z (execRotationDrainDone p s) := by
  unfold execRotationDrainDone
  with_reducible repeat' (first
    | assumption | apply State.wr_keeps | apply State.destroySlot_keeps | apply KeepsN.next | apply Keeps.ite)

theorem execKeyPcommit_keeps {z : State} {p : Part} {commit : Bool} {enable : Bool} {s : State} (h : Keeps z s) :
    KeepsN z (execKeyPcommit p commit enable s) := by
  unfold execKeyPcommit
  with_reducible repeat' (first
    | assumption | apply State.raise_keeps | apply State.keyCheckApply_keeps | apply State.wr_keeps | apply KeepsN.next | apply Keeps.ite | dsimp only
    | split | refine Keeps.rec' rfl rfl rfl rfl rfl ?_)

/-! PageTables.lean -/

theorem execPftCmdQueue_keeps {z : State} {w3 : Word} {s : State} (h : Keeps z s) :
    KeepsN z (execPftCmdQueue w3 s) := by
  unfold execPftCmdQueue
  with_reducible repeat' (first
    | assumption | apply State.raise_keeps | apply State.showPftQueue_keeps | apply KeepsN.next | apply Keeps.ite | dsimp only
    | refine Keeps.rec' rfl rfl rfl rfl rfl ?_)

theorem execPftRespRead_keeps {z : State} {s : State} (h : Keeps z s) :
    KeepsN z (execPftRespRead s) := by
  unfold execPftRespRead
  with_reducible repeat' (first
    | assumption | apply State.send_keeps | apply KeepsN.next | dsimp only | refine Keeps.rec' rfl rfl rfl rfl rfl ?_)

theorem execSlotOpen_keeps {z : State} {s : State} (h : Keeps z s) :
    KeepsN z (execSlotOpen s) := by
  unfold execSlotOpen
  with_reducible repeat' (first | assumption | apply State.runPft_keeps | apply pftOpen_keeps | apply KeepsN.next)

theorem execSlotPrepare_keeps {z : State} {s : State} (h : Keeps z s) :
    KeepsN z (execSlotPrepare s) := by
  unfold execSlotPrepare
  with_reducible repeat' (first | assumption | apply State.runPft_keeps | apply pftPrepare_keeps | apply KeepsN.next)

theorem execCommitLen_keeps {z : State} {s : State} (h : Keeps z s) :
    KeepsN z (execCommitLen s) := by
  unfold execCommitLen
  with_reducible repeat' (first | assumption | apply State.runPft_keeps | apply pftCommitLen_keeps | apply KeepsN.next)

theorem execSlotFork_keeps {z : State} {s : State} (h : Keeps z s) :
    KeepsN z (execSlotFork s) := by
  unfold execSlotFork
  with_reducible repeat' (first | assumption | apply State.runPft_keeps | apply pftFork_keeps | apply KeepsN.next)

theorem execSlotTruncate_keeps {z : State} {s : State} (h : Keeps z s) :
    KeepsN z (execSlotTruncate s) := by
  unfold execSlotTruncate
  with_reducible repeat' (first | assumption | apply State.runPft_keeps | apply pftTruncate_keeps | apply KeepsN.next)

theorem execSlotRelease_keeps {z : State} {s : State} (h : Keeps z s) :
    KeepsN z (execSlotRelease s) := by
  unfold execSlotRelease
  with_reducible repeat' (first | assumption | apply State.runPft_keeps | apply pftRelease_keeps | apply KeepsN.next)

theorem execPinTake_keeps {z : State} {s : State} (h : Keeps z s) :
    KeepsN z (execPinTake s) := by
  unfold execPinTake
  with_reducible repeat' (first | assumption | apply State.runPft_keeps | apply pftPin_keeps | apply KeepsN.next)

theorem execPinEnd_keeps {z : State} {s : State} (h : Keeps z s) :
    KeepsN z (execPinEnd s) := by
  unfold execPinEnd
  with_reducible repeat' (first | assumption | apply State.runPft_keeps | apply pftUnpin_keeps | apply KeepsN.next)

theorem execAbortStep_keeps {z : State} {s : State} (h : Keeps z s) :
    KeepsN z (execAbortStep s) := by
  unfold execAbortStep
  with_reducible repeat' (first | assumption | apply State.runPft_keeps | apply pftAbortStep_keeps | apply KeepsN.next)

theorem execRelink_keeps {z : State} {s : State} (h : Keeps z s) :
    KeepsN z (execRelink s) := by
  unfold execRelink
  with_reducible repeat' (first | assumption | apply State.runPft_keeps | apply pftRelink_keeps | apply KeepsN.next)

theorem execPinGenerationFlip_keeps {z : State} {p : Part} {s : State} (h : Keeps z s) :
    KeepsN z (execPinGenerationFlip p s) := by
  unfold execPinGenerationFlip
  with_reducible repeat' (first
    | assumption | apply State.showWalks_keeps | apply KeepsN.next | apply Keeps.ite | dsimp only | refine Keeps.rec' rfl rfl rfl rfl rfl ?_)

theorem execRetiredItemsFree_keeps {z : State} {p : Part} {s : State} (h : Keeps z s) :
    KeepsN z (execRetiredItemsFree p s) := by
  unfold execRetiredItemsFree
  with_reducible repeat' (first
    | assumption | apply Keeps.refl | apply State.freeItem_keeps | apply State.setRetired_keeps | (apply Keeps.okId1; assumption)
    | (apply Keeps.errId1; assumption) | apply KeepsN.next | apply Keeps.ite | apply KeepsR.foldlM | intro _ | split)

theorem execPftCommit_keeps {z : State} {p : Part} {commit : Bool} {enable : Bool} {s : State} (h : Keeps z s) :
    KeepsN z (execPftCommit p commit enable s) := by
  unfold execPftCommit
  with_reducible repeat' (first
    | assumption | apply State.raise_keeps | apply State.wr_keeps | apply State.applyShadows_keeps | apply KeepsN.next | apply Keeps.ite | split)

theorem execPftPoolReady_keeps {z : State} {p : Part} {s : State} (h : Keeps z s) :
    KeepsN z (execPftPoolReady p s) := by
  unfold execPftPoolReady
  with_reducible repeat' (first
    | assumption | apply State.portWrite_keeps | apply State.wr_keeps | apply Keeps.fst | apply KeepsN.next | apply Keeps.ite)

/-! Template.lean -/

theorem execTemplateDerived_keeps {z : State} {p : Part} {s : State} (h : Keeps z s) :
    KeepsN z (execTemplateDerived p s) := by
  unfold execTemplateDerived
  with_reducible repeat' (first
    | assumption | apply Keeps.refl | apply State.readTmpl_keeps | apply State.tmplBad_keeps | apply State.lsramWrite_keeps
    | apply State.setLoop_keeps | apply State.writePltWord_keeps | apply State.reassess_keeps | apply State.wr_keeps | apply Keeps.fst
    | (apply Keeps.of_pair; assumption) | apply Keeps.foldl | apply KeepsN.next | apply Keeps.ite | dsimp only | intro _ | split
    | refine Keeps.rec' rfl rfl rfl rfl rfl ?_)

/-! Sampling.lean -/

theorem execSamplePhase_keeps {z : State} {s : State} (h : Keeps z s) :
    KeepsN z (execSamplePhase s) := by
  unfold execSamplePhase
  with_reducible repeat' (first
    | assumption | apply State.showSmp_keeps | apply State.sampleAll_keeps | apply State.setLoop_keeps | apply State.samplePaths_keeps
    | apply Keeps.fst | apply KeepsN.next | dsimp only | split | refine Keeps.rec' rfl rfl rfl rfl rfl ?_)

theorem execSmpProfCommit_keeps {z : State} {profile : Fin 1024} {commit : Bool} {s : State} (h : Keeps z s) :
    KeepsN z (execSmpProfCommit profile commit s) := by
  unfold execSmpProfCommit
  with_reducible repeat' (first
    | assumption | apply State.profRefuse_keeps | apply State.wr_keeps | apply KeepsN.next | apply Keeps.ite | dsimp only | split
    | refine Keeps.rec' rfl rfl rfl rfl rfl ?_)

theorem execSmpCommit_keeps {z : State} {p : Part} {commit : Bool} {s : State} (h : Keeps z s) :
    KeepsN z (execSmpCommit p commit s) := by
  unfold execSmpCommit
  with_reducible repeat' (first
    | assumption | apply State.raise_keeps | apply State.smpApply_keeps | apply State.wr_keeps | apply State.setLoop_keeps | apply KeepsN.next
    | apply Keeps.ite | dsimp only | split)

/-! Lathe.lean -/

theorem execSeqGo_keeps {z : State} {n : Lathe} {by' : Driver} {len : Fin 4096} {buf : Bool} {s : State} (h : Keeps z s) :
    KeepsN z (execSeqGo n by' len buf s) := by
  unfold execSeqGo
  with_reducible repeat' (first
    | assumption | apply State.raise_keeps | apply State.goPlan_keeps | apply KeepsN.next | apply Keeps.ite)

theorem execSeqStop_keeps {z : State} {n : Lathe} {framOk : Bool} {s : State} (h : Keeps z s) :
    KeepsN z (execSeqStop n framOk s) := by
  unfold execSeqStop
  with_reducible repeat' (first
    | assumption | apply State.debugAccess_keeps | apply State.raise_keeps | apply State.lthBoundary_keeps | apply State.wr_keeps
    | apply State.setLth_keeps | apply State.stopInRun_keeps | apply Keeps.fst | apply KeepsN.next | apply Keeps.ite | apply KeepsP.ite
    | apply KeepsN.ite | apply KeepsP.pair)

theorem execSeqResume_keeps {z : State} {n : Lathe} {s : State} (h : Keeps z s) :
    KeepsN z (execSeqResume n s) := by
  unfold execSeqResume
  with_reducible repeat' (first | assumption | apply State.wr_keeps | apply KeepsN.next | apply Keeps.ite)

theorem execLreset_keeps {z : State} {n : Lathe} {s : State} (h : Keeps z s) :
    KeepsN z (execLreset n s) := by
  unfold execLreset
  with_reducible repeat' (first
    | assumption | apply State.lresetStart_keeps | apply State.raise_keeps | apply KeepsN.next | apply Keeps.ite)

theorem execLatheResetDone_keeps {z : State} {n : Lathe} {s : State} (h : Keeps z s) :
    KeepsN z (execLatheResetDone n s) := by
  unfold execLatheResetDone
  with_reducible repeat' (first
    | assumption | apply State.throttle_keeps | apply State.latheClear_keeps | apply KeepsN.next | apply Keeps.ite)

theorem execStepAbort_keeps {z : State} {n : Lathe} {s : State} (h : Keeps z s) :
    KeepsN z (execStepAbort n s) := by
  unfold execStepAbort
  with_reducible repeat' (first | assumption | apply State.stepAbort_keeps | apply KeepsN.next)

theorem execDescriptorDecode_keeps {z : State} {n : Lathe} {s : State} (h : Keeps z s) :
    KeepsN z (execDescriptorDecode n s) := by
  unfold execDescriptorDecode
  with_reducible repeat' (first
    | assumption | apply State.endDesc_keeps | apply State.lthBoundary_keeps | apply State.lsramRead_keeps | apply State.wr_keeps
    | apply State.setLth_keeps | apply Keeps.fst | apply KeepsN.next | apply KeepsN.ite)

theorem execRepetitionIssue_keeps {z : State} {n : Lathe} {s : State} (h : Keeps z s) :
    KeepsN z (execRepetitionIssue n s) := by
  unfold execRepetitionIssue
  with_reducible repeat' (first
    | assumption | apply State.wr_keeps | apply State.kickFrom_keeps | apply State.setLth_keeps | apply State.issueRep_keeps | apply Keeps.fst
    | apply KeepsN.next | apply Keeps.ite | apply KeepsN.ite | dsimp only | split)

theorem execKvLatch_keeps {z : State} {n : Lathe} {s : State} (h : Keeps z s) :
    KeepsN z (execKvLatch n s) := by
  unfold execKvLatch
  with_reducible repeat' (first
    | assumption | apply State.readOperands_keeps | apply State.setLth_keeps | apply State.atsLatch_keeps | apply State.wr_keeps
    | apply State.takePin_keeps | apply State.atsError_keeps | apply Keeps.fst | (apply Keeps.okFst3; assumption) | (apply Keeps.errFst3; assumption)
    | apply KeepsN.next | apply KeepsN.ite | dsimp only | split)

theorem execRepetitionComplete_keeps {z : State} {n : Lathe} {pipe : Fin 4} {s : State} (h : Keeps z s) :
    KeepsN z (execRepetitionComplete n pipe s) := by
  unfold execRepetitionComplete
  with_reducible repeat' (first
    | assumption | apply State.signals_keeps | apply State.setLth_keeps | apply State.wr_keeps | apply State.endPin_keeps
    | apply State.putStatus_keeps | apply State.planDone_keeps | apply State.stopInRun_keeps | apply Keeps.fst | apply KeepsN.next | apply Keeps.ite
    | apply KeepsN.ite | dsimp only | split)

theorem execDescriptorError_keeps {z : State} {n : Lathe} {s : State} (h : Keeps z s) :
    KeepsN z (execDescriptorError n s) := by
  unfold execDescriptorError
  with_reducible repeat' (first
    | assumption | apply State.endDesc_keeps | apply State.flagCode_keeps | apply State.putStatus_keeps | apply State.dropPins_keeps
    | apply State.setLth_keeps | apply KeepsN.next | apply KeepsN.ite | dsimp only | split)

theorem execWaitTimeout_keeps {z : State} {n : Lathe} {s : State} (h : Keeps z s) :
    KeepsN z (execWaitTimeout n s) := by
  unfold execWaitTimeout
  with_reducible repeat' (first | assumption | apply State.endDesc_keeps | apply KeepsN.next | apply Keeps.ite)

theorem execStepEpochOpen_keeps {z : State} {n : Lathe} {s : State} (h : Keeps z s) :
    KeepsN z (execStepEpochOpen n s) := by
  unfold execStepEpochOpen
  with_reducible repeat' (first
    | assumption | apply State.epochOpen_keeps | apply State.setLth_keeps | apply KeepsN.next | apply Keeps.ite)

theorem execLthCommit_keeps {z : State} {n : Lathe} {atEpoch : Bool} {s : State} (h : Keeps z s) :
    KeepsN z (execLthCommit n atEpoch s) := by
  unfold execLthCommit
  with_reducible repeat' (first | assumption | apply State.lthCommit_keeps | apply KeepsN.next)

theorem execEvtInc_keeps {z : State} {n : Lathe} {ctr : Fin 32} {amount : Fin 256} {s : State} (h : Keeps z s) :
    KeepsN z (execEvtInc n ctr amount s) := by
  unfold execEvtInc
  with_reducible repeat' (first | assumption | apply State.evtAdd_keeps | apply KeepsN.next)

theorem execLthDbgDataAccess_keeps {z : State} {n : Lathe} {write : Option Word} {framOk : Bool} {s : State} (h : Keeps z s) :
    KeepsN z (execLthDbgDataAccess n write framOk s) := by
  unfold execLthDbgDataAccess
  with_reducible repeat' (first
    | assumption | apply State.debugAccess_keeps | apply State.raise_keeps | apply State.send_keeps | apply State.lsramWrite_keeps
    | apply State.lsramRead_keeps | apply State.drew_keeps | apply Keeps.fst | apply KeepsN.next | apply Keeps.ite | apply KeepsP.ite
    | apply KeepsN.ite | dsimp only | split | apply KeepsP.pair)

theorem execDroopStretch_keeps {z : State} {n : Lathe} {s : State} (h : Keeps z s) :
    KeepsN z (execDroopStretch n s) := by
  unfold execDroopStretch
  with_reducible repeat' (first | assumption | apply State.wr_keeps | apply State.bump_keeps | apply KeepsN.next)

/-! Steps.lean -/

theorem execStepSelect_keeps {z : State} {p : Part} {s : State} (h : Keeps z s) :
    KeepsN z (execStepSelect p s) := by
  unfold execStepSelect
  with_reducible repeat' (first
    | assumption | apply State.useSlots_keeps | apply State.usePltWord_keeps | apply State.costUe_keeps | apply State.setLoop_keeps | apply Keeps.fst
    | apply KeepsN.next | apply Keeps.ite | dsimp only | refine Keeps.rec' rfl rfl rfl rfl rfl ?_)

theorem execStepPrepareDone_keeps {z : State} {p : Part} {s : State} (h : Keeps z s) :
    KeepsN z (execStepPrepareDone p s) := by
  unfold execStepPrepareDone
  with_reducible repeat' (first
    | assumption | apply Keeps.refl | apply State.prepareReq_keeps | apply State.showPlt_keeps | apply State.setLoop_keeps | apply Keeps.fst
    | apply KeepsN.next | apply Keeps.ite | apply KeepsP.foldl | dsimp only | intro _ | apply KeepsP.pair)

theorem execStepBuild_keeps {z : State} {p : Part} {s : State} (h : Keeps z s) :
    KeepsN z (execStepBuild p s) := by
  unfold execStepBuild
  with_reducible repeat' (first
    | assumption | apply Keeps.refl | apply State.rowTokens_keeps | apply State.readTmpl_keeps | apply State.buildLathe_keeps
    | apply State.setLoop_keeps | apply Keeps.fst | apply Keeps.foldl | apply KeepsN.next | apply Keeps.ite | apply KeepsP.foldl | dsimp only
    | intro _ | split | apply KeepsP.pair)

theorem execStepRelease_keeps {z : State} {p : Part} {s : State} (h : Keeps z s) :
    KeepsN z (execStepRelease p s) := by
  unfold execStepRelease
  with_reducible repeat' (first
    | assumption | apply Keeps.refl | apply State.profEpoch_keeps | apply State.keyEpoch_keeps | apply State.smpEpoch_keeps
    | apply State.pltEpoch_keeps | apply State.setLoop_keeps | apply State.openOn_keeps | apply State.toPhase_keeps | apply Keeps.foldl
    | apply KeepsN.next | apply Keeps.ite | intro _)

theorem execStepGo_keeps {z : State} {p : Part} {s : State} (h : Keeps z s) :
    KeepsN z (execStepGo p s) := by
  unfold execStepGo
  with_reducible repeat' (first
    | assumption | apply Keeps.refl | apply State.goPlan_keeps | apply State.toPhase_keeps | apply Keeps.foldl | apply KeepsN.next | apply Keeps.ite
    | intro _)

theorem execAckTimeout_keeps {z : State} {p : Part} {s : State} (h : Keeps z s) :
    KeepsN z (execAckTimeout p s) := by
  unfold execAckTimeout
  with_reducible repeat' (first
    | assumption | apply Keeps.refl | apply State.wr_keeps | apply State.setLth_keeps | apply State.dropPins_keeps | apply State.partitionStop_keeps
    | apply State.raise_keeps | apply Keeps.foldl | apply KeepsN.next | apply Keeps.ite | intro _)

theorem execStepRunEnd_keeps {z : State} {p : Part} {s : State} (h : Keeps z s) :
    KeepsN z (execStepRunEnd p s) := by
  unfold execStepRunEnd
  with_reducible repeat' (first
    | assumption | apply State.toPhase_keeps | apply State.showSmp_keeps | apply KeepsN.next | apply Keeps.ite | dsimp only
    | refine Keeps.rec' rfl rfl rfl rfl rfl ?_)

theorem execStepCommitGroupDone_keeps {z : State} {p : Part} {s : State} (h : Keeps z s) :
    KeepsN z (execStepCommitGroupDone p s) := by
  unfold execStepCommitGroupDone
  with_reducible repeat' (first
    | assumption | apply Keeps.refl | apply State.commitReq_keeps | apply State.setLoop_keeps | apply Keeps.fst | apply KeepsN.next | apply Keeps.ite
    | apply KeepsP.foldl | dsimp only | intro _ | apply KeepsP.pair)

theorem execCommitPoint_keeps {z : State} {p : Part} {s : State} (h : Keeps z s) :
    KeepsN z (execCommitPoint p s) := by
  unfold execCommitPoint
  with_reducible repeat' (first
    | assumption | apply Keeps.refl | apply State.setLoop_keeps | apply State.wr_keeps | apply State.sendRecord_keeps | apply State.bump_keeps
    | apply State.commitSlot_keeps | apply State.cancelsDone_keeps | apply State.closeSlot_keeps | apply State.closeSilent_keeps
    | apply State.setSlot_keeps | apply State.ttftMissed_keeps | apply State.settle_keeps | apply State.lateStep_keeps | apply Keeps.foldl
    | apply KeepsN.next | apply Keeps.ite | dsimp only | intro _)

theorem execStepErrorReport_keeps {z : State} {n : Lathe} {s : State} (h : Keeps z s) :
    KeepsN z (execStepErrorReport n s) := by
  unfold execStepErrorReport
  with_reducible repeat' (first
    | assumption | apply Keeps.refl | apply State.stepAbort_keeps | apply State.setLoop_keeps | apply Keeps.foldl | apply KeepsN.next
    | apply Keeps.ite | dsimp only | intro _ | split)

theorem execStepAbortEnd_keeps {z : State} {p : Part} {s : State} (h : Keeps z s) :
    KeepsN z (execStepAbortEnd p s) := by
  unfold execStepAbortEnd
  with_reducible repeat' (first
    | assumption | apply Keeps.refl | apply State.pftNow_keeps | apply pftAbortStep_keeps | apply State.record_keeps | apply State.setLoop_keeps
    | apply State.setSlot_keeps | apply State.closeSilent_keeps | apply State.settle_keeps | apply Keeps.fst | apply Keeps.foldl | apply KeepsN.next
    | apply Keeps.ite | dsimp only | intro _ | split)

/-! Serving.lean -/

theorem execPltCommit_keeps {z : State} {p : Part} {commit : Bool} {enable : Bool} {s : State} (h : Keeps z s) :
    KeepsN z (execPltCommit p commit enable s) := by
  unfold execPltCommit
  with_reducible repeat' (first | assumption | apply State.pltCommit_keeps | apply KeepsN.next | apply Keeps.ite)

theorem execSqTailWrite_keeps {z : State} {v : Part} {index : BitVec 16} {s : State} (h : Keeps z s) :
    KeepsN z (execSqTailWrite v index s) := by
  unfold execSqTailWrite
  with_reducible repeat' (first | assumption | apply State.wr_keeps | apply KeepsN.next)

theorem execSubmit_keeps {z : State} {p : Part} {e : Submission} {s : State} (h : Keeps z s) :
    KeepsN z (execSubmit p e s) := by
  unfold execSubmit
  with_reducible repeat' (first
    | assumption | apply State.sqTimedOut_keeps | apply State.useBucket_keeps | apply State.sqTake_keeps | apply State.submitRecord_keeps
    | apply State.countRefusal_keeps | apply State.openSlot_keeps | apply State.accept_keeps | apply Keeps.fst | apply KeepsN.next | apply Keeps.ite
    | dsimp only | split)

theorem execDraft_keeps {z : State} {p : Part} {slot : Fin 8192} {reqId : Word} {base : Fin 2097152} {tokens : List (Fin 262144)} {s : State} (h : Keeps z s) :
    KeepsN z (execDraft p slot reqId base tokens s) := by
  unfold execDraft
  with_reducible repeat' (first
    | assumption | apply State.sqTimedOut_keeps | apply State.setSlot_keeps | apply State.sqTake_keeps | apply KeepsN.next | apply Keeps.ite)

theorem execCancel_keeps {z : State} {p : Part} {slot : Fin 8192} {reqId : Word} {s : State} (h : Keeps z s) :
    KeepsN z (execCancel p slot reqId s) := by
  unfold execCancel
  with_reducible repeat' (first
    | assumption | apply State.sqTimedOut_keeps | apply State.sqTake_keeps | apply State.closeRecord_keeps | apply State.setSlot_keeps
    | apply KeepsN.next | apply Keeps.ite | split)

theorem execEntryBad_keeps {z : State} {p : Part} {bad : BadEntry} {s : State} (h : Keeps z s) :
    KeepsN z (execEntryBad p bad s) := by
  unfold execEntryBad
  with_reducible repeat' (first
    | assumption | apply State.sqTimedOut_keeps | apply State.submitRecord_keeps | apply State.sqTake_keeps | apply KeepsN.next | apply Keeps.ite
    | dsimp only | split)

theorem execTResRecompute_keeps {z : State} {p : Part} {why : Derate} {s : State} (h : Keeps z s) :
    KeepsN z (execTResRecompute p why s) := by
  unfold execTResRecompute
  with_reducible repeat' (first
    | assumption | apply Keeps.refl | apply State.setSlot_keeps | apply State.reassess_keeps | apply Keeps.foldl | apply KeepsN.next | apply Keeps.ite
    | dsimp only | intro _)

theorem execBucketRefill_keeps {z : State} {b : Fin 1024} {s : State} (h : Keeps z s) :
    KeepsN z (execBucketRefill b s) := by
  unfold execBucketRefill
  with_reducible repeat' (first
    | assumption | apply State.useBucket_keeps | apply State.setBucket_keeps | apply KeepsN.next | apply Keeps.ite)

theorem execBucketWrite_keeps {z : State} {value : Word} {s : State} (h : Keeps z s) :
    KeepsN z (execBucketWrite value s) := by
  unfold execBucketWrite
  with_reducible repeat' (first | assumption | apply State.setBucket_keeps | apply KeepsN.next | split)

theorem execPelotonSramUe_keeps {z : State} {w : PltWord} {s : State} (h : Keeps z s) :
    KeepsN z (execPelotonSramUe w s) := by
  unfold execPelotonSramUe
  with_reducible repeat' (first
    | assumption | apply State.reportUe_keeps | apply State.raise_keeps | apply State.slotUe_keeps | apply State.costUe_keeps
    | apply State.bucketUe_keeps | apply KeepsN.next | dsimp only | split | refine Keeps.rec' rfl rfl rfl rfl rfl ?_)

/-! Fabric.lean -/

theorem execFabCommit_keeps {z : State} {commit : Bool} {s : State} (h : Keeps z s) :
    KeepsN z (execFabCommit commit s) := by
  unfold execFabCommit
  with_reducible repeat' (first | assumption | apply State.fabCommit_keeps | apply KeepsN.next | apply Keeps.ite)

theorem execFabPcommit_keeps {z : State} {p : Part} {commit : Bool} {enable : Bool} {s : State} (h : Keeps z s) :
    KeepsN z (execFabPcommit p commit enable s) := by
  unfold execFabPcommit
  with_reducible repeat' (first | assumption | apply State.fabPcommit_keeps | apply KeepsN.next | apply Keeps.ite)

theorem execPlaneTrained_keeps {z : State} {pl : Fin 2} {s : State} (h : Keeps z s) :
    KeepsN z (execPlaneTrained pl s) := by
  unfold execPlaneTrained
  with_reducible repeat' (first
    | assumption | apply State.planeInjected_keeps | apply State.wr_keeps | apply KeepsN.next | apply Keeps.ite)

theorem execTrainingTimeout_keeps {z : State} {pl : Fin 2} {s : State} (h : Keeps z s) :
    KeepsN z (execTrainingTimeout pl s) := by
  unfold execTrainingTimeout
  with_reducible repeat' (first | assumption | apply State.planeTrain_keeps | apply KeepsN.next | apply Keeps.ite)

theorem execPlaneLock_keeps {z : State} {pl : Fin 2} {seq : Fin 1024} {s : State} (h : Keeps z s) :
    KeepsN z (execPlaneLock pl seq s) := by
  unfold execPlaneLock
  with_reducible repeat' (first
    | assumption | apply State.setLink_keeps | apply State.wr_keeps | apply KeepsN.next | apply Keeps.ite)

theorem execHelloRx_keeps {z : State} {pl : Fin 2} {h : Hello} {s : State} (hz : Keeps z s) :
    KeepsN z (execHelloRx pl h s) := by
  unfold execHelloRx
  with_reducible repeat' (first
    | assumption | apply State.wr_keeps | apply State.setLink_keeps | apply State.withReach_keeps | apply State.setReach_keeps
    | apply State.takeId_keeps | apply State.raise_keeps | apply State.idCheck_keeps | apply KeepsN.next | apply Keeps.ite | dsimp only | intro _)

theorem execHelloTx_keeps {z : State} {pl : Fin 2} {s : State} (h : Keeps z s) :
    KeepsN z (execHelloTx pl s) := by
  unfold execHelloTx
  with_reducible repeat' (first | assumption | apply State.send_keeps | apply KeepsN.next | apply Keeps.ite)

theorem execHelloTimeout_keeps {z : State} {pl : Fin 2} {s : State} (h : Keeps z s) :
    KeepsN z (execHelloTimeout pl s) := by
  unfold execHelloTimeout
  with_reducible repeat' (first | assumption | apply State.planeFall_keeps | apply KeepsN.next | apply Keeps.ite)

theorem execPlaneDown_keeps {z : State} {pl : Fin 2} {s : State} (h : Keeps z s) :
    KeepsN z (execPlaneDown pl s) := by
  unfold execPlaneDown
  with_reducible repeat' (first | assumption | apply State.planeFall_keeps | apply KeepsN.next | apply Keeps.ite)

theorem execCodewordRx_keeps {z : State} {pl : Fin 2} {seq : Fin 1024} {d : CwDecode} {s : State} (h : Keeps z s) :
    KeepsN z (execCodewordRx pl seq d s) := by
  unfold execCodewordRx
  with_reducible repeat' (first
    | assumption | apply State.cwInjected_keeps | apply State.setLink_keeps | apply State.reportUe_keeps | apply State.fabCount_keeps
    | apply State.planeFall_keeps | apply State.sendControl_keeps | apply State.reportCe_keeps | apply State.wr_keeps | apply Keeps.fst
    | apply KeepsN.next | apply Keeps.ite)

theorem execControlFlitRx_keeps {z : State} {pl : Fin 2} {ack : Fin 1024} {nack : Bool} {credits : List (Fin 65536)} {comps : List FabComp} {s : State} (h : Keeps z s) :
    KeepsN z (execControlFlitRx pl ack nack credits comps s) := by
  unfold execControlFlitRx
  with_reducible repeat' (first
    | assumption | apply Keeps.refl | apply State.setLink_keeps | apply State.fabCount_keeps | apply State.planeFall_keeps
    | apply State.compEntry_keeps | apply Keeps.foldl | apply KeepsN.next | apply Keeps.ite | intro _)

theorem execAckStallTimeout_keeps {z : State} {pl : Fin 2} {s : State} (h : Keeps z s) :
    KeepsN z (execAckStallTimeout pl s) := by
  unfold execAckStallTimeout
  with_reducible repeat' (first | assumption | apply State.planeFall_keeps | apply KeepsN.next | apply Keeps.ite)

theorem execPacketSend_keeps {z : State} {r : Fin 19} {cw : Fin 1024} {s : State} (h : Keeps z s) :
    KeepsN z (execPacketSend r cw s) := by
  unfold execPacketSend
  with_reducible repeat' (first
    | assumption | apply State.txDone_keeps | apply State.assemble_keeps | apply State.ingress_keeps | apply State.awaitTx_keeps
    | apply State.sendOn_keeps | apply Keeps.fst | apply KeepsN.next | apply Keeps.ite | dsimp only | split | refine Keeps.rec' rfl rfl rfl rfl rfl ?_)

theorem execE2eTimeout_keeps {z : State} {i : Nat} {s : State} (h : Keeps z s) :
    KeepsN z (execE2eTimeout i s) := by
  unfold execE2eTimeout
  with_reducible repeat' (first | assumption | apply State.txFailed_keeps | apply KeepsN.next | split)

theorem execFabricWriteRx_keeps {z : State} {pl : Fin 2} {k : FabPkt} {s : State} (h : Keeps z s) :
    KeepsN z (execFabricWriteRx pl k s) := by
  unfold execFabricWriteRx
  with_reducible repeat' (first | assumption | apply State.ingress_keeps | apply KeepsN.next | apply Keeps.ite)

theorem execFabricEventWrite_keeps {z : State} {pl : Fin 2} {k : FabPkt} {s : State} (h : Keeps z s) :
    KeepsN z (execFabricEventWrite pl k s) := by
  unfold execFabricEventWrite
  with_reducible repeat' (first | assumption | apply State.ingress_keeps | apply KeepsN.next | apply Keeps.ite)

theorem execBarrierArrival_keeps {z : State} {pl : Fin 2} {k : FabPkt} {s : State} (h : Keeps z s) :
    KeepsN z (execBarrierArrival pl k s) := by
  unfold execBarrierArrival
  with_reducible repeat' (first | assumption | apply State.ingress_keeps | apply KeepsN.next | apply Keeps.ite)

theorem execFabricReadReqRx_keeps {z : State} {pl : Fin 2} {k : FabPkt} {s : State} (h : Keeps z s) :
    KeepsN z (execFabricReadReqRx pl k s) := by
  unfold execFabricReadReqRx
  with_reducible repeat' (first | assumption | apply State.ingress_keeps | apply KeepsN.next | apply Keeps.ite)

theorem execFabricReadRespRx_keeps {z : State} {pl : Fin 2} {k : FabPkt} {s : State} (h : Keeps z s) :
    KeepsN z (execFabricReadRespRx pl k s) := by
  unfold execFabricReadRespRx
  with_reducible repeat' (first | assumption | apply State.ingress_keeps | apply KeepsN.next | apply Keeps.ite)

theorem execFabricReleaseRx_keeps {z : State} {pl : Fin 2} {k : FabPkt} {s : State} (h : Keeps z s) :
    KeepsN z (execFabricReleaseRx pl k s) := by
  unfold execFabricReleaseRx
  with_reducible repeat' (first | assumption | apply State.ingress_keeps | apply KeepsN.next | apply Keeps.ite)

theorem execCheckpointStart_keeps {z : State} {p : Part} {count : Fin 65536} {peer : Fin 128} {pull : Bool} {quiesce : Bool} {s : State} (h : Keeps z s) :
    KeepsN z (execCheckpointStart p count peer pull quiesce s) := by
  unfold execCheckpointStart
  with_reducible repeat' (first
    | assumption | apply State.wr_keeps | apply State.raise_keeps | apply State.ckStart_keeps | apply KeepsN.next | apply Keeps.ite)

theorem execCheckpointEnd_keeps {z : State} {p : Part} {s : State} (h : Keeps z s) :
    KeepsN z (execCheckpointEnd p s) := by
  unfold execCheckpointEnd
  with_reducible repeat' (first
    | assumption | apply State.wr_keeps | apply State.setCk_keeps | apply State.pulled_keeps | apply KeepsN.next | apply Keeps.ite | dsimp only
    | split)

/-! Hdma.lean -/

theorem execChannelFence_keeps {z : State} {ch : DmaCh} {s : State} (h : Keeps z s) :
    KeepsN z (execChannelFence ch s) := by
  unfold execChannelFence
  with_reducible repeat' (first
    | assumption | apply State.tensorFence_keeps | apply State.hostFence_keeps | apply KeepsN.next | split)

theorem execChannelUnfence_keeps {z : State} {ch : DmaCh} {s : State} (h : Keeps z s) :
    KeepsN z (execChannelUnfence ch s) := by
  unfold execChannelUnfence
  with_reducible repeat' (first
    | assumption | apply State.wr_keeps | apply State.hdmaFetch_keeps | apply KeepsN.next | apply Keeps.ite | dsimp only | split)

theorem execChannelDisable_keeps {z : State} {ch : DmaCh} {s : State} (h : Keeps z s) :
    KeepsN z (execChannelDisable ch s) := by
  unfold execChannelDisable
  with_reducible repeat' (first
    | assumption | apply State.tensorDisable_keeps | apply State.hostDisable_keeps | apply KeepsN.next | split)

theorem execChannelEnable_keeps {z : State} {ch : DmaCh} {s : State} (h : Keeps z s) :
    KeepsN z (execChannelEnable ch s) := by
  unfold execChannelEnable
  with_reducible repeat' (first
    | assumption | apply State.wr_keeps | apply State.setHState_keeps | apply KeepsN.next | apply Keeps.ite | split)

theorem execChannelCfgCommit_keeps {z : State} {ch : DmaCh} {s : State} (h : Keeps z s) :
    KeepsN z (execChannelCfgCommit ch s) := by
  unfold execChannelCfgCommit
  with_reducible repeat' (first
    | assumption | apply State.setTch_keeps | apply State.tdmaApply_keeps | apply State.setHch_keeps | apply State.hdmaApply_keeps | apply KeepsN.next
    | apply Keeps.ite | dsimp only | split)

theorem execHdmaDoorbell_keeps {z : State} {c : Fin 32} {fn : Func} {s : State} (h : Keeps z s) :
    KeepsN z (execHdmaDoorbell c fn s) := by
  unfold execHdmaDoorbell
  with_reducible repeat' (first
    | assumption | apply State.hdmaFetch_keeps | apply State.wr_keeps | apply State.logUr_keeps | apply KeepsN.next | apply Keeps.ite | dsimp only
    | split)

theorem execHdmaEntryFetch_keeps {z : State} {c : Fin 32} {words : List Word} {s : State} (h : Keeps z s) :
    KeepsN z (execHdmaEntryFetch c words s) := by
  unfold execHdmaEntryFetch
  with_reducible repeat' (first
    | assumption | apply State.hdmaHostInjected_keeps | apply State.hdmaRead_keeps | apply State.wr_keeps | apply State.setHState_keeps
    | apply State.setHch_keeps | (apply Keeps.okFst0; assumption) | (apply Keeps.okId0; assumption) | (apply Keeps.errFst0; assumption)
    | (apply Keeps.errId0; assumption) | apply KeepsN.next | apply Keeps.ite | apply KeepsN.ite | apply KeepsR.okPair | apply KeepsR.errId
    | apply KeepsR.ite | dsimp only | split)

theorem execHdmaTrigger_keeps {z : State} {c : Fin 32} {s : State} (h : Keeps z s) :
    KeepsN z (execHdmaTrigger c s) := by
  unfold execHdmaTrigger
  with_reducible repeat' (first
    | assumption | apply State.setVctx_keeps | apply State.setHState_keeps | apply State.setHch_keeps | apply KeepsN.next | apply Keeps.ite
    | dsimp only | split)

theorem execHdmaWriteback_keeps {z : State} {c : Fin 32} {host : List Byte} {s : State} (h : Keeps z s) :
    KeepsN z (execHdmaWriteback c host s) := by
  unfold execHdmaWriteback
  with_reducible repeat' (first
    | assumption | apply State.hdmaStatus_keeps | apply State.hdmaNext_keeps | apply State.hdmaMove_keeps | apply State.setHch_keeps
    | (apply Keeps.okFst0; assumption) | (apply Keeps.okId0; assumption) | (apply Keeps.errFst0; assumption) | (apply Keeps.errId0; assumption)
    | apply KeepsN.next | apply KeepsN.ite | dsimp only | split)

theorem execHdmaResume_keeps {z : State} {c : Fin 32} {s : State} (h : Keeps z s) :
    KeepsN z (execHdmaResume c s) := by
  unfold execHdmaResume
  with_reducible repeat' (first | assumption | apply State.hdmaFetch_keeps | apply KeepsN.next | apply Keeps.ite)

theorem execHdmaBusError_keeps {z : State} {cause : Fin 8} {addr : BitVec 64} {s : State} (h : Keeps z s) :
    KeepsN z (execHdmaBusError cause addr s) := by
  unfold execHdmaBusError
  with_reducible repeat' (first | assumption | apply State.hdmaStop_keeps | apply State.raiseIf_keeps | apply KeepsN.next)

theorem execHdmaRestart_keeps {z : State} {s : State} (h : Keeps z s) :
    KeepsN z (execHdmaRestart s) := by
  unfold execHdmaRestart
  with_reducible repeat' (first
    | assumption | apply State.hdmaRestarted_keeps | apply KeepsN.next | apply Keeps.ite | dsimp only | refine Keeps.rec' rfl rfl rfl rfl rfl ?_)

/-! Video.lean -/

theorem execVideoEngineAssign_keeps {z : State} {e : Fin 4} {part : Part} {assigned : Bool} {s : State} (h : Keeps z s) :
    KeepsN z (execVideoEngineAssign e part assigned s) := by
  unfold execVideoEngineAssign
  with_reducible repeat' (first | assumption | apply State.vidAssign_keeps | apply KeepsN.next)

theorem execVideoSramCleared_keeps {z : State} {e : Fin 4} {s : State} (h : Keeps z s) :
    KeepsN z (execVideoSramCleared e s) := by
  unfold execVideoSramCleared
  with_reducible repeat' (first
    | assumption | apply KeepsN.next | apply Keeps.ite | dsimp only | refine Keeps.rec' rfl rfl rfl rfl rfl ?_)

theorem execVidCtxCommit_keeps {z : State} {e : Fin 4} {k : Fin 16} {commit : Bool} {enable : Bool} {s : State} (h : Keeps z s) :
    KeepsN z (execVidCtxCommit e k commit enable s) := by
  unfold execVidCtxCommit
  with_reducible repeat' (first
    | assumption | apply State.vidDisable_keeps | apply State.raise_keeps | apply State.wr_keeps | apply State.applyShadows_keeps
    | apply State.showLoad_keeps | apply State.setVctx_keeps | apply KeepsN.next | apply Keeps.ite | dsimp only | split)

theorem execVideoRow_keeps {z : State} {e : Fin 4} {k : Fin 16} {work : RowWork} {s : State} (h : Keeps z s) :
    KeepsN z (execVideoRow e k work s) := by
  unfold execVideoRow
  with_reducible repeat' (first
    | assumption | apply State.decodeRow_keeps | apply State.encodeRow_keeps | (apply Keeps.okId0; assumption) | (apply Keeps.errId0; assumption)
    | apply KeepsN.next | apply KeepsN.ite | split)

theorem execFrameReport_keeps {z : State} {e : Fin 4} {k : Fin 16} {s : State} (h : Keeps z s) :
    KeepsN z (execFrameReport e k s) := by
  unfold execFrameReport
  with_reducible repeat' (first
    | assumption | apply State.reportFrame_keeps | apply State.setVctx_keeps | apply State.drew_keeps | apply State.bump_keeps
    | (apply Keeps.okId0; assumption) | (apply Keeps.errId0; assumption) | apply KeepsN.next | apply KeepsN.ite | dsimp only | split)

theorem execVidFlush_keeps {z : State} {e : Fin 4} {k : Fin 16} {s : State} (h : Keeps z s) :
    KeepsN z (execVidFlush e k s) := by
  unfold execVidFlush
  with_reducible repeat' (first
    | assumption | apply State.wr_keeps | apply State.setVctx_keeps | apply KeepsN.next | apply Keeps.ite)

theorem execVidResume_keeps {z : State} {e : Fin 4} {k : Fin 16} {s : State} (h : Keeps z s) :
    KeepsN z (execVidResume e k s) := by
  unfold execVidResume
  with_reducible repeat' (first
    | assumption | apply State.setVctx_keeps | apply State.vidResumed_keeps | apply KeepsN.next | apply Keeps.ite)

theorem execVidCtxSrc_keeps {z : State} {e : Fin 4} {k : Fin 16} {fn : Func} {slot : Fin 16} {rows16 : Fin 4096} {last : Bool} {force : Bool} {s : State} (h : Keeps z s) :
    KeepsN z (execVidCtxSrc e k fn slot rows16 last force s) := by
  unfold execVidCtxSrc
  with_reducible repeat' (first
    | assumption | apply State.vidSource_keeps | apply State.logUr_keeps | apply KeepsN.next | apply Keeps.ite | split)

/-! Reliability.lean -/

theorem execErrorReport_keeps {z : State} {site : Fin 112} {ue : Bool} {n : Fin 65536} {offset : Fin 536870912} {s : State} (h : Keeps z s) :
    KeepsN z (execErrorReport site ue n offset s) := by
  unfold execErrorReport
  with_reducible repeat' (first
    | assumption | apply State.reportUe_keeps | apply State.reportCe_keeps | apply KeepsN.next | apply Keeps.ite)

theorem execBucketRotate_keeps {z : State} {s : State} (h : Keeps z s) :
    KeepsN z (execBucketRotate s) := by
  unfold execBucketRotate
  with_reducible repeat' (first | assumption | apply State.rotateBuckets_keeps | apply KeepsN.next)

theorem execErrCommit_keeps {z : State} {commit : Bool} {s : State} (h : Keeps z s) :
    KeepsN z (execErrCommit commit s) := by
  unfold execErrCommit
  with_reducible repeat' (first | assumption | apply State.errCommit_keeps | apply KeepsN.next | apply Keeps.ite)

theorem execErrLogRead_keeps {z : State} {s : State} (h : Keeps z s) :
    KeepsN z (execErrLogRead s) := by
  unfold execErrLogRead
  with_reducible repeat' (first
    | assumption | apply State.send_keeps | apply State.wr_keeps | apply KeepsN.next | dsimp only | split | refine Keeps.rec' rfl rfl rfl rfl rfl ?_)

theorem execKatBackgroundStart_keeps {z : State} {n : Lathe} {s : State} (h : Keeps z s) :
    KeepsN z (execKatBackgroundStart n s) := by
  unfold execKatBackgroundStart
  with_reducible repeat' (first | assumption | apply State.katStart_keeps | apply KeepsN.next)

theorem execKatPassMissed_keeps {z : State} {n : Lathe} {s : State} (h : Keeps z s) :
    KeepsN z (execKatPassMissed n s) := by
  unfold execKatPassMissed
  with_reducible repeat' (first | assumption | apply State.raise_keeps | apply KeepsN.next | apply Keeps.ite)

theorem execKatResult_keeps {z : State} {n : Lathe} {t : Fin 8} {digest : Word} {s : State} (h : Keeps z s) :
    KeepsN z (execKatResult n t digest s) := by
  unfold execKatResult
  with_reducible repeat' (first
    | assumption | apply State.wr_keeps | apply State.katCell_keeps | apply State.katNext_keeps | apply State.katCount_keeps | apply Keeps.fst
    | apply KeepsN.next | apply Keeps.ite)

theorem execLatheRetire_keeps {z : State} {n : Lathe} {otpOk : Bool} {s : State} (h : Keeps z s) :
    KeepsN z (execLatheRetire n otpOk s) := by
  unfold execLatheRetire
  with_reducible repeat' (first | assumption | apply State.retireLathe_keeps | apply KeepsN.next | apply Keeps.ite | split)

theorem execMaintenanceWindow_keeps {z : State} {otpOk : Bool} {s : State} (h : Keeps z s) :
    KeepsN z (execMaintenanceWindow otpOk s) := by
  unfold execMaintenanceWindow
  with_reducible repeat' (first | assumption | apply State.maintenance_keeps | apply KeepsN.next)

theorem execLatheLift_keeps {z : State} {n : Lathe} {bad : BitVec 8} {otpOk : Bool} {s : State} (h : Keeps z s) :
    KeepsN z (execLatheLift n bad otpOk s) := by
  unfold execLatheLift
  with_reducible repeat' (first | assumption | apply State.lift_keeps | apply KeepsN.next)

theorem execLifetimeCommit_keeps {z : State} {s : State} (h : Keeps z s) :
    KeepsN z (execLifetimeCommit s) := by
  unfold execLifetimeCommit
  with_reducible repeat' (first | assumption | apply State.lifeCommit_keeps | apply KeepsN.next)

theorem execRestoreArm_keeps {z : State} {p : Part} {s : State} (h : Keeps z s) :
    KeepsN z (execRestoreArm p s) := by
  unfold execRestoreArm
  with_reducible repeat' (first | assumption | apply State.restoreArm_keeps | apply Keeps.fst | apply KeepsN.next)

theorem execRestoreStart_keeps {z : State} {p : Part} {s : State} (h : Keeps z s) :
    KeepsN z (execRestoreStart p s) := by
  unfold execRestoreStart
  with_reducible repeat' (first | assumption | apply State.restoreStart_keeps | apply Keeps.fst | apply KeepsN.next)

theorem execRestoreCommit_keeps {z : State} {p : Part} {s : State} (h : Keeps z s) :
    KeepsN z (execRestoreCommit p s) := by
  unfold execRestoreCommit
  with_reducible repeat' (first | assumption | apply State.restoreCommit_keeps | apply Keeps.fst | apply KeepsN.next)

theorem execRestoreAbort_keeps {z : State} {p : Part} {cmd : Bool} {s : State} (h : Keeps z s) :
    KeepsN z (execRestoreAbort p cmd s) := by
  unfold execRestoreAbort
  with_reducible repeat' (first
    | assumption | apply State.restoreStop_keeps | apply Keeps.fst | apply KeepsN.next | apply Keeps.ite)

/-! Partitions.lean -/

theorem execPartitionBuild_keeps {z : State} {p : Part} {k : Fin 7} {s : State} (h : Keeps z s) :
    KeepsN z (execPartitionBuild p k s) := by
  unfold execPartitionBuild
  with_reducible repeat' (first
    | assumption | apply State.buildCmd_keeps | apply State.buildStep_keeps | apply State.setPrt_keeps | apply State.tdStart_keeps | apply KeepsN.next
    | apply Keeps.ite)

theorem execPartitionTeardown_keeps {z : State} {p : Part} {k : Fin 7} {otpOk : Bool} {s : State} (h : Keeps z s) :
    KeepsN z (execPartitionTeardown p k otpOk s) := by
  unfold execPartitionTeardown
  with_reducible repeat' (first
    | assumption | apply State.tdCmd_keeps | apply State.tdRun_keeps | apply KeepsN.next | apply Keeps.ite)

theorem execTeardownFenceTimeout_keeps {z : State} {p : Part} {s : State} (h : Keeps z s) :
    KeepsN z (execTeardownFenceTimeout p s) := by
  unfold execTeardownFenceTimeout
  with_reducible repeat' (first
    | assumption | apply State.tdMark_keeps | apply State.tdDrop_keeps | apply State.tdFence_keeps | apply KeepsN.next | apply Keeps.ite)

theorem execTeardownComplete_keeps {z : State} {p : Part} {s : State} (h : Keeps z s) :
    KeepsN z (execTeardownComplete p s) := by
  unfold execTeardownComplete
  with_reducible repeat' (first
    | assumption | apply Keeps.refl | apply State.tdFree_keeps | apply State.tdMark_keeps | apply State.zeroPort_keeps | apply Keeps.foldl
    | apply KeepsN.next | apply Keeps.ite | intro _)

theorem execAttestationRequest_keeps {z : State} {rq : ReqPath} {nonce : List Byte} {s : State} (h : Keeps z s) :
    KeepsN z (execAttestationRequest rq nonce s) := by
  unfold execAttestationRequest
  with_reducible repeat' (first | assumption | apply State.makeReport_keeps | apply KeepsN.next)

theorem execKemRequest_keeps {z : State} {p : Part} {nonce : List Byte} {s : State} (h : Keeps z s) :
    KeepsN z (execKemRequest p nonce s) := by
  unfold execKemRequest
  with_reducible repeat' (first | assumption | apply State.doePut_keeps | apply State.drewMany_keeps | apply KeepsN.next | split)

theorem execKeyDelivery_keeps {z : State} {p : Part} {slot : Fin 2} {rotate : Bool} {buildId : Word} {ct : List Byte} {wrapped : List Byte} {s : State} (h : Keeps z s) :
    KeepsN z (execKeyDelivery p slot rotate buildId ct wrapped s) := by
  unfold execKeyDelivery
  with_reducible repeat' (first
    | assumption | apply State.keyDelivered_keeps | apply State.doePut_keeps | apply Keeps.fst | apply KeepsN.next)

theorem execOwnerChange_keeps {z : State} {digest : List Byte} {sig : List Byte} {s : State} (h : Keeps z s) :
    KeepsN z (execOwnerChange digest sig s) := by
  unfold execOwnerChange
  with_reducible repeat' (first | assumption | apply State.ownerChange_keeps | apply KeepsN.next)

theorem execDoeAbort_keeps {z : State} {fn : Func} {s : State} (h : Keeps z s) :
    KeepsN z (execDoeAbort fn s) := by
  unfold execDoeAbort
  with_reducible repeat' (first | assumption | apply KeepsN.next | dsimp only | refine Keeps.rec' rfl rfl rfl rfl rfl ?_)

theorem execDebugOpen_keeps {z : State} {framOk : Bool} {s : State} (h : Keeps z s) :
    KeepsN z (execDebugOpen framOk s) := by
  unfold execDebugOpen
  with_reducible repeat' (first
    | assumption | apply State.openSession_keeps | apply State.raise_keeps | apply KeepsN.next | apply Keeps.ite)

theorem execDebugClose_keeps {z : State} {s : State} (h : Keeps z s) :
    KeepsN z (execDebugClose s) := by
  unfold execDebugClose
  with_reducible repeat' (first | assumption | apply State.closeSession_keeps | apply KeepsN.next)

theorem execDebugSessionTimeout_keeps {z : State} {s : State} (h : Keeps z s) :
    KeepsN z (execDebugSessionTimeout s) := by
  unfold execDebugSessionTimeout
  with_reducible repeat' (first | assumption | apply State.closeSession_keeps | apply KeepsN.next)

theorem execDbgWayDataAccess_keeps {z : State} {write : Option Word} {framOk : Bool} {s : State} (h : Keeps z s) :
    KeepsN z (execDbgWayDataAccess write framOk s) := by
  unfold execDbgWayDataAccess
  with_reducible repeat' (first
    | assumption | apply State.debugAccess_keeps | apply State.wayWrite_keeps | apply State.send_keeps | apply State.wayRead_keeps
    | apply State.drew_keeps | apply Keeps.fst | apply KeepsN.next | apply Keeps.ite | apply KeepsP.ite | dsimp only | split | apply KeepsP.pair)

/-! HostIf.lean -/

theorem execPcieLinkUp_keeps {z : State} {speed : Fin 16} {width : Fin 16} {flit : Bool} {s : State} (h : Keeps z s) :
    KeepsN z (execPcieLinkUp speed width flit s) := by
  unfold execPcieLinkUp
  with_reducible repeat' (first | assumption | apply State.raiseIf_keeps | apply State.wr_keeps | apply KeepsN.next)

theorem execLinkLoss_keeps {z : State} {waiting : List HostReq} {s : State} (h : Keeps z s) :
    KeepsN z (execLinkLoss waiting s) := by
  unfold execLinkLoss
  with_reducible repeat' (first
    | assumption | apply Keeps.refl | apply State.raiseIf_keeps | apply State.hostReqFailed_keeps | apply State.linkDown_keeps | apply State.wr_keeps
    | apply Keeps.foldl | apply KeepsN.next | apply Keeps.ite | intro _)

theorem execReceivedTlpError_keeps {z : State} {poisoned : Bool} {read : Bool} {s : State} (h : Keeps z s) :
    KeepsN z (execReceivedTlpError poisoned read s) := by
  unfold execReceivedTlpError
  with_reducible repeat' (first
    | assumption | apply State.raise_keeps | apply State.send_keeps | apply KeepsN.next | apply Keeps.ite)

theorem execCompletionTimeout_keeps {z : State} {who : HostReq} {s : State} (h : Keeps z s) :
    KeepsN z (execCompletionTimeout who s) := by
  unfold execCompletionTimeout
  with_reducible repeat' (first | assumption | apply State.hostReqFailed_keeps | apply State.raise_keeps | apply KeepsN.next)

theorem execPf0ApertureAccess_keeps {z : State} {off : BitVec 36} {len : Fin 4097} {data : Option (List Byte)} {framOk : Bool} {s : State} (h : Keeps z s) :
    KeepsN z (execPf0ApertureAccess off len data framOk s) := by
  unfold execPf0ApertureAccess
  with_reducible repeat' (first
    | assumption | apply State.refuseUr_keeps | apply State.wr_keeps | apply State.refuseCa_keeps | apply State.debugAccess_keeps
    | apply State.cipherRead_keeps | apply State.apertureEnd_keeps | apply State.portWrite_keeps | apply State.portRead_keeps | apply Keeps.fst
    | apply KeepsN.next | apply Keeps.ite | dsimp only | split)

theorem execVfApertureAccess_keeps {z : State} {v : Part} {off : BitVec 34} {len : Fin 4097} {data : Option (List Byte)} {s : State} (h : Keeps z s) :
    KeepsN z (execVfApertureAccess v off len data s) := by
  unfold execVfApertureAccess
  with_reducible repeat' (first
    | assumption | apply State.refuseUr_keeps | apply State.wr_keeps | apply State.partWrite_keeps | apply State.apertureEnd_keeps
    | apply State.partRead_keeps | apply Keeps.fst | apply KeepsN.next | apply Keeps.ite | dsimp only | split)

theorem execVfFlr_keeps {z : State} {v : Part} {s : State} (h : Keeps z s) :
    KeepsN z (execVfFlr v s) := by
  unfold execVfFlr
  with_reducible repeat' (first | assumption | apply State.flr_keeps | apply KeepsN.next)

theorem execPfReset_keeps {z : State} {s : State} (h : Keeps z s) :
    KeepsN z (execPfReset s) := by
  unfold execPfReset
  with_reducible repeat' (first
    | assumption | apply Keeps.refl | apply State.flr_keeps | apply State.raise_keeps | apply State.mbxReset_keeps | apply State.wr_keeps
    | apply State.msixReset_keeps | apply State.clearRegs_keeps | apply Keeps.foldl | apply KeepsN.next | intro _)

theorem execRingEnable_keeps {z : State} {v : Part} {value : Word} {s : State} (h : Keeps z s) :
    KeepsN z (execRingEnable v value s) := by
  unfold execRingEnable
  with_reducible repeat' (first
    | assumption | apply Keeps.refl | apply State.raiseIf_keeps | apply State.wr_keeps | apply State.raise_keeps | apply State.ringsOn_keeps
    | apply Keeps.foldl | apply KeepsN.next | apply Keeps.ite | intro _ | split)

theorem execOqFreeWrite_keeps {z : State} {v : Part} {index : BitVec 16} {s : State} (h : Keeps z s) :
    KeepsN z (execOqFreeWrite v index s) := by
  unfold execOqFreeWrite
  with_reducible repeat' (first | assumption | apply State.wr_keeps | apply KeepsN.next)

theorem execEqHeadWrite_keeps {z : State} {v : Part} {index : BitVec 16} {s : State} (h : Keeps z s) :
    KeepsN z (execEqHeadWrite v index s) := by
  unfold execEqHeadWrite
  with_reducible repeat' (first | assumption | apply State.wr_keeps | apply KeepsN.next)

theorem execEventRecordWrite_keeps {z : State} {p : Part} {s : State} (h : Keeps z s) :
    KeepsN z (execEventRecordWrite p s) := by
  unfold execEventRecordWrite
  with_reducible repeat' (first
    | assumption | apply State.send_keeps | apply State.wr_keeps | apply State.recordsMoved_keeps | apply State.sendVec_keeps | apply KeepsN.next
    | apply Keeps.ite | dsimp only | split | refine Keeps.rec' rfl rfl rfl rfl rfl ?_)

theorem execSubmissionReadFault_keeps {z : State} {p : Part} {timeout : Bool} {s : State} (h : Keeps z s) :
    KeepsN z (execSubmissionReadFault p timeout s) := by
  unfold execSubmissionReadFault
  with_reducible repeat' (first | assumption | apply State.sqFault_keeps | apply State.raise_keeps | apply KeepsN.next)

theorem execMbxSend_keeps {z : State} {sender : Fin 12} {target : Fin 12} {word : Word} {s : State} (h : Keeps z s) :
    KeepsN z (execMbxSend sender target word s) := by
  unfold execMbxSend
  with_reducible repeat' (first
    | assumption | apply State.wr_keeps | apply State.raise_keeps | apply State.mbxChange_keeps | apply KeepsN.next | apply Keeps.ite | intro _)

theorem execMbxRing_keeps {z : State} {sender : Fin 12} {target : Fin 12} {bells : Word} {s : State} (h : Keeps z s) :
    KeepsN z (execMbxRing sender target bells s) := by
  unfold execMbxRing
  with_reducible repeat' (first
    | assumption | apply State.wr_keeps | apply State.raise_keeps | apply State.mbxChange_keeps | apply KeepsN.next | apply Keeps.ite | intro _)

theorem execMbxInDataRead_keeps {z : State} {t : Fin 12} {s : State} (h : Keeps z s) :
    KeepsN z (execMbxInDataRead t s) := by
  unfold execMbxInDataRead
  with_reducible repeat' (first | assumption | apply State.wr_keeps | apply State.send_keeps | apply KeepsN.next)

theorem execIrqFilterSettle_keeps {z : State} {src : Fin 112} {s : State} (h : Keeps z s) :
    KeepsN z (execIrqFilterSettle src s) := by
  unfold execIrqFilterSettle
  with_reducible repeat' (first | assumption | apply State.irqTick_keeps | apply State.wr_keeps | apply KeepsN.next)

theorem execIrqPendWrite_keeps {z : State} {w : Fin 4} {value : Word} {s : State} (h : Keeps z s) :
    KeepsN z (execIrqPendWrite w value s) := by
  unfold execIrqPendWrite
  with_reducible repeat' (first
    | assumption | apply State.irqWrite_keeps | apply State.irqTick_keeps | apply State.wr_keeps | apply KeepsN.next | intro _)

theorem execIrqClaim_keeps {z : State} {p : Fin 3} {soon : Bool} {s : State} (h : Keeps z s) :
    KeepsN z (execIrqClaim p soon s) := by
  unfold execIrqClaim
  with_reducible repeat' (first
    | assumption | apply State.irqTick_keeps | apply State.send_keeps | apply State.wr_keeps | apply KeepsN.next | apply Keeps.ite | dsimp only
    | split)

theorem execIrqDone_keeps {z : State} {p : Fin 3} {s : State} (h : Keeps z s) :
    KeepsN z (execIrqDone p s) := by
  unfold execIrqDone
  with_reducible repeat' (first | assumption | apply State.wr_keeps | apply State.irqTick_keeps | apply KeepsN.next)

/-! Thermal.lean -/

theorem execPowerComponentStep_keeps {z : State} {volts : Fin 8192} {watts : Fin 8192} {s : State} (h : Keeps z s) :
    KeepsN z (execPowerComponentStep volts watts s) := by
  unfold execPowerComponentStep
  with_reducible repeat' (first
    | assumption | apply State.wr_keeps | apply State.outputs_keeps | apply KeepsN.next | apply Keeps.ite)

theorem execBrake_keeps {z : State} {s : State} (h : Keeps z s) :
    KeepsN z (execBrake s) := by
  unfold execBrake
  with_reducible repeat' (first
    | assumption | apply State.outputs_keeps | apply State.wr_keeps | apply State.raise_keeps | apply KeepsN.next)

theorem execBrakeRelease_keeps {z : State} {watts : Fin 8192} {s : State} (h : Keeps z s) :
    KeepsN z (execBrakeRelease watts s) := by
  unfold execBrakeRelease
  with_reducible repeat' (first
    | assumption | apply State.wr_keeps | apply State.outputs_keeps | apply KeepsN.next | apply Keeps.ite)

theorem execInputLoss_keeps {z : State} {s : State} (h : Keeps z s) :
    KeepsN z (execInputLoss s) := by
  unfold execInputLoss
  with_reducible repeat' (first
    | assumption | apply State.wr_keeps | apply State.bump_keeps | apply State.raise_keeps | apply State.railsOff_keeps | apply State.computeOff_keeps
    | apply State.saveTandem_keeps | apply KeepsN.next | dsimp only | split | refine Keeps.rec' rfl rfl rfl rfl rfl ?_)

theorem execInputReturn_keeps {z : State} {u : StartUp} {s : State} (h : Keeps z s) :
    KeepsN z (execInputReturn u s) := by
  unfold execInputReturn
  with_reducible repeat' (first
    | assumption | apply State.moduleReset_keeps | apply KeepsN.next | apply Keeps.ite | dsimp only | refine Keeps.rec' rfl rfl rfl rfl rfl ?_)

theorem execRailPgoodTimeout_keeps {z : State} {rail : Fin 17} {u : StartUp} {s : State} (h : Keeps z s) :
    KeepsN z (execRailPgoodTimeout rail u s) := by
  unfold execRailPgoodTimeout
  with_reducible repeat' (first
    | assumption | apply State.wr_keeps | apply State.raise_keeps | apply State.railsOff_keeps | apply State.railsOn_keeps
    | apply State.selfTestFailed_keeps | apply KeepsN.next | apply Keeps.ite)

theorem execHoldupCharged_keeps {z : State} {otpOk : Bool} {s : State} (h : Keeps z s) :
    KeepsN z (execHoldupCharged otpOk s) := by
  unfold execHoldupCharged
  with_reducible repeat' (first
    | assumption | apply Keeps.refl | apply State.wr_keeps | apply State.otpLatheNext_keeps | apply Keeps.foldl | apply KeepsN.next | intro _)

theorem execCoolantComponentUpdate_keeps {z : State} {inlet : BitVec 12} {outlet : BitVec 12} {flow : Fin 512} {clear : Bool} {s : State} (h : Keeps z s) :
    KeepsN z (execCoolantComponentUpdate inlet outlet flow clear s) := by
  unfold execCoolantComponentUpdate
  with_reducible repeat' (first
    | assumption | apply State.coolant_keeps | apply State.wr_keeps | apply State.outputs_keeps | apply KeepsN.next | apply Keeps.ite)

theorem execFlowStop_keeps {z : State} {s : State} (h : Keeps z s) :
    KeepsN z (execFlowStop s) := by
  unfold execFlowStop
  with_reducible repeat' (first
    | assumption | apply State.wr_keeps | apply State.raise_keeps | apply State.levels_keeps | apply KeepsN.next)

theorem execFlowStopEnd_keeps {z : State} {flow : Fin 512} {s : State} (h : Keeps z s) :
    KeepsN z (execFlowStopEnd flow s) := by
  unfold execFlowStopEnd
  with_reducible repeat' (first
    | assumption | apply State.wr_keeps | apply State.outputs_keeps | apply KeepsN.next | apply Keeps.ite)

theorem execPairDifference_keeps {z : State} {pair : Fin 24} {a : BitVec 12} {b : BitVec 12} {lasted : Bool} {s : State} (h : Keeps z s) :
    KeepsN z (execPairDifference pair a b lasted s) := by
  unfold execPairDifference
  with_reducible repeat' (first
    | assumption | apply State.sample_keeps | apply State.wr_keeps | apply State.outputs_keeps | apply State.showTemps_keeps | apply State.raise_keeps
    | apply KeepsN.next | apply Keeps.ite | dsimp only | split | refine Keeps.rec' rfl rfl rfl rfl rfl ?_)

theorem execSensorInvalid_keeps {z : State} {i : Fin 64} {s : State} (h : Keeps z s) :
    KeepsN z (execSensorInvalid i s) := by
  unfold execSensorInvalid
  with_reducible repeat' (first
    | assumption | apply State.wr_keeps | apply State.outputs_keeps | apply State.showTemps_keeps | apply State.sensorBad_keeps | apply KeepsN.next
    | apply Keeps.ite)

theorem execLatheLevelStep_keeps {z : State} {who : Option Lathe} {readings : List (Fin 64 × BitVec 12)} {s : State} (h : Keeps z s) :
    KeepsN z (execLatheLevelStep who readings s) := by
  unfold execLatheLevelStep
  with_reducible repeat' (first
    | assumption | apply State.samples_keeps | apply State.outputs_keeps | apply State.wr_keeps | apply KeepsN.next | apply Keeps.ite | split)

theorem execThermalTrip_keeps {z : State} {i : Fin 64} {reading : BitVec 12} {s : State} (h : Keeps z s) :
    KeepsN z (execThermalTrip i reading s) := by
  unfold execThermalTrip
  with_reducible repeat' (first
    | assumption | apply State.trip_keeps | apply State.showTemps_keeps | apply State.sample_keeps | apply KeepsN.next | apply Keeps.ite)

theorem execAutoRestart_keeps {z : State} {u : StartUp} {s : State} (h : Keeps z s) :
    KeepsN z (execAutoRestart u s) := by
  unfold execAutoRestart
  with_reducible repeat' (first
    | assumption | apply State.moduleReset_keeps | apply State.lifeCommit_keeps | apply KeepsN.next | apply Keeps.ite)

theorem execKeepWarmTick_keeps {z : State} {s : State} (h : Keeps z s) :
    KeepsN z (execKeepWarmTick s) := by
  unfold execKeepWarmTick
  with_reducible repeat' (first
    | assumption | apply State.wr_keeps | apply State.warmCheck_keeps | apply State.drew_keeps | apply KeepsN.next | apply Keeps.ite)

theorem execThmCommit_keeps {z : State} {commit : Bool} {s : State} (h : Keeps z s) :
    KeepsN z (execThmCommit commit s) := by
  unfold execThmCommit
  with_reducible repeat' (first | assumption | apply State.thmCommit_keeps | apply KeepsN.next | apply Keeps.ite)

theorem execRaiseComputeRails_keeps {z : State} {inlet : BitVec 12} {outlet : BitVec 12} {flow : Fin 512} {u : StartUp} {s : State} (h : Keeps z s) :
    KeepsN z (execRaiseComputeRails inlet outlet flow u s) := by
  unfold execRaiseComputeRails
  with_reducible repeat' (first
    | assumption | apply State.coolant_keeps | apply State.wr_keeps | apply State.raise_keeps | apply State.computeUp_keeps | apply State.phase7_keeps
    | apply State.selfTestFailed_keeps | apply KeepsN.next | apply Keeps.ite)

theorem execHeartbeatSilent_keeps {z : State} {u : Fin 2} {wire : Bool} {mbx : Bool} {s : State} (h : Keeps z s) :
    KeepsN z (execHeartbeatSilent u wire mbx s) := by
  unfold execHeartbeatSilent
  with_reducible repeat' (first
    | assumption | apply State.wr_keeps | apply State.raiseIf_keeps | apply State.supFailed_keeps | apply KeepsN.next | apply Keeps.ite | dsimp only
    | split | refine Keeps.rec' rfl rfl rfl rfl rfl ?_)

theorem execSupervisorWatchdogExpiry_keeps {z : State} {u : Fin 2} {s : State} (h : Keeps z s) :
    KeepsN z (execSupervisorWatchdogExpiry u s) := by
  unfold execSupervisorWatchdogExpiry
  with_reducible repeat' (first
    | assumption | apply State.wr_keeps | apply State.mbxReset_keeps | apply KeepsN.next | dsimp only | split
    | refine Keeps.rec' rfl rfl rfl rfl rfl ?_)

theorem execTakeover_keeps {z : State} {readings : List (Fin 64 × BitVec 12)} {s : State} (h : Keeps z s) :
    KeepsN z (execTakeover readings s) := by
  unfold execTakeover
  with_reducible repeat' (first
    | assumption | apply State.wr_keeps | apply State.bump_keeps | apply State.becomeOwner_keeps | apply State.samples_keeps
    | apply State.loadTandem_keeps | apply KeepsN.next | apply Keeps.ite | split)

theorem execPlannedHandover_keeps {z : State} {readings : List (Fin 64 × BitVec 12)} {s : State} (h : Keeps z s) :
    KeepsN z (execPlannedHandover readings s) := by
  unfold execPlannedHandover
  with_reducible repeat' (first | assumption | apply State.handover_keeps | apply KeepsN.next)

theorem execSavedStateWrite_keeps {z : State} {s : State} (h : Keeps z s) :
    KeepsN z (execSavedStateWrite s) := by
  unfold execSavedStateWrite
  with_reducible repeat' (first | assumption | apply State.saveTandem_keeps | apply KeepsN.next | apply Keeps.ite)

theorem execSupervisorReload_keeps {z : State} {u : Fin 2} {testOk : Bool} {readings : List (Fin 64 × BitVec 12)} {s : State} (h : Keeps z s) :
    KeepsN z (execSupervisorReload u testOk readings s) := by
  unfold execSupervisorReload
  with_reducible repeat' (first
    | assumption | apply State.wr_keeps | apply State.supReleased_keeps | apply State.bump_keeps | apply State.handover_keeps
    | apply State.becomeOwner_keeps | apply State.samples_keeps | apply State.loadTandem_keeps | apply KeepsN.next | apply Keeps.ite | dsimp only
    | refine Keeps.rec' rfl rfl rfl rfl rfl ?_)

theorem execNoOwnerOverride_keeps {z : State} {s : State} (h : Keeps z s) :
    KeepsN z (execNoOwnerOverride s) := by
  unfold execNoOwnerOverride
  with_reducible repeat' (first
    | assumption | apply State.levels_keeps | apply State.wr_keeps | apply KeepsN.next | apply Keeps.ite)

theorem execNoOwnerRailRemoval_keeps {z : State} {s : State} (h : Keeps z s) :
    KeepsN z (execNoOwnerRailRemoval s) := by
  unfold execNoOwnerRailRemoval
  with_reducible repeat' (first | assumption | apply State.computeOff_keeps | apply KeepsN.next | apply Keeps.ite)

/-! Dict.lean -/

theorem execDictRead_keeps {z : State} {path : DictPath} {pdu : List Byte} {env : DictEnv} {s : State} (h : Keeps z s) :
    KeepsN z (execDictRead path pdu env s) := by
  unfold execDictRead
  with_reducible repeat' (first | assumption | apply State.dictRequest_keeps | apply KeepsN.next | apply Keeps.ite)

theorem execDictWrite_keeps {z : State} {path : DictPath} {pdu : List Byte} {env : DictEnv} {s : State} (h : Keeps z s) :
    KeepsN z (execDictWrite path pdu env s) := by
  unfold execDictWrite
  with_reducible repeat' (first | assumption | apply State.dictRequest_keeps | apply KeepsN.next | apply Keeps.ite)

theorem execDictDescribe_keeps {z : State} {path : DictPath} {pdu : List Byte} {env : DictEnv} {s : State} (h : Keeps z s) :
    KeepsN z (execDictDescribe path pdu env s) := by
  unfold execDictDescribe
  with_reducible repeat' (first | assumption | apply State.dictRequest_keeps | apply KeepsN.next | apply Keeps.ite)

theorem execSnapshotExpire_keeps {z : State} {rq : ReqPath} {idx : BitVec 16} {sub : Byte} {s : State} (h : Keeps z s) :
    KeepsN z (execSnapshotExpire rq idx sub s) := by
  unfold execSnapshotExpire
  with_reducible repeat' (first | assumption | apply State.snapDrop_keeps | apply KeepsN.next)

theorem execStagingExpire_keeps {z : State} {rq : ReqPath} {idx : BitVec 16} {sub : Byte} {s : State} (h : Keeps z s) :
    KeepsN z (execStagingExpire rq idx sub s) := by
  unfold execStagingExpire
  with_reducible repeat' (first | assumption | apply State.stagedDrop_keeps | apply KeepsN.next)

theorem execBeaconTx_keeps {z : State} {s : State} (h : Keeps z s) :
    KeepsN z (execBeaconTx s) := by
  unfold execBeaconTx
  with_reducible repeat' (first
    | assumption | apply State.dictCount_keeps | apply State.sendFrame_keeps | apply KeepsN.next | apply Keeps.ite)

theorem execBeaconRx_keeps {z : State} {src : BitVec 48} {good : Bool} {pdu : List Byte} {s : State} (h : Keeps z s) :
    KeepsN z (execBeaconRx src good pdu s) := by
  unfold execBeaconRx
  with_reducible repeat' (first
    | assumption | apply State.dictCount_keeps | apply State.beaconTaken_keeps | apply KeepsN.next | apply Keeps.ite)

theorem execPartnerLost_keeps {z : State} {k : Fin 32} {s : State} (h : Keeps z s) :
    KeepsN z (execPartnerLost k s) := by
  unfold execPartnerLost
  with_reducible repeat' (first
    | assumption | apply State.dictCount_keeps | apply State.forgetMac_keeps | apply KeepsN.next | apply Keeps.ite)

theorem execSettingsWrite_keeps {z : State} {readOk : Bool} {s : State} (h : Keeps z s) :
    KeepsN z (execSettingsWrite readOk s) := by
  unfold execSettingsWrite
  with_reducible repeat' (first
    | assumption | apply State.settingsWrite_keeps | apply Keeps.fst | apply KeepsN.next | apply Keeps.ite)

theorem execMirrorGo_keeps {z : State} {s : State} (h : Keeps z s) :
    KeepsN z (execMirrorGo s) := by
  unfold execMirrorGo
  with_reducible repeat' (first
    | assumption | apply State.raise_keeps | apply State.wr_keeps | apply KeepsN.next | apply Keeps.ite)

theorem execPlcaBeaconHeard_keeps {z : State} {s : State} (h : Keeps z s) :
    KeepsN z (execPlcaBeaconHeard s) := by
  unfold execPlcaBeaconHeard
  with_reducible repeat' (first | assumption | apply State.dictCount_keeps | apply KeepsN.next | apply Keeps.ite)

theorem execPlcaBeaconLost_keeps {z : State} {s : State} (h : Keeps z s) :
    KeepsN z (execPlcaBeaconLost s) := by
  unfold execPlcaBeaconLost
  with_reducible repeat' (first | assumption | apply State.dictCount_keeps | apply KeepsN.next | apply Keeps.ite)

/-! Registers.lean -/

theorem execRegisterWrite_keeps {z : State} {pl : RegPlace} {v : Word} {be : BitVec 4} {s : State} (h : Keeps z s) :
    KeepsN z (execRegisterWrite pl v be s) := by
  unfold execRegisterWrite
  with_reducible repeat' (first | assumption | apply State.placeWrite_keeps | apply KeepsN.next)

theorem execInjectionArm_keeps {z : State} {pl : RegPlace} {v : Word} {s : State} (h : Keeps z s) :
    KeepsN z (execInjectionArm pl v s) := by
  unfold execInjectionArm
  with_reducible repeat' (first | assumption | apply State.placeWrite_keeps | apply KeepsN.next | apply Keeps.ite)

theorem execRcFieldRead_keeps {z : State} {pl : RegPlace} {s : State} (h : Keeps z s) :
    KeepsN z (execRcFieldRead pl s) := by
  unfold execRcFieldRead
  with_reducible repeat' (first
    | assumption | apply State.urTaken_keeps | apply State.answerRead_keeps | apply State.rcClear_keeps | apply State.refuseUr_keeps
    | apply State.drew_keeps | apply KeepsN.next | apply Keeps.ite | split)

theorem execUnmappedAccess_keeps {z : State} {pl : RegPlace} {read : Bool} {s : State} (h : Keeps z s) :
    KeepsN z (execUnmappedAccess pl read s) := by
  unfold execUnmappedAccess
  with_reducible repeat' (first
    | assumption | apply State.urTaken_keeps | apply State.refuseUr_keeps | apply KeepsN.next | apply Keeps.ite)

theorem execLatchingLoRead_keeps {z : State} {c : Count64} {s : State} (h : Keeps z s) :
    KeepsN z (execLatchingLoRead c s) := by
  unfold execLatchingLoRead
  with_reducible repeat' (first
    | assumption | apply State.urTaken_keeps | apply State.send_keeps | apply State.wr_keeps | apply KeepsN.next | apply Keeps.ite)

/-! Tdma.lean -/

theorem execTdmaChKick_keeps {z : State} {g : Lathe} {c : Fin 4} {addr : Fin 16777216} {s : State} (h : Keeps z s) :
    KeepsN z (execTdmaChKick g c addr s) := by
  unfold execTdmaChKick
  with_reducible repeat' (first
    | assumption | apply State.raise_keeps | apply State.tdmaStart_keeps | apply KeepsN.next | apply Keeps.ite)

theorem execTdmaDescFetch_keeps {z : State} {g : Lathe} {c : Fin 4} {s : State} (h : Keeps z s) :
    KeepsN z (execTdmaDescFetch g c s) := by
  unfold execTdmaDescFetch
  with_reducible repeat' (first
    | assumption | apply State.tdmaStop_keeps | apply State.lsramRead_keeps | apply State.setTch_keeps | apply State.tdmaMove_keeps
    | apply State.tdmaDone_keeps | apply Keeps.fst | (apply Keeps.okId2; assumption) | (apply Keeps.errId2; assumption) | apply KeepsN.next
    | apply KeepsN.ite | split)

theorem execTdmaEventPulse_keeps {z : State} {g : Lathe} {c : Fin 4} {s : State} (h : Keeps z s) :
    KeepsN z (execTdmaEventPulse g c s) := by
  unfold execTdmaEventPulse
  with_reducible repeat' (first
    | assumption | apply State.tdmaMove_keeps | apply State.setTch_keeps | apply State.tdmaStop_keeps | apply State.pulse_keeps
    | apply State.tdmaDone_keeps | (apply Keeps.okId2; assumption) | (apply Keeps.errId2; assumption) | apply KeepsN.next | apply Keeps.ite
    | apply KeepsN.ite | apply KeepsR.okId | apply KeepsR.ite | dsimp only | split)

theorem execTdmaBusError_keeps {z : State} {g : Lathe} {cause : Fin 8} {addr : BitVec 64} {s : State} (h : Keeps z s) :
    KeepsN z (execTdmaBusError g cause addr s) := by
  unfold execTdmaBusError
  with_reducible repeat' (first | assumption | apply State.tdmaStop_keeps | apply KeepsN.next)

theorem execTdmaGrpClear_keeps {z : State} {g : Lathe} {s : State} (h : Keeps z s) :
    KeepsN z (execTdmaGrpClear g s) := by
  unfold execTdmaGrpClear
  with_reducible repeat' (first
    | assumption | apply State.tdmaUnstop_keeps | apply State.raise_keeps | apply KeepsN.next | apply Keeps.ite)

/-! Update.lean -/

theorem execPowerOnReset_keeps {z : State} {u : StartUp} {s : State} (h : Keeps z s) :
    KeepsN z (execPowerOnReset u s) := by
  unfold execPowerOnReset
  with_reducible repeat' (first | assumption | apply State.powerOn_keeps | apply KeepsN.next)

theorem execModuleReset_keeps {z : State} {c : Fin 6} {u : StartUp} {s : State} (h : Keeps z s) :
    KeepsN z (execModuleReset c u s) := by
  unfold execModuleReset
  with_reducible repeat' (first
    | assumption | apply State.moduleReset_keeps | apply State.lifeCommit_keeps | apply KeepsN.next | apply Keeps.ite)

theorem execGlbRst_keeps {z : State} {key : Word} {u : StartUp} {s : State} (h : Keeps z s) :
    KeepsN z (execGlbRst key u s) := by
  unfold execGlbRst
  with_reducible repeat' (first
    | assumption | apply State.moduleReset_keeps | apply State.lifeCommit_keeps | apply State.raise_keeps | apply KeepsN.next | apply Keeps.ite)

theorem execSvcWatchdogExpiry_keeps {z : State} {u : StartUp} {s : State} (h : Keeps z s) :
    KeepsN z (execSvcWatchdogExpiry u s) := by
  unfold execSvcWatchdogExpiry
  with_reducible repeat' (first | assumption | apply State.moduleReset_keeps | apply KeepsN.next)

theorem execTrialFailure_keeps {z : State} {u : StartUp} {s : State} (h : Keeps z s) :
    KeepsN z (execTrialFailure u s) := by
  unfold execTrialFailure
  with_reducible repeat' (first
    | assumption | apply State.moduleReset_keeps | apply State.lifeCommit_keeps | apply KeepsN.next | apply Keeps.ite)

theorem execUpdateHeader_keeps {z : State} {rq : ReqPath} {header : List Byte} {s : State} (h : Keeps z s) :
    KeepsN z (execUpdateHeader rq header s) := by
  unfold execUpdateHeader
  with_reducible repeat' (first | assumption | apply State.updHeader_keeps | apply Keeps.fst | apply KeepsN.next | apply Keeps.ite)

theorem execUpdateEraseDone_keeps {z : State} {s : State} (h : Keeps z s) :
    KeepsN z (execUpdateEraseDone s) := by
  unfold execUpdateEraseDone
  with_reducible repeat' (first | assumption | apply State.eraseDone_keeps | apply KeepsN.next)

theorem execUpdateBlock_keeps {z : State} {rq : ReqPath} {value : List Byte} {readOk : Bool} {s : State} (h : Keeps z s) :
    KeepsN z (execUpdateBlock rq value readOk s) := by
  unfold execUpdateBlock
  with_reducible repeat' (first | assumption | apply State.updBlock_keeps | apply Keeps.fst | apply KeepsN.next | apply Keeps.ite)

theorem execUpdateCmdReset_keeps {z : State} {u : StartUp} {s : State} (h : Keeps z s) :
    KeepsN z (execUpdateCmdReset u s) := by
  unfold execUpdateCmdReset
  with_reducible repeat' (first | assumption | apply State.updReset_keeps | apply Keeps.fst | apply KeepsN.next | apply Keeps.ite)

theorem execUpdateConfirm_keeps {z : State} {s : State} (h : Keeps z s) :
    KeepsN z (execUpdateConfirm s) := by
  unfold execUpdateConfirm
  with_reducible repeat' (first
    | assumption | apply State.updConfirm_keeps | apply Keeps.fst | apply KeepsN.next | apply Keeps.ite)

theorem execUpdateActivate_keeps {z : State} {rq : ReqPath} {applyOk : Bool} {u : StartUp} {s : State} (h : Keeps z s) :
    KeepsN z (execUpdateActivate rq applyOk u s) := by
  unfold execUpdateActivate
  with_reducible repeat' (first
    | assumption | apply State.updActivate_keeps | apply Keeps.fst | apply KeepsN.next | apply Keeps.ite)

theorem execUpdateFinish_keeps {z : State} {rq : ReqPath} {u : StartUp} {s : State} (h : Keeps z s) :
    KeepsN z (execUpdateFinish rq u s) := by
  unfold execUpdateFinish
  with_reducible repeat' (first | assumption | apply State.updFinish_keeps | apply Keeps.fst | apply KeepsN.next | apply Keeps.ite)

theorem execUpdateSkip_keeps {z : State} {rq : ReqPath} {id : Fin 16} {s : State} (h : Keeps z s) :
    KeepsN z (execUpdateSkip rq id s) := by
  unfold execUpdateSkip
  with_reducible repeat' (first | assumption | apply State.updSkip_keeps | apply Keeps.fst | apply KeepsN.next | apply Keeps.ite)

theorem execUpdateSkipDone_keeps {z : State} {readOk : Bool} {s : State} (h : Keeps z s) :
    KeepsN z (execUpdateSkipDone readOk s) := by
  unfold execUpdateSkipDone
  with_reducible repeat' (first | assumption | apply State.skipDone_keeps | apply KeepsN.next)

theorem execUpdateAbort_keeps {z : State} {s : State} (h : Keeps z s) :
    KeepsN z (execUpdateAbort s) := by
  unfold execUpdateAbort
  with_reducible repeat' (first | assumption | apply State.updAbort_keeps | apply Keeps.fst | apply KeepsN.next | apply Keeps.ite)

theorem execUpdateSessionTimeout_keeps {z : State} {s : State} (h : Keeps z s) :
    KeepsN z (execUpdateSessionTimeout s) := by
  unfold execUpdateSessionTimeout
  with_reducible repeat' (first | assumption | apply State.sessionEnd_keeps | apply KeepsN.next | apply Keeps.ite)

theorem execTrialHoursConfirm_keeps {z : State} {s : State} (h : Keeps z s) :
    KeepsN z (execTrialHoursConfirm s) := by
  unfold execTrialHoursConfirm
  with_reducible repeat' (first | assumption | apply State.confirm_keeps | apply KeepsN.next | apply Keeps.ite)

theorem execUpdateLock_keeps {z : State} {lock : Bool} {seq : Word} {sig : List Byte} {s : State} (h : Keeps z s) :
    KeepsN z (execUpdateLock lock seq sig s) := by
  unfold execUpdateLock
  with_reducible repeat' (first | assumption | apply State.updLock_keeps | apply Keeps.fst | apply KeepsN.next)

theorem execConfigRequest_keeps {z : State} {fn : Fin 9} {reg : Fin 1024} {write : Bool} {s : State} (h : Keeps z s) :
    KeepsN z (execConfigRequest fn reg write s) := by
  unfold execConfigRequest
  with_reducible repeat' (first | assumption | apply State.send_keeps | apply KeepsN.next | apply Keeps.ite)

theorem execLocatePinChange_keeps {z : State} {low : Bool} {s : State} (h : Keeps z s) :
    KeepsN z (execLocatePinChange low s) := by
  unfold execLocatePinChange
  with_reducible repeat' (first | assumption | apply KeepsN.next | dsimp only | refine Keeps.rec' rfl rfl rfl rfl rfl ?_)

/-! Tick.lean -/

theorem State.secondsPass_keeps {z s : State} {n : Nat} (h : Keeps z s) : Keeps z (s.secondsPass n) := by
  unfold State.secondsPass
  have h1 : Keeps z (({ s with boot := { s.boot with life := s.boot.life.secs s n } }).drewMany 16) :=
    State.drewMany_keeps (Keeps.congr h rfl rfl rfl rfl rfl)
  exact Keeps.ite (State.wr_keeps (Keeps.congr h1 rfl rfl rfl rfl rfl)) h1

theorem State.tick_keeps {z s : State} (h : Keeps z s) : Keeps z s.tick :=
  State.secondsPass_keeps (Keeps.congr h rfl rfl rfl rfl rfl)

end Sys2Proof.Machine
end

