-- ==== Sys2Proof/Laws/PerInstr.lean ====
section
/-! SUPPORT. Statements made constructor by constructor. This model names no such family (`per_instruction` in LAWS.json is empty): the
commands have no encoding, and what each command does is stated in Certificates/Slice0/Obligations.lean. -/
end

