-- ==== Sys2Proof/Laws/State.lean ====
section
/-! SUPPORT. State updates: what each leaves in every field, and what the readers answer after it. -/

namespace Sys2Proof.Machine
open Reg

/-! `wr` changes `regs` alone. -/

@[simp] theorem State.wr_is1T (s : State) (f : Fld) (v : Nat) : (s.wr f v).is1T = s.is1T := rfl
@[simp] theorem State.wr_eff (s : State) (f : Fld) (v : Nat) : (s.wr f v).eff = s.eff := rfl
@[simp] theorem State.wr_mem (s : State) (f : Fld) (v : Nat) : (s.wr f v).mem = s.mem := rfl
@[simp] theorem State.wr_keys (s : State) (f : Fld) (v : Nat) : (s.wr f v).keys = s.keys := rfl
@[simp] theorem State.wr_err (s : State) (f : Fld) (v : Nat) : (s.wr f v).err = s.err := rfl
@[simp] theorem State.wr_pft (s : State) (f : Fld) (v : Nat) : (s.wr f v).pft = s.pft := rfl
@[simp] theorem State.wr_smp (s : State) (f : Fld) (v : Nat) : (s.wr f v).smp = s.smp := rfl
@[simp] theorem State.wr_lathe (s : State) (f : Fld) (v : Nat) : (s.wr f v).lathe = s.lathe := rfl
@[simp] theorem State.wr_plt (s : State) (f : Fld) (v : Nat) : (s.wr f v).plt = s.plt := rfl
@[simp] theorem State.wr_thm (s : State) (f : Fld) (v : Nat) : (s.wr f v).thm = s.thm := rfl
@[simp] theorem State.wr_part (s : State) (f : Fld) (v : Nat) : (s.wr f v).part = s.part := rfl
@[simp] theorem State.wr_tdma (s : State) (f : Fld) (v : Nat) : (s.wr f v).tdma = s.tdma := rfl
@[simp] theorem State.wr_hdma (s : State) (f : Fld) (v : Nat) : (s.wr f v).hdma = s.hdma := rfl
@[simp] theorem State.wr_vid (s : State) (f : Fld) (v : Nat) : (s.wr f v).vid = s.vid := rfl
@[simp] theorem State.wr_arb (s : State) (f : Fld) (v : Nat) : (s.wr f v).arb = s.arb := rfl
@[simp] theorem State.wr_host (s : State) (f : Fld) (v : Nat) : (s.wr f v).host = s.host := rfl
@[simp] theorem State.wr_fab (s : State) (f : Fld) (v : Nat) : (s.wr f v).fab = s.fab := rfl
@[simp] theorem State.wr_boot (s : State) (f : Fld) (v : Nat) : (s.wr f v).boot = s.boot := rfl
@[simp] theorem State.wr_tdm (s : State) (f : Fld) (v : Nat) : (s.wr f v).tdm = s.tdm := rfl
@[simp] theorem State.wr_dict (s : State) (f : Fld) (v : Nat) : (s.wr f v).dict = s.dict := rfl
@[simp] theorem State.wr_evq (s : State) (f : Fld) (v : Nat) : (s.wr f v).evq = s.evq := rfl
@[simp] theorem State.wr_out (s : State) (f : Fld) (v : Nat) : (s.wr f v).out = s.out := rfl
@[simp] theorem State.wr_now (s : State) (f : Fld) (v : Nat) : (s.wr f v).now = s.now := rfl
@[simp] theorem State.wr_aon (s : State) (f : Fld) (v : Nat) : (s.wr f v).aon = s.aon := rfl
@[simp] theorem State.wr_cyc (s : State) (f : Fld) (v : Nat) : (s.wr f v).cyc = s.cyc := rfl
@[simp] theorem State.wr_atsBytes (s : State) (f : Fld) (v : Nat) : (s.wr f v).atsBytes = s.atsBytes := rfl
@[simp] theorem State.wr_freeCtr (s : State) (f : Fld) (v : Nat) : (s.wr f v).freeCtr = s.freeCtr := rfl
@[simp] theorem State.wr_ticks (s : State) (f : Fld) (v : Nat) : (s.wr f v).ticks = s.ticks := rfl
@[simp] theorem State.wr_pending (s : State) (f : Fld) (v : Nat) : (s.wr f v).pending = s.pending := rfl
@[simp] theorem State.wr_inEff (s : State) (f : Fld) (v : Nat) (g : Fld) : (s.wr f v).inEff g = s.inEff g := rfl
@[simp] theorem State.wr_lth (s : State) (f : Fld) (v : Nat) (k : Nat) : (s.wr f v).lth k = s.lth k := rfl

/-! `wrEff` changes `eff` alone. -/

@[simp] theorem State.wrEff_is1T (s : State) (f : Fld) (v : Nat) : (s.wrEff f v).is1T = s.is1T := rfl
@[simp] theorem State.wrEff_regs (s : State) (f : Fld) (v : Nat) : (s.wrEff f v).regs = s.regs := rfl
@[simp] theorem State.wrEff_mem (s : State) (f : Fld) (v : Nat) : (s.wrEff f v).mem = s.mem := rfl
@[simp] theorem State.wrEff_keys (s : State) (f : Fld) (v : Nat) : (s.wrEff f v).keys = s.keys := rfl
@[simp] theorem State.wrEff_err (s : State) (f : Fld) (v : Nat) : (s.wrEff f v).err = s.err := rfl
@[simp] theorem State.wrEff_pft (s : State) (f : Fld) (v : Nat) : (s.wrEff f v).pft = s.pft := rfl
@[simp] theorem State.wrEff_smp (s : State) (f : Fld) (v : Nat) : (s.wrEff f v).smp = s.smp := rfl
@[simp] theorem State.wrEff_lathe (s : State) (f : Fld) (v : Nat) : (s.wrEff f v).lathe = s.lathe := rfl
@[simp] theorem State.wrEff_plt (s : State) (f : Fld) (v : Nat) : (s.wrEff f v).plt = s.plt := rfl
@[simp] theorem State.wrEff_thm (s : State) (f : Fld) (v : Nat) : (s.wrEff f v).thm = s.thm := rfl
@[simp] theorem State.wrEff_part (s : State) (f : Fld) (v : Nat) : (s.wrEff f v).part = s.part := rfl
@[simp] theorem State.wrEff_tdma (s : State) (f : Fld) (v : Nat) : (s.wrEff f v).tdma = s.tdma := rfl
@[simp] theorem State.wrEff_hdma (s : State) (f : Fld) (v : Nat) : (s.wrEff f v).hdma = s.hdma := rfl
@[simp] theorem State.wrEff_vid (s : State) (f : Fld) (v : Nat) : (s.wrEff f v).vid = s.vid := rfl
@[simp] theorem State.wrEff_arb (s : State) (f : Fld) (v : Nat) : (s.wrEff f v).arb = s.arb := rfl
@[simp] theorem State.wrEff_host (s : State) (f : Fld) (v : Nat) : (s.wrEff f v).host = s.host := rfl
@[simp] theorem State.wrEff_fab (s : State) (f : Fld) (v : Nat) : (s.wrEff f v).fab = s.fab := rfl
@[simp] theorem State.wrEff_boot (s : State) (f : Fld) (v : Nat) : (s.wrEff f v).boot = s.boot := rfl
@[simp] theorem State.wrEff_tdm (s : State) (f : Fld) (v : Nat) : (s.wrEff f v).tdm = s.tdm := rfl
@[simp] theorem State.wrEff_dict (s : State) (f : Fld) (v : Nat) : (s.wrEff f v).dict = s.dict := rfl
@[simp] theorem State.wrEff_evq (s : State) (f : Fld) (v : Nat) : (s.wrEff f v).evq = s.evq := rfl
@[simp] theorem State.wrEff_out (s : State) (f : Fld) (v : Nat) : (s.wrEff f v).out = s.out := rfl
@[simp] theorem State.wrEff_now (s : State) (f : Fld) (v : Nat) : (s.wrEff f v).now = s.now := rfl
@[simp] theorem State.wrEff_aon (s : State) (f : Fld) (v : Nat) : (s.wrEff f v).aon = s.aon := rfl
@[simp] theorem State.wrEff_cyc (s : State) (f : Fld) (v : Nat) : (s.wrEff f v).cyc = s.cyc := rfl
@[simp] theorem State.wrEff_atsBytes (s : State) (f : Fld) (v : Nat) : (s.wrEff f v).atsBytes = s.atsBytes := rfl
@[simp] theorem State.wrEff_freeCtr (s : State) (f : Fld) (v : Nat) : (s.wrEff f v).freeCtr = s.freeCtr := rfl
@[simp] theorem State.wrEff_ticks (s : State) (f : Fld) (v : Nat) : (s.wrEff f v).ticks = s.ticks := rfl
@[simp] theorem State.wrEff_pending (s : State) (f : Fld) (v : Nat) : (s.wrEff f v).pending = s.pending := rfl
@[simp] theorem State.wrEff_rd (s : State) (f : Fld) (v : Nat) (g : Fld) : (s.wrEff f v).rd g = s.rd g := rfl
@[simp] theorem State.wrEff_flag (s : State) (f : Fld) (v : Nat) (g : Fld) : (s.wrEff f v).flag g = s.flag g := rfl
@[simp] theorem State.wrEff_lth (s : State) (f : Fld) (v : Nat) (k : Nat) : (s.wrEff f v).lth k = s.lth k := rfl

/-! `raise` changes `regs` alone. -/

@[simp] theorem State.raise_is1T (s : State) (f : Fld) : (s.raise f).is1T = s.is1T := rfl
@[simp] theorem State.raise_eff (s : State) (f : Fld) : (s.raise f).eff = s.eff := rfl
@[simp] theorem State.raise_mem (s : State) (f : Fld) : (s.raise f).mem = s.mem := rfl
@[simp] theorem State.raise_keys (s : State) (f : Fld) : (s.raise f).keys = s.keys := rfl
@[simp] theorem State.raise_err (s : State) (f : Fld) : (s.raise f).err = s.err := rfl
@[simp] theorem State.raise_pft (s : State) (f : Fld) : (s.raise f).pft = s.pft := rfl
@[simp] theorem State.raise_smp (s : State) (f : Fld) : (s.raise f).smp = s.smp := rfl
@[simp] theorem State.raise_lathe (s : State) (f : Fld) : (s.raise f).lathe = s.lathe := rfl
@[simp] theorem State.raise_plt (s : State) (f : Fld) : (s.raise f).plt = s.plt := rfl
@[simp] theorem State.raise_thm (s : State) (f : Fld) : (s.raise f).thm = s.thm := rfl
@[simp] theorem State.raise_part (s : State) (f : Fld) : (s.raise f).part = s.part := rfl
@[simp] theorem State.raise_tdma (s : State) (f : Fld) : (s.raise f).tdma = s.tdma := rfl
@[simp] theorem State.raise_hdma (s : State) (f : Fld) : (s.raise f).hdma = s.hdma := rfl
@[simp] theorem State.raise_vid (s : State) (f : Fld) : (s.raise f).vid = s.vid := rfl
@[simp] theorem State.raise_arb (s : State) (f : Fld) : (s.raise f).arb = s.arb := rfl
@[simp] theorem State.raise_host (s : State) (f : Fld) : (s.raise f).host = s.host := rfl
@[simp] theorem State.raise_fab (s : State) (f : Fld) : (s.raise f).fab = s.fab := rfl
@[simp] theorem State.raise_boot (s : State) (f : Fld) : (s.raise f).boot = s.boot := rfl
@[simp] theorem State.raise_tdm (s : State) (f : Fld) : (s.raise f).tdm = s.tdm := rfl
@[simp] theorem State.raise_dict (s : State) (f : Fld) : (s.raise f).dict = s.dict := rfl
@[simp] theorem State.raise_evq (s : State) (f : Fld) : (s.raise f).evq = s.evq := rfl
@[simp] theorem State.raise_out (s : State) (f : Fld) : (s.raise f).out = s.out := rfl
@[simp] theorem State.raise_now (s : State) (f : Fld) : (s.raise f).now = s.now := rfl
@[simp] theorem State.raise_aon (s : State) (f : Fld) : (s.raise f).aon = s.aon := rfl
@[simp] theorem State.raise_cyc (s : State) (f : Fld) : (s.raise f).cyc = s.cyc := rfl
@[simp] theorem State.raise_atsBytes (s : State) (f : Fld) : (s.raise f).atsBytes = s.atsBytes := rfl
@[simp] theorem State.raise_freeCtr (s : State) (f : Fld) : (s.raise f).freeCtr = s.freeCtr := rfl
@[simp] theorem State.raise_ticks (s : State) (f : Fld) : (s.raise f).ticks = s.ticks := rfl
@[simp] theorem State.raise_pending (s : State) (f : Fld) : (s.raise f).pending = s.pending := rfl
@[simp] theorem State.raise_inEff (s : State) (f : Fld) (g : Fld) : (s.raise f).inEff g = s.inEff g := rfl
@[simp] theorem State.raise_lth (s : State) (f : Fld) (k : Nat) : (s.raise f).lth k = s.lth k := rfl

/-! `bump` changes `regs` alone. -/

@[simp] theorem State.bump_is1T (s : State) (f : Fld) (n : Nat) : (s.bump f n).is1T = s.is1T := rfl
@[simp] theorem State.bump_eff (s : State) (f : Fld) (n : Nat) : (s.bump f n).eff = s.eff := rfl
@[simp] theorem State.bump_mem (s : State) (f : Fld) (n : Nat) : (s.bump f n).mem = s.mem := rfl
@[simp] theorem State.bump_keys (s : State) (f : Fld) (n : Nat) : (s.bump f n).keys = s.keys := rfl
@[simp] theorem State.bump_err (s : State) (f : Fld) (n : Nat) : (s.bump f n).err = s.err := rfl
@[simp] theorem State.bump_pft (s : State) (f : Fld) (n : Nat) : (s.bump f n).pft = s.pft := rfl
@[simp] theorem State.bump_smp (s : State) (f : Fld) (n : Nat) : (s.bump f n).smp = s.smp := rfl
@[simp] theorem State.bump_lathe (s : State) (f : Fld) (n : Nat) : (s.bump f n).lathe = s.lathe := rfl
@[simp] theorem State.bump_plt (s : State) (f : Fld) (n : Nat) : (s.bump f n).plt = s.plt := rfl
@[simp] theorem State.bump_thm (s : State) (f : Fld) (n : Nat) : (s.bump f n).thm = s.thm := rfl
@[simp] theorem State.bump_part (s : State) (f : Fld) (n : Nat) : (s.bump f n).part = s.part := rfl
@[simp] theorem State.bump_tdma (s : State) (f : Fld) (n : Nat) : (s.bump f n).tdma = s.tdma := rfl
@[simp] theorem State.bump_hdma (s : State) (f : Fld) (n : Nat) : (s.bump f n).hdma = s.hdma := rfl
@[simp] theorem State.bump_vid (s : State) (f : Fld) (n : Nat) : (s.bump f n).vid = s.vid := rfl
@[simp] theorem State.bump_arb (s : State) (f : Fld) (n : Nat) : (s.bump f n).arb = s.arb := rfl
@[simp] theorem State.bump_host (s : State) (f : Fld) (n : Nat) : (s.bump f n).host = s.host := rfl
@[simp] theorem State.bump_fab (s : State) (f : Fld) (n : Nat) : (s.bump f n).fab = s.fab := rfl
@[simp] theorem State.bump_boot (s : State) (f : Fld) (n : Nat) : (s.bump f n).boot = s.boot := rfl
@[simp] theorem State.bump_tdm (s : State) (f : Fld) (n : Nat) : (s.bump f n).tdm = s.tdm := rfl
@[simp] theorem State.bump_dict (s : State) (f : Fld) (n : Nat) : (s.bump f n).dict = s.dict := rfl
@[simp] theorem State.bump_evq (s : State) (f : Fld) (n : Nat) : (s.bump f n).evq = s.evq := rfl
@[simp] theorem State.bump_out (s : State) (f : Fld) (n : Nat) : (s.bump f n).out = s.out := rfl
@[simp] theorem State.bump_now (s : State) (f : Fld) (n : Nat) : (s.bump f n).now = s.now := rfl
@[simp] theorem State.bump_aon (s : State) (f : Fld) (n : Nat) : (s.bump f n).aon = s.aon := rfl
@[simp] theorem State.bump_cyc (s : State) (f : Fld) (n : Nat) : (s.bump f n).cyc = s.cyc := rfl
@[simp] theorem State.bump_atsBytes (s : State) (f : Fld) (n : Nat) : (s.bump f n).atsBytes = s.atsBytes := rfl
@[simp] theorem State.bump_freeCtr (s : State) (f : Fld) (n : Nat) : (s.bump f n).freeCtr = s.freeCtr := rfl
@[simp] theorem State.bump_ticks (s : State) (f : Fld) (n : Nat) : (s.bump f n).ticks = s.ticks := rfl
@[simp] theorem State.bump_pending (s : State) (f : Fld) (n : Nat) : (s.bump f n).pending = s.pending := rfl
@[simp] theorem State.bump_inEff (s : State) (f : Fld) (n : Nat) (g : Fld) : (s.bump f n).inEff g = s.inEff g := rfl
@[simp] theorem State.bump_lth (s : State) (f : Fld) (n : Nat) (k : Nat) : (s.bump f n).lth k = s.lth k := rfl

/-! `drew` changes `freeCtr` alone. -/

@[simp] theorem State.drew_is1T (s : State) : (s.drew).is1T = s.is1T := rfl
@[simp] theorem State.drew_regs (s : State) : (s.drew).regs = s.regs := rfl
@[simp] theorem State.drew_eff (s : State) : (s.drew).eff = s.eff := rfl
@[simp] theorem State.drew_mem (s : State) : (s.drew).mem = s.mem := rfl
@[simp] theorem State.drew_keys (s : State) : (s.drew).keys = s.keys := rfl
@[simp] theorem State.drew_err (s : State) : (s.drew).err = s.err := rfl
@[simp] theorem State.drew_pft (s : State) : (s.drew).pft = s.pft := rfl
@[simp] theorem State.drew_smp (s : State) : (s.drew).smp = s.smp := rfl
@[simp] theorem State.drew_lathe (s : State) : (s.drew).lathe = s.lathe := rfl
@[simp] theorem State.drew_plt (s : State) : (s.drew).plt = s.plt := rfl
@[simp] theorem State.drew_thm (s : State) : (s.drew).thm = s.thm := rfl
@[simp] theorem State.drew_part (s : State) : (s.drew).part = s.part := rfl
@[simp] theorem State.drew_tdma (s : State) : (s.drew).tdma = s.tdma := rfl
@[simp] theorem State.drew_hdma (s : State) : (s.drew).hdma = s.hdma := rfl
@[simp] theorem State.drew_vid (s : State) : (s.drew).vid = s.vid := rfl
@[simp] theorem State.drew_arb (s : State) : (s.drew).arb = s.arb := rfl
@[simp] theorem State.drew_host (s : State) : (s.drew).host = s.host := rfl
@[simp] theorem State.drew_fab (s : State) : (s.drew).fab = s.fab := rfl
@[simp] theorem State.drew_boot (s : State) : (s.drew).boot = s.boot := rfl
@[simp] theorem State.drew_tdm (s : State) : (s.drew).tdm = s.tdm := rfl
@[simp] theorem State.drew_dict (s : State) : (s.drew).dict = s.dict := rfl
@[simp] theorem State.drew_evq (s : State) : (s.drew).evq = s.evq := rfl
@[simp] theorem State.drew_out (s : State) : (s.drew).out = s.out := rfl
@[simp] theorem State.drew_now (s : State) : (s.drew).now = s.now := rfl
@[simp] theorem State.drew_aon (s : State) : (s.drew).aon = s.aon := rfl
@[simp] theorem State.drew_cyc (s : State) : (s.drew).cyc = s.cyc := rfl
@[simp] theorem State.drew_atsBytes (s : State) : (s.drew).atsBytes = s.atsBytes := rfl
@[simp] theorem State.drew_ticks (s : State) : (s.drew).ticks = s.ticks := rfl
@[simp] theorem State.drew_pending (s : State) : (s.drew).pending = s.pending := rfl
@[simp] theorem State.drew_rd (s : State) (g : Fld) : (s.drew).rd g = s.rd g := rfl
@[simp] theorem State.drew_flag (s : State) (g : Fld) : (s.drew).flag g = s.flag g := rfl
@[simp] theorem State.drew_inEff (s : State) (g : Fld) : (s.drew).inEff g = s.inEff g := rfl
@[simp] theorem State.drew_lth (s : State) (k : Nat) : (s.drew).lth k = s.lth k := rfl

/-! `setLth` changes `lathe` alone. -/

@[simp] theorem State.setLth_is1T (s : State) (n : Nat) (x : LatheSt) : (s.setLth n x).is1T = s.is1T := rfl
@[simp] theorem State.setLth_regs (s : State) (n : Nat) (x : LatheSt) : (s.setLth n x).regs = s.regs := rfl
@[simp] theorem State.setLth_eff (s : State) (n : Nat) (x : LatheSt) : (s.setLth n x).eff = s.eff := rfl
@[simp] theorem State.setLth_mem (s : State) (n : Nat) (x : LatheSt) : (s.setLth n x).mem = s.mem := rfl
@[simp] theorem State.setLth_keys (s : State) (n : Nat) (x : LatheSt) : (s.setLth n x).keys = s.keys := rfl
@[simp] theorem State.setLth_err (s : State) (n : Nat) (x : LatheSt) : (s.setLth n x).err = s.err := rfl
@[simp] theorem State.setLth_pft (s : State) (n : Nat) (x : LatheSt) : (s.setLth n x).pft = s.pft := rfl
@[simp] theorem State.setLth_smp (s : State) (n : Nat) (x : LatheSt) : (s.setLth n x).smp = s.smp := rfl
@[simp] theorem State.setLth_plt (s : State) (n : Nat) (x : LatheSt) : (s.setLth n x).plt = s.plt := rfl
@[simp] theorem State.setLth_thm (s : State) (n : Nat) (x : LatheSt) : (s.setLth n x).thm = s.thm := rfl
@[simp] theorem State.setLth_part (s : State) (n : Nat) (x : LatheSt) : (s.setLth n x).part = s.part := rfl
@[simp] theorem State.setLth_tdma (s : State) (n : Nat) (x : LatheSt) : (s.setLth n x).tdma = s.tdma := rfl
@[simp] theorem State.setLth_hdma (s : State) (n : Nat) (x : LatheSt) : (s.setLth n x).hdma = s.hdma := rfl
@[simp] theorem State.setLth_vid (s : State) (n : Nat) (x : LatheSt) : (s.setLth n x).vid = s.vid := rfl
@[simp] theorem State.setLth_arb (s : State) (n : Nat) (x : LatheSt) : (s.setLth n x).arb = s.arb := rfl
@[simp] theorem State.setLth_host (s : State) (n : Nat) (x : LatheSt) : (s.setLth n x).host = s.host := rfl
@[simp] theorem State.setLth_fab (s : State) (n : Nat) (x : LatheSt) : (s.setLth n x).fab = s.fab := rfl
@[simp] theorem State.setLth_boot (s : State) (n : Nat) (x : LatheSt) : (s.setLth n x).boot = s.boot := rfl
@[simp] theorem State.setLth_tdm (s : State) (n : Nat) (x : LatheSt) : (s.setLth n x).tdm = s.tdm := rfl
@[simp] theorem State.setLth_dict (s : State) (n : Nat) (x : LatheSt) : (s.setLth n x).dict = s.dict := rfl
@[simp] theorem State.setLth_evq (s : State) (n : Nat) (x : LatheSt) : (s.setLth n x).evq = s.evq := rfl
@[simp] theorem State.setLth_out (s : State) (n : Nat) (x : LatheSt) : (s.setLth n x).out = s.out := rfl
@[simp] theorem State.setLth_now (s : State) (n : Nat) (x : LatheSt) : (s.setLth n x).now = s.now := rfl
@[simp] theorem State.setLth_aon (s : State) (n : Nat) (x : LatheSt) : (s.setLth n x).aon = s.aon := rfl
@[simp] theorem State.setLth_cyc (s : State) (n : Nat) (x : LatheSt) : (s.setLth n x).cyc = s.cyc := rfl
@[simp] theorem State.setLth_atsBytes (s : State) (n : Nat) (x : LatheSt) : (s.setLth n x).atsBytes = s.atsBytes := rfl
@[simp] theorem State.setLth_freeCtr (s : State) (n : Nat) (x : LatheSt) : (s.setLth n x).freeCtr = s.freeCtr := rfl
@[simp] theorem State.setLth_ticks (s : State) (n : Nat) (x : LatheSt) : (s.setLth n x).ticks = s.ticks := rfl
@[simp] theorem State.setLth_pending (s : State) (n : Nat) (x : LatheSt) : (s.setLth n x).pending = s.pending := rfl
@[simp] theorem State.setLth_rd (s : State) (n : Nat) (x : LatheSt) (g : Fld) : (s.setLth n x).rd g = s.rd g := rfl
@[simp] theorem State.setLth_flag (s : State) (n : Nat) (x : LatheSt) (g : Fld) : (s.setLth n x).flag g = s.flag g := rfl
@[simp] theorem State.setLth_inEff (s : State) (n : Nat) (x : LatheSt) (g : Fld) : (s.setLth n x).inEff g = s.inEff g := rfl

/-! `setTch` changes `tdma` alone. -/

@[simp] theorem State.setTch_is1T (s : State) (j c : Nat) (x : TdmaCh) : (s.setTch j c x).is1T = s.is1T := rfl
@[simp] theorem State.setTch_regs (s : State) (j c : Nat) (x : TdmaCh) : (s.setTch j c x).regs = s.regs := rfl
@[simp] theorem State.setTch_eff (s : State) (j c : Nat) (x : TdmaCh) : (s.setTch j c x).eff = s.eff := rfl
@[simp] theorem State.setTch_mem (s : State) (j c : Nat) (x : TdmaCh) : (s.setTch j c x).mem = s.mem := rfl
@[simp] theorem State.setTch_keys (s : State) (j c : Nat) (x : TdmaCh) : (s.setTch j c x).keys = s.keys := rfl
@[simp] theorem State.setTch_err (s : State) (j c : Nat) (x : TdmaCh) : (s.setTch j c x).err = s.err := rfl
@[simp] theorem State.setTch_pft (s : State) (j c : Nat) (x : TdmaCh) : (s.setTch j c x).pft = s.pft := rfl
@[simp] theorem State.setTch_smp (s : State) (j c : Nat) (x : TdmaCh) : (s.setTch j c x).smp = s.smp := rfl
@[simp] theorem State.setTch_lathe (s : State) (j c : Nat) (x : TdmaCh) : (s.setTch j c x).lathe = s.lathe := rfl
@[simp] theorem State.setTch_plt (s : State) (j c : Nat) (x : TdmaCh) : (s.setTch j c x).plt = s.plt := rfl
@[simp] theorem State.setTch_thm (s : State) (j c : Nat) (x : TdmaCh) : (s.setTch j c x).thm = s.thm := rfl
@[simp] theorem State.setTch_part (s : State) (j c : Nat) (x : TdmaCh) : (s.setTch j c x).part = s.part := rfl
@[simp] theorem State.setTch_hdma (s : State) (j c : Nat) (x : TdmaCh) : (s.setTch j c x).hdma = s.hdma := rfl
@[simp] theorem State.setTch_vid (s : State) (j c : Nat) (x : TdmaCh) : (s.setTch j c x).vid = s.vid := rfl
@[simp] theorem State.setTch_arb (s : State) (j c : Nat) (x : TdmaCh) : (s.setTch j c x).arb = s.arb := rfl
@[simp] theorem State.setTch_host (s : State) (j c : Nat) (x : TdmaCh) : (s.setTch j c x).host = s.host := rfl
@[simp] theorem State.setTch_fab (s : State) (j c : Nat) (x : TdmaCh) : (s.setTch j c x).fab = s.fab := rfl
@[simp] theorem State.setTch_boot (s : State) (j c : Nat) (x : TdmaCh) : (s.setTch j c x).boot = s.boot := rfl
@[simp] theorem State.setTch_tdm (s : State) (j c : Nat) (x : TdmaCh) : (s.setTch j c x).tdm = s.tdm := rfl
@[simp] theorem State.setTch_dict (s : State) (j c : Nat) (x : TdmaCh) : (s.setTch j c x).dict = s.dict := rfl
@[simp] theorem State.setTch_evq (s : State) (j c : Nat) (x : TdmaCh) : (s.setTch j c x).evq = s.evq := rfl
@[simp] theorem State.setTch_out (s : State) (j c : Nat) (x : TdmaCh) : (s.setTch j c x).out = s.out := rfl
@[simp] theorem State.setTch_now (s : State) (j c : Nat) (x : TdmaCh) : (s.setTch j c x).now = s.now := rfl
@[simp] theorem State.setTch_aon (s : State) (j c : Nat) (x : TdmaCh) : (s.setTch j c x).aon = s.aon := rfl
@[simp] theorem State.setTch_cyc (s : State) (j c : Nat) (x : TdmaCh) : (s.setTch j c x).cyc = s.cyc := rfl
@[simp] theorem State.setTch_atsBytes (s : State) (j c : Nat) (x : TdmaCh) : (s.setTch j c x).atsBytes = s.atsBytes := rfl
@[simp] theorem State.setTch_freeCtr (s : State) (j c : Nat) (x : TdmaCh) : (s.setTch j c x).freeCtr = s.freeCtr := rfl
@[simp] theorem State.setTch_ticks (s : State) (j c : Nat) (x : TdmaCh) : (s.setTch j c x).ticks = s.ticks := rfl
@[simp] theorem State.setTch_pending (s : State) (j c : Nat) (x : TdmaCh) : (s.setTch j c x).pending = s.pending := rfl
@[simp] theorem State.setTch_rd (s : State) (j c : Nat) (x : TdmaCh) (g : Fld) : (s.setTch j c x).rd g = s.rd g := rfl
@[simp] theorem State.setTch_flag (s : State) (j c : Nat) (x : TdmaCh) (g : Fld) : (s.setTch j c x).flag g = s.flag g := rfl
@[simp] theorem State.setTch_inEff (s : State) (j c : Nat) (x : TdmaCh) (g : Fld) : (s.setTch j c x).inEff g = s.inEff g := rfl
@[simp] theorem State.setTch_lth (s : State) (j c : Nat) (x : TdmaCh) (k : Nat) : (s.setTch j c x).lth k = s.lth k := rfl

/-! `setHch` changes `hdma` alone. -/

@[simp] theorem State.setHch_is1T (s : State) (c : Nat) (x : HdmaCh) : (s.setHch c x).is1T = s.is1T := rfl
@[simp] theorem State.setHch_regs (s : State) (c : Nat) (x : HdmaCh) : (s.setHch c x).regs = s.regs := rfl
@[simp] theorem State.setHch_eff (s : State) (c : Nat) (x : HdmaCh) : (s.setHch c x).eff = s.eff := rfl
@[simp] theorem State.setHch_mem (s : State) (c : Nat) (x : HdmaCh) : (s.setHch c x).mem = s.mem := rfl
@[simp] theorem State.setHch_keys (s : State) (c : Nat) (x : HdmaCh) : (s.setHch c x).keys = s.keys := rfl
@[simp] theorem State.setHch_err (s : State) (c : Nat) (x : HdmaCh) : (s.setHch c x).err = s.err := rfl
@[simp] theorem State.setHch_pft (s : State) (c : Nat) (x : HdmaCh) : (s.setHch c x).pft = s.pft := rfl
@[simp] theorem State.setHch_smp (s : State) (c : Nat) (x : HdmaCh) : (s.setHch c x).smp = s.smp := rfl
@[simp] theorem State.setHch_lathe (s : State) (c : Nat) (x : HdmaCh) : (s.setHch c x).lathe = s.lathe := rfl
@[simp] theorem State.setHch_plt (s : State) (c : Nat) (x : HdmaCh) : (s.setHch c x).plt = s.plt := rfl
@[simp] theorem State.setHch_thm (s : State) (c : Nat) (x : HdmaCh) : (s.setHch c x).thm = s.thm := rfl
@[simp] theorem State.setHch_part (s : State) (c : Nat) (x : HdmaCh) : (s.setHch c x).part = s.part := rfl
@[simp] theorem State.setHch_tdma (s : State) (c : Nat) (x : HdmaCh) : (s.setHch c x).tdma = s.tdma := rfl
@[simp] theorem State.setHch_vid (s : State) (c : Nat) (x : HdmaCh) : (s.setHch c x).vid = s.vid := rfl
@[simp] theorem State.setHch_arb (s : State) (c : Nat) (x : HdmaCh) : (s.setHch c x).arb = s.arb := rfl
@[simp] theorem State.setHch_host (s : State) (c : Nat) (x : HdmaCh) : (s.setHch c x).host = s.host := rfl
@[simp] theorem State.setHch_fab (s : State) (c : Nat) (x : HdmaCh) : (s.setHch c x).fab = s.fab := rfl
@[simp] theorem State.setHch_boot (s : State) (c : Nat) (x : HdmaCh) : (s.setHch c x).boot = s.boot := rfl
@[simp] theorem State.setHch_tdm (s : State) (c : Nat) (x : HdmaCh) : (s.setHch c x).tdm = s.tdm := rfl
@[simp] theorem State.setHch_dict (s : State) (c : Nat) (x : HdmaCh) : (s.setHch c x).dict = s.dict := rfl
@[simp] theorem State.setHch_evq (s : State) (c : Nat) (x : HdmaCh) : (s.setHch c x).evq = s.evq := rfl
@[simp] theorem State.setHch_out (s : State) (c : Nat) (x : HdmaCh) : (s.setHch c x).out = s.out := rfl
@[simp] theorem State.setHch_now (s : State) (c : Nat) (x : HdmaCh) : (s.setHch c x).now = s.now := rfl
@[simp] theorem State.setHch_aon (s : State) (c : Nat) (x : HdmaCh) : (s.setHch c x).aon = s.aon := rfl
@[simp] theorem State.setHch_cyc (s : State) (c : Nat) (x : HdmaCh) : (s.setHch c x).cyc = s.cyc := rfl
@[simp] theorem State.setHch_atsBytes (s : State) (c : Nat) (x : HdmaCh) : (s.setHch c x).atsBytes = s.atsBytes := rfl
@[simp] theorem State.setHch_freeCtr (s : State) (c : Nat) (x : HdmaCh) : (s.setHch c x).freeCtr = s.freeCtr := rfl
@[simp] theorem State.setHch_ticks (s : State) (c : Nat) (x : HdmaCh) : (s.setHch c x).ticks = s.ticks := rfl
@[simp] theorem State.setHch_pending (s : State) (c : Nat) (x : HdmaCh) : (s.setHch c x).pending = s.pending := rfl
@[simp] theorem State.setHch_rd (s : State) (c : Nat) (x : HdmaCh) (g : Fld) : (s.setHch c x).rd g = s.rd g := rfl
@[simp] theorem State.setHch_flag (s : State) (c : Nat) (x : HdmaCh) (g : Fld) : (s.setHch c x).flag g = s.flag g := rfl
@[simp] theorem State.setHch_inEff (s : State) (c : Nat) (x : HdmaCh) (g : Fld) : (s.setHch c x).inEff g = s.inEff g := rfl
@[simp] theorem State.setHch_lth (s : State) (c : Nat) (x : HdmaCh) (k : Nat) : (s.setHch c x).lth k = s.lth k := rfl

/-! `setVctx` changes `vid` alone. -/

@[simp] theorem State.setVctx_is1T (s : State) (e k : Nat) (x : VidCtx) : (s.setVctx e k x).is1T = s.is1T := rfl
@[simp] theorem State.setVctx_regs (s : State) (e k : Nat) (x : VidCtx) : (s.setVctx e k x).regs = s.regs := rfl
@[simp] theorem State.setVctx_eff (s : State) (e k : Nat) (x : VidCtx) : (s.setVctx e k x).eff = s.eff := rfl
@[simp] theorem State.setVctx_mem (s : State) (e k : Nat) (x : VidCtx) : (s.setVctx e k x).mem = s.mem := rfl
@[simp] theorem State.setVctx_keys (s : State) (e k : Nat) (x : VidCtx) : (s.setVctx e k x).keys = s.keys := rfl
@[simp] theorem State.setVctx_err (s : State) (e k : Nat) (x : VidCtx) : (s.setVctx e k x).err = s.err := rfl
@[simp] theorem State.setVctx_pft (s : State) (e k : Nat) (x : VidCtx) : (s.setVctx e k x).pft = s.pft := rfl
@[simp] theorem State.setVctx_smp (s : State) (e k : Nat) (x : VidCtx) : (s.setVctx e k x).smp = s.smp := rfl
@[simp] theorem State.setVctx_lathe (s : State) (e k : Nat) (x : VidCtx) : (s.setVctx e k x).lathe = s.lathe := rfl
@[simp] theorem State.setVctx_plt (s : State) (e k : Nat) (x : VidCtx) : (s.setVctx e k x).plt = s.plt := rfl
@[simp] theorem State.setVctx_thm (s : State) (e k : Nat) (x : VidCtx) : (s.setVctx e k x).thm = s.thm := rfl
@[simp] theorem State.setVctx_part (s : State) (e k : Nat) (x : VidCtx) : (s.setVctx e k x).part = s.part := rfl
@[simp] theorem State.setVctx_tdma (s : State) (e k : Nat) (x : VidCtx) : (s.setVctx e k x).tdma = s.tdma := rfl
@[simp] theorem State.setVctx_hdma (s : State) (e k : Nat) (x : VidCtx) : (s.setVctx e k x).hdma = s.hdma := rfl
@[simp] theorem State.setVctx_arb (s : State) (e k : Nat) (x : VidCtx) : (s.setVctx e k x).arb = s.arb := rfl
@[simp] theorem State.setVctx_host (s : State) (e k : Nat) (x : VidCtx) : (s.setVctx e k x).host = s.host := rfl
@[simp] theorem State.setVctx_fab (s : State) (e k : Nat) (x : VidCtx) : (s.setVctx e k x).fab = s.fab := rfl
@[simp] theorem State.setVctx_boot (s : State) (e k : Nat) (x : VidCtx) : (s.setVctx e k x).boot = s.boot := rfl
@[simp] theorem State.setVctx_tdm (s : State) (e k : Nat) (x : VidCtx) : (s.setVctx e k x).tdm = s.tdm := rfl
@[simp] theorem State.setVctx_dict (s : State) (e k : Nat) (x : VidCtx) : (s.setVctx e k x).dict = s.dict := rfl
@[simp] theorem State.setVctx_evq (s : State) (e k : Nat) (x : VidCtx) : (s.setVctx e k x).evq = s.evq := rfl
@[simp] theorem State.setVctx_out (s : State) (e k : Nat) (x : VidCtx) : (s.setVctx e k x).out = s.out := rfl
@[simp] theorem State.setVctx_now (s : State) (e k : Nat) (x : VidCtx) : (s.setVctx e k x).now = s.now := rfl
@[simp] theorem State.setVctx_aon (s : State) (e k : Nat) (x : VidCtx) : (s.setVctx e k x).aon = s.aon := rfl
@[simp] theorem State.setVctx_cyc (s : State) (e k : Nat) (x : VidCtx) : (s.setVctx e k x).cyc = s.cyc := rfl
@[simp] theorem State.setVctx_atsBytes (s : State) (e k : Nat) (x : VidCtx) : (s.setVctx e k x).atsBytes = s.atsBytes := rfl
@[simp] theorem State.setVctx_freeCtr (s : State) (e k : Nat) (x : VidCtx) : (s.setVctx e k x).freeCtr = s.freeCtr := rfl
@[simp] theorem State.setVctx_ticks (s : State) (e k : Nat) (x : VidCtx) : (s.setVctx e k x).ticks = s.ticks := rfl
@[simp] theorem State.setVctx_pending (s : State) (e k : Nat) (x : VidCtx) : (s.setVctx e k x).pending = s.pending := rfl
@[simp] theorem State.setVctx_rd (s : State) (e k : Nat) (x : VidCtx) (g : Fld) : (s.setVctx e k x).rd g = s.rd g := rfl
@[simp] theorem State.setVctx_flag (s : State) (e k : Nat) (x : VidCtx) (g : Fld) : (s.setVctx e k x).flag g = s.flag g := rfl
@[simp] theorem State.setVctx_inEff (s : State) (e k : Nat) (x : VidCtx) (g : Fld) : (s.setVctx e k x).inEff g = s.inEff g := rfl
@[simp] theorem State.setVctx_lth (s : State) (e j : Nat) (x : VidCtx) (k : Nat) : (s.setVctx e j x).lth k = s.lth k := rfl

/-! `setArb` changes `arb` alone. -/

@[simp] theorem State.setArb_is1T (s : State) (i : Nat) (x : ArbSt) : (s.setArb i x).is1T = s.is1T := rfl
@[simp] theorem State.setArb_regs (s : State) (i : Nat) (x : ArbSt) : (s.setArb i x).regs = s.regs := rfl
@[simp] theorem State.setArb_eff (s : State) (i : Nat) (x : ArbSt) : (s.setArb i x).eff = s.eff := rfl
@[simp] theorem State.setArb_mem (s : State) (i : Nat) (x : ArbSt) : (s.setArb i x).mem = s.mem := rfl
@[simp] theorem State.setArb_keys (s : State) (i : Nat) (x : ArbSt) : (s.setArb i x).keys = s.keys := rfl
@[simp] theorem State.setArb_err (s : State) (i : Nat) (x : ArbSt) : (s.setArb i x).err = s.err := rfl
@[simp] theorem State.setArb_pft (s : State) (i : Nat) (x : ArbSt) : (s.setArb i x).pft = s.pft := rfl
@[simp] theorem State.setArb_smp (s : State) (i : Nat) (x : ArbSt) : (s.setArb i x).smp = s.smp := rfl
@[simp] theorem State.setArb_lathe (s : State) (i : Nat) (x : ArbSt) : (s.setArb i x).lathe = s.lathe := rfl
@[simp] theorem State.setArb_plt (s : State) (i : Nat) (x : ArbSt) : (s.setArb i x).plt = s.plt := rfl
@[simp] theorem State.setArb_thm (s : State) (i : Nat) (x : ArbSt) : (s.setArb i x).thm = s.thm := rfl
@[simp] theorem State.setArb_part (s : State) (i : Nat) (x : ArbSt) : (s.setArb i x).part = s.part := rfl
@[simp] theorem State.setArb_tdma (s : State) (i : Nat) (x : ArbSt) : (s.setArb i x).tdma = s.tdma := rfl
@[simp] theorem State.setArb_hdma (s : State) (i : Nat) (x : ArbSt) : (s.setArb i x).hdma = s.hdma := rfl
@[simp] theorem State.setArb_vid (s : State) (i : Nat) (x : ArbSt) : (s.setArb i x).vid = s.vid := rfl
@[simp] theorem State.setArb_host (s : State) (i : Nat) (x : ArbSt) : (s.setArb i x).host = s.host := rfl
@[simp] theorem State.setArb_fab (s : State) (i : Nat) (x : ArbSt) : (s.setArb i x).fab = s.fab := rfl
@[simp] theorem State.setArb_boot (s : State) (i : Nat) (x : ArbSt) : (s.setArb i x).boot = s.boot := rfl
@[simp] theorem State.setArb_tdm (s : State) (i : Nat) (x : ArbSt) : (s.setArb i x).tdm = s.tdm := rfl
@[simp] theorem State.setArb_dict (s : State) (i : Nat) (x : ArbSt) : (s.setArb i x).dict = s.dict := rfl
@[simp] theorem State.setArb_evq (s : State) (i : Nat) (x : ArbSt) : (s.setArb i x).evq = s.evq := rfl
@[simp] theorem State.setArb_out (s : State) (i : Nat) (x : ArbSt) : (s.setArb i x).out = s.out := rfl
@[simp] theorem State.setArb_now (s : State) (i : Nat) (x : ArbSt) : (s.setArb i x).now = s.now := rfl
@[simp] theorem State.setArb_aon (s : State) (i : Nat) (x : ArbSt) : (s.setArb i x).aon = s.aon := rfl
@[simp] theorem State.setArb_cyc (s : State) (i : Nat) (x : ArbSt) : (s.setArb i x).cyc = s.cyc := rfl
@[simp] theorem State.setArb_atsBytes (s : State) (i : Nat) (x : ArbSt) : (s.setArb i x).atsBytes = s.atsBytes := rfl
@[simp] theorem State.setArb_freeCtr (s : State) (i : Nat) (x : ArbSt) : (s.setArb i x).freeCtr = s.freeCtr := rfl
@[simp] theorem State.setArb_ticks (s : State) (i : Nat) (x : ArbSt) : (s.setArb i x).ticks = s.ticks := rfl
@[simp] theorem State.setArb_pending (s : State) (i : Nat) (x : ArbSt) : (s.setArb i x).pending = s.pending := rfl
@[simp] theorem State.setArb_rd (s : State) (i : Nat) (x : ArbSt) (g : Fld) : (s.setArb i x).rd g = s.rd g := rfl
@[simp] theorem State.setArb_flag (s : State) (i : Nat) (x : ArbSt) (g : Fld) : (s.setArb i x).flag g = s.flag g := rfl
@[simp] theorem State.setArb_inEff (s : State) (i : Nat) (x : ArbSt) (g : Fld) : (s.setArb i x).inEff g = s.inEff g := rfl
@[simp] theorem State.setArb_lth (s : State) (i : Nat) (x : ArbSt) (k : Nat) : (s.setArb i x).lth k = s.lth k := rfl

/-! `setPrt` changes `part` alone. -/

@[simp] theorem State.setPrt_is1T (s : State) (p : Nat) (x : PartSt) : (s.setPrt p x).is1T = s.is1T := rfl
@[simp] theorem State.setPrt_regs (s : State) (p : Nat) (x : PartSt) : (s.setPrt p x).regs = s.regs := rfl
@[simp] theorem State.setPrt_eff (s : State) (p : Nat) (x : PartSt) : (s.setPrt p x).eff = s.eff := rfl
@[simp] theorem State.setPrt_mem (s : State) (p : Nat) (x : PartSt) : (s.setPrt p x).mem = s.mem := rfl
@[simp] theorem State.setPrt_keys (s : State) (p : Nat) (x : PartSt) : (s.setPrt p x).keys = s.keys := rfl
@[simp] theorem State.setPrt_err (s : State) (p : Nat) (x : PartSt) : (s.setPrt p x).err = s.err := rfl
@[simp] theorem State.setPrt_pft (s : State) (p : Nat) (x : PartSt) : (s.setPrt p x).pft = s.pft := rfl
@[simp] theorem State.setPrt_smp (s : State) (p : Nat) (x : PartSt) : (s.setPrt p x).smp = s.smp := rfl
@[simp] theorem State.setPrt_lathe (s : State) (p : Nat) (x : PartSt) : (s.setPrt p x).lathe = s.lathe := rfl
@[simp] theorem State.setPrt_plt (s : State) (p : Nat) (x : PartSt) : (s.setPrt p x).plt = s.plt := rfl
@[simp] theorem State.setPrt_thm (s : State) (p : Nat) (x : PartSt) : (s.setPrt p x).thm = s.thm := rfl
@[simp] theorem State.setPrt_tdma (s : State) (p : Nat) (x : PartSt) : (s.setPrt p x).tdma = s.tdma := rfl
@[simp] theorem State.setPrt_hdma (s : State) (p : Nat) (x : PartSt) : (s.setPrt p x).hdma = s.hdma := rfl
@[simp] theorem State.setPrt_vid (s : State) (p : Nat) (x : PartSt) : (s.setPrt p x).vid = s.vid := rfl
@[simp] theorem State.setPrt_arb (s : State) (p : Nat) (x : PartSt) : (s.setPrt p x).arb = s.arb := rfl
@[simp] theorem State.setPrt_host (s : State) (p : Nat) (x : PartSt) : (s.setPrt p x).host = s.host := rfl
@[simp] theorem State.setPrt_fab (s : State) (p : Nat) (x : PartSt) : (s.setPrt p x).fab = s.fab := rfl
@[simp] theorem State.setPrt_boot (s : State) (p : Nat) (x : PartSt) : (s.setPrt p x).boot = s.boot := rfl
@[simp] theorem State.setPrt_tdm (s : State) (p : Nat) (x : PartSt) : (s.setPrt p x).tdm = s.tdm := rfl
@[simp] theorem State.setPrt_dict (s : State) (p : Nat) (x : PartSt) : (s.setPrt p x).dict = s.dict := rfl
@[simp] theorem State.setPrt_evq (s : State) (p : Nat) (x : PartSt) : (s.setPrt p x).evq = s.evq := rfl
@[simp] theorem State.setPrt_out (s : State) (p : Nat) (x : PartSt) : (s.setPrt p x).out = s.out := rfl
@[simp] theorem State.setPrt_now (s : State) (p : Nat) (x : PartSt) : (s.setPrt p x).now = s.now := rfl
@[simp] theorem State.setPrt_aon (s : State) (p : Nat) (x : PartSt) : (s.setPrt p x).aon = s.aon := rfl
@[simp] theorem State.setPrt_cyc (s : State) (p : Nat) (x : PartSt) : (s.setPrt p x).cyc = s.cyc := rfl
@[simp] theorem State.setPrt_atsBytes (s : State) (p : Nat) (x : PartSt) : (s.setPrt p x).atsBytes = s.atsBytes := rfl
@[simp] theorem State.setPrt_freeCtr (s : State) (p : Nat) (x : PartSt) : (s.setPrt p x).freeCtr = s.freeCtr := rfl
@[simp] theorem State.setPrt_ticks (s : State) (p : Nat) (x : PartSt) : (s.setPrt p x).ticks = s.ticks := rfl
@[simp] theorem State.setPrt_pending (s : State) (p : Nat) (x : PartSt) : (s.setPrt p x).pending = s.pending := rfl
@[simp] theorem State.setPrt_rd (s : State) (p : Nat) (x : PartSt) (g : Fld) : (s.setPrt p x).rd g = s.rd g := rfl
@[simp] theorem State.setPrt_flag (s : State) (p : Nat) (x : PartSt) (g : Fld) : (s.setPrt p x).flag g = s.flag g := rfl
@[simp] theorem State.setPrt_inEff (s : State) (p : Nat) (x : PartSt) (g : Fld) : (s.setPrt p x).inEff g = s.inEff g := rfl
@[simp] theorem State.setPrt_lth (s : State) (p : Nat) (x : PartSt) (k : Nat) : (s.setPrt p x).lth k = s.lth k := rfl

/-! `setLoop` changes `plt` alone. -/

@[simp] theorem State.setLoop_is1T (s : State) (p : Nat) (x : PltPart) : (s.setLoop p x).is1T = s.is1T := rfl
@[simp] theorem State.setLoop_regs (s : State) (p : Nat) (x : PltPart) : (s.setLoop p x).regs = s.regs := rfl
@[simp] theorem State.setLoop_eff (s : State) (p : Nat) (x : PltPart) : (s.setLoop p x).eff = s.eff := rfl
@[simp] theorem State.setLoop_mem (s : State) (p : Nat) (x : PltPart) : (s.setLoop p x).mem = s.mem := rfl
@[simp] theorem State.setLoop_keys (s : State) (p : Nat) (x : PltPart) : (s.setLoop p x).keys = s.keys := rfl
@[simp] theorem State.setLoop_err (s : State) (p : Nat) (x : PltPart) : (s.setLoop p x).err = s.err := rfl
@[simp] theorem State.setLoop_pft (s : State) (p : Nat) (x : PltPart) : (s.setLoop p x).pft = s.pft := rfl
@[simp] theorem State.setLoop_smp (s : State) (p : Nat) (x : PltPart) : (s.setLoop p x).smp = s.smp := rfl
@[simp] theorem State.setLoop_lathe (s : State) (p : Nat) (x : PltPart) : (s.setLoop p x).lathe = s.lathe := rfl
@[simp] theorem State.setLoop_thm (s : State) (p : Nat) (x : PltPart) : (s.setLoop p x).thm = s.thm := rfl
@[simp] theorem State.setLoop_part (s : State) (p : Nat) (x : PltPart) : (s.setLoop p x).part = s.part := rfl
@[simp] theorem State.setLoop_tdma (s : State) (p : Nat) (x : PltPart) : (s.setLoop p x).tdma = s.tdma := rfl
@[simp] theorem State.setLoop_hdma (s : State) (p : Nat) (x : PltPart) : (s.setLoop p x).hdma = s.hdma := rfl
@[simp] theorem State.setLoop_vid (s : State) (p : Nat) (x : PltPart) : (s.setLoop p x).vid = s.vid := rfl
@[simp] theorem State.setLoop_arb (s : State) (p : Nat) (x : PltPart) : (s.setLoop p x).arb = s.arb := rfl
@[simp] theorem State.setLoop_host (s : State) (p : Nat) (x : PltPart) : (s.setLoop p x).host = s.host := rfl
@[simp] theorem State.setLoop_fab (s : State) (p : Nat) (x : PltPart) : (s.setLoop p x).fab = s.fab := rfl
@[simp] theorem State.setLoop_boot (s : State) (p : Nat) (x : PltPart) : (s.setLoop p x).boot = s.boot := rfl
@[simp] theorem State.setLoop_tdm (s : State) (p : Nat) (x : PltPart) : (s.setLoop p x).tdm = s.tdm := rfl
@[simp] theorem State.setLoop_dict (s : State) (p : Nat) (x : PltPart) : (s.setLoop p x).dict = s.dict := rfl
@[simp] theorem State.setLoop_evq (s : State) (p : Nat) (x : PltPart) : (s.setLoop p x).evq = s.evq := rfl
@[simp] theorem State.setLoop_out (s : State) (p : Nat) (x : PltPart) : (s.setLoop p x).out = s.out := rfl
@[simp] theorem State.setLoop_now (s : State) (p : Nat) (x : PltPart) : (s.setLoop p x).now = s.now := rfl
@[simp] theorem State.setLoop_aon (s : State) (p : Nat) (x : PltPart) : (s.setLoop p x).aon = s.aon := rfl
@[simp] theorem State.setLoop_cyc (s : State) (p : Nat) (x : PltPart) : (s.setLoop p x).cyc = s.cyc := rfl
@[simp] theorem State.setLoop_atsBytes (s : State) (p : Nat) (x : PltPart) : (s.setLoop p x).atsBytes = s.atsBytes := rfl
@[simp] theorem State.setLoop_freeCtr (s : State) (p : Nat) (x : PltPart) : (s.setLoop p x).freeCtr = s.freeCtr := rfl
@[simp] theorem State.setLoop_ticks (s : State) (p : Nat) (x : PltPart) : (s.setLoop p x).ticks = s.ticks := rfl
@[simp] theorem State.setLoop_pending (s : State) (p : Nat) (x : PltPart) : (s.setLoop p x).pending = s.pending := rfl
@[simp] theorem State.setLoop_rd (s : State) (p : Nat) (x : PltPart) (g : Fld) : (s.setLoop p x).rd g = s.rd g := rfl
@[simp] theorem State.setLoop_flag (s : State) (p : Nat) (x : PltPart) (g : Fld) : (s.setLoop p x).flag g = s.flag g := rfl
@[simp] theorem State.setLoop_inEff (s : State) (p : Nat) (x : PltPart) (g : Fld) : (s.setLoop p x).inEff g = s.inEff g := rfl
@[simp] theorem State.setLoop_lth (s : State) (p : Nat) (x : PltPart) (k : Nat) : (s.setLoop p x).lth k = s.lth k := rfl

/-! `setLink` changes `fab` alone. -/

@[simp] theorem State.setLink_is1T (s : State) (pl : Nat) (x : FabLink) : (s.setLink pl x).is1T = s.is1T := rfl
@[simp] theorem State.setLink_regs (s : State) (pl : Nat) (x : FabLink) : (s.setLink pl x).regs = s.regs := rfl
@[simp] theorem State.setLink_eff (s : State) (pl : Nat) (x : FabLink) : (s.setLink pl x).eff = s.eff := rfl
@[simp] theorem State.setLink_mem (s : State) (pl : Nat) (x : FabLink) : (s.setLink pl x).mem = s.mem := rfl
@[simp] theorem State.setLink_keys (s : State) (pl : Nat) (x : FabLink) : (s.setLink pl x).keys = s.keys := rfl
@[simp] theorem State.setLink_err (s : State) (pl : Nat) (x : FabLink) : (s.setLink pl x).err = s.err := rfl
@[simp] theorem State.setLink_pft (s : State) (pl : Nat) (x : FabLink) : (s.setLink pl x).pft = s.pft := rfl
@[simp] theorem State.setLink_smp (s : State) (pl : Nat) (x : FabLink) : (s.setLink pl x).smp = s.smp := rfl
@[simp] theorem State.setLink_lathe (s : State) (pl : Nat) (x : FabLink) : (s.setLink pl x).lathe = s.lathe := rfl
@[simp] theorem State.setLink_plt (s : State) (pl : Nat) (x : FabLink) : (s.setLink pl x).plt = s.plt := rfl
@[simp] theorem State.setLink_thm (s : State) (pl : Nat) (x : FabLink) : (s.setLink pl x).thm = s.thm := rfl
@[simp] theorem State.setLink_part (s : State) (pl : Nat) (x : FabLink) : (s.setLink pl x).part = s.part := rfl
@[simp] theorem State.setLink_tdma (s : State) (pl : Nat) (x : FabLink) : (s.setLink pl x).tdma = s.tdma := rfl
@[simp] theorem State.setLink_hdma (s : State) (pl : Nat) (x : FabLink) : (s.setLink pl x).hdma = s.hdma := rfl
@[simp] theorem State.setLink_vid (s : State) (pl : Nat) (x : FabLink) : (s.setLink pl x).vid = s.vid := rfl
@[simp] theorem State.setLink_arb (s : State) (pl : Nat) (x : FabLink) : (s.setLink pl x).arb = s.arb := rfl
@[simp] theorem State.setLink_host (s : State) (pl : Nat) (x : FabLink) : (s.setLink pl x).host = s.host := rfl
@[simp] theorem State.setLink_boot (s : State) (pl : Nat) (x : FabLink) : (s.setLink pl x).boot = s.boot := rfl
@[simp] theorem State.setLink_tdm (s : State) (pl : Nat) (x : FabLink) : (s.setLink pl x).tdm = s.tdm := rfl
@[simp] theorem State.setLink_dict (s : State) (pl : Nat) (x : FabLink) : (s.setLink pl x).dict = s.dict := rfl
@[simp] theorem State.setLink_evq (s : State) (pl : Nat) (x : FabLink) : (s.setLink pl x).evq = s.evq := rfl
@[simp] theorem State.setLink_out (s : State) (pl : Nat) (x : FabLink) : (s.setLink pl x).out = s.out := rfl
@[simp] theorem State.setLink_now (s : State) (pl : Nat) (x : FabLink) : (s.setLink pl x).now = s.now := rfl
@[simp] theorem State.setLink_aon (s : State) (pl : Nat) (x : FabLink) : (s.setLink pl x).aon = s.aon := rfl
@[simp] theorem State.setLink_cyc (s : State) (pl : Nat) (x : FabLink) : (s.setLink pl x).cyc = s.cyc := rfl
@[simp] theorem State.setLink_atsBytes (s : State) (pl : Nat) (x : FabLink) : (s.setLink pl x).atsBytes = s.atsBytes := rfl
@[simp] theorem State.setLink_freeCtr (s : State) (pl : Nat) (x : FabLink) : (s.setLink pl x).freeCtr = s.freeCtr := rfl
@[simp] theorem State.setLink_ticks (s : State) (pl : Nat) (x : FabLink) : (s.setLink pl x).ticks = s.ticks := rfl
@[simp] theorem State.setLink_pending (s : State) (pl : Nat) (x : FabLink) : (s.setLink pl x).pending = s.pending := rfl
@[simp] theorem State.setLink_rd (s : State) (pl : Nat) (x : FabLink) (g : Fld) : (s.setLink pl x).rd g = s.rd g := rfl
@[simp] theorem State.setLink_flag (s : State) (pl : Nat) (x : FabLink) (g : Fld) : (s.setLink pl x).flag g = s.flag g := rfl
@[simp] theorem State.setLink_inEff (s : State) (pl : Nat) (x : FabLink) (g : Fld) : (s.setLink pl x).inEff g = s.inEff g := rfl
@[simp] theorem State.setLink_lth (s : State) (pl : Nat) (x : FabLink) (k : Nat) : (s.setLink pl x).lth k = s.lth k := rfl

/-! `setCk` changes `fab` alone. -/

@[simp] theorem State.setCk_is1T (s : State) (p : Nat) (j : Option CkJob) : (s.setCk p j).is1T = s.is1T := rfl
@[simp] theorem State.setCk_regs (s : State) (p : Nat) (j : Option CkJob) : (s.setCk p j).regs = s.regs := rfl
@[simp] theorem State.setCk_eff (s : State) (p : Nat) (j : Option CkJob) : (s.setCk p j).eff = s.eff := rfl
@[simp] theorem State.setCk_mem (s : State) (p : Nat) (j : Option CkJob) : (s.setCk p j).mem = s.mem := rfl
@[simp] theorem State.setCk_keys (s : State) (p : Nat) (j : Option CkJob) : (s.setCk p j).keys = s.keys := rfl
@[simp] theorem State.setCk_err (s : State) (p : Nat) (j : Option CkJob) : (s.setCk p j).err = s.err := rfl
@[simp] theorem State.setCk_pft (s : State) (p : Nat) (j : Option CkJob) : (s.setCk p j).pft = s.pft := rfl
@[simp] theorem State.setCk_smp (s : State) (p : Nat) (j : Option CkJob) : (s.setCk p j).smp = s.smp := rfl
@[simp] theorem State.setCk_lathe (s : State) (p : Nat) (j : Option CkJob) : (s.setCk p j).lathe = s.lathe := rfl
@[simp] theorem State.setCk_plt (s : State) (p : Nat) (j : Option CkJob) : (s.setCk p j).plt = s.plt := rfl
@[simp] theorem State.setCk_thm (s : State) (p : Nat) (j : Option CkJob) : (s.setCk p j).thm = s.thm := rfl
@[simp] theorem State.setCk_part (s : State) (p : Nat) (j : Option CkJob) : (s.setCk p j).part = s.part := rfl
@[simp] theorem State.setCk_tdma (s : State) (p : Nat) (j : Option CkJob) : (s.setCk p j).tdma = s.tdma := rfl
@[simp] theorem State.setCk_hdma (s : State) (p : Nat) (j : Option CkJob) : (s.setCk p j).hdma = s.hdma := rfl
@[simp] theorem State.setCk_vid (s : State) (p : Nat) (j : Option CkJob) : (s.setCk p j).vid = s.vid := rfl
@[simp] theorem State.setCk_arb (s : State) (p : Nat) (j : Option CkJob) : (s.setCk p j).arb = s.arb := rfl
@[simp] theorem State.setCk_host (s : State) (p : Nat) (j : Option CkJob) : (s.setCk p j).host = s.host := rfl
@[simp] theorem State.setCk_boot (s : State) (p : Nat) (j : Option CkJob) : (s.setCk p j).boot = s.boot := rfl
@[simp] theorem State.setCk_tdm (s : State) (p : Nat) (j : Option CkJob) : (s.setCk p j).tdm = s.tdm := rfl
@[simp] theorem State.setCk_dict (s : State) (p : Nat) (j : Option CkJob) : (s.setCk p j).dict = s.dict := rfl
@[simp] theorem State.setCk_evq (s : State) (p : Nat) (j : Option CkJob) : (s.setCk p j).evq = s.evq := rfl
@[simp] theorem State.setCk_out (s : State) (p : Nat) (j : Option CkJob) : (s.setCk p j).out = s.out := rfl
@[simp] theorem State.setCk_now (s : State) (p : Nat) (j : Option CkJob) : (s.setCk p j).now = s.now := rfl
@[simp] theorem State.setCk_aon (s : State) (p : Nat) (j : Option CkJob) : (s.setCk p j).aon = s.aon := rfl
@[simp] theorem State.setCk_cyc (s : State) (p : Nat) (j : Option CkJob) : (s.setCk p j).cyc = s.cyc := rfl
@[simp] theorem State.setCk_atsBytes (s : State) (p : Nat) (j : Option CkJob) : (s.setCk p j).atsBytes = s.atsBytes := rfl
@[simp] theorem State.setCk_freeCtr (s : State) (p : Nat) (j : Option CkJob) : (s.setCk p j).freeCtr = s.freeCtr := rfl
@[simp] theorem State.setCk_ticks (s : State) (p : Nat) (j : Option CkJob) : (s.setCk p j).ticks = s.ticks := rfl
@[simp] theorem State.setCk_pending (s : State) (p : Nat) (j : Option CkJob) : (s.setCk p j).pending = s.pending := rfl
@[simp] theorem State.setCk_rd (s : State) (p : Nat) (j : Option CkJob) (g : Fld) : (s.setCk p j).rd g = s.rd g := rfl
@[simp] theorem State.setCk_flag (s : State) (p : Nat) (j : Option CkJob) (g : Fld) : (s.setCk p j).flag g = s.flag g := rfl
@[simp] theorem State.setCk_inEff (s : State) (p : Nat) (j : Option CkJob) (g : Fld) : (s.setCk p j).inEff g = s.inEff g := rfl
@[simp] theorem State.setCk_lth (s : State) (p : Nat) (j : Option CkJob) (k : Nat) : (s.setCk p j).lth k = s.lth k := rfl

/-! `setRec` changes `pft` alone. -/

@[simp] theorem State.setRec_is1T (s : State) (k : Nat) (r : KvRec) : (s.setRec k r).is1T = s.is1T := rfl
@[simp] theorem State.setRec_regs (s : State) (k : Nat) (r : KvRec) : (s.setRec k r).regs = s.regs := rfl
@[simp] theorem State.setRec_eff (s : State) (k : Nat) (r : KvRec) : (s.setRec k r).eff = s.eff := rfl
@[simp] theorem State.setRec_mem (s : State) (k : Nat) (r : KvRec) : (s.setRec k r).mem = s.mem := rfl
@[simp] theorem State.setRec_keys (s : State) (k : Nat) (r : KvRec) : (s.setRec k r).keys = s.keys := rfl
@[simp] theorem State.setRec_err (s : State) (k : Nat) (r : KvRec) : (s.setRec k r).err = s.err := rfl
@[simp] theorem State.setRec_smp (s : State) (k : Nat) (r : KvRec) : (s.setRec k r).smp = s.smp := rfl
@[simp] theorem State.setRec_lathe (s : State) (k : Nat) (r : KvRec) : (s.setRec k r).lathe = s.lathe := rfl
@[simp] theorem State.setRec_plt (s : State) (k : Nat) (r : KvRec) : (s.setRec k r).plt = s.plt := rfl
@[simp] theorem State.setRec_thm (s : State) (k : Nat) (r : KvRec) : (s.setRec k r).thm = s.thm := rfl
@[simp] theorem State.setRec_part (s : State) (k : Nat) (r : KvRec) : (s.setRec k r).part = s.part := rfl
@[simp] theorem State.setRec_tdma (s : State) (k : Nat) (r : KvRec) : (s.setRec k r).tdma = s.tdma := rfl
@[simp] theorem State.setRec_hdma (s : State) (k : Nat) (r : KvRec) : (s.setRec k r).hdma = s.hdma := rfl
@[simp] theorem State.setRec_vid (s : State) (k : Nat) (r : KvRec) : (s.setRec k r).vid = s.vid := rfl
@[simp] theorem State.setRec_arb (s : State) (k : Nat) (r : KvRec) : (s.setRec k r).arb = s.arb := rfl
@[simp] theorem State.setRec_host (s : State) (k : Nat) (r : KvRec) : (s.setRec k r).host = s.host := rfl
@[simp] theorem State.setRec_fab (s : State) (k : Nat) (r : KvRec) : (s.setRec k r).fab = s.fab := rfl
@[simp] theorem State.setRec_boot (s : State) (k : Nat) (r : KvRec) : (s.setRec k r).boot = s.boot := rfl
@[simp] theorem State.setRec_tdm (s : State) (k : Nat) (r : KvRec) : (s.setRec k r).tdm = s.tdm := rfl
@[simp] theorem State.setRec_dict (s : State) (k : Nat) (r : KvRec) : (s.setRec k r).dict = s.dict := rfl
@[simp] theorem State.setRec_evq (s : State) (k : Nat) (r : KvRec) : (s.setRec k r).evq = s.evq := rfl
@[simp] theorem State.setRec_out (s : State) (k : Nat) (r : KvRec) : (s.setRec k r).out = s.out := rfl
@[simp] theorem State.setRec_now (s : State) (k : Nat) (r : KvRec) : (s.setRec k r).now = s.now := rfl
@[simp] theorem State.setRec_aon (s : State) (k : Nat) (r : KvRec) : (s.setRec k r).aon = s.aon := rfl
@[simp] theorem State.setRec_cyc (s : State) (k : Nat) (r : KvRec) : (s.setRec k r).cyc = s.cyc := rfl
@[simp] theorem State.setRec_atsBytes (s : State) (k : Nat) (r : KvRec) : (s.setRec k r).atsBytes = s.atsBytes := rfl
@[simp] theorem State.setRec_freeCtr (s : State) (k : Nat) (r : KvRec) : (s.setRec k r).freeCtr = s.freeCtr := rfl
@[simp] theorem State.setRec_ticks (s : State) (k : Nat) (r : KvRec) : (s.setRec k r).ticks = s.ticks := rfl
@[simp] theorem State.setRec_pending (s : State) (k : Nat) (r : KvRec) : (s.setRec k r).pending = s.pending := rfl
@[simp] theorem State.setRec_rd (s : State) (k : Nat) (r : KvRec) (g : Fld) : (s.setRec k r).rd g = s.rd g := rfl
@[simp] theorem State.setRec_flag (s : State) (k : Nat) (r : KvRec) (g : Fld) : (s.setRec k r).flag g = s.flag g := rfl
@[simp] theorem State.setRec_inEff (s : State) (k : Nat) (r : KvRec) (g : Fld) : (s.setRec k r).inEff g = s.inEff g := rfl
@[simp] theorem State.setRec_lth (s : State) (j : Nat) (r : KvRec) (k : Nat) : (s.setRec j r).lth k = s.lth k := rfl

/-! `setMarker` changes `boot` alone. -/

@[simp] theorem State.setMarker_is1T (s : State) (p : Nat) (v : Option (Nat × Bool)) : (s.setMarker p v).is1T = s.is1T := rfl
@[simp] theorem State.setMarker_regs (s : State) (p : Nat) (v : Option (Nat × Bool)) : (s.setMarker p v).regs = s.regs := rfl
@[simp] theorem State.setMarker_eff (s : State) (p : Nat) (v : Option (Nat × Bool)) : (s.setMarker p v).eff = s.eff := rfl
@[simp] theorem State.setMarker_mem (s : State) (p : Nat) (v : Option (Nat × Bool)) : (s.setMarker p v).mem = s.mem := rfl
@[simp] theorem State.setMarker_keys (s : State) (p : Nat) (v : Option (Nat × Bool)) : (s.setMarker p v).keys = s.keys := rfl
@[simp] theorem State.setMarker_err (s : State) (p : Nat) (v : Option (Nat × Bool)) : (s.setMarker p v).err = s.err := rfl
@[simp] theorem State.setMarker_pft (s : State) (p : Nat) (v : Option (Nat × Bool)) : (s.setMarker p v).pft = s.pft := rfl
@[simp] theorem State.setMarker_smp (s : State) (p : Nat) (v : Option (Nat × Bool)) : (s.setMarker p v).smp = s.smp := rfl
@[simp] theorem State.setMarker_lathe (s : State) (p : Nat) (v : Option (Nat × Bool)) : (s.setMarker p v).lathe = s.lathe := rfl
@[simp] theorem State.setMarker_plt (s : State) (p : Nat) (v : Option (Nat × Bool)) : (s.setMarker p v).plt = s.plt := rfl
@[simp] theorem State.setMarker_thm (s : State) (p : Nat) (v : Option (Nat × Bool)) : (s.setMarker p v).thm = s.thm := rfl
@[simp] theorem State.setMarker_part (s : State) (p : Nat) (v : Option (Nat × Bool)) : (s.setMarker p v).part = s.part := rfl
@[simp] theorem State.setMarker_tdma (s : State) (p : Nat) (v : Option (Nat × Bool)) : (s.setMarker p v).tdma = s.tdma := rfl
@[simp] theorem State.setMarker_hdma (s : State) (p : Nat) (v : Option (Nat × Bool)) : (s.setMarker p v).hdma = s.hdma := rfl
@[simp] theorem State.setMarker_vid (s : State) (p : Nat) (v : Option (Nat × Bool)) : (s.setMarker p v).vid = s.vid := rfl
@[simp] theorem State.setMarker_arb (s : State) (p : Nat) (v : Option (Nat × Bool)) : (s.setMarker p v).arb = s.arb := rfl
@[simp] theorem State.setMarker_host (s : State) (p : Nat) (v : Option (Nat × Bool)) : (s.setMarker p v).host = s.host := rfl
@[simp] theorem State.setMarker_fab (s : State) (p : Nat) (v : Option (Nat × Bool)) : (s.setMarker p v).fab = s.fab := rfl
@[simp] theorem State.setMarker_tdm (s : State) (p : Nat) (v : Option (Nat × Bool)) : (s.setMarker p v).tdm = s.tdm := rfl
@[simp] theorem State.setMarker_dict (s : State) (p : Nat) (v : Option (Nat × Bool)) : (s.setMarker p v).dict = s.dict := rfl
@[simp] theorem State.setMarker_evq (s : State) (p : Nat) (v : Option (Nat × Bool)) : (s.setMarker p v).evq = s.evq := rfl
@[simp] theorem State.setMarker_out (s : State) (p : Nat) (v : Option (Nat × Bool)) : (s.setMarker p v).out = s.out := rfl
@[simp] theorem State.setMarker_now (s : State) (p : Nat) (v : Option (Nat × Bool)) : (s.setMarker p v).now = s.now := rfl
@[simp] theorem State.setMarker_aon (s : State) (p : Nat) (v : Option (Nat × Bool)) : (s.setMarker p v).aon = s.aon := rfl
@[simp] theorem State.setMarker_cyc (s : State) (p : Nat) (v : Option (Nat × Bool)) : (s.setMarker p v).cyc = s.cyc := rfl
@[simp] theorem State.setMarker_atsBytes (s : State) (p : Nat) (v : Option (Nat × Bool)) : (s.setMarker p v).atsBytes = s.atsBytes := rfl
@[simp] theorem State.setMarker_freeCtr (s : State) (p : Nat) (v : Option (Nat × Bool)) : (s.setMarker p v).freeCtr = s.freeCtr := rfl
@[simp] theorem State.setMarker_ticks (s : State) (p : Nat) (v : Option (Nat × Bool)) : (s.setMarker p v).ticks = s.ticks := rfl
@[simp] theorem State.setMarker_pending (s : State) (p : Nat) (v : Option (Nat × Bool)) : (s.setMarker p v).pending = s.pending := rfl
@[simp] theorem State.setMarker_rd (s : State) (p : Nat) (v : Option (Nat × Bool)) (g : Fld) : (s.setMarker p v).rd g = s.rd g := rfl
@[simp] theorem State.setMarker_flag (s : State) (p : Nat) (v : Option (Nat × Bool)) (g : Fld) : (s.setMarker p v).flag g = s.flag g := rfl
@[simp] theorem State.setMarker_inEff (s : State) (p : Nat) (v : Option (Nat × Bool)) (g : Fld) : (s.setMarker p v).inEff g = s.inEff g := rfl
@[simp] theorem State.setMarker_lth (s : State) (p : Nat) (v : Option (Nat × Bool)) (k : Nat) : (s.setMarker p v).lth k = s.lth k := rfl

/-! `setArea` changes `boot` alone. -/

@[simp] theorem State.setArea_is1T (s : State) (b i : Nat) (a : FwArea) : (s.setArea b i a).is1T = s.is1T := rfl
@[simp] theorem State.setArea_regs (s : State) (b i : Nat) (a : FwArea) : (s.setArea b i a).regs = s.regs := rfl
@[simp] theorem State.setArea_eff (s : State) (b i : Nat) (a : FwArea) : (s.setArea b i a).eff = s.eff := rfl
@[simp] theorem State.setArea_mem (s : State) (b i : Nat) (a : FwArea) : (s.setArea b i a).mem = s.mem := rfl
@[simp] theorem State.setArea_keys (s : State) (b i : Nat) (a : FwArea) : (s.setArea b i a).keys = s.keys := rfl
@[simp] theorem State.setArea_err (s : State) (b i : Nat) (a : FwArea) : (s.setArea b i a).err = s.err := rfl
@[simp] theorem State.setArea_pft (s : State) (b i : Nat) (a : FwArea) : (s.setArea b i a).pft = s.pft := rfl
@[simp] theorem State.setArea_smp (s : State) (b i : Nat) (a : FwArea) : (s.setArea b i a).smp = s.smp := rfl
@[simp] theorem State.setArea_lathe (s : State) (b i : Nat) (a : FwArea) : (s.setArea b i a).lathe = s.lathe := rfl
@[simp] theorem State.setArea_plt (s : State) (b i : Nat) (a : FwArea) : (s.setArea b i a).plt = s.plt := rfl
@[simp] theorem State.setArea_thm (s : State) (b i : Nat) (a : FwArea) : (s.setArea b i a).thm = s.thm := rfl
@[simp] theorem State.setArea_part (s : State) (b i : Nat) (a : FwArea) : (s.setArea b i a).part = s.part := rfl
@[simp] theorem State.setArea_tdma (s : State) (b i : Nat) (a : FwArea) : (s.setArea b i a).tdma = s.tdma := rfl
@[simp] theorem State.setArea_hdma (s : State) (b i : Nat) (a : FwArea) : (s.setArea b i a).hdma = s.hdma := rfl
@[simp] theorem State.setArea_vid (s : State) (b i : Nat) (a : FwArea) : (s.setArea b i a).vid = s.vid := rfl
@[simp] theorem State.setArea_arb (s : State) (b i : Nat) (a : FwArea) : (s.setArea b i a).arb = s.arb := rfl
@[simp] theorem State.setArea_host (s : State) (b i : Nat) (a : FwArea) : (s.setArea b i a).host = s.host := rfl
@[simp] theorem State.setArea_fab (s : State) (b i : Nat) (a : FwArea) : (s.setArea b i a).fab = s.fab := rfl
@[simp] theorem State.setArea_tdm (s : State) (b i : Nat) (a : FwArea) : (s.setArea b i a).tdm = s.tdm := rfl
@[simp] theorem State.setArea_dict (s : State) (b i : Nat) (a : FwArea) : (s.setArea b i a).dict = s.dict := rfl
@[simp] theorem State.setArea_evq (s : State) (b i : Nat) (a : FwArea) : (s.setArea b i a).evq = s.evq := rfl
@[simp] theorem State.setArea_out (s : State) (b i : Nat) (a : FwArea) : (s.setArea b i a).out = s.out := rfl
@[simp] theorem State.setArea_now (s : State) (b i : Nat) (a : FwArea) : (s.setArea b i a).now = s.now := rfl
@[simp] theorem State.setArea_aon (s : State) (b i : Nat) (a : FwArea) : (s.setArea b i a).aon = s.aon := rfl
@[simp] theorem State.setArea_cyc (s : State) (b i : Nat) (a : FwArea) : (s.setArea b i a).cyc = s.cyc := rfl
@[simp] theorem State.setArea_atsBytes (s : State) (b i : Nat) (a : FwArea) : (s.setArea b i a).atsBytes = s.atsBytes := rfl
@[simp] theorem State.setArea_freeCtr (s : State) (b i : Nat) (a : FwArea) : (s.setArea b i a).freeCtr = s.freeCtr := rfl
@[simp] theorem State.setArea_ticks (s : State) (b i : Nat) (a : FwArea) : (s.setArea b i a).ticks = s.ticks := rfl
@[simp] theorem State.setArea_pending (s : State) (b i : Nat) (a : FwArea) : (s.setArea b i a).pending = s.pending := rfl
@[simp] theorem State.setArea_rd (s : State) (b i : Nat) (a : FwArea) (g : Fld) : (s.setArea b i a).rd g = s.rd g := rfl
@[simp] theorem State.setArea_flag (s : State) (b i : Nat) (a : FwArea) (g : Fld) : (s.setArea b i a).flag g = s.flag g := rfl
@[simp] theorem State.setArea_inEff (s : State) (b i : Nat) (a : FwArea) (g : Fld) : (s.setArea b i a).inEff g = s.inEff g := rfl
@[simp] theorem State.setArea_lth (s : State) (b i : Nat) (a : FwArea) (k : Nat) : (s.setArea b i a).lth k = s.lth k := rfl

/-! `setFram` changes `boot` alone. -/

@[simp] theorem State.setFram_is1T (s : State) (x : FramSet) : (s.setFram x).is1T = s.is1T := rfl
@[simp] theorem State.setFram_regs (s : State) (x : FramSet) : (s.setFram x).regs = s.regs := rfl
@[simp] theorem State.setFram_eff (s : State) (x : FramSet) : (s.setFram x).eff = s.eff := rfl
@[simp] theorem State.setFram_mem (s : State) (x : FramSet) : (s.setFram x).mem = s.mem := rfl
@[simp] theorem State.setFram_keys (s : State) (x : FramSet) : (s.setFram x).keys = s.keys := rfl
@[simp] theorem State.setFram_err (s : State) (x : FramSet) : (s.setFram x).err = s.err := rfl
@[simp] theorem State.setFram_pft (s : State) (x : FramSet) : (s.setFram x).pft = s.pft := rfl
@[simp] theorem State.setFram_smp (s : State) (x : FramSet) : (s.setFram x).smp = s.smp := rfl
@[simp] theorem State.setFram_lathe (s : State) (x : FramSet) : (s.setFram x).lathe = s.lathe := rfl
@[simp] theorem State.setFram_plt (s : State) (x : FramSet) : (s.setFram x).plt = s.plt := rfl
@[simp] theorem State.setFram_thm (s : State) (x : FramSet) : (s.setFram x).thm = s.thm := rfl
@[simp] theorem State.setFram_part (s : State) (x : FramSet) : (s.setFram x).part = s.part := rfl
@[simp] theorem State.setFram_tdma (s : State) (x : FramSet) : (s.setFram x).tdma = s.tdma := rfl
@[simp] theorem State.setFram_hdma (s : State) (x : FramSet) : (s.setFram x).hdma = s.hdma := rfl
@[simp] theorem State.setFram_vid (s : State) (x : FramSet) : (s.setFram x).vid = s.vid := rfl
@[simp] theorem State.setFram_arb (s : State) (x : FramSet) : (s.setFram x).arb = s.arb := rfl
@[simp] theorem State.setFram_host (s : State) (x : FramSet) : (s.setFram x).host = s.host := rfl
@[simp] theorem State.setFram_fab (s : State) (x : FramSet) : (s.setFram x).fab = s.fab := rfl
@[simp] theorem State.setFram_tdm (s : State) (x : FramSet) : (s.setFram x).tdm = s.tdm := rfl
@[simp] theorem State.setFram_dict (s : State) (x : FramSet) : (s.setFram x).dict = s.dict := rfl
@[simp] theorem State.setFram_evq (s : State) (x : FramSet) : (s.setFram x).evq = s.evq := rfl
@[simp] theorem State.setFram_out (s : State) (x : FramSet) : (s.setFram x).out = s.out := rfl
@[simp] theorem State.setFram_now (s : State) (x : FramSet) : (s.setFram x).now = s.now := rfl
@[simp] theorem State.setFram_aon (s : State) (x : FramSet) : (s.setFram x).aon = s.aon := rfl
@[simp] theorem State.setFram_cyc (s : State) (x : FramSet) : (s.setFram x).cyc = s.cyc := rfl
@[simp] theorem State.setFram_atsBytes (s : State) (x : FramSet) : (s.setFram x).atsBytes = s.atsBytes := rfl
@[simp] theorem State.setFram_freeCtr (s : State) (x : FramSet) : (s.setFram x).freeCtr = s.freeCtr := rfl
@[simp] theorem State.setFram_ticks (s : State) (x : FramSet) : (s.setFram x).ticks = s.ticks := rfl
@[simp] theorem State.setFram_pending (s : State) (x : FramSet) : (s.setFram x).pending = s.pending := rfl
@[simp] theorem State.setFram_rd (s : State) (x : FramSet) (g : Fld) : (s.setFram x).rd g = s.rd g := rfl
@[simp] theorem State.setFram_flag (s : State) (x : FramSet) (g : Fld) : (s.setFram x).flag g = s.flag g := rfl
@[simp] theorem State.setFram_inEff (s : State) (x : FramSet) (g : Fld) : (s.setFram x).inEff g = s.inEff g := rfl
@[simp] theorem State.setFram_lth (s : State) (x : FramSet) (k : Nat) : (s.setFram x).lth k = s.lth k := rfl

/-! `record` changes `evq` alone. -/

@[simp] theorem State.record_is1T (s : State) (p : Nat) (r : List Byte) : (s.record p r).is1T = s.is1T := by unfold State.record; split <;> rfl
@[simp] theorem State.record_regs (s : State) (p : Nat) (r : List Byte) : (s.record p r).regs = s.regs := by unfold State.record; split <;> rfl
@[simp] theorem State.record_eff (s : State) (p : Nat) (r : List Byte) : (s.record p r).eff = s.eff := by unfold State.record; split <;> rfl
@[simp] theorem State.record_mem (s : State) (p : Nat) (r : List Byte) : (s.record p r).mem = s.mem := by unfold State.record; split <;> rfl
@[simp] theorem State.record_keys (s : State) (p : Nat) (r : List Byte) : (s.record p r).keys = s.keys := by unfold State.record; split <;> rfl
@[simp] theorem State.record_err (s : State) (p : Nat) (r : List Byte) : (s.record p r).err = s.err := by unfold State.record; split <;> rfl
@[simp] theorem State.record_pft (s : State) (p : Nat) (r : List Byte) : (s.record p r).pft = s.pft := by unfold State.record; split <;> rfl
@[simp] theorem State.record_smp (s : State) (p : Nat) (r : List Byte) : (s.record p r).smp = s.smp := by unfold State.record; split <;> rfl
@[simp] theorem State.record_lathe (s : State) (p : Nat) (r : List Byte) : (s.record p r).lathe = s.lathe := by unfold State.record; split <;> rfl
@[simp] theorem State.record_plt (s : State) (p : Nat) (r : List Byte) : (s.record p r).plt = s.plt := by unfold State.record; split <;> rfl
@[simp] theorem State.record_thm (s : State) (p : Nat) (r : List Byte) : (s.record p r).thm = s.thm := by unfold State.record; split <;> rfl
@[simp] theorem State.record_part (s : State) (p : Nat) (r : List Byte) : (s.record p r).part = s.part := by unfold State.record; split <;> rfl
@[simp] theorem State.record_tdma (s : State) (p : Nat) (r : List Byte) : (s.record p r).tdma = s.tdma := by unfold State.record; split <;> rfl
@[simp] theorem State.record_hdma (s : State) (p : Nat) (r : List Byte) : (s.record p r).hdma = s.hdma := by unfold State.record; split <;> rfl
@[simp] theorem State.record_vid (s : State) (p : Nat) (r : List Byte) : (s.record p r).vid = s.vid := by unfold State.record; split <;> rfl
@[simp] theorem State.record_arb (s : State) (p : Nat) (r : List Byte) : (s.record p r).arb = s.arb := by unfold State.record; split <;> rfl
@[simp] theorem State.record_host (s : State) (p : Nat) (r : List Byte) : (s.record p r).host = s.host := by unfold State.record; split <;> rfl
@[simp] theorem State.record_fab (s : State) (p : Nat) (r : List Byte) : (s.record p r).fab = s.fab := by unfold State.record; split <;> rfl
@[simp] theorem State.record_boot (s : State) (p : Nat) (r : List Byte) : (s.record p r).boot = s.boot := by unfold State.record; split <;> rfl
@[simp] theorem State.record_tdm (s : State) (p : Nat) (r : List Byte) : (s.record p r).tdm = s.tdm := by unfold State.record; split <;> rfl
@[simp] theorem State.record_dict (s : State) (p : Nat) (r : List Byte) : (s.record p r).dict = s.dict := by unfold State.record; split <;> rfl
@[simp] theorem State.record_out (s : State) (p : Nat) (r : List Byte) : (s.record p r).out = s.out := by unfold State.record; split <;> rfl
@[simp] theorem State.record_now (s : State) (p : Nat) (r : List Byte) : (s.record p r).now = s.now := by unfold State.record; split <;> rfl
@[simp] theorem State.record_aon (s : State) (p : Nat) (r : List Byte) : (s.record p r).aon = s.aon := by unfold State.record; split <;> rfl
@[simp] theorem State.record_cyc (s : State) (p : Nat) (r : List Byte) : (s.record p r).cyc = s.cyc := by unfold State.record; split <;> rfl
@[simp] theorem State.record_atsBytes (s : State) (p : Nat) (r : List Byte) : (s.record p r).atsBytes = s.atsBytes := by unfold State.record; split <;> rfl
@[simp] theorem State.record_freeCtr (s : State) (p : Nat) (r : List Byte) : (s.record p r).freeCtr = s.freeCtr := by unfold State.record; split <;> rfl
@[simp] theorem State.record_ticks (s : State) (p : Nat) (r : List Byte) : (s.record p r).ticks = s.ticks := by unfold State.record; split <;> rfl
@[simp] theorem State.record_pending (s : State) (p : Nat) (r : List Byte) : (s.record p r).pending = s.pending := by unfold State.record; split <;> rfl
@[simp] theorem State.record_rd (s : State) (p : Nat) (r : List Byte) (g : Fld) : (s.record p r).rd g = s.rd g := by simp [State.rd]
@[simp] theorem State.record_flag (s : State) (p : Nat) (r : List Byte) (g : Fld) : (s.record p r).flag g = s.flag g := by simp [State.flag]
@[simp] theorem State.record_inEff (s : State) (p : Nat) (r : List Byte) (g : Fld) : (s.record p r).inEff g = s.inEff g := by simp [State.inEff]
@[simp] theorem State.record_lth (s : State) (p : Nat) (r : List Byte) (k : Nat) : (s.record p r).lth k = s.lth k := by simp [State.lth]

/-! `clearRegs` changes `regs`, `eff` alone. -/

@[simp] theorem State.clearRegs_is1T (s : State) (lo hi : Nat) : (s.clearRegs lo hi).is1T = s.is1T := rfl
@[simp] theorem State.clearRegs_mem (s : State) (lo hi : Nat) : (s.clearRegs lo hi).mem = s.mem := rfl
@[simp] theorem State.clearRegs_keys (s : State) (lo hi : Nat) : (s.clearRegs lo hi).keys = s.keys := rfl
@[simp] theorem State.clearRegs_err (s : State) (lo hi : Nat) : (s.clearRegs lo hi).err = s.err := rfl
@[simp] theorem State.clearRegs_pft (s : State) (lo hi : Nat) : (s.clearRegs lo hi).pft = s.pft := rfl
@[simp] theorem State.clearRegs_smp (s : State) (lo hi : Nat) : (s.clearRegs lo hi).smp = s.smp := rfl
@[simp] theorem State.clearRegs_lathe (s : State) (lo hi : Nat) : (s.clearRegs lo hi).lathe = s.lathe := rfl
@[simp] theorem State.clearRegs_plt (s : State) (lo hi : Nat) : (s.clearRegs lo hi).plt = s.plt := rfl
@[simp] theorem State.clearRegs_thm (s : State) (lo hi : Nat) : (s.clearRegs lo hi).thm = s.thm := rfl
@[simp] theorem State.clearRegs_part (s : State) (lo hi : Nat) : (s.clearRegs lo hi).part = s.part := rfl
@[simp] theorem State.clearRegs_tdma (s : State) (lo hi : Nat) : (s.clearRegs lo hi).tdma = s.tdma := rfl
@[simp] theorem State.clearRegs_hdma (s : State) (lo hi : Nat) : (s.clearRegs lo hi).hdma = s.hdma := rfl
@[simp] theorem State.clearRegs_vid (s : State) (lo hi : Nat) : (s.clearRegs lo hi).vid = s.vid := rfl
@[simp] theorem State.clearRegs_arb (s : State) (lo hi : Nat) : (s.clearRegs lo hi).arb = s.arb := rfl
@[simp] theorem State.clearRegs_host (s : State) (lo hi : Nat) : (s.clearRegs lo hi).host = s.host := rfl
@[simp] theorem State.clearRegs_fab (s : State) (lo hi : Nat) : (s.clearRegs lo hi).fab = s.fab := rfl
@[simp] theorem State.clearRegs_boot (s : State) (lo hi : Nat) : (s.clearRegs lo hi).boot = s.boot := rfl
@[simp] theorem State.clearRegs_tdm (s : State) (lo hi : Nat) : (s.clearRegs lo hi).tdm = s.tdm := rfl
@[simp] theorem State.clearRegs_dict (s : State) (lo hi : Nat) : (s.clearRegs lo hi).dict = s.dict := rfl
@[simp] theorem State.clearRegs_evq (s : State) (lo hi : Nat) : (s.clearRegs lo hi).evq = s.evq := rfl
@[simp] theorem State.clearRegs_out (s : State) (lo hi : Nat) : (s.clearRegs lo hi).out = s.out := rfl
@[simp] theorem State.clearRegs_now (s : State) (lo hi : Nat) : (s.clearRegs lo hi).now = s.now := rfl
@[simp] theorem State.clearRegs_aon (s : State) (lo hi : Nat) : (s.clearRegs lo hi).aon = s.aon := rfl
@[simp] theorem State.clearRegs_cyc (s : State) (lo hi : Nat) : (s.clearRegs lo hi).cyc = s.cyc := rfl
@[simp] theorem State.clearRegs_atsBytes (s : State) (lo hi : Nat) : (s.clearRegs lo hi).atsBytes = s.atsBytes := rfl
@[simp] theorem State.clearRegs_freeCtr (s : State) (lo hi : Nat) : (s.clearRegs lo hi).freeCtr = s.freeCtr := rfl
@[simp] theorem State.clearRegs_ticks (s : State) (lo hi : Nat) : (s.clearRegs lo hi).ticks = s.ticks := rfl
@[simp] theorem State.clearRegs_pending (s : State) (lo hi : Nat) : (s.clearRegs lo hi).pending = s.pending := rfl
@[simp] theorem State.clearRegs_lth (s : State) (lo hi : Nat) (k : Nat) : (s.clearRegs lo hi).lth k = s.lth k := rfl

/-! `send` changes `regs`, `out` alone. -/

@[simp] theorem State.send_is1T (s : State) (o : Out) : (s.send o).is1T = s.is1T := by unfold State.send; split <;> rfl
@[simp] theorem State.send_eff (s : State) (o : Out) : (s.send o).eff = s.eff := by unfold State.send; split <;> rfl
@[simp] theorem State.send_mem (s : State) (o : Out) : (s.send o).mem = s.mem := by unfold State.send; split <;> rfl
@[simp] theorem State.send_keys (s : State) (o : Out) : (s.send o).keys = s.keys := by unfold State.send; split <;> rfl
@[simp] theorem State.send_err (s : State) (o : Out) : (s.send o).err = s.err := by unfold State.send; split <;> rfl
@[simp] theorem State.send_pft (s : State) (o : Out) : (s.send o).pft = s.pft := by unfold State.send; split <;> rfl
@[simp] theorem State.send_smp (s : State) (o : Out) : (s.send o).smp = s.smp := by unfold State.send; split <;> rfl
@[simp] theorem State.send_lathe (s : State) (o : Out) : (s.send o).lathe = s.lathe := by unfold State.send; split <;> rfl
@[simp] theorem State.send_plt (s : State) (o : Out) : (s.send o).plt = s.plt := by unfold State.send; split <;> rfl
@[simp] theorem State.send_thm (s : State) (o : Out) : (s.send o).thm = s.thm := by unfold State.send; split <;> rfl
@[simp] theorem State.send_part (s : State) (o : Out) : (s.send o).part = s.part := by unfold State.send; split <;> rfl
@[simp] theorem State.send_tdma (s : State) (o : Out) : (s.send o).tdma = s.tdma := by unfold State.send; split <;> rfl
@[simp] theorem State.send_hdma (s : State) (o : Out) : (s.send o).hdma = s.hdma := by unfold State.send; split <;> rfl
@[simp] theorem State.send_vid (s : State) (o : Out) : (s.send o).vid = s.vid := by unfold State.send; split <;> rfl
@[simp] theorem State.send_arb (s : State) (o : Out) : (s.send o).arb = s.arb := by unfold State.send; split <;> rfl
@[simp] theorem State.send_host (s : State) (o : Out) : (s.send o).host = s.host := by unfold State.send; split <;> rfl
@[simp] theorem State.send_fab (s : State) (o : Out) : (s.send o).fab = s.fab := by unfold State.send; split <;> rfl
@[simp] theorem State.send_boot (s : State) (o : Out) : (s.send o).boot = s.boot := by unfold State.send; split <;> rfl
@[simp] theorem State.send_tdm (s : State) (o : Out) : (s.send o).tdm = s.tdm := by unfold State.send; split <;> rfl
@[simp] theorem State.send_dict (s : State) (o : Out) : (s.send o).dict = s.dict := by unfold State.send; split <;> rfl
@[simp] theorem State.send_evq (s : State) (o : Out) : (s.send o).evq = s.evq := by unfold State.send; split <;> rfl
@[simp] theorem State.send_now (s : State) (o : Out) : (s.send o).now = s.now := by unfold State.send; split <;> rfl
@[simp] theorem State.send_aon (s : State) (o : Out) : (s.send o).aon = s.aon := by unfold State.send; split <;> rfl
@[simp] theorem State.send_cyc (s : State) (o : Out) : (s.send o).cyc = s.cyc := by unfold State.send; split <;> rfl
@[simp] theorem State.send_atsBytes (s : State) (o : Out) : (s.send o).atsBytes = s.atsBytes := by unfold State.send; split <;> rfl
@[simp] theorem State.send_freeCtr (s : State) (o : Out) : (s.send o).freeCtr = s.freeCtr := by unfold State.send; split <;> rfl
@[simp] theorem State.send_ticks (s : State) (o : Out) : (s.send o).ticks = s.ticks := by unfold State.send; split <;> rfl
@[simp] theorem State.send_pending (s : State) (o : Out) : (s.send o).pending = s.pending := by unfold State.send; split <;> rfl
@[simp] theorem State.send_inEff (s : State) (o : Out) (g : Fld) : (s.send o).inEff g = s.inEff g := by simp [State.inEff]
@[simp] theorem State.send_lth (s : State) (o : Out) (k : Nat) : (s.send o).lth k = s.lth k := by simp [State.lth]

/-! What the readers answer. -/

@[simp] theorem State.rd_wr_self (s : State) (f : Fld) (v : Nat) : (s.wr f v).rd f = v % 2 ^ f.width := by simp [State.wr, State.rd]

theorem State.rd_wr_ne (s : State) {f g : Fld} (v : Nat) (h : g.key ≠ f.key) : (s.wr f v).rd g = s.rd g := by
  simp only [State.wr, State.rd]; exact Cells.get_set_ne _ _ _ _ h

theorem State.flag_wr_ne (s : State) {f g : Fld} (v : Nat) (h : g.key ≠ f.key) : (s.wr f v).flag g = s.flag g := by
  simp only [State.flag, State.rd_wr_ne s v h]

@[simp] theorem State.inEff_wrEff_self (s : State) (f : Fld) (v : Nat) : (s.wrEff f v).inEff f = v % 2 ^ f.width := by simp [State.wrEff, State.inEff]

theorem State.inEff_wrEff_ne (s : State) {f g : Fld} (v : Nat) (h : g.key ≠ f.key) : (s.wrEff f v).inEff g = s.inEff g := by
  simp only [State.wrEff, State.inEff]; exact Cells.get_set_ne _ _ _ _ h

theorem State.wr_eta (s : State) (f : Fld) (v : Nat) : s.wr f v = { s with regs := (s.wr f v).regs } := rfl

@[simp] theorem State.lth_setLth_self (s : State) (n : Nat) (x : LatheSt) : (s.setLth n x).lth n = x := by simp [State.setLth, State.lth]

theorem State.lth_setLth_ne (s : State) {n m : Nat} (x : LatheSt) (h : m ≠ n) : (s.setLth n x).lth m = s.lth m := by
  simp only [State.setLth, State.lth]; exact Cells.get_set_ne _ _ _ _ h

@[simp] theorem State.loop_setLoop_self (s : State) (p : Nat) (x : PltPart) : (s.setLoop p x).loop p = x := by simp [State.setLoop, State.loop]

theorem State.rd_bump_ne (s : State) {f g : Fld} (n : Nat) (h : g.key ≠ f.key) : (s.bump f n).rd g = s.rd g := State.rd_wr_ne s _ h

theorem State.rd_send_ne (s : State) (o : Out) {g : Fld} (h : g.key ≠ PCI_INJ.ECRC.key) : (s.send o).rd g = s.rd g := by
  unfold State.send; split
  · exact State.rd_wr_ne s 0 h
  · rfl

theorem State.mem_send (s : State) (o : Out) : o ∈ (s.send o).out := by
  unfold State.send; split <;> simp

end Sys2Proof.Machine
end

