-- ==== Sys2Proof/WellFormed.lean ====
section
/-! DEFINITION. The commands that a requester, a pin or an engine can produce: what the types of the operands leave to check. A meaning is total and
does not ask for it; a command that is not well formed is none that the hardware meets. -/

namespace Sys2Proof

/-- A register access names a 4-byte word (R13, R17). -/
def RegPlace.wf : RegPlace → Bool
  | .bar0 off => off.toNat % 4 = 0
  | .bar4 off => off.toNat % 4 = 0
  | .vf _ off => off.toNat % 4 = 0
  | .cpu _ off => off.toNat % 4 = 0

/-- A write carries the bytes of its length. -/
def dataOk (len : Nat) : Option (List Byte) → Bool
  | none => true
  | some b => b.length = len

/-- The fields of a packet header within their widths, and the type of the command (Table 11.5). -/
def FabPkt.wf (typ : Nat) (k : FabPkt) : Bool :=
  k.typ = typ && k.dst < 2 ^ 7 && k.src < 2 ^ 7 && k.tenant < 2 ^ 12 && k.epoch < 2 ^ 4 && k.keyPhase < 2 && k.addr < 2 ^ 40 && k.pseq < 2 ^ 16 &&
  k.bytes < 2 ^ 11 && k.tag < 2 ^ 16 && k.status < 2 ^ 8 && k.barrier < 2 ^ 4 && k.gen < 2 ^ 16

/-- A payload of 16 to 1,024 bytes in steps of 16, as long as BYTES (Table 11.5). -/
def payloadOk (k : FabPkt) : Bool := 16 ≤ k.bytes && k.bytes ≤ 1024 && k.bytes % 16 = 0 && k.data.length = k.bytes

/-- The bytes of an ML-DSA-87 signature (R378). -/
def sigLen : Nat := 4627

/-- A PDU is at most 1,072 bytes long, and one of the field network at least 48 (R398). -/
def pduOk (path : DictPath) (pdu : List Byte) : Bool :=
  pdu.length ≤ 1072 && (match path with | .field _ _ _ _ => 48 ≤ pdu.length | .doe _ => true | .mirror => true)

/-- At most one sample of each sensor. -/
def onePerSensor (l : List (Fin 64 × BitVec 12)) : Bool := decide (l.map (·.1)).Nodup

/-- A command is well formed. -/
def Instr.wf : Instr → Bool
  | .registerWrite pl _ _ => pl.wf
  | .unmappedAccess pl _ => pl.wf
  | .rcFieldRead pl => pl.wf
  | .latchingLoRead _ => true
  | .injectionArm pl _ => pl.wf
  | .seqGo _ _ _ _ => true
  | .seqStop _ _ => true
  | .seqResume _ => true
  | .lreset _ => true
  | .latheResetDone _ => true
  | .stepAbort _ => true
  | .descriptorDecode _ => true
  | .repetitionIssue _ => true
  | .repetitionComplete _ _ => true
  | .descriptorError _ => true
  | .waitTimeout _ => true
  | .stepEpochOpen _ => true
  | .lthCommit _ _ => true
  | .evtInc _ _ _ => true
  | .lthDbgDataAccess _ _ _ => true
  | .droopStretch _ => true
  | .pftCmdQueue _ => true
  | .pftRespRead => true
  | .slotOpen => true
  | .slotPrepare => true
  | .commitLen => true
  | .slotFork => true
  | .slotTruncate => true
  | .slotRelease => true
  | .pinTake => true
  | .pinEnd => true
  | .abortStep => true
  | .relink => true
  | .pinGenerationFlip _ => true
  | .retiredItemsFree _ => true
  | .kvLatch _ => true
  | .pftCommit _ _ _ => true
  | .pftPoolReady _ => true
  | .pltCommit _ _ _ => true
  | .templateDerived _ => true
  | .stepSelect _ => true
  | .stepPrepareDone _ => true
  | .stepBuild _ => true
  | .stepRelease _ => true
  | .stepGo _ => true
  | .ackTimeout _ => true
  | .stepRunEnd _ => true
  | .samplePhase => true
  | .stepCommitGroupDone _ => true
  | .commitPoint _ => true
  | .stepErrorReport _ => true
  | .stepAbortEnd _ => true
  | .sqTailWrite _ _ => true
  | .submit _ _ => true
  | .draft _ _ _ _ tokens => tokens.length ≤ 63
  | .cancel _ _ _ => true
  | .entryBad _ _ => true
  | .tResRecompute _ _ => true
  | .bucketRefill _ => true
  | .bucketWrite _ => true
  | .pelotonSramUe _ => true
  | .smpProfCommit _ _ => true
  | .smpCommit _ _ => true
  | .portTrainingDone _ _ => true
  | .portZeroingDone _ => true
  | .refreshRateUpdate _ modes => modes.length = 5
  | .selfRefreshEntry _ => true
  | .portAccess _ _ addr len data => 1 ≤ len.val && dataOk len.val data && addr.toNat + len.val ≤ 2 ^ 36
  | .sramScrubWord _ => true
  | .patrolScrubUnit _ => true
  | .retireBlock _ => true
  | .memRetire _ _ => true
  | .retireCopyDone _ => true
  | .memCommit _ => true
  | .keyLoad _ _ key => key.length = 64
  | .keyRotateStart _ => true
  | .rotationSweepUnit _ => true
  | .rotationDrainDone _ => true
  | .keyPcommit _ _ _ => true
  | .tdmaChKick _ _ _ => true
  | .tdmaDescFetch _ _ => true
  | .tdmaEventPulse _ _ => true
  | .tdmaBusError _ _ _ => true
  | .tdmaGrpClear _ => true
  | .channelFence _ => true
  | .channelUnfence _ => true
  | .channelDisable _ => true
  | .channelEnable _ => true
  | .channelCfgCommit _ => true
  | .hdmaDoorbell _ _ => true
  | .hdmaEntryFetch _ words => words.length = 16 || words.isEmpty
  | .hdmaTrigger _ => true
  | .hdmaWriteback _ _ => true
  | .hdmaResume _ => true
  | .hdmaBusError _ _ => true
  | .hdmaRestart => true
  | .arbDecision _ slots => slots.length ≤ 32
  | .arbCommit _ => true
  | .videoEngineAssign _ _ _ => true
  | .videoSramCleared _ => true
  | .vidCtxCommit _ _ _ _ => true
  | .videoRow _ _ _ => true
  | .frameReport _ _ => true
  | .vidFlush _ _ => true
  | .vidResume _ _ => true
  | .vidCtxSrc _ _ _ _ _ _ _ => true
  | .fabCommit _ => true
  | .fabPcommit _ _ _ => true
  | .planeTrained _ => true
  | .trainingTimeout _ => true
  | .planeLock _ _ => true
  | .helloRx _ h => h.credits.length = 4
  | .helloTx _ => true
  | .helloTimeout _ => true
  | .codewordRx _ _ _ => true
  | .controlFlitRx _ _ _ credits comps => credits.length = 4 && comps.length ≤ 6
  | .ackStallTimeout _ => true
  | .planeDown _ => true
  | .packetSend _ _ => true
  | .fabricWriteRx _ k => k.wf 0x10 && payloadOk k
  | .fabricEventWrite _ k => k.wf 0x10 && payloadOk k && k.bytes = 16
  | .barrierArrival _ k => k.wf 0x10 && payloadOk k && k.bytes = 16
  | .fabricReadReqRx _ k => k.wf 0x11 && k.data.isEmpty
  | .fabricReadRespRx _ k => k.wf 0x12 && k.data.length ≤ 1024
  | .fabricReleaseRx _ k => k.wf 0x13 && k.data.isEmpty && k.bytes = 0
  | .e2eTimeout n => n < 128 * 4096
  | .checkpointStart _ _ _ _ _ => true
  | .checkpointEnd _ => true
  | .pcieLinkUp _ _ _ => true
  | .linkLoss _ => true
  | .configRequest _ _ _ => true
  | .pf0ApertureAccess _ len data _ => 1 ≤ len.val && dataOk len.val data
  | .vfApertureAccess _ _ len data => 1 ≤ len.val && dataOk len.val data
  | .receivedTlpError _ _ => true
  | .completionTimeout _ => true
  | .vfFlr _ => true
  | .pfReset => true
  | .ringEnable _ _ => true
  | .oqFreeWrite _ _ => true
  | .eqHeadWrite _ _ => true
  | .eventRecordWrite _ => true
  | .submissionReadFault _ _ => true
  | .mbxSend _ _ _ => true
  | .mbxRing _ _ _ => true
  | .mbxInDataRead _ => true
  | .irqFilterSettle _ => true
  | .irqPendWrite _ _ => true
  | .irqClaim _ _ => true
  | .irqDone _ => true
  | .partitionBuild _ _ => true
  | .partitionTeardown _ _ _ => true
  | .teardownFenceTimeout _ => true
  | .teardownComplete _ => true
  | .attestationRequest _ nonce => nonce.length = 64
  | .kemRequest _ nonce => nonce.length = 64
  | .keyDelivery _ _ _ _ ct wrapped => ct.length = 1568 && wrapped.length = 72
  | .ownerChange digest sig => digest.length = 64 && (sig.length = sigLen || sig.isEmpty)
  | .debugOpen _ => true
  | .debugClose => true
  | .debugSessionTimeout => true
  | .dbgWayDataAccess _ _ => true
  | .dictRead path pdu _ => pduOk path pdu
  | .dictWrite path pdu _ => pduOk path pdu
  | .dictDescribe path pdu _ => pduOk path pdu
  | .snapshotExpire _ _ _ => true
  | .stagingExpire _ _ _ => true
  | .beaconTx => true
  | .beaconRx _ _ pdu => pdu.length ≤ 1072
  | .partnerLost _ => true
  | .settingsWrite _ => true
  | .mirrorGo => true
  | .powerOnReset _ => true
  | .moduleReset _ _ => true
  | .glbRst _ _ => true
  | .svcWatchdogExpiry _ => true
  | .updateHeader _ header => header.length = 16384
  | .updateEraseDone => true
  | .updateBlock _ value _ => 8 ≤ value.length && value.length ≤ 8 + 65536
  | .updateCmdReset _ => true
  | .updateConfirm => true
  | .updateActivate _ _ _ => true
  | .updateFinish _ _ => true
  | .updateSkip _ _ => true
  | .updateSkipDone _ => true
  | .updateAbort => true
  | .updateSessionTimeout => true
  | .trialHoursConfirm => true
  | .trialFailure _ => true
  | .updateLock _ _ sig => sig.length = sigLen
  | .powerComponentStep _ _ => true
  | .brake => true
  | .brakeRelease _ => true
  | .inputLoss => true
  | .inputReturn _ => true
  | .railPgoodTimeout _ _ => true
  | .coolantComponentUpdate _ _ _ _ => true
  | .flowStop => true
  | .flowStopEnd _ => true
  | .pairDifference _ _ _ _ => true
  | .latheLevelStep _ readings => onePerSensor readings
  | .thermalTrip _ _ => true
  | .autoRestart _ => true
  | .keepWarmTick => true
  | .raiseComputeRails _ _ _ _ => true
  | .thmCommit _ => true
  | .heartbeatSilent _ _ _ => true
  | .supervisorWatchdogExpiry _ => true
  | .takeover readings => onePerSensor readings
  | .plannedHandover readings => onePerSensor readings
  | .savedStateWrite => true
  | .supervisorReload _ _ readings => onePerSensor readings
  | .noOwnerOverride => true
  | .noOwnerRailRemoval => true
  | .errorReport _ _ _ _ => true
  | .bucketRotate => true
  | .errCommit _ => true
  | .errLogRead => true
  | .katBackgroundStart _ => true
  | .katPassMissed _ => true
  | .katResult _ _ _ => true
  | .latheRetire _ _ => true
  | .maintenanceWindow _ => true
  | .latheLift _ _ _ => true
  | .lifetimeCommit => true
  | .restoreArm _ => true
  | .restoreStart _ => true
  | .restoreCommit _ => true
  | .restoreAbort _ _ => true
  | .locatePinChange _ => true
  | .holdupCharged _ => true
  | .sensorInvalid _ => true
  | .doeAbort _ => true
  | .plcaBeaconHeard => true
  | .plcaBeaconLost => true

end Sys2Proof
end

