-- ==== Sys2Proof/Tests/Slice0.lean ====
section
/-! SUPPORT. Checks of this model: terms that each check of WellFormed refuses, and, for every statement of
Certificates/Slice0/Obligations.lean that has hypotheses, states and operands that meet them, clause by clause
(`test_hyp_<the statement>`). -/

namespace Sys2Proof.Tests
open Sys2Proof Sys2Proof.Machine Sys2Proof.Machine.Reg
set_option maxRecDepth 50000

/-- The state after reset with some register fields set. -/
def st (l : List (Fld × Nat)) : State := l.foldl (fun s x => s.wr x.1 x.2) State.reset

/-- The same in RUN state READY with the compute rails up. -/
def up (l : List (Fld × Nat)) : State := st ((GLB_LIFE.RUN, 3) :: (PWR_STAT.GROUP_C, 1) :: l)

/-! Each check of WellFormed refuses a term of its own, and accepts one beside it. -/

/-- What a dictionary write meets when all goes well. -/
def env0 : DictEnv := ⟨true, true, true, 0, ⟨0, true, true, true, 0xFFFF⟩⟩

theorem test_wf_refuses_registerWrite : Instr.wf (.registerWrite (.bar0 2) 0 15) = false := by decide
theorem test_wf_refuses_unmappedAccess : Instr.wf (.unmappedAccess (.bar4 1) true) = false := by decide
theorem test_wf_refuses_rcFieldRead : Instr.wf (.rcFieldRead (.vf 0 3)) = false := by decide
theorem test_wf_refuses_injectionArm : Instr.wf (.injectionArm (.cpu 0 2) 1) = false := by decide
theorem test_wf_refuses_draft : Instr.wf (.draft 0 0 0 0 (List.replicate 64 0)) = false := by decide
theorem test_wf_refuses_refreshRateUpdate : Instr.wf (.refreshRateUpdate 0 [0]) = false := by decide
theorem test_wf_refuses_portAccess_len : Instr.wf (.portAccess .engine 0 0 0 none) = false := by decide
theorem test_wf_refuses_portAccess_data : Instr.wf (.portAccess .engine 0 0 2 (some [1])) = false := by decide
theorem test_wf_refuses_portAccess_end : Instr.wf (.portAccess .engine 0 0xFFFFFFFFF 2 none) = false := by decide
theorem test_wf_refuses_keyLoad : Instr.wf (.keyLoad 0 0 []) = false := by decide
theorem test_wf_refuses_hdmaEntryFetch : Instr.wf (.hdmaEntryFetch 0 [1]) = false := by decide
theorem test_wf_refuses_arbDecision : Instr.wf (.arbDecision 0 (List.replicate 33 0)) = false := by decide
theorem test_wf_refuses_helloRx : Instr.wf (.helloRx 0 ⟨false, false, false, false, 0, 0, 0, 0, [], 0⟩) = false := by decide
theorem test_wf_refuses_controlFlitRx_credits : Instr.wf (.controlFlitRx 0 0 false [] []) = false := by decide
theorem test_wf_refuses_controlFlitRx_comps : Instr.wf (.controlFlitRx 0 0 false [0, 0, 0, 0] (List.replicate 7 ⟨0, 0, 0, 0⟩)) = false := by decide
theorem test_wf_refuses_fabricWriteRx_type : Instr.wf (.fabricWriteRx 0 { typ := 0x11, bytes := 16, data := List.replicate 16 0 }) = false := by decide
theorem test_wf_refuses_fabricWriteRx_data : Instr.wf (.fabricWriteRx 0 { typ := 0x10, bytes := 32, data := List.replicate 16 0 }) = false := by decide
theorem test_wf_refuses_fabricEventWrite : Instr.wf (.fabricEventWrite 0 { typ := 0x10, bytes := 32, data := List.replicate 32 0 }) = false := by decide
theorem test_wf_refuses_barrierArrival : Instr.wf (.barrierArrival 0 { typ := 0x10, bytes := 32, data := List.replicate 32 0 }) = false := by decide
theorem test_wf_refuses_fabricReadReqRx : Instr.wf (.fabricReadReqRx 0 { typ := 0x11, data := [0] }) = false := by decide
theorem test_wf_refuses_fabricReadRespRx : Instr.wf (.fabricReadRespRx 0 { typ := 0x12, tag := 65536 }) = false := by decide
theorem test_wf_refuses_fabricReleaseRx : Instr.wf (.fabricReleaseRx 0 { typ := 0x13, bytes := 16 }) = false := by decide
theorem test_wf_refuses_e2eTimeout : Instr.wf (.e2eTimeout 524288) = false := by decide
theorem test_wf_refuses_pf0ApertureAccess : Instr.wf (.pf0ApertureAccess 0 0 none true) = false := by decide
theorem test_wf_refuses_vfApertureAccess : Instr.wf (.vfApertureAccess 0 0 4 (some [1])) = false := by decide
theorem test_wf_refuses_attestationRequest : Instr.wf (.attestationRequest .mirror []) = false := by decide
theorem test_wf_refuses_kemRequest : Instr.wf (.kemRequest 0 [0]) = false := by decide
theorem test_wf_refuses_keyDelivery : Instr.wf (.keyDelivery 0 0 false 0 [] []) = false := by decide
theorem test_wf_refuses_ownerChange : Instr.wf (.ownerChange [] []) = false := by decide
theorem test_wf_refuses_dictRead : Instr.wf (.dictRead (.field 0 false true false) [1] env0) = false := by decide
theorem test_wf_refuses_beaconRx : Instr.wf (.beaconRx 0 true (List.replicate 1073 0)) = false := by decide
theorem test_wf_refuses_updateHeader : Instr.wf (.updateHeader .mirror []) = false := by decide
theorem test_wf_refuses_updateBlock : Instr.wf (.updateBlock .mirror [0] true) = false := by decide
theorem test_wf_refuses_updateLock : Instr.wf (.updateLock true 0 []) = false := by decide
theorem test_wf_refuses_latheLevelStep : Instr.wf (.latheLevelStep none [(3, 0), (3, 1)]) = false := by decide
theorem test_wf_refuses_takeover : Instr.wf (.takeover [(3, 0), (3, 1)]) = false := by decide
theorem test_wf_refuses_plannedHandover : Instr.wf (.plannedHandover [(0, 0), (0, 0)]) = false := by decide
theorem test_wf_refuses_supervisorReload : Instr.wf (.supervisorReload 0 true [(63, 0), (63, 0)]) = false := by decide
theorem test_wf_accepts_registers : ((Instr.registerWrite (.bar0 4) 0 15).wf && (Instr.unmappedAccess (.bar4 4) true).wf && (Instr.rcFieldRead (.vf 0 8)).wf && (Instr.injectionArm (.cpu 0 4) 1).wf) = true := by decide
theorem test_wf_accepts_serving : ((Instr.draft 0 0 0 0 (List.replicate 63 0)).wf && (Instr.refreshRateUpdate 0 [0, 1, 2, 0, 0]).wf && (Instr.portAccess .engine 0 0 2 (some [1, 2])).wf && (Instr.keyLoad 0 0 (List.replicate 64 0)).wf) = true := by decide
theorem test_wf_accepts_engines : ((Instr.hdmaEntryFetch 0 []).wf && (Instr.hdmaEntryFetch 0 (List.replicate 16 0)).wf && (Instr.arbDecision 0 (List.replicate 32 0)).wf && (Instr.e2eTimeout 524287).wf) = true := by decide
theorem test_wf_accepts_fabric : ((Instr.helloRx 0 ⟨false, false, false, false, 0, 0, 0, 0, [0, 0, 0, 0], 0⟩).wf && (Instr.controlFlitRx 0 0 false [0, 0, 0, 0] (List.replicate 6 ⟨0, 0, 0, 0⟩)).wf && (Instr.fabricWriteRx 0 { typ := 0x10, bytes := 16, data := List.replicate 16 0 }).wf && (Instr.fabricReadReqRx 0 { typ := 0x11 }).wf && (Instr.fabricReadRespRx 0 { typ := 0x12 }).wf && (Instr.fabricReleaseRx 0 { typ := 0x13 }).wf) = true := by decide
theorem test_wf_accepts_host : ((Instr.pf0ApertureAccess 0 4 none true).wf && (Instr.vfApertureAccess 0 0 1 (some [1])).wf && (Instr.attestationRequest .mirror (List.replicate 64 0)).wf && (Instr.dictRead .mirror [1] env0).wf && (Instr.takeover [(3, 0), (4, 1)]).wf) = true := by decide

/-! Hypotheses of the statements, met. -/

def lthWith (x : LatheSt) (l : List (Fld × Nat)) : State := (st l).setLth 0 x

def pftWith (x : PftSt) (l : List (Fld × Nat)) : State := { st l with pft := x }

def pftReady (w : List Nat) (l : List (Fld × Nat)) : State := pftWith { pfQueue := [w] } l

def pftGood : List (Fld × Nat) := [(PFT_GEOM.KV_FMT 0, 1), (PFT_GEOM.LAYERS 0, 1), (PFT_GEOM.HL 0, 1), (PFT_GEOM.DIM32 0, 1), (PFT_POOL_FRAMES.FRAMES 0, 1), (PFT_FRAME_SIZE.FRAME_4K 0, 8), (PFT_POOL_BASE.BASE 0, 17), (PFT_TABLE_SIZE.SIZE 0, 17), (LTH_PART.ASSIGNED 0, 1)]

def dWait : Desc := [1, 0, 0, 0, 0, 0, 1, 5]

def dAttn : Desc := [0x0C]

def fl1 : Flight := ⟨0, 0, [], 0, false, 0, none, 0⟩

theorem test_hyp_StepRunsFrontCommand :
    ({ State.reset with pending := [.droopStretch 0] } : State).pending = .droopStretch 0 :: [] :=
  rfl

theorem test_hyp_EmptyQueueLetsTimePass :
    State.reset.pending = [] :=
  rfl

theorem test_hyp_CommandsLeaveQueueAlone :
    (∃ t, exec (.seqResume 0) State.reset = .next t) ∧
    (∃ t, step { State.reset with pending := [.seqResume 0, .seqResume 1] } = .next t) :=
  ⟨⟨_, rfl⟩, ⟨_, rfl⟩⟩

theorem test_hyp_MemoriesStayCanonical :
    Memory.wf State.reset.mem = true ∧ ∃ t, step State.reset = .next t :=
  ⟨by decide, _, rfl⟩

theorem test_hyp_OtpBitsOnlyRise :
    ((Cells.get 0 ({ State.reset with boot := { otp := Cells.set 0 [] 0x80 5 } } : State).boot.otp 0x80).testBit 2 = true) ∧
    (∃ t, step { State.reset with boot := { otp := Cells.set 0 [] 0x80 5 } } = .next t) :=
  ⟨by decide, ⟨_, rfl⟩⟩

theorem test_hyp_OutputsAreNeverTakenBack :
    ∃ t, step { State.reset with out := [.unsupported], pending := [.mbxInDataRead 3] } = .next t :=
  ⟨_, rfl⟩

theorem test_hyp_FieldStorage :
    (LTH_PART.PART 0).key ≠ (LTH_PART.ASSIGNED 0).key :=
  by decide

theorem test_hyp_FieldWriteByAccessType :
    ((LTH_SEQ_STAT.STATE 0).acc = .ro ∧ (LTH_PART.PART 0).acc = .rw ∧ (LTH_CFG_STAT.CFG_BUSY_WR 0).acc = .w1c ∧ (LTH_SEQ_CTRL.STOP 0).acc = .w1s) ∧
    ((LTH_PART.PART 0).key ≠ (LTH_PART.ASSIGNED 0).key ∧ 0 < (LTH_CFG_STAT.CFG_BUSY_WR 0).width) :=
  by
  refine ⟨?_, ?_⟩ <;> decide

theorem test_hyp_RegisterAccess :
    ((up []).urNow (.bar0 0x01000010) = false) ∧
    ((3 : BitVec 4) ≠ 15) ∧
    (State.reset.urNow (.bar0 0x01000010) = true) ∧
    ((up []).dest (.bar0 0x0FFFFFFC) = .none ∧ barAccess (.bar0 0x0FFFFFFC) = true ∧ (up []).urNow (.bar0 0x0FFFFFFC) = false) ∧
    ((up []).urNow (.bar0 0x01000010) = false ∧ (up []).dest (.bar0 0x01000010) = .reg 0x01000010 false ∧ ownRead 0x01000010 = false) ∧
    ((up []).urNow (.bar0 0x07000004) = false ∧ (up []).dest (.bar0 0x07000004) = .reg (mbxT 0 + 4) true) ∧
    ((up []).urNow (.bar0 (BitVec.ofNat 28 (LTH_CYC_LO.CYC 3).addr)) = false ∧ (up []).urNow (.bar0 (BitVec.ofNat 28 (ATS_BYTES_LO.BYTES 3).addr)) = false) ∧
    ((up []).urNow (.bar0 (BitVec.ofNat 28 PLT_NOW_LO.NOW.addr)) = false ∧ (up []).urNow (.bar0 (BitVec.ofNat 28 (PLT_STEP_LO.STEP 7).addr)) = false) ∧
    ((up []).injPlace (.bar0 (BitVec.ofNat 28 (LTH_INJ.DROOP 0).addr)) = true ∧ (up []).urNow (.bar0 (BitVec.ofNat 28 (LTH_INJ.DROOP 0).addr)) = false) :=
  ⟨by decide, by decide, by decide, ⟨rfl, by decide, by decide⟩, ⟨by decide, rfl, by decide⟩, ⟨by decide, rfl⟩, by decide, by decide, by decide⟩

theorem test_hyp_RefusedRegisterWrites :
    ownWrite (LTH_PLAN_BASE.BASE 0 0).addr = false ∧ (st [(LTH_SEQ_STAT.STATE 0, 2)]).refusedBy (LTH_PLAN_BASE.BASE 0 0).addr = some (LTH_CFG_STAT.CFG_BUSY_WR 0) :=
  by decide

theorem test_hyp_PlanGoStartsOrIsHeld :
    ((st [(LTH_SEQ_STAT.STATE 0, 1)]).flag (LTH_PART.PLT_OWNED 0) = false ∧ 0 < (1 : Fin 4096).val ∧ (st [(LTH_SEQ_STAT.STATE 0, 1)]).planBase 0 (b2n false) + 128 * 1 ≤ lsramSize ∧ (st [(LTH_SEQ_STAT.STATE 0, 1)]).seq 0 = 1) ∧
    ((st [(LTH_SEQ_STAT.STATE 0, 3)]).planBase 0 0 + 128 * 4095 ≤ lsramSize ∧ (st [(LTH_SEQ_STAT.STATE 0, 3)]).seq 0 = 3 ∧ (st [(LTH_SEQ_STAT.STATE 0, 3)]).flag (LTH_SEQ_STAT.GO_PENDING 0) = false) ∧
    ((st [(LTH_SEQ_STAT.STATE 0, 4), (LTH_SEQ_STAT.GO_PENDING 0, 1)]).seq 0 = 4 ∧ (st [(LTH_SEQ_STAT.STATE 0, 4), (LTH_SEQ_STAT.GO_PENDING 0, 1)]).flag (LTH_SEQ_STAT.GO_PENDING 0) = true) ∧
    ((st [(LTH_SEQ_STAT.STATE 0, 8)]).seq 0 = 8) ∧
    ((st [(LTH_PART.PLT_OWNED 0, 1)]).flag (LTH_PART.PLT_OWNED 0) = true) ∧
    (State.reset.flag (LTH_SEQ_CTRL.STOP 0) = false) :=
  by
  refine ⟨?_, ?_, ?_, ?_, ?_, ?_⟩ <;> decide

theorem test_hyp_StopResumeAndReset :
    (State.reset.flag (LTH_PART.PLT_OWNED 0) = false ∧ (st [(LTH_SEQ_STAT.STATE 0, 2)]).seq 0 = 2 ∧ 5 ≤ (st [(LTH_SEQ_STAT.STATE 0, 5)]).seq 0) ∧
    ((st [(LTH_SEQ_STAT.STATE 0, 4)]).seq 0 = 4 ∧ (st [(LTH_SEQ_STAT.STATE 0, 4)]).flag (LTH_PART.PLT_OWNED 0) = false) ∧
    ((st [(LTH_SEQ_STAT.STATE 0, 7)]).seq 0 = 7 ∧ State.reset.seq 0 ≠ 7) ∧
    ((st [(LTH_SEQ_STAT.STATE 0, 8)]).seq 0 = 8 ∧ (st [(LTH_SEQ_STAT.STATE 0, 4)]).seq 0 = 4) ∧
    ((st [(LTH_SEQ_STAT.STATE 0, 0)]).seq 0 = 0) :=
  by
  refine ⟨?_, ?_, ?_, ?_, ?_⟩ <;> decide

theorem test_hyp_DescriptorEnds :
    ((st [(LTH_SEQ_STAT.STATE 0, 7)]).seq 0 = 7 ∧ (st [(LTH_SEQ_STAT.STATE 0, 8)]).seq 0 = 8 ∧ (st [(LTH_SEQ_STAT.STATE 0, 3)]).seq 0 = 3) ∧
    ((lthWith { flights := [⟨0, 0, [], 0, true, 5, none, 0⟩] } [(LTH_SEQ_STAT.STATE 0, 4)]).seq 0 = 4) ∧
    (((lthWith { flights := [⟨0, 0, [], 0, true, 5, none, 0⟩] } [(LTH_SEQ_STAT.STATE 0, 4)]).lth 0).flights.find? (fun g => g.err ≠ 0) = some ⟨0, 0, [], 0, true, 5, none, 0⟩) ∧
    (((lthWith { fail := 0x10 } [(LTH_SEQ_STAT.STATE 0, 2)]).lth 0).flights.find? (fun g => g.err ≠ 0) = none ∧ ((lthWith { fail := 0x10 } [(LTH_SEQ_STAT.STATE 0, 2)]).lth 0).fail ≠ 0) :=
  by
  refine ⟨?_, ?_, ?_, ?_⟩ <;> decide

theorem test_hyp_DescriptorFetchIssueComplete :
    ((st [(LTH_SEQ_STAT.STATE 0, 2)]).seq 0 = 2 ∧ ((st [(LTH_SEQ_STAT.STATE 0, 2)]).lth 0).tdmaHit = false ∧ (st [(LTH_SEQ_STAT.STATE 0, 2)]).rd (LTH_CFG_STAT.PENDING 0) ≠ 1) ∧
    ((lthWith { tdmaHit := true } [(LTH_SEQ_STAT.STATE 0, 2)]).seq 0 = 2 ∧ ((lthWith { tdmaHit := true } [(LTH_SEQ_STAT.STATE 0, 2)]).lth 0).tdmaHit = true) ∧
    ((lthWith { desc := some [16] } [(LTH_SEQ_STAT.STATE 0, 4)]).seq 0 = 4 ∧ ((lthWith { desc := some [16] } [(LTH_SEQ_STAT.STATE 0, 4)]).lth 0).desc = some [16] ∧ 0 < Desc.reps [16] ∧ Desc.opcode [16] ≠ 17 ∧ Desc.isAttn [16] = false) ∧
    ((lthWith { desc := some [16] } [(LTH_SEQ_STAT.STATE 0, 4)]).flag (LTH_SEQ_CTRL.STOP 0) = false ∧ ((lthWith { desc := some [16] } [(LTH_SEQ_STAT.STATE 0, 4)]).lth 0).flights = [] ∧ (lthWith { desc := some [16] } [(LTH_SEQ_STAT.STATE 0, 4)]).waitsMet 0 [16] 0 = true) ∧
    ((lthWith { desc := some dWait } [(LTH_SEQ_STAT.STATE 0, 4)]).waitsMet 0 dWait 0 = false ∧ 0 < Desc.reps dWait ∧ Desc.isAttn dWait = false ∧ Desc.opcode dWait ≠ 17) ∧
    ((lthWith { desc := some dAttn, latched := some (0, 0, []) } [(LTH_SEQ_STAT.STATE 0, 4)]).waitsMet 0 dAttn 0 = true ∧ 0 < Desc.reps dAttn ∧ Desc.isAttn dAttn = true ∧ ((lthWith { desc := some dAttn, latched := some (0, 0, []) } [(LTH_SEQ_STAT.STATE 0, 4)]).lth 0).latched = some (0, 0, [])) ∧
    (((lthWith { flights := [fl1] } []).lth 0).flights.find? (fun g => g.pipe = 0) = some fl1 ∧ fl1.err = 0 ∧ fl1.pin = none ∧ fl1.last = false ∧ ((lthWith { flights := [fl1] } []).signals 0 fl1).2 = true) ∧
    (((lthWith { flights := [{ fl1 with last := true }] } []).lth 0).flights.find? (fun g => g.pipe = 0) = some { fl1 with last := true } ∧ ((lthWith { flights := [{ fl1 with last := true }] } []).signals 0 { fl1 with last := true }).2 = true) :=
  by
  refine ⟨?_, ?_, ?_, ?_, ?_, ?_, ?_, ?_⟩ <;> decide

theorem test_hyp_LatheEpochCountersAndCommits :
    ((st [(LTH_SEQ_STAT.STATE 0, 6)]).seq 0 = 6 ∧ (st [(LTH_SEQ_STAT.STATE 0, 7)]).seq 0 = 7 ∧ State.reset.rd (LTH_CFG_STAT.PENDING 0) ≠ 2) ∧
    ((st [(LTH_SEQ_STAT.STATE 0, 4)]).seq 0 = 4 ∧ 5 ≤ (st [(LTH_SEQ_STAT.STATE 0, 8)]).seq 0 ∧ (st [(LTH_SEQ_STAT.STATE 0, 8)]).seq 0 ≤ 8) ∧
    ((st [(LTH_SEQ_STAT.STATE 0, 1)]).seq 0 = 1 ∧ (st [(LTH_SEQ_STAT.STATE 0, 1)]).flag (LTH_PART.ASSIGNED 0) = false ∧ (st [(LTH_SEQ_STAT.STATE 0, 1), (LTH_DBG_ADDR.ADDR 0, 0xBFFFFC)]).rd (LTH_DBG_ADDR.ADDR 0) ≤ 0xBFFFFC) ∧
    (((st [(LTH_SEQ_STAT.STATE 0, 1)]).lsramRead 0 ((st [(LTH_SEQ_STAT.STATE 0, 1)]).rd (LTH_DBG_ADDR.ADDR 0) / 4 * 4) 4).2.1 = true) ∧
    ((st [(LTH_SEQ_STAT.STATE 0, 4)]).seq 0 ≠ 7 ∧ (st [(LTH_SEQ_STAT.STATE 0, 4)]).seq 0 ≠ 1) ∧
    ((st [(LTH_SEQ_STAT.STATE 0, 1), (LTH_PART.ASSIGNED 0, 1)]).flag (LTH_PART.ASSIGNED 0) = true) :=
  by
  refine ⟨?_, ?_, ?_, ?_, ?_, ?_⟩ <;> decide

theorem test_hyp_PageTableQueues :
    16 ≤ ({ State.reset with pft := { pfQueue := List.replicate 16 [0, 0, 0, 0] } } : State).pft.pfQueue.length ∧ State.reset.pft.pfQueue.length < 16 :=
  by decide

theorem test_hyp_PageTableCommandsAnswer :
    ((1, Instr.slotOpen, pftOpen).1 = 1 ∧ State.reset.pftNext = none) ∧
    ((pftReady [0x0001, 0, 0, 0] []).pftNext = some (true, [1, 0, 0, 0]) ∧ bits 1 0 8 = 1 ∧ ((pftReady [1, 0, 0, 0] []).pftPop true).flag (PFT_PART_STAT.ENABLED 0) = false) ∧
    (((pftReady [1, 0, 0, 0] [(PFT_PART_STAT.ENABLED 0, 1)]).pftPop true).flag (PFT_PART_STAT.ENABLED 0) = true ∧ ((pftReady [1, 0, 0, 0] [(PFT_PART_STAT.ENABLED 0, 1)]).pftPop true).pftFaulted 0 = false) ∧
    (((pftReady [1, 0, 0, 0] [(PFT_PART_STAT.ENABLED 0, 1), (PFT_ERR_STAT.FAULT, 1)]).pftPop true).pftFaulted 0 = true) :=
  ⟨⟨rfl, rfl⟩, by decide, by decide, by decide⟩

theorem test_hyp_PinsCommitsAndPools :
    ((pftWith { lst := [(0, [.frame 0])] } []).pinCnt 0 (1 - (pftWith { lst := [(0, [.frame 0])] } []).pftGen 0) = 0 ∧ ((pftWith { lst := [(0, [.frame 0])] } []).retired 0 1).isEmpty = true ∧ ((pftWith { lst := [(0, [.frame 0])] } []).retired 0 0).isEmpty = false) ∧
    ((pftWith { cnt := [(1, 1)] } []).pinCnt 0 (1 - (pftWith { cnt := [(1, 1)] } []).pftGen 0) ≠ 0) ∧
    ((lthWith { desc := some dAttn } [(LTH_SEQ_STAT.STATE 0, 4), (GLB_PART_STAT.STATE 0, 3), (GLB_PART_STAT.GRANULES 0, 1), (LTH_PART.ASSIGNED 0, 1)]).partOf 0 = some 0 ∧ (lthWith { desc := some dAttn } [(LTH_SEQ_STAT.STATE 0, 4), (LTH_PART.ASSIGNED 0, 1)]).pinCnt 0 0 < 65535) ∧
    (((lthWith { desc := some dAttn } [(LTH_SEQ_STAT.STATE 0, 4), (LTH_PART.ASSIGNED 0, 1)]).readOperands 0 [⟨Desc.lenTable dAttn, 0, 16 * Desc.reqCount dAttn⟩]).2 = 0) ∧
    ((st [(GLB_PART_STAT.STATE 0, 4)]).tearing 0 = true ∧ State.reset.tearing 0 = false ∧ State.reset.pftEmpty 0 = true) ∧
    ((∃ k, failingRule (State.reset.pftRules 0) = some k)) ∧
    (failingRule ((st pftGood).pftRules 0) = none) ∧
    ((st [(PFT_PART_STAT.ENABLED 0, 1)]).flag (PFT_PART_STAT.ENABLED 0) = true ∧ (st [(PFT_PART_STAT.ENABLED 0, 1)]).flag (PFT_PART_STAT.READY 0) = false) :=
  ⟨by decide, by decide, by decide, by decide, by decide, ⟨_, rfl⟩, by decide, by decide⟩

def stE (l : List (Fld × Nat)) : State := (st l).applyShadows (l.map (·.1))

def loopWith (x : PltPart) (l : List (Fld × Nat)) : State := (stE l).setLoop 0 x

def served : List (Fld × Nat) := [(PLT_PSTAT.STATE 0, 2), (PLT_SLOTS.SLOT_COUNT 0, 4), (PLT_LIMITS.QMAX 0, 4), (PLT_CADENCE.CADENCE 0, 1000), (PLT_LIMITS.CHUNK64 0, 1), (PLT_LIMITS.CHUNK_RES 0, 1), (PLT_MAXLEN.MAX_LEN 0, 4096), (PLT_CLASS.ENABLE 0 0, 1), (PLT_CLASS.TTFT 0 0, 1000000), (PLT_LIMITS.PORT_RES 0, 16), (PFT_POOL_FRAMES.FRAMES 0, 1000)]

def live0 : State := (stE served).setSlot 1 { state := 2, promptLen := 1, maxNew := 5 }

def hung (a : Option (List Nat × List (Nat × Nat))) : State := loopWith { phase := .abort, abort := a } [(LTH_PART.ASSIGNED 0, 1), (LTH_SEQ_STAT.STATE 0, 6)]

theorem test_hyp_StepSelectsAndPrepares :
    ((loopWith { phase := .run } []).loop 0 = { phase := .run } ∧ ((loopWith { phase := .run } []).loop 0).phase ≠ .prepare) ∧
    ((live0.loop 0).phase = .none ∧ live0.rd (PLT_PSTAT.STATE 0) = 2 ∧ live0.loopHeld 0 = false ∧ live0.quiesced 0 = false) ∧
    (((({ live0 with plt := { live0.plt with sramErr := [(9216, 2)] } } : State).useSlots 0).usePltWord 9216).2 = true) ∧
    ((((stE served).useSlots 0).usePltWord 9216).2 = false) ∧
    ((((stE served).useSlots 0).usePltWord 9216).1.selection 0 = []) ∧
    (((live0.useSlots 0).usePltWord 9216).2 = false ∧ ((live0.useSlots 0).usePltWord 9216).1.selection 0 ≠ []) ∧
    (((loopWith { phase := .prepare } []).loop 0).phase = .prepare ∧ ((loopWith { phase := .build } []).loop 0).phase = .build) :=
  by
  refine ⟨?_, ?_, ?_, ?_, ?_, ?_, ?_⟩ <;> decide

theorem test_hyp_StepReleasesRunsAndCommits :
    (((loopWith { phase := .release } []).loop 0).phase = .release ∧ ((loopWith { phase := .commit } []).loop 0).phase = .commit ∧ ((loopWith {} []).loop 0).phase ≠ .ack) ∧
    (((loopWith { phase := .ack, smpAck := true } []).loop 0).phase = .ack ∧ (loopWith { phase := .ack, smpAck := true } []).allAcked 0 = true) ∧
    (((loopWith { phase := .ack, unacked := [0] } []).loop 0).phase = .ack ∧ (loopWith { phase := .ack, unacked := [0] } []).allAcked 0 = false) ∧
    (((loopWith { phase := .run } [(LTH_PART.ASSIGNED 0, 1), (LTH_SEQ_STAT.STATE 0, 5)]).loop 0).phase = .run ∧ ((loopWith { phase := .run } [(LTH_PART.ASSIGNED 0, 1), (LTH_SEQ_STAT.STATE 0, 5)]).lathesOf 0).all (fun n => (loopWith { phase := .run } [(LTH_PART.ASSIGNED 0, 1), (LTH_SEQ_STAT.STATE 0, 5)]).seq n = 5) = true) ∧
    (((loopWith { phase := .run } [(LTH_PART.ASSIGNED 0, 1)]).lathesOf 0).all (fun n => (loopWith { phase := .run } [(LTH_PART.ASSIGNED 0, 1)]).seq n = 5) = false) :=
  by
  refine ⟨?_, ?_, ?_, ?_, ?_⟩ <;> decide

theorem test_hyp_StepRecordAndErrors :
    (((loopWith { phase := .record } []).loop 0).phase = .record ∧ (loopWith { phase := .record } []).flag (PCI_RING_CFG.ENABLE 0) = false) ∧
    ((loopWith { phase := .record } [(PCI_RING_CFG.ENABLE 0, 1)]).flag (PCI_RING_CFG.ENABLE 0) = true ∧ ({ loopWith { phase := .record } [(PCI_RING_CFG.ENABLE 0, 1)] with evq := [(0, [[0]])] } : State).records 0 ≠ []) ∧
    ((loopWith { phase := .record } [(PCI_RING_CFG.ENABLE 0, 1)]).records 0 = [] ∧ ((loopWith { phase := .record } [(PCI_RING_CFG.ENABLE 0, 1)]).loop 0).phase = .record) ∧
    (((loopWith { phase := .record } [(PCI_RING_CFG.ENABLE 0, 1)]).rd (PCI_OQ_FREE.INDEX 0) + 65536 - (loopWith { phase := .record } [(PCI_RING_CFG.ENABLE 0, 1)]).rd (PCI_OQ_NEXT.INDEX 0)) % 65536 < (fillParts (2 ^ (loopWith { phase := .record } [(PCI_RING_CFG.ENABLE 0, 1)]).rd (PCI_RING_CFG.OQ_ENT 0) - 64) (((loopWith { phase := .record } [(PCI_RING_CFG.ENABLE 0, 1)]).outEntries 0).map (loopWith { phase := .record } [(PCI_RING_CFG.ENABLE 0, 1)]).entryBytes)).length) ∧
    ((fillParts (2 ^ (loopWith { phase := .record } [(PCI_RING_CFG.ENABLE 0, 1), (PCI_OQ_FREE.INDEX 0, 1)]).rd (PCI_RING_CFG.OQ_ENT 0) - 64) (((loopWith { phase := .record } [(PCI_RING_CFG.ENABLE 0, 1), (PCI_OQ_FREE.INDEX 0, 1)]).outEntries 0).map (loopWith { phase := .record } [(PCI_RING_CFG.ENABLE 0, 1), (PCI_OQ_FREE.INDEX 0, 1)]).entryBytes)).length ≤ ((loopWith { phase := .record } [(PCI_RING_CFG.ENABLE 0, 1), (PCI_OQ_FREE.INDEX 0, 1)]).rd (PCI_OQ_FREE.INDEX 0) + 65536 - (loopWith { phase := .record } [(PCI_RING_CFG.ENABLE 0, 1), (PCI_OQ_FREE.INDEX 0, 1)]).rd (PCI_OQ_NEXT.INDEX 0)) % 65536) ∧
    (State.reset.partOf 0 = none ∧ (st [(LTH_PART.ASSIGNED 0, 1)]).partOf 0 = some 0) ∧
    (((lthWith { report := some (3, 0x20) } [(LTH_PART.ASSIGNED 0, 1)]).lth 0).report = some (3, 0x20) ∧ ((lthWith { report := some (3, 0x20) } []).loop 0).phase ≠ .run) ∧
    (((loopWith { phase := .run } [(LTH_PART.ASSIGNED 0, 1)]).setLth 0 { report := some (3, 0x20) }).partOf 0 = some 0 ∧ (((loopWith { phase := .run } [(LTH_PART.ASSIGNED 0, 1)]).setLth 0 { report := some (3, 0x20) }).loop 0).phase = .run) ∧
    (((hung (some ([0x20, 0, 3, 1, 0, 0], []))).loop 0).phase = .abort ∧ ((hung (some ([0x20, 0, 3, 1, 0, 0], []))).loop 0).abort = some ([0x20, 0, 3, 1, 0, 0], [])) ∧
    (((hung (some ([0x20, 0, 3, 1, 0, 0], []))).lathesOf 0).any (fun n => (hung (some ([0x20, 0, 3, 1, 0, 0], []))).seq n = 2 || (hung (some ([0x20, 0, 3, 1, 0, 0], []))).seq n = 3 || (hung (some ([0x20, 0, 3, 1, 0, 0], []))).seq n = 4 || (hung (some ([0x20, 0, 3, 1, 0, 0], []))).seq n = 7) = false) ∧
    (((hung none).loop 0).abort = none) :=
  by
  refine ⟨?_, ?_, ?_, ?_, ?_, ?_, ?_, ?_, ?_, ?_, ?_⟩ <;> decide

def ringed (l : List (Fld × Nat)) : State := stE ([(PCI_RING_CFG.ENABLE 0, 1), (PCI_SQ_TAIL.INDEX 0, 8)] ++ l)

def sub1 : Submission := ⟨0, false, 0, 7, 1, 1, 0, 0, 0, 0⟩

def admits : State := ((ringed (served ++ pftGood ++ [(PFT_POOL_FRAMES.FRAMES 0, 1000), (PFT_PART_STAT.ENABLED 0, 1), (PFT_PART_STAT.READY 0, 1), (PFT_FREE.FRAMES 0, 1000)])).setBucket 0 { enable := true, balance := 100 })

theorem test_hyp_SubmissionsAreDecided :
    (State.reset.sqReady 0 1 = false ∧ (ringed []).sqReady 0 1 = true ∧ (ringed []).stepRuns 0 = false ∧ sub1.prefixLen.val = 0) ∧
    ((ringed [(PCI_INJ.CTO, 1)]).flag PCI_INJ.CTO = true ∧ (ringed [(PCI_INJ.CTO, 1)]).sqReady 0 1 = true) ∧
    ((∃ k, failingRule ((((ringed []).sqTake 0 1).useBucket 0).admissionChecks 0 sub1) = some k) ∧ (ringed []).flag PCI_INJ.CTO = false) ∧
    (failingRule (((admits.sqTake 0 1).useBucket 0).admissionChecks 0 sub1) = none) ∧
    (((admits.sqTake 0 1).useBucket 0).freeSlot 0 = some 0) ∧
    (admits.sqReady 0 1 = true ∧ admits.flag PCI_INJ.CTO = false) ∧
    ((ringed served).sqReady 0 (1 + ceilDiv 3 16) = true ∧ ((ringed served).loop 0).phase ≠ .prepare ∧ ((ringed served).loop 0).phase ≠ .build ∧ (ringed served).inRange 0 1 = true) ∧
    (((ringed served).loop 0).phase ≠ .commit ∧ ((ringed served).loop 0).phase ≠ .record ∧ (ringed served).inRange 0 4 = false ∧ ((ringed served).setSlot 1 { state := 2, reqId := 7 }).inRange 0 1 = true) ∧
    ((((ringed served).setSlot 1 { state := 2, reqId := 7 }).slot 1).state = 2 ∧ (((ringed served).setSlot 1 { state := 2, reqId := 7 }).slot 1).reqId = (7 : Word).toNat) ∧
    ((((ringed served).setSlot 1 { lastReq := some (7, 1, 3) }).slot 1).state ≠ 1 ∧ (((ringed served).setSlot 1 { lastReq := some (7, 1, 3) }).slot 1).lastReq = some (7, 1, 3) ∧ 7 = (7 : Word).toNat) ∧
    ((ringed served).sqReady 0 (1 + ceilDiv 64 16) = true ∧ 63 < (64 : Fin 128).val) :=
  ⟨by decide, by decide, ⟨⟨_, rfl⟩, by decide⟩, by decide, by decide, by decide, by decide, by decide, by decide, by decide, by decide⟩

theorem test_hyp_BudgetsAndDerating :
    (Cells.get 0 State.reset.plt.sramErr (8192 + 1023) = 0 ∧ (State.reset.bucket 1023).enable = false) ∧
    (((State.reset.setBucket 0 { enable := true, cap := 5, balance := 5 }).bucket 0).enable = true ∧ ((State.reset.setBucket 0 { enable := true, cap := 5, balance := 5 }).bucket 0).cap ≤ ((State.reset.setBucket 0 { enable := true, cap := 5, balance := 5 }).bucket 0).balance) ∧
    (((State.reset.setBucket 0 { enable := true, cap := 5, balance := 4 }).bucket 0).balance < ((State.reset.setBucket 0 { enable := true, cap := 5, balance := 4 }).bucket 0).cap) ∧
    ((1 : Nat) ≠ 0 ∧ (st [(PLT_BKT_ADDR.ADDR, 8)]).rd PLT_BKT_ADDR.ADDR % 8 = 0 ∧ (st [(PLT_BKT_ADDR.ADDR, 10)]).rd PLT_BKT_ADDR.ADDR % 8 = 2 ∧ (st [(PLT_BKT_ADDR.ADDR, 11)]).rd PLT_BKT_ADDR.ADDR % 8 = 3) ∧
    ((st [(PLT_BKT_ADDR.ADDR, 12)]).rd PLT_BKT_ADDR.ADDR % 8 = 4 ∧ (st [(PLT_BKT_ADDR.ADDR, 9)]).rd PLT_BKT_ADDR.ADDR % 8 = 1 ∧ 5 ≤ (st [(PLT_BKT_ADDR.ADDR, 13)]).rd PLT_BKT_ADDR.ADDR % 8) ∧
    (State.reset.rd (PLT_PSTAT.STATE 0) = 0 ∧ (st [(PLT_PSTAT.STATE 0, 2)]).rd (PLT_PSTAT.STATE 0) ≠ 0) ∧
    ((st [(GLB_PART_STAT.STATE 0, 4)]).tearing 0 = true ∧ ({ State.reset with part := [(0, { restore := 1 })] } : State).restoring 0 = true) ∧
    (State.reset.tearing 0 = false ∧ State.reset.restoring 0 = false ∧ State.reset.stepRuns 0 = false ∧ (loopWith { phase := .run } []).stepRuns 0 = true) ∧
    (failingRule ((loopWith { phase := .run } [(PLT_CADENCE.CADENCE 0, 0)]).pltRules 0) = some 1) ∧
    (failingRule ((loopWith { phase := .run } served).pltRules 0) = none) ∧
    ((st [(PLT_PSTAT.STATE 0, 1)]).rd (PLT_PSTAT.STATE 0) = 1 ∧ (st [(PLT_PSTAT.STATE 0, 1)]).stepRuns 0 = false ∧ (st [(PLT_PSTAT.STATE 0, 1)]).readTmpl 0 = (st [(PLT_PSTAT.STATE 0, 1)], none)) :=
  ⟨by decide, by decide, by decide, by decide, by decide, by decide, by decide, by decide, by decide, by decide, ⟨by decide, by decide, rfl⟩⟩

def profSt : State := { State.reset with smp := { profShadow := [(80, 16), (81, 0), (82, 0x3F800000), (83, 0), (84, 0), (85, 0x3F800000), (86, 0x3F800000)] } }

theorem test_hyp_SamplingPhaseAndCommits :
    (State.reset.smp.queue = [] ∧ ({ State.reset with smp := { queue := [0, 1] } } : State).smp.queue = [0, 1]) ∧
    ((∃ r, failingRule (State.reset.profRules ((List.range 16).map (fun j => Cells.get 0 State.reset.smp.profShadow (16 * 5 + j)))) = some r)) ∧
    (failingRule ((profSt.profRules ((List.range 16).map (fun j => Cells.get 0 profSt.smp.profShadow (16 * 5 + j))))) = none) ∧
    ((st [(GLB_PART_STAT.STATE 0, 4)]).tearing 0 = true ∧ State.reset.tearing 0 = false ∧ State.reset.stepRuns 0 = false ∧ (loopWith { phase := .run } []).stepRuns 0 = true) ∧
    ((∃ k, failingRule ((loopWith { phase := .run } []).smpRules 0) = some k)) ∧
    (failingRule ((loopWith { phase := .run } [(LTH_PART.ASSIGNED 0, 1), (SMP_VOCAB.VOCAB 0, 64), (SMP_VSHARD.VSHARD 0, 64), (SMP_LOGIT_LD.LOGIT_LD 0, 256)]).smpRules 0) = none) :=
  ⟨by decide, ⟨_, rfl⟩, by decide, by decide, ⟨_, rfl⟩, by decide⟩

/-- A template of one entry, opcode 0, with version v and a first wait slot of kind w, threshold 5. -/
def tmplBytes (v w : Byte) : List Byte := [v, 0, 0, 0] ++ List.replicate 28 0 ++ [1] ++ List.replicate 31 0 ++ [0, 0, 0, 0x10] ++ List.replicate 20 0 ++ [w, 0, 0, 0, 5] ++ List.replicate 99 0 ++ [0x10] ++ List.replicate 63 0

/-- A partition whose region holds it. -/
def derives (v w : Byte) : State := ((stE [(PLT_PSTAT.STATE 0, 1), (LTH_PART.ASSIGNED 0, 1), (KEY_PSTAT.ENABLED 0, 1), (KEY_RGN_BASE.VALID 0 0, 1), (KEY_RGN_SIZE.SIZE 0 0, 1), (MEM_STAT.STATE 0, 3), (PLT_LIMITS.QMAX 0, 1)]).portWrite .engine 0 0 (tmplBytes v w)).1

/-- What its check and its derivation answer: no fault, and a cost table. -/
def derived (s : State) : Bool × Bool :=
  match s.readTmpl 0 with
  | (s1, some t) => let s2 := (s1.lathesOf 0).foldl (fun (st : State) n => (st.lsramWrite n (st.rd (SMP_TREE_LOC.LOC 0)) (st.treeRecord 0 (s.pltCfg 0).nodes)).1) s1
      ((s2.tmplFault 0 t (s.pltCfg 0)).isNone, (s2.deriveW 0 t (s.pltCfg 0)).isOk)
  | (_, none) => (false, false)
theorem test_hyp_BudgetsAndDerating_derived : (derives 0x11 0).rd (PLT_PSTAT.STATE 0) = 1 ∧ derived (derives 0x11 0) = (true, true) := by decide +kernel
theorem test_hyp_BudgetsAndDerating_fault : (derived (derives 0x12 0)).1 = false := by decide +kernel
theorem test_hyp_BudgetsAndDerating_error : derived (derives 0x11 1) = (true, false) := by decide +kernel
/-- The error pattern of a codeword with two wrong symbols. -/
def lost : Nat := 0x21
def sealed1 (l : List (Fld × Nat)) (m : MemSt) : State := { st l with mem := m }

theorem get_used : ∀ (l : List Nat) (j : Nat), j ∈ l → Cells.get (none : Option Nat) (l.map (fun j => (j, some j))) j = some j
  | [], _, h => by simp at h
  | x :: t, j, h => by
    simp only [List.map_cons, Cells.get]
    split
    · next e => simp [e]
    · next e => exact get_used t j ((List.mem_cons.mp h).resolve_left (fun h => e h.symm))
theorem no_spare : (sealed1 [] { spare := (List.range 512).map (fun j => (j, some j)) }).freeSpares 0 = [] :=
  List.filter_eq_nil_iff.mpr (fun j hj => by
    have h := get_used _ j hj
    simp only [sealed1, Nat.zero_mul, Nat.zero_add, h]; simp)
theorem test_hyp_PortTrainingAndRefresh :
    (State.reset.rd (MEM_STAT.STATE 3) ≠ 2 ∧ (st [(MEM_STAT.STATE 3, 0)]).rd (MEM_STAT.STATE 3) ≠ 1 ∧ (st [(MEM_STAT.STATE 3, 1)]).rd (MEM_STAT.STATE 3) = 1 ∧ bit (16 : Fin 32).val 4 = true ∧ bit (1 : Fin 32).val 4 = false) ∧
    ((st [(MEM_STAT.STATE 3, 1), (MEM_INJ.TRAIN 3, 1)]).flag (MEM_INJ.TRAIN 3) = true ∧ State.reset.flag (MEM_INJ.TRAIN 3) = false ∧ (st [(MEM_STAT.STATE 3, 2)]).rd (MEM_STAT.STATE 3) = 2) ∧
    ((stE [(MEM_STAT.STATE 3, 3), (MEM_CFG.AUTO_SR 3, 1)]).rd (MEM_STAT.STATE 3) = 3 ∧ (stE [(MEM_STAT.STATE 3, 3), (MEM_CFG.AUTO_SR 3, 1)]).partOf 3 = none ∧ (stE [(MEM_CFG.AUTO_SR 3, 1)]).flagEff (MEM_CFG.AUTO_SR 3) = true) ∧
    ((st [(MEM_CFG.SCRUB_PERIOD 3, 0)]).rd (MEM_CFG.SCRUB_PERIOD 3) = 0 ∧ (st [(MEM_CFG.SCRUB_PERIOD 3, 1)]).rd (MEM_CFG.SCRUB_PERIOD 3) ≠ 0 ∧ (st [(MEM_CFG.RETIRE_CE 3, 1)]).rd (MEM_CFG.RETIRE_CE 3) ≠ 0) :=
  by
  refine ⟨?_, ?_, ?_, ?_⟩ <;> decide

theorem test_hyp_PortAccessesAndScrubs :
    ((st [(MEM_STAT.STATE 15, 5)]).portUp 15 = false ∧ (st [(MEM_STAT.STATE 15, 3)]).portUp 15 = true ∧ (st [(MEM_STAT.STATE 15, 4)]).portUp 15 = true) ∧
    (lostWord State.reset.mem.lsramErr (wordsOf (15 * 2 ^ 24 + 64 * 0) 64) = none ∧ lostWord [(0, lost)] (wordsOf 0 64) = some 0) ∧
    ((15 : Fin 32).val < 16 ∧ 16 ≤ (16 : Fin 32).val ∧ lostWord State.reset.mem.wayErr (wordsOf 0 128) = none ∧ lostWord [(1, lost)] (wordsOf 0 128) = some 1) ∧
    (Cells.get [] State.reset.mem.retQueue 0 = [] ∧ (Cells.get none (sealed1 [] { retCopy := [(0, some (3, 0))] }).mem.retCopy 0).isSome = true) ∧
    (Cells.get [] (sealed1 [] { retQueue := [(0, [3])] }).mem.retQueue 0 = [3] ∧ Cells.get none (sealed1 [] { retQueue := [(0, [3])] }).mem.retCopy 0 = none ∧ (sealed1 [] {}).freeSpares 0 ≠ []) ∧
    ((sealed1 [] { spare := (List.range 512).map (fun j => (j, some j)) }).freeSpares 0 = []) ∧
    ((st [(MEM_STAT.STATE 0, 3)]).rd (MEM_STAT.STATE 0) = 3 ∧ Cells.get none (sealed1 [] { retCopy := [(0, some (3, 0))] }).mem.retCopy 0 = some (3, 0)) :=
  ⟨by decide, by decide, by decide, by decide, by decide, no_spare, by decide⟩

def swept : State := stE [(LTH_PART.ASSIGNED 0, 1), (KEY_PSTAT.STATE 0, 1), (KEY_RGN_BASE.VALID 0 0, 1), (KEY_RGN_SIZE.SIZE 0 0, 1), (KEY_RGN_STAT.SWEEPING 0 0, 1)]

def rotates : State := stE [(KEY_LOADED 0 1, 1), (PLT_LIMITS.PORT_RES 0, 4), (KEY_PCFG.SWEEP_SHARE 0, 2)]

theorem test_hyp_KeysAndRotation :
    ((stE [(KEY_RGN_BASE.VALID 0 0, 1)]).slotNamed 0 0 = true ∧ (st [(KEY_PSTAT.STATE 0, 1)]).rd (KEY_PSTAT.STATE 0) ≠ 0 ∧ (st [(KEY_PSTAT.STATE 0, 1)]).rd (KEY_PSTAT.CURRENT 0) ≠ 1 ∧ (st [(KEY_ERR_STAT.KAT_FAIL, 1)]).flag KEY_ERR_STAT.KAT_FAIL = true) ∧
    (State.reset.slotNamed 0 1 = false ∧ State.reset.rd (KEY_PSTAT.STATE 0) = 0 ∧ State.reset.flag KEY_ERR_STAT.KAT_FAIL = false) ∧
    (((List.range 64).map (fun i => ([1] : List Byte).getD i 0)).take 32 ≠ ((List.range 64).map (fun i => ([1] : List Byte).getD i 0)).drop 32 ∧ ((List.range 64).map (fun i => ([] : List Byte).getD i 0)).take 32 = ((List.range 64).map (fun i => ([] : List Byte).getD i 0)).drop 32) ∧
    (State.reset.flag (KEY_LOADED 0 (1 - State.reset.rd (KEY_PSTAT.CURRENT 0))) = false) ∧
    (rotates.rd (KEY_PSTAT.STATE 0) = 0 ∧ rotates.inEff (KEY_PCFG.SWEEP_SHARE 0) ≤ rotates.inEff (PLT_LIMITS.PORT_RES 0) ∧ rotates.flag (KEY_LOADED 0 (1 - rotates.rd (KEY_PSTAT.CURRENT 0))) = true) ∧
    ((swept.validRegions 0).any (fun r => swept.flag (KEY_RGN_STAT.SWEEPING 0 r)) = true ∧ (State.reset.validRegions 0).any (fun r => State.reset.flag (KEY_RGN_STAT.SWEEPING 0 r)) = false) ∧
    (State.reset.partOf 0 = none ∧ (st [(LTH_PART.ASSIGNED 0, 1)]).partOf 0 = some 0 ∧ (st [(LTH_PART.ASSIGNED 0, 1)]).rd (KEY_PSTAT.STATE 0) ≠ 1) ∧
    (swept.partOf 0 = some 0 ∧ swept.rd (KEY_PSTAT.STATE 0) = 1 ∧ swept.sweepRegion 0 0 = some 0 ∧ (((swept.readKeyWord 0 16).readKeyWord 0 0).readKeyWord 0 1).keyFault 0 = false) ∧
    ((((({ swept with keys := { slotErr := [(16, 2)] } } : State).readKeyWord 0 16).readKeyWord 0 0).readKeyWord 0 1).keyFault 0 = true) ∧
    ((st [(KEY_PSTAT.STATE 0, 2)]).rd (KEY_PSTAT.STATE 0) = 2 ∧ (st [(GLB_PART_STAT.STATE 0, 4)]).tearing 0 = true ∧ State.reset.tearing 0 = false ∧ State.reset.stepRuns 0 = false ∧ (loopWith { phase := .run } []).stepRuns 0 = true) ∧
    (failingRule ((loopWith { phase := .run } [(KEY_PCFG.SWEEP_SHARE 0, 0)]).keyRules 0) = some 5 ∧ failingRule ((loopWith { phase := .run } [(KEY_PCFG.SWEEP_SHARE 0, 1)]).keyRules 0) = none) :=
  by
  refine ⟨?_, ?_, ?_, ?_, ?_, ?_, ?_, ?_, ?_, ?_, ?_⟩ <;> decide

theorem test_hyp_RefusedPortAccess :
    ((State.reset.wakePort 0).checkAccess .engine 0 (2 ^ 36 - 1) 2).2 = false ∧ (((st [(LTH_PART.ASSIGNED 0, 1)]).wakePort 0).checkAccess .hostDma 0 0 4).2 = false :=
  by decide

def tdesc (b : Byte) : List Byte := [0, b, 0, 0x10] ++ List.replicate 13 0 ++ [0x10] ++ List.replicate 6 0 ++ [64] ++ List.replicate 24 0 ++ [0x20] ++ List.replicate 6 0 ++ [64] ++ List.replicate 71 0

def kicked (b : List Byte) (x : TdmaCh) : State := (((st [(LTH_SEQ_STAT.STATE 0, 1), (TDMA_CH_STAT.STATE 0 3, 2)]).lsramWrite 0 0 b).1).setTch 0 3 x

theorem test_hyp_TensorDmaCommands :
    ((st [(TDMA_CH_STAT.STATE 0 3, 0)]).rd (TDMA_CH_STAT.STATE 0 3) ≠ 1 ∧ (st [(TDMA_CH_STAT.STATE 0 3, 1)]).rd (TDMA_CH_STAT.STATE 0 3) = 1 ∧ State.reset.flag (LTH_PART.PLT_OWNED 0) = false ∧ (st [(LTH_PART.PLT_OWNED 0, 1)]).flag (LTH_PART.PLT_OWNED 0) = true) ∧
    ((kicked [] { words := some [0] }).rd (TDMA_CH_STAT.STATE 0 3) = 2 ∧ ((kicked [] { words := some [0] }).tch 0 3).words = some [0] ∧ (kicked [] {}).tdmaMasked 0 = false ∧ State.reset.tdmaMasked 0 = true) ∧
    (((kicked [] {}).tch 0 3).words = none ∧ tdescOk ((kicked [] { next := 4 }).tch 0 3).next = false) ∧
    (tdescOk 0 = true ∧ ((kicked [] {}).lsramRead 0 0 128).2.1 = true ∧ ((kicked [] {}).lsramRead 0 0 128).1.tdmaOk 0 (wordsOfBytes 32 ((kicked [] {}).lsramRead 0 0 128).2.2) = false) ∧
    (((({ kicked [] {} with mem := { lsramErr := [(0, lost)] } } : State).lsramRead 0 0 128).2.1) = false) ∧
    (((kicked (tdesc 1) {}).lsramRead 0 0 128).1.tdmaOk 0 (wordsOfBytes 32 ((kicked (tdesc 1) {}).lsramRead 0 0 128).2.2) = true ∧ dfld (wordsOfBytes 32 ((kicked (tdesc 1) {}).lsramRead 0 0 128).2.2) 0 8 1 = 1) ∧
    (((kicked (tdesc 0) {}).lsramRead 0 0 128).1.tdmaOk 0 (wordsOfBytes 32 ((kicked (tdesc 0) {}).lsramRead 0 0 128).2.2) = true ∧ dfld (wordsOfBytes 32 ((kicked (tdesc 0) {}).lsramRead 0 0 128).2.2) 0 8 1 ≠ 1) ∧
    ((st [(LTH_SEQ_STAT.STATE 0, 6)]).seq 0 = 6 ∧ 7 ≤ (st [(LTH_SEQ_STAT.STATE 0, 8)]).seq 0) :=
  by
  refine ⟨?_, ?_, ?_, ?_, ?_, ?_, ?_, ?_⟩ <;> decide

def hch0 (x : HdmaCh) (l : List (Fld × Nat)) : State := (stE l).setHch 0 x

theorem test_hyp_ChannelControls :
    ((st [(TDMA_CH_STAT.STATE 0 0, 1)]).rd (TDMA_CH_STAT.STATE 0 0) = 1 ∧ (st [(TDMA_CH_STAT.STATE 0 0, 2)]).rd (TDMA_CH_STAT.STATE 0 0) = 2 ∧ (st [(TDMA_CH_STAT.STATE 0 0, 3)]).rd (TDMA_CH_STAT.STATE 0 0) = 3) ∧
    ((st [(TDMA_CH_CTRL.ENABLE 0 0, 0)]).flag (TDMA_CH_CTRL.ENABLE 0 0) = false ∧ (st [(TDMA_CH_CTRL.ENABLE 0 0, 1)]).flag (TDMA_CH_CTRL.ENABLE 0 0) = true ∧ (st [(TDMA_CH_CFG.BURST 0 0, 0)]).rd (TDMA_CH_CFG.BURST 0 0) = 0 ∧ (st [(TDMA_CH_CFG.BURST 0 0, 1)]).rd (TDMA_CH_CFG.BURST 0 0) ≠ 0) ∧
    ((hch0 {} [(HDMA_CH_STAT.STATE 0, 2)]).hState 0 = 2 ∧ ((hch0 {} []).hch 0).entry = none ∧ (hch0 {} [(HDMA_CH_STAT.STATE 0, 4)]).hState 0 = 4 ∧ (hch0 {} [(HDMA_CH_STAT.STATE 0, 5)]).hState 0 = 5) ∧
    (((hch0 { entry := some [1] } [(HDMA_CH_STAT.STATE 0, 2)]).hch 0).entry.isSome = true ∧ (hch0 { entry := some [1] } [(HDMA_CH_STAT.STATE 0, 2)]).hState 0 = 2) ∧
    (State.reset.flag (HDMA_CH_CTRL.ENABLE 0) = false ∧ (st [(HDMA_CH_CTRL.ENABLE 0, 1)]).flag (HDMA_CH_CTRL.ENABLE 0) = true ∧ (st [(HDMA_CH_CFG.BURST 0, 0)]).rd (HDMA_CH_CFG.BURST 0) = 0 ∧ (st [(HDMA_CH_CFG.BURST 0, 9)]).rd (HDMA_CH_CFG.BURST 0) ≠ 0) :=
  by
  refine ⟨?_, ?_, ?_, ?_, ?_⟩ <;> decide

/-- A host descriptor from host memory to Lathe SRAM of its partition: 2 lines of 64 bytes. -/
def hdesc : List Nat := [0x201, 0, 0x1000, 0, 0x2000, 0, 64, 64, 0x10001, 64, 64]
def moves (l : List (Fld × Nat)) : State := hch0 { entry := some hdesc } ([(HDMA_CH_STAT.STATE 0, 2), (HDMA_CH_PART.ASSIGNED 0, 1), (LTH_PART.ASSIGNED 0, 1)] ++ l)

def framed : State := ((hch0 { entry := some [0] } [(HDMA_CH_STAT.STATE 0, 3), (VID_ENG_STAT.ENABLED 0, 1), (VID_CTX_TAKERS.TAKERS 0 0, 1)])).setVctx 0 0 { slots := [⟨2, 0, [], []⟩] }

theorem test_hyp_HostDmaCommands :
    ((st [(HDMA_CH_PART.ASSIGNED 0, 1), (HDMA_CH_PART.PART 0, 7)]).hPart 0 = some (7 : Part).val ∧ (st [(HDMA_CH_STAT.STATE 0, 1)]).hState 0 = 1 ∧ 2 ≤ (st [(HDMA_CH_STAT.STATE 0, 3)]).hState 0 ∧ State.reset.hState 0 = 0) ∧
    (State.reset.hPart 0 ≠ some (7 : Part).val) ∧
    ((hch0 { fetch := true } [(HDMA_CH_STAT.STATE 0, 2)]).hState 0 = 2 ∧ ((hch0 { fetch := true } [(HDMA_CH_STAT.STATE 0, 2)]).hch 0).fetch = true ∧ (hch0 { fetch := true } []).rd (HDMA_CH_RING_CFG.SPACE 0) = 0) ∧
    ((hch0 { fetch := true } []).hdmaHostInjected ((hch0 { fetch := true } []).entryAddr 0) = .ok (hch0 { fetch := true } []) ∧ dfld [1] 0 0 1 ≠ 0 ∧ dfld [0] 0 0 1 = 0) ∧
    (((hch0 {} []).hch 0).entry = none ∧ ((hch0 { entry := some [0] } [(HDMA_CH_STAT.STATE 0, 3)]).hch 0).entry = some [0]) ∧
    ((framed.hch 0).entry = some [0] ∧ framed.hState 0 = 3 ∧ framed.ctxOfChan (dfld [0] 0 20 3) 0 = some 0 ∧ (framed.vctx (dfld [0] 0 20 3) 0).slots.find? (fun t => !t.taken.contains 0) = some ⟨2, 0, [], []⟩) ∧
    (((moves []).hch 0).entry = some hdesc ∧ (moves []).hState 0 = 2 ∧ ((moves []).hch 0).code = 0 ∧ ((hch0 { entry := some hdesc, code := 16 } []).hch 0).code ≠ 0) ∧
    ((match (moves []).hdmaMove 0 hdesc (List.replicate 128 7) with | .ok x => decide ((hdmaDst hdesc).bytes ≤ x.2) | .error _ => false) = true) ∧
    ((match (hch0 { entry := some hdesc } [(HDMA_CH_PART.ASSIGNED 0, 1)]).hdmaMove 0 hdesc (List.replicate 128 7) with | .ok _ => false | .error _ => true) = true) ∧
    ((match (moves []).hdmaMove 0 [0x241, 0, 0, 0, 0x2000, 0, 64, 64, 0x10001, 64, 64] [] with | .ok x => decide (x.2 < (hdmaDst [0x241, 0, 0, 0, 0x2000, 0, 64, 64, 0x10001, 64, 64]).bytes) | .error _ => false) = true) ∧
    ((st [(HDMA_CH_STAT.STATE 0, 4)]).hState 0 = 4 ∧ (st [(HDMA_ENG_STAT.STOPPED, 1)]).flag HDMA_ENG_STAT.STOPPED = true ∧ State.reset.flag HDMA_ENG_STAT.STOPPED = false) ∧
    (({ st [(HDMA_ENG_STAT.STOPPED, 1)] with evq := [(0, List.replicate 64 [] ++ [[0x14]])] } : State).holds 0 0x14 = true ∧ (List.range 8).any (fun p => State.reset.holds p 0x14) = false) :=
  ⟨by decide, by decide, by decide, ⟨rfl, by decide, by decide⟩, by decide, by decide, by decide, by decide, by decide, by decide, by decide, by decide⟩

def asked : State := stE [(LTH_SEQ_STAT.STATE 0, 1), (TDMA_CH_STAT.STATE 0 0, 1), (ARB_REQ.LIMIT 0 0, 5), (ARB_REQ.CLASS 0 0, 2)]

def pending1 (s : State) (i : Nat) (slots : List Nat) : List Nat := (List.range (arbNums i)).filter (fun r => 0 < slots.getD r 0 && !neverRequests i r && !(s.arbApply i).arbMasked i r && ((s.arbApply i).arbRate i r = 0 || 1024 ≤ (s.arbApply i).arbCredit i r))

theorem test_hyp_ArbiterDecides :
    (pending1 asked 0 [1] ≠ [] ∧ (∀ r ∈ pending1 asked 0 [1], (asked.arbApply 0).inEff (ARB_REQ.CLASS 0 r) ≤ 3) ∧ (pending1 asked 0 [1]).filter (fun r => (asked.arbApply 0).inEff (ARB_REQ.LIMIT 0 r) ≤ Cells.get 0 ((asked.arbApply 0).arbOf 0).wait r) = []) ∧
    (pending1 asked 0 [] = [] ∧ (pending1 (asked.setArb 0 { wait := [(0, 5)] }) 0 [1]).filter (fun r => ((asked.setArb 0 { wait := [(0, 5)] }).arbApply 0).inEff (ARB_REQ.LIMIT 0 r) ≤ Cells.get 0 (((asked.setArb 0 { wait := [(0, 5)] }).arbApply 0).arbOf 0).wait r) ≠ []) :=
  by
  refine ⟨?_, ?_⟩ <;> decide

theorem test_hyp_ArbiterCommit :
    failingRule ((st [(ARB_REQ.LIMIT 51 0, 0)]).arbRules 51) = some 1 ∧ failingRule (State.reset.arbRules 51) = none :=
  by decide

def vidGood : List (Fld × Nat) := [(LTH_PART.ASSIGNED 0, 1), (VID_ENG_PART.ASSIGNED 0, 1), (VID_ENG_STAT.READY 0, 1), (VID_CTX_CFG.MODE 0 5, 1), (VID_CTX_DIM.WIDTH 0 5, 64), (VID_CTX_DIM.HEIGHT 0 5, 64), (VID_CTX_CFG.FPS 0 5, 1), (VID_CTX_CFG.OUT_FMT 0 5, 0), (VID_CTX_SIZES.FRAMES 0 5, 2), (VID_CTX_SIZES.BUF_4K 0 5, 2), (VID_CTX_SIZES.LD64 0 5, 1), (VID_CTX_SLOT_SIZE.SLOT_4K 0 5, 2), (VID_CTX_FRAMES.COUNT 0 5, 1), (VID_CTX_QUEUE.BASE 0 5, 4096), (VID_CTX_FRAMES.BASE 0 5, 8192)]

def vidRun (m : Nat) (l : List (Fld × Nat)) : State := stE ([(VID_ENG_STAT.ENABLED 0, 32), (VID_CTX_STAT.STATE 0 5, 2), (VID_CTX_CFG.MODE 0 5, m)] ++ l)

def pic1 : VidPic := ⟨0, false, 64, 64, false, true, none, none, 0, false, false, 0, 0⟩

theorem test_hyp_VideoContextsAndEngines :
    ((vidRun 1 []).rd (VID_ENG_STAT.ENABLED 0) ≠ 0 ∧ State.reset.rd (VID_ENG_STAT.ENABLED 0) = 0 ∧ Cells.get false State.reset.vid.clearing 0 = false ∧ Cells.get false ({ State.reset with vid := { clearing := [(0, true)] } } : State).vid.clearing 0 = true) ∧
    ((vidRun 1 []).vidOn 0 5 = true ∧ (vidFixedFields 0 5).any (fun f => (vidRun 1 []).rd f ≠ (vidRun 1 []).inEff f) = false) ∧
    ((vidFixedFields 0 5).any (fun f => ((vidRun 1 []).wr (VID_CTX_DIM.WIDTH 0 5) 80).rd f ≠ ((vidRun 1 []).wr (VID_CTX_DIM.WIDTH 0 5) 80).inEff f) = true) ∧
    (State.reset.vidOn 0 5 = false ∧ failingRule (State.reset.vidRules 0 5) = some 1) ∧
    (failingRule ((st vidGood).vidRules 0 5) = none ∧ (st vidGood).vidOn 0 5 = false) ∧
    (failingRule ((vidRun 1 vidGood).vidRules 0 5) = none ∧ (vidRun 1 vidGood).vidOn 0 5 = true) ∧
    ((vidRun 1 []).inEff (VID_CTX_CFG.MODE 0 5) = 1 ∧ (vidRun 2 []).inEff (VID_CTX_CFG.MODE 0 5) ≠ 1) ∧
    ((vidRun 1 []).rd (VID_CTX_STAT.STATE 0 5) ≠ 3 ∧ (vidRun 1 [(VID_CTX_STAT.STATE 0 5, 3)]).rd (VID_CTX_STAT.STATE 0 5) = 3 ∧ (vidRun 1 []).holds ((vidRun 1 []).vidPart 0) 0x15 = false) ∧
    (({ vidRun 1 [(VID_CTX_STAT.STATE 0 5, 3)] with evq := [(0, List.replicate 64 [] ++ [[0x15]])] } : State).holds 0 0x15 = true) ∧
    (State.reset.flag (VID_ENG_PART.ASSIGNED 0) = false ∧ (st vidGood).flag (VID_ENG_PART.ASSIGNED 0) = true ∧ (st vidGood).vidPart 0 = (0 : Part).val ∧ (st vidGood).vidPart 0 ≠ (1 : Part).val) ∧
    ((vidRun 2 []).vidOn 0 5 = true ∧ (vidRun 2 []).inEff (VID_CTX_CFG.MODE 0 5) = 2 ∧ (vidRun 2 []).slotCount 0 5 ≤ 1 ∧ 0 < (vidRun 2 []).slotCount 0 5 ∧ ((vidRun 2 []).vctx 0 5).srcs = []) :=
  by
  refine ⟨?_, ?_, ?_, ?_, ?_, ?_, ?_, ?_, ?_, ?_, ?_⟩ <;> decide

theorem test_hyp_VideoRowsAndFrames :
    (State.reset.vidOn 0 5 = false ∧ (vidRun 1 []).vidOn 0 5 = true ∧ (vidRun 1 []).rd (VID_CTX_STAT.STATE 0 5) = 2 ∧ (vidRun 1 []).inEff (VID_CTX_CFG.MODE 0 5) = 1 ∧ (vidRun 2 []).inEff (VID_CTX_CFG.MODE 0 5) = 2) ∧
    ((((vidRun 1 []).setVctx 0 5 { outs := [pic1] }).vctx 0 5).outs = [pic1] ∧ ((vidRun 1 []).setVctx 0 5 { outs := [pic1] }).freeSlots 0 5 ≠ []) ∧
    (((vidRun 1 []).setVctx 0 5 { outs := [pic1], slots := [⟨0, 0, [], []⟩] }).freeSlots 0 5 = [0] ∧ ((vidRun 1 [(VID_CTX_TAKERS.TAKERS 0 5, 1)]).setVctx 0 5 { outs := [pic1], slots := [⟨0, 0, [], []⟩] }).freeSlots 0 5 = []) ∧
    ((vidRun 1 [(VID_CTX_CFG.OVERRUN 0 5, 0)]).flagEff (VID_CTX_CFG.OVERRUN 0 5) = false ∧ (vidRun 1 [(VID_CTX_CFG.OVERRUN 0 5, 1)]).flagEff (VID_CTX_CFG.OVERRUN 0 5) = true) ∧
    ((((vidRun 1 [(VID_CTX_TAKERS.TAKERS 0 5, 1)]).setVctx 0 5 { outs := [pic1], slots := [⟨0, 0, [], []⟩] }).vctx 0 5).slots.find? (fun t => t.held.isEmpty) = some ⟨0, 0, [], []⟩) :=
  by
  refine ⟨?_, ?_, ?_, ?_, ?_⟩ <;> decide

def plane (k : Nat) (l : List (Fld × Nat)) : State := stE ([(FAB_PLANE.STATE 0, k)] ++ l)

def hello1 : Hello := ⟨false, false, false, false, 0, 3, 0, 0, [], 0⟩

theorem test_hyp_FabricPlanes :
    ((st [(FAB_CFG.E2E_TIMEOUT, 79)]).rd FAB_CFG.E2E_TIMEOUT < 80 ∧ 80 ≤ (st [(FAB_CFG.E2E_TIMEOUT, 80)]).rd FAB_CFG.E2E_TIMEOUT ∧ (st [(GLB_PART_STAT.STATE 0, 4)]).tearing 0 = true ∧ State.reset.tearing 0 = false) ∧
    (failingRule ((st [(FAB_PWIN.LSIZE 0, 17)]).fabRules 0) = some 2 ∧ failingRule (State.reset.fabRules 0) = none ∧ State.reset.flag (FAB_CK_CTRL.START 0) = false) ∧
    ((st [(FAB_CK_CTRL.START 0, 1)]).flag (FAB_CK_CTRL.START 0) = true ∧ failingRule ((st [(FAB_CK_CTRL.START 0, 1)]).fabRules 0) = none ∧ (st [(FAB_CK_CTRL.START 0, 1)]).rd (FAB_PSTAT.ENABLED 0) ≠ b2n true) ∧
    ((plane 0 []).rd (FAB_PLANE.STATE 0) ≠ 1 ∧ (plane 1 []).rd (FAB_PLANE.STATE 0) = 1 ∧ (plane 2 []).rd (FAB_PLANE.STATE 0) = 2 ∧ (plane 2 []).rd (FAB_PLANE.STATE 0) < 3 ∧ 3 ≤ (plane 3 []).rd (FAB_PLANE.STATE 0)) ∧
    ((plane 2 []).rxOpen 0 = false ∧ (plane 4 []).rxOpen 0 = true ∧ (plane 4 []).rd (FAB_PLANE.STATE 0) = 4 ∧ (plane 4 []).helloAgrees hello1 = true) ∧
    ((plane 4 [(FAB_ID.ID_VALID, 1)]).helloAgrees { hello1 with switch := true, idValid := true, id := 5 } = false ∧ (plane 4 [(FAB_ID.ID_VALID, 1)]).rxOpen 0 = true) :=
  by
  refine ⟨?_, ?_, ?_, ?_, ?_, ?_⟩ <;> decide

theorem test_hyp_FabricCodewordsAndControl :
    ((plane 2 []).rd (FAB_PLANE.STATE 0) < 3 ∧ 3 ≤ (plane 4 [(FAB_INJ.PLANE, 1)]).rd (FAB_PLANE.STATE 0) ∧ (plane 4 [(FAB_INJ.PLANE, 1)]).rd FAB_INJ.PLANE ≠ (0 : Fin 2).val ∧ CwDecode.corrected ≠ .failed) ∧
    ((1 : Fin 1024).val = (((plane 4 []).link 0).acc + 1) % 1024 ∧ (2 : Fin 1024).val ≠ (((plane 4 []).link 0).acc + 1) % 1024) ∧
    ((0 : Fin 1024).val = ((((plane 4 []).setLink 0 { acc := 1023 }).link 0).acc + 1) % 1024) ∧
    ((plane 2 []).rxOpen 0 = false ∧ (plane 3 []).rxOpen 0 = true) :=
  by
  refine ⟨?_, ?_, ?_, ?_⟩ <;> decide

def tx1 (o : TxOwner) (d : Nat) : TxPkt := { pkt := { typ := 0x10, dst := d }, part := 0, owner := o }

def sends (o : TxOwner) (d : Nat) (l : List (Fld × Nat)) : State := { plane 4 l with fab := { sendQ := [tx1 o d] } }

def ckRun (x : Option Nat) : State := { st [] with fab := { ck := [(0, some { list := 0, count := 1, peer := 2, pull := false, quiesce := false, outcome := x })] } }

theorem many_out (n : Nat) : n ≤ (List.filter (fun x => x.pkt.dst = (tx1 .checkpoint 5).pkt.dst) (List.replicate n (tx1 .checkpoint 5))).length := by
  simp
theorem test_hyp_FabricPackets :
    (State.reset.fab.sendQ.find? (fun t => t.owner.requester = (18 : Fin 19).val) = none ∧ (sends .response 5 []).fab.sendQ.find? (fun t => t.owner.requester = TxOwner.response.requester) = some (tx1 .response 5)) ∧
    (TxOwner.response.requester < 19 ∧ TxOwner.checkpoint ≠ TxOwner.response ∧ (sends .checkpoint 5 []).flag (FAB_PSTAT.ENABLED 0) = false ∧ (sends .checkpoint 5 [(FAB_PSTAT.ENABLED 0, 1)]).flag (FAB_PSTAT.ENABLED 0) = true) ∧
    ((sends .response 5 []).flag FAB_ID.ID_VALID = false ∧ (sends .response 5 [(FAB_ID.ID_VALID, 1), (FAB_ID.MODULE_ID, 5)]).rd FAB_ID.MODULE_ID = (tx1 .response 5).pkt.dst ∧ (sends .response 5 [(FAB_ID.ID_VALID, 1)]).flag FAB_ID.ID_VALID = true ∧ (sends .response 5 [(FAB_ID.ID_VALID, 1)]).rd FAB_ID.MODULE_ID ≠ 5) ∧
    ((sends .response 5 [(FAB_ID.ID_VALID, 1)]).fabRoute (tx1 .response 5) = none ∧ (sends .response 5 [(FAB_ID.ID_VALID, 1), (FAB_REACH.REACH 0 0, 32)]).fabRoute (tx1 .response 5) = some 0) ∧
    (¬ (TxOwner.response ≠ TxOwner.response ∧ 4096 ≤ ((sends .response 5 []).fab.outst.filter (fun x => x.pkt.dst = 5)).length)) ∧
    (4096 ≤ (List.filter (fun x => x.pkt.dst = (tx1 .checkpoint 5).pkt.dst) (List.replicate 4096 (tx1 .checkpoint 5))).length) ∧
    (State.reset.fab.outst[0]? = none ∧ ({ State.reset with fab := { outst := [tx1 .response 5] } } : State).fab.outst[0]? = some (tx1 .response 5) ∧ ({ tx1 .response 5 with resent := true }).resent = true) ∧
    ((plane 3 []).pktOpen 0 = false ∧ (plane 4 []).pktOpen 0 = true) ∧
    ((isBarrier 0 = false ∧ isEvent 0 = false) ∧ (∃ a, isEvent a = true) ∧ ∃ a, isBarrier a = true) ∧
    ((st [(FAB_CK_CTRL.START 0, 1)]).flag (FAB_CK_CTRL.START 0) = true ∧ State.reset.flag (FAB_CK_CTRL.START 0) = false ∧ State.reset.ckJob 0 = none) ∧
    ((ckRun none).ckJob 0 = some { list := 0, count := 1, peer := 2, pull := false, quiesce := false } ∧ (ckRun (some 0)).ckJob 0 = some { list := 0, count := 1, peer := 2, pull := false, quiesce := false, outcome := some 0 }) :=
  ⟨by decide, by decide, by decide, by decide, by decide, many_out 4096, by decide, by decide, ⟨by decide, ⟨0xFFFFFF000, by decide⟩, ⟨0xFFFFFE000, by decide⟩⟩, by decide, by decide⟩

def once : State := { plane 4 [(FAB_ID.ID_VALID, 1), (FAB_ID.MODULE_ID, 5)] with fab := { rxNext := [(7, 1)], rxDone := [(7 * 65536, 1)] } }

theorem test_hyp_FabricWritesOnce :
    (once.pktOpen 0 = true ∧ ({ typ := 0x10, dst := 5, src := 7 } : FabPkt).crcBad = false ∧ once.flag FAB_ID.ID_VALID = true ∧ 5 = once.rd FAB_ID.MODULE_ID) ∧
    ((once.rxStatus 7 0).isSome = true) :=
  by
  refine ⟨?_, ?_⟩ <;> decide

def pairN : List (Fld × Nat) → State := fun l => stE l

theorem test_hyp_HostLinkAndRequests :
    (State.reset.flag PCI_LINK.UP = false ∧ (st [(PCI_LINK.UP, 1)]).flag PCI_LINK.UP = true ∧ (st [(GLB_LIFE.RUN, 7)]).run = 7 ∧ (up []).run ≠ 7) ∧
    ((up []).boot.phase5 = false ∧ ({ up [] with boot := { phase5 := true } } : State).boot.phase5 = true ∧ (up []).flag PCI_INJ.UR = false) ∧
    ((up []).portCap < (0xFFFFFFFFF : BitVec 36).toNat + (4096 : Fin 4097).val ∧ (0 : BitVec 36).toNat + (4096 : Fin 4097).val ≤ (up []).portCap) ∧
    ((up [(MEM_STAT.STATE 0, 3)]).portUp ((up []).rd PCI_APER0.PORT) = true ∧ (up []).partOf 0 = none ∧ (up [(LTH_PART.ASSIGNED 0, 1)]).partOf 0 = some 0) :=
  by
  refine ⟨?_, ?_, ?_, ?_⟩ <;> decide

theorem test_hyp_RingsAndFunctionResets :
    ((st [(PCI_RING_CFG.ENABLE 0, 1)]).flag (PCI_RING_CFG.ENABLE 0) = true ∧ State.reset.flag (PCI_RING_CFG.ENABLE 0) = false ∧ bit (0 : Word).toNat 31 = false ∧ bit (0x80000000 : Word).toNat 31 = true) ∧
    ((st [(GLB_PART_STAT.STATE 0, 4)]).tearing 0 = true ∧ State.reset.tearing 0 = false ∧ failingRule (((ringCfgFields 0).foldl (fun (st : State) f => st.wr f (bits 0x80000000 f.lo f.width)) State.reset).ringRules 0) = some 1) ∧
    (failingRule ((st [(PCI_RING_CFG.SQ_LOG2 0, 4), (PCI_RING_CFG.OQ_LOG2 0, 2), (PCI_RING_CFG.OQ_ENT 0, 8), (PCI_RING_CFG.EQ_LOG2 0, 4), (GLB_PART_STAT.STATE 0, 3)]).ringRules 0) = none) ∧
    (State.reset.records 0 = [] ∧ ({ st [(PCI_RING_CFG.ENABLE 0, 1), (PCI_RING_CFG.EQ_LOG2 0, 4)] with evq := [(0, [[1], [2]])] } : State).records 0 = [[1], [2]]) ∧
    (({ st [(PCI_RING_CFG.ENABLE 0, 1), (PCI_RING_CFG.EQ_LOG2 0, 4)] with evq := [(0, [[1], [2]])] } : State).eqFull 0 = false ∧ (st [(PCI_RING_CFG.EQ_LOG2 0, 4), (PCI_EQ_TAIL.INDEX 0, 16)]).eqFull 0 = true) :=
  by
  refine ⟨?_, ?_, ?_, ?_, ?_⟩ <;> decide

theorem test_hyp_Mailboxes :
    (mbxAllowed 3 1 = false ∧ mbxAllowed 3 11 = true ∧ ({ State.reset with host := { inReset := [(11, true)] } } : State).recvReset 11 = true ∧ State.reset.recvReset 11 = false) ∧
    ((st [(MBX_IN_FROM.FULL 11, 1)]).flag (MBX_IN_FROM.FULL 11) = true ∧ State.reset.flag (MBX_IN_FROM.FULL 11) = false) :=
  by
  refine ⟨?_, ?_⟩ <;> decide

theorem test_hyp_InterruptPending :
    ((31 : Nat) < 32 ∧ (3 : Fin 4) ≠ 2 ∧ (st [(IRQ_LEVEL.LEVEL 0, 2)]).irqRaw 1 = false) ∧
    (({ State.reset with host := { line := [(8, true)] } } : State).irqRaw 8 = true ∨ State.reset.irqRaw 8 = false) :=
  by
  refine ⟨?_, ?_⟩ <;> decide

theorem test_hyp_InterruptClaim :
    ((st [(IRQ_PEND.PEND 3, 0x8000), (IRQ_MASK.MASK 2 3, 0)]).irqTick.flag (IRQ_CLAIM.IN_SERVICE 2) = false ∧ 111 < 112 ∧ bit ((st [(IRQ_PEND.PEND 3, 0x8000), (IRQ_MASK.MASK 2 3, 0)]).irqTick.rd (IRQ_PEND.PEND (111 / 32))) (111 % 32) = true ∧ bit ((st [(IRQ_PEND.PEND 3, 0x8000), (IRQ_MASK.MASK 2 3, 0)]).irqTick.rd (IRQ_MASK.MASK 2 (111 / 32))) (111 % 32) = false) ∧
    ((∀ j, j < 111 → 1 ≤ j → bit ((st [(IRQ_PEND.PEND 3, 0x8000), (IRQ_MASK.MASK 2 3, 0)]).irqTick.rd (IRQ_PEND.PEND (j / 32))) (j % 32) = false)) ∧
    ((st [(IRQ_CLAIM.IN_SERVICE 2, 1)]).irqTick.flag (IRQ_CLAIM.IN_SERVICE 2) = true ∧ State.reset.irqTick.flag (IRQ_CLAIM.IN_SERVICE 2) = false ∧ State.reset.irqTick.irqLowest 2 = none) :=
  by
  refine ⟨?_, ?_, ?_⟩ <;> decide

def built (k step : Nat) (l : List (Fld × Nat)) : State := (up ([(GLB_PART_STAT.STATE 0, k), (MEM_STAT.STATE 0, 3)] ++ l)).setPrt 0 { step := step, granules := 1, tenant := 7 }

theorem test_hyp_PartitionBuildAndTeardown :
    (State.reset.run ≠ 3 ∧ (built 4 0 []).run = 3 ∧ (built 4 0 []).tearing 0 = true ∧ failingRule ((built 1 0 []).buildRules 0) = some 1 ∧ (built 1 0 []).tearing 0 = false) ∧
    (failingRule ((built 0 0 []).buildRules 0) = none ∧ (built 0 0 []).tearing 0 = false) ∧
    ((6 : Fin 7) ≠ 0 ∧ (built 1 5 []).rd (GLB_PART_STAT.STATE 0) = 1 ∧ (6 : Fin 7).val = ((built 1 5 []).prt 0).step + 1 ∧ (6 : Fin 7).val ≠ ((built 1 0 []).prt 0).step + 1) ∧
    ((built 0 0 []).rd (GLB_PART_STAT.STATE 0) = 0 ∧ (built 2 0 []).rd (GLB_PART_STAT.STATE 0) = 2 ∧ (built 3 0 []).rd (GLB_PART_STAT.STATE 0) = 3 ∧ (built 3 0 []).tearing 0 = false) ∧
    ((built 4 0 [(GLB_PART_STAT.TD_STEP 0, 5)]).tearing 0 = true ∧ (6 : Fin 7).val = (built 4 0 [(GLB_PART_STAT.TD_STEP 0, 5)]).rd (GLB_PART_STAT.TD_STEP 0) + 1 ∧ (1 : Fin 7).val ≠ (built 4 0 [(GLB_PART_STAT.TD_STEP 0, 5)]).rd (GLB_PART_STAT.TD_STEP 0) + 1) ∧
    ((built 4 0 [(GLB_PART_STAT.TD_STEP 0, 2)]).rd (GLB_PART_STAT.TD_STEP 0) = 2 ∧ (built 4 0 [(GLB_PART_STAT.TD_STEP 0, 6)]).rd (GLB_PART_STAT.TD_STEP 0) = 6) :=
  by
  refine ⟨?_, ?_, ?_, ?_, ?_, ?_⟩ <;> decide

theorem test_hyp_TeardownDestroysKeys :
    (built 4 0 [(GLB_PART_STAT.TD_STEP 0, 4)]).tearing 0 = true ∧ (built 4 0 [(GLB_PART_STAT.TD_STEP 0, 4)]).rd (GLB_PART_STAT.TD_STEP 0) = 4 :=
  by decide

def withOtp (m : List (Nat × Nat)) : State := { up [] with boot := { otp := m } }

theorem test_hyp_AttestationKeysAndOwners :
    (ReqPath.field 5 true = ReqPath.mirror ∨ ∃ m v, ReqPath.field 5 true = ReqPath.field m v) ∧
    ((State.reset.prt 0).kem = none ∧ ((State.reset.setPrt 0 { kem := some [1] }).prt 0).kem = some [1]) ∧
    ((st [(GLB_PART_STAT.STATE 0, 0)]).rd (GLB_PART_STAT.STATE 0) ≠ 2 ∧ (st [(GLB_PART_STAT.STATE 0, 0)]).rd (GLB_PART_STAT.STATE 0) ≠ 3 ∧ (st [(GLB_PART_STAT.STATE 0, 3)]).rd (GLB_PART_STAT.STATE 0) = 3 ∧ 9 ≠ (State.reset.prt 0).buildId) ∧
    (4 ≤ (withOtp [(0x80, 1), (0xC0, 1), (0x100, 1), (0x140, 1)]).ownerGen ∧ State.reset.ownerGen = 0 ∧ State.reset.ownerGen < 4) ∧
    ((withOtp [(0x80, 1)]).ownerGen < 4 ∧ (withOtp [(0x80, 1)]).ownerGen ≠ 0) ∧
    (∀ b g, (withOtp [(0x80, 1)]).ownerSigned ['N', 'Z', '-', 'O', 'W'] b g = false ∨ (withOtp [(0x80, 1)]).ownerSigned ['N', 'Z', '-', 'O', 'W'] b g = true) ∧
    ((4 : Nat) ≠ reqCode (.doe .pf0)) :=
  ⟨Or.inr ⟨_, _, rfl⟩, by decide, by decide, by decide, by decide, fun b g => by cases (withOtp [(0x80, 1)]).ownerSigned ['N', 'Z', '-', 'O', 'W'] b g <;> simp, by decide⟩

theorem test_hyp_DebugSessions :
    (State.reset.flag GLB_DBG_STAT.OPEN = false ∧ (st [(GLB_DBG_STAT.OPEN, 1)]).flag GLB_DBG_STAT.OPEN = true ∧ (State.reset.prt 0).touched = false ∧ (((st [(GLB_DBG_STAT.OPEN, 1)]).setPrt 0 { touched := true }).prt 0).touched = true) ∧
    (State.reset.wayPart 0 = none ∧ (State.reset.wayRead 0 0 4).2.1 = true) ∧
    ((st [(GLB_PART_STAT.STATE 0, 3), (GLB_PART_STAT.GRANULES 0, 1), (LTH_PART.ASSIGNED 0, 1), (LTH_PART.WAY_MASK 0, 1), (LTH_SEQ_STAT.STATE 0, 7)]).wayPart 0 = some 0 ∧ ((st [(LTH_PART.ASSIGNED 0, 1), (LTH_SEQ_STAT.STATE 0, 7)]).lathesOf 0).all (fun n => (st [(LTH_PART.ASSIGNED 0, 1), (LTH_SEQ_STAT.STATE 0, 7)]).seq n = 7) = true) ∧
    (((st [(LTH_PART.ASSIGNED 0, 1)]).lathesOf 0).all (fun n => (st [(LTH_PART.ASSIGNED 0, 1)]).seq n = 7) = false) :=
  by
  refine ⟨?_, ?_, ?_, ?_⟩ <;> decide

def req (op idx sub len : Nat) (d : List Byte) : DictReq := ⟨1, op, true, 0, 0, idx, sub, 0, len, d⟩

def entIs (p : Ent → Bool) (tenant : Option Nat) (idx sub : Nat) : Bool := match dictEntry env0 0 tenant (up []) idx sub with | some e => p e | none => false

theorem test_hyp_DictionaryRequests :
    ((up []).flag MBX_DICT_STAT.BUSY = false ∧ (up [(MBX_DICT_STAT.BUSY, 1)]).flag MBX_DICT_STAT.BUSY = true ∧ (up []).run = 3 ∧ State.reset.run = 0) ∧
    (((up [(MBX_DICT_STAT.BUSY, 1)]).dictServe env0 0 .op false (dictReq [1, 9])).2.status ≠ stNone ∧ ((up []).dictServe env0 0 .op true (dictReq [1, 9])).2.status ≠ stNone) ∧
    (isDictOp (req 9 0 0 0 []) = false ∧ isDictOp (req 1 0x3000 1 1 []) = true ∧ (dictEntry env0 0 none (up []) 0x2FFF 1).isNone = true) ∧
    (entIs (fun e => e.access (.tenant 0) = 0) (some 0) 0x1020 1 = true ∧ entIs (fun e => e.access .op = 2) none 0x1020 1 = true ∧ entIs (fun e => e.access .op = 1 && e.typ ≠ 11 && e.size ≤ 1 && (e.get (up [])).isSome) none 0x3000 1 = true) ∧
    (entIs (fun e => 2 ≤ e.access .op && e.typ ≠ 11 && e.size = 1 && e.lo ≤ leVal [32] && leVal [32] ≤ e.hi) none 0x1010 3 = true) ∧
    (entIs (fun e => leVal [0] < e.lo) none 0x1010 3 = true ∧ entIs (fun e => e.hi < leVal [33]) none 0x1010 3 = true) :=
  by
  refine ⟨?_, ?_, ?_, ?_, ?_, ?_⟩ <;> decide

def beacon (k d : Byte) : List Byte := [1, 5, 0xFF, 0] ++ List.replicate 24 0 ++ [32, 0, 0, 0] ++ [0, k] ++ List.replicate 6 0 ++ [d] ++ List.replicate 31 0

theorem test_hyp_FieldNetworkAndMirror :
    (State.reset.onField = false ∧ (up []).onField = true ∧ (up []).dict.conflict = false ∧ (up []).dict.skip = 0 ∧ ({ up [] with dict := { skip := 2 } } : State).dict.skip ≠ 0) ∧
    (beaconOk [] = false ∧ beaconOk (beacon 4 0) = true ∧ bit (hdrNum (beacon 4 0) 3 1) 1 = false ∧ hdrNum (beacon 4 0) 0x21 1 % 32 ≠ (up []).nodeId) ∧
    (hdrNum (beacon 31 0) 0x21 1 % 32 = (up []).nodeId) ∧
    (∃ d, hdrNum (beacon 31 d) 0x28 8 ≠ (up []).deviceId) ∧
    ((State.reset.partner 3).here = false ∧ (({ State.reset with dict := { partners := [(3, { here := true })] } } : State).partner 3).here = true) ∧
    ((st [(MBX_DICT_STAT.BUSY, 1)]).flag MBX_DICT_STAT.BUSY = true ∧ State.reset.flag MBX_DICT_STAT.BUSY = false ∧ (up []).nodeId ≠ 0 ∧ ({ up [] with boot := { gaPins := 0 } } : State).nodeId = 0) :=
  ⟨by decide, by decide, by decide, if h : hdrNum (beacon 31 0) 0x28 8 = (up []).deviceId then ⟨1, h ▸ by decide⟩ else ⟨0, h⟩, by decide, by decide⟩

def items (v : Nat) (n : Nat) : State := { up [(PWR_STAT.HOLDUP_OK, 1)] with dict := { persist := (List.range n).map (fun i => (i + 1, 2 ^ 31 + v)) } }

def bodyOf (s : State) : List Byte := s.persistItems.flatMap (fun x => match persistEnt x.2.1 x.2.2 with | some e => settingsBytes x.2.1 x.2.2 e.size (s.persistGet e) | none => [])

theorem test_hyp_SettingsLockAndRestores :
    (State.reset.run = 0 ∧ 4 ≤ (st [(GLB_LIFE.RUN, 5)]).run ∧ (up []).run = 3 ∧ 4 ≤ (withOtp [(0x1C00, 1), (0x1D00, 1), (0x1E00, 1), (0x1F00, 1)]).settingsUsed ∧ (up []).settingsUsed < 4) ∧
    (236 < (bodyOf (items 0x31010 32)).length ∧ (bodyOf (items 0x1020 1)).length ≤ 236 ∧ (items 0x1020 1).persistItems.find? (fun x => (persistEnt x.2.1 x.2.2).isNone) = some (1, 0x1020, 0)) ∧
    ((bodyOf (items 0x31010 1)).length ≤ 236 ∧ (items 0x31010 1).persistItems.find? (fun x => (persistEnt x.2.1 x.2.2).isNone) = none ∧ (items 0x31010 1).holdupOk = true ∧ bit (items 0x31010 1).dict.inj 2 = false ∧ (st [(PWR_STAT.HOLDUP_OK, 0)]).holdupOk = false) ∧
    (State.reset.ownerGen = 0 ∧ (withOtp [(0x80, 1)]).ownerGen ≠ 0 ∧ (0 : Word).toNat ≤ (withOtp [(0x80, 1)]).fram.lockSeq ∧ (withOtp [(0x80, 1)]).fram.lockSeq < (1 : Word).toNat) ∧
    (∀ b g, (withOtp [(0x80, 1)]).ownerSigned ['N', 'Z', '-', 'U', 'L'] b g = false ∨ (withOtp [(0x80, 1)]).ownerSigned ['N', 'Z', '-', 'U', 'L'] b g = true) ∧
    (((built 3 0 []).setPrt 0 { bKeySrc := 1 }).rd (GLB_PART_STAT.STATE 0) = 3 ∧ (((built 3 0 []).setPrt 0 { bKeySrc := 1 }).prt 0).bKeySrc = 1 ∧ (built 3 0 []).rd (PLT_PSTAT.STATE 0) = 0 ∧ (built 3 0 []).restoring 0 = false ∧ ((built 3 0 []).prt 0).bKeySrc ≠ 1) ∧
    ((((built 3 0 []).setPrt 0 { restore := 1 }).prt 0).restore = 1 ∧ (built 3 0 []).flag (FAB_CK_CTRL.START 0) = false ∧ (((built 3 0 []).setPrt 0 { restore := 3 }).prt 0).restore = 3 ∧ ((built 3 0 []).setPrt 0 { restore := 3 }).restoring 0 = true ∧ ((built 3 0 []).setPrt 0 { restore := 3 }).tearing 0 = false) :=
  ⟨by decide, by decide, by decide, by decide, fun b g => by cases (withOtp [(0x80, 1)]).ownerSigned ['N', 'Z', '-', 'U', 'L'] b g <;> simp, by decide, by decide⟩

/-- A header of component id with its version and variants, and SVN 63, whose vendor key is all zeros. -/
def hdr1 (id body : Byte) : List Byte := [0x57, 0x46, 0x5A, 0x4E, 1, id, 63, 3, 0, 0, 0, 0, 1, 0, 0, 0, 0, body]

/-- OTP with the vendor digest of that key. -/
def vendorOtp : Cells Nat := Cells.setList 0 [] 0x40 ((sha3 (fitTo 2592 [])).map (fun b => b.toNat))
theorem getList_range (d : Nat) (m : Cells Nat) : ∀ n k, Cells.getList d m k n = (List.range n).map (fun i => Cells.get d m (k + i))
  | 0, _ => rfl
  | n + 1, k => by
    rw [Cells.getList, getList_range d m n (k + 1), List.range_succ_eq_map]
    simp [Function.comp_def, Nat.add_assoc, Nat.add_comm 1]
theorem vendor_len : ((sha3 (fitTo 2592 [])).map (fun b => b.toNat)).length = 64 := by simp [sha3, fitTo]
theorem otp_above (a n : Nat) (h : 0x80 ≤ a) : (Cells.getList 0 vendorOtp a n).map (fun v => BitVec.ofNat 8 v) = List.replicate n 0 := by
  rw [getList_range, List.map_map]
  refine List.eq_replicate_iff.mpr ⟨by simp, fun b hb => ?_⟩
  obtain ⟨i, -, rfl⟩ := List.mem_map.mp hb
  simp only [Function.comp, vendorOtp]
  rw [Cells.get_setList_out _ _ _ _ _ _ (Or.inr (by rw [vendor_len]; omega))]; rfl
theorem vendor_digest : (Cells.getList 0 vendorOtp 0x40 64).map (fun v => BitVec.ofNat 8 v) = sha3 (fitTo 2592 []) := by
  rw [getList_range, List.map_map]
  refine List.ext_getElem (by simp [sha3, fitTo]) (fun i h1 h2 => ?_)
  simp only [List.length_map, List.length_range] at h1
  simp only [List.getElem_map, List.getElem_range, Function.comp, vendorOtp]
  rw [Cells.get_setList_in 0 _ _ _ _ (by rw [vendor_len]; exact h1)]
  simp
/-- READY, with the cabinet's consent, a charged hold-up store, and the vendor digest in OTP. -/
def updates (l : List (Fld × Nat)) (b : BootSt) : State := { up ((PWR_STAT.HOLDUP_OK, 1) :: l) with dict := { cabNode := some 3, cabVal := 1, partners := [(3, { here := true, kind := 1 })] }, boot := b }

def u0 : StartUp := ⟨0, true, true, true, 0xFFFF⟩

def recA (st0 st1 : Nat) : Cells (Option BankRec) := [(0, some ⟨1, 0, st0, st1⟩)]

theorem test_hyp_UpdateSessions_header : (updates [] { otp := vendorOtp }).vendorOk (fitTo 16384 (hdr1 1 16)) = true ∧
    (updates [] { otp := vendorOtp }).ownerOk (fitTo 16384 (hdr1 1 16)) = true ∧
    (updates [] { otp := vendorOtp }).svnFloor ≤ hdrNum (fitTo 16384 (hdr1 1 16)) 6 1 := by
  have hd : fitTo 2592 ((fitTo 16384 (hdr1 1 16)).drop 0x40) = fitTo 2592 [] := by
    refine List.map_congr_left (fun i hi => ?_)
    have hi : i < 2592 := List.mem_range.mp hi
    simp only [fitTo, List.getD_eq_getElem?_getD, List.getElem?_drop, List.getElem?_map, List.getElem?_nil]
    rw [List.getElem?_range (by omega)]
    simp only [Option.map_some, Option.getD_some]
    rw [List.getElem?_eq_none (by simp [hdr1]; omega)]
  have ho : (updates [] { otp := vendorOtp }).ownerGen = 0 := by
    simp only [State.ownerGen, State.ownerDigest, State.otpBytes, updates]
    rw [List.filter_eq_nil_iff.mpr (fun i _ => by rw [otp_above _ _ (by omega)]; decide)]; rfl
  refine ⟨?_, by simp [State.ownerOk, ho], ?_⟩
  · simp only [State.vendorOk, hd, State.vendorDigest, State.otpBytes, updates, vendor_digest, decide_true]
  · simp only [State.svnFloor, State.otpBytes, updates, otp_above _ _ (show 0x80 ≤ 0x180 by omega)]
    exact Nat.zero_le _
theorem test_hyp_UpdateSessions :
    (State.reset.updServed = false ∧ (updates [] {}).updServed = true ∧ (updates [(PWR_STAT.HOLDUP_OK, 0)] {}).updGate = some 2 ∧ (updates [] {}).updGate = none) ∧
    ((updates [] {}).updBusy 0 = false ∧ (updates [] {}).updTrial = false ∧ (updates [] {}).boot.session = none ∧ (updates [] {}).updOrder 1 = true) ∧
    (headerOk (fitTo 16384 (hdr1 1 16)) 1 = true ∧ (updates [] {}).compatible (fitTo 16384 (hdr1 1 16)) ((updates [] {}).area (updates [] {}).stagingBank 1).header 1 = true) ∧
    ((updates [(GLB_UPD.SESSION, 1)] {}).rd GLB_UPD.SESSION = 1 ∧ (updates [] {}).rd GLB_UPD.SESSION ≠ 1) ∧
    ((updates [(GLB_UPD.SESSION, 2)] { session := some ⟨0, 1⟩ }).updMine 0 = .inr ⟨0, 1⟩) ∧
    ((((updates [] { area := [(9, { header := hdr1 1 16 })] }).area 1 1).complete = false ∧ (updates [] {}).stagingBank = 1) ∧ (({} : FwArea).complete = true)) ∧
    ((updates [] { session := some ⟨0, 1⟩ }).boot.session = some ⟨0, 1⟩ ∧ (updates [(GLB_UPD.SESSION, 4)] {}).rd GLB_UPD.SESSION = 4 ∧ (updates [] {}).run ≠ 5) ∧
    ((updates [] {}).run = 3 ∧ (1 : Fin 16).val = (updates [] {}).updNext ∧ (updates [] { area := [(1, { header := hdr1 1 16 })] }).compatible ((updates [] { area := [(1, { header := hdr1 1 16 })] }).area (updates [] { area := [(1, { header := hdr1 1 16 })] }).target 1).header ((updates [] { area := [(1, { header := hdr1 1 16 })] }).area 0 1).header 1 = true) ∧
    ((updates [(GLB_LIFE.TRIAL, 1)] {}).inTrial = true ∧ (updates [] {}).inTrial = false ∧ (updates [] {}).fram.confirmHours ≠ 0 ∧ (updates [] { fram := [(0, { confirmHours := 0 })] }).fram.confirmHours = 0) ∧
    ((updates [] { recs := recA 4 2 }).bankState (updates [] { recs := recA 4 2 }).stagingBank = 2 ∧ (updates [] { recs := recA 4 2 }).updGate = none ∧ (updates [] {}).allFree = true ∧ (updates [(GLB_PART_STAT.STATE 7, 3)] {}).allFree = false) :=
  ⟨by decide, by decide, by decide, by decide, rfl, by decide, by decide, by decide, by decide, by decide⟩

def blk : List Byte := leBytes 4 0 ++ [0x11, 0x00, 0x1C, 0xC7] ++ List.replicate 4096 0

theorem test_hyp_UpdateSessions_block : leVal (blk.take 4) % 4096 = 0 ∧ (blk.drop 8).length = 4096 ∧ crc32 (blk.drop 8) = leVal ((blk.drop 4).take 4) ∧
    leVal (blk.take 4) + 4096 ≤ hdrNum (hdr1 1 16) 0x10 4 ∧ (blockPages 0 (blk.drop 8)).all (fun p => !({ header := hdr1 1 16 } : FwArea).has p.1) = true := by
  decide +kernel
/-- Whatever Config's verification answers, one of the two clauses about signatures has its hypotheses met. -/
theorem test_hyp_UpdateSessions_signed (s : State) (a : FwArea) : s.signaturesOk a = true ∨ s.signaturesOk a = false := by
  cases s.signaturesOk a <;> simp
/-! The one hypothesis on a state that holds free values: raising the compute rails leaves KEY_ERR_STAT.KAT_FAIL. -/
theorem kat_wr (s : State) (f : Fld) (v : Nat) (h : f.key ≠ KEY_ERR_STAT.KAT_FAIL.key) : (s.wr f v).rd KEY_ERR_STAT.KAT_FAIL = s.rd KEY_ERR_STAT.KAT_FAIL :=
  Cells.get_set_ne _ _ _ _ (Ne.symm h)
theorem kat_fold {α : Type} (g : State → α → State) (l : List α) (hg : ∀ s, ∀ x ∈ l, (g s x).rd KEY_ERR_STAT.KAT_FAIL = s.rd KEY_ERR_STAT.KAT_FAIL) (s : State) :
    (l.foldl g s).rd KEY_ERR_STAT.KAT_FAIL = s.rd KEY_ERR_STAT.KAT_FAIL := by
  induction l generalizing s with
  | nil => rfl
  | cons x t ih =>
    rw [List.foldl_cons, ih (fun s y hy => hg s y (List.mem_cons_of_mem _ hy)), hg s x (List.mem_cons_self ..)]
theorem kat_level (s : State) (n : Nat) (h : n < 16) : (s.levelLathe n).rd KEY_ERR_STAT.KAT_FAIL = s.rd KEY_ERR_STAT.KAT_FAIL := by
  have k1 : (LTH_CLK_STAT.CEIL_CODE n).key ≠ KEY_ERR_STAT.KAT_FAIL.key := by simp only [Fld.key, LTH_CLK_STAT.CEIL_CODE, KEY_ERR_STAT.KAT_FAIL, lthB, keyB]; omega
  have k2 : (LTH_CLK_STAT.CUR_CODE n).key ≠ KEY_ERR_STAT.KAT_FAIL.key := by simp only [Fld.key, LTH_CLK_STAT.CUR_CODE, KEY_ERR_STAT.KAT_FAIL, lthB, keyB]; omega
  have k3 : (LTH_CLK_STAT.BELOW_FLOOR n).key ≠ KEY_ERR_STAT.KAT_FAIL.key := by simp only [Fld.key, LTH_CLK_STAT.BELOW_FLOOR, KEY_ERR_STAT.KAT_FAIL, lthB, keyB]; omega
  have k4 : (LTH_CLK_STAT.DUTY n).key ≠ KEY_ERR_STAT.KAT_FAIL.key := by simp only [Fld.key, LTH_CLK_STAT.DUTY, KEY_ERR_STAT.KAT_FAIL, lthB, keyB]; omega
  have k5 : (THM_LATHE.EFFECTIVE n).key ≠ KEY_ERR_STAT.KAT_FAIL.key := by simp only [Fld.key, THM_LATHE.EFFECTIVE, KEY_ERR_STAT.KAT_FAIL, thmB, keyB]; omega
  have k6 : THM_STAT.LEVEL_CHG.key ≠ KEY_ERR_STAT.KAT_FAIL.key := by decide
  unfold State.levelLathe State.reclock State.raiseIf
  dsimp only
  split
  · rfl
  · split
    · rw [kat_wr _ _ _ k6]; exact (kat_wr _ _ _ k3).trans ((kat_wr _ _ _ k2).trans ((kat_wr _ _ _ k1).trans ((kat_wr _ _ _ k4).trans (kat_wr _ _ _ k5))))
    · exact (kat_wr _ _ _ k3).trans ((kat_wr _ _ _ k2).trans ((kat_wr _ _ _ k1).trans ((kat_wr _ _ _ k4).trans (kat_wr _ _ _ k5))))
theorem kat_levels (s : State) : s.levels.rd KEY_ERR_STAT.KAT_FAIL = s.rd KEY_ERR_STAT.KAT_FAIL := by
  unfold State.levels State.raiseIf
  simp only
  rw [kat_fold _ _ (fun s n hn => kat_level s n (List.mem_range.mp hn))]
  split <;> split <;> simp only [kat_wr _ _ _ (show THM_MODULE.KW.key ≠ KEY_ERR_STAT.KAT_FAIL.key by decide), kat_wr _ _ _ (show THM_MODULE.LEVEL.key ≠ KEY_ERR_STAT.KAT_FAIL.key by decide), kat_wr _ _ _ (show THM_STAT.LEVEL_CHG.key ≠ KEY_ERR_STAT.KAT_FAIL.key by decide)]
theorem kat_outputs (s : State) : s.outputs.rd KEY_ERR_STAT.KAT_FAIL = s.rd KEY_ERR_STAT.KAT_FAIL := by
  unfold State.outputs State.warmCheck
  rw [← kat_levels s]
  simp only
  split
  · rfl
  · split <;> split <;> simp only [kat_wr _ _ _ (show THM_MODULE.KW.key ≠ KEY_ERR_STAT.KAT_FAIL.key by decide), kat_wr _ _ _ (show THM_MODULE.VALVE.key ≠ KEY_ERR_STAT.KAT_FAIL.key by decide)]
theorem kat_rails (s : State) (rs : List Nat) : (s.railsOn rs).rd KEY_ERR_STAT.KAT_FAIL = s.rd KEY_ERR_STAT.KAT_FAIL := by
  refine kat_fold _ _ (fun s r _ => ?_) s
  simp only
  split <;> rfl
theorem kat_computeUp (s : State) : s.computeUp.rd KEY_ERR_STAT.KAT_FAIL = s.rd KEY_ERR_STAT.KAT_FAIL := by
  unfold State.computeUp
  simp only
  rw [kat_outputs, kat_fold _ _ (fun s n hn => kat_wr _ _ _ (by
    have := List.mem_range.mp hn
    simp only [Fld.key, THM_LATHE.LEVEL, KEY_ERR_STAT.KAT_FAIL, thmB, keyB]; omega))]
  rw [kat_wr _ _ _ (by decide), kat_wr _ _ _ (by decide), kat_wr _ _ _ (by decide), kat_rails]
  split
  · rfl
  · rw [kat_wr _ _ _ (by decide), kat_rails]
theorem test_hyp_ResetsAndStartUp :
    ((st [(GLB_LIFE.RUN, 7)]).run = 7 ∧ (up []).run ≠ 7 ∧ (1 : Fin 6) ≠ 2 ∧ (0 : Word) ≠ 0x4E5A5253 ∧ ({ u0 with otpOk := false } : StartUp).otpOk = false) ∧
    ((updates [(GLB_LIFE.TRIAL, 1)] {}).inTrial = true ∧ (up []).inTrial = false ∧ (up []).boot.inputGone = false ∧ (updates [] { inputGone := true }).boot.inputGone = true) ∧
    ((let s := stE [(THM_STAT.TRIPPED, 1), (THM_CFG.AUTO_RESTART, 1), (THM_FLOW.FLOW, 100), (THM_COOL.INLET, 120)]; s.flag THM_STAT.TRIPPED && s.flagEff THM_CFG.AUTO_RESTART && !s.flag THM_STAT.NO_RESTART && s.safeAgain) = true) ∧
    ((State.reset.flag THM_STAT.TRIPPED && State.reset.flagEff THM_CFG.AUTO_RESTART && !State.reset.flag THM_STAT.NO_RESTART && State.reset.safeAgain) = false) ∧
    ((st [(GLB_LIFE.RUN, 1), (TDM_STAT.OWNER_VALID, 1)]).run = 1 ∧ (st [(GLB_LIFE.RUN, 1), (TDM_STAT.OWNER_VALID, 1)]).owned = true ∧ (st [(GLB_LIFE.RUN, 1), (TDM_STAT.OWNER_VALID, 1)]).flag PWR_STAT.GROUP_C = false) ∧
    (99 < 100 ∧ 100 ≤ (100 : Fin 512).val ∧ 120 ≤ (120 : BitVec 12).toNat ∧ (360 : BitVec 12).toNat ≤ 360 ∧ 360 < (361 : BitVec 12).toNat ∧ (119 : BitVec 12).toNat < 120) ∧
    (((((st [(GLB_LIFE.RUN, 1), (TDM_STAT.OWNER_VALID, 1)]).wr THM_MODULE.VALVE 100).coolant 120 120 100).wr THM_STAT.NO_FLOW_START 0).computeUp.flag KEY_ERR_STAT.KAT_FAIL = false ∧ u0.testOk = true) ∧
    ((st [(GLB_LIFE.RUN, 1), (PWR_STAT.GROUP_I, 1)]).flag PWR_STAT.GROUP_I = true ∧ 11 ≤ (16 : Fin 17).val ∧ 4 ≤ (4 : Fin 17).val ∧ (10 : Fin 17).val < 11 ∧ (3 : Fin 17).val < 4) :=
  ⟨by decide, by decide, by decide, by decide, by decide, by decide, ⟨by unfold State.flag; rw [kat_computeUp]; decide, by decide⟩, by decide⟩

def kw (l : List (Fld × Nat)) : State := stE ([(TDM_STAT.OWNER_VALID, 1), (THM_CFG.KW_EN, 1), (THM_MODULE.VALVE, 40), (THM_CFG.VALVE_MIN, 40)] ++ l)

def cold (t : Nat) : State := { kw [(THM_MODULE.KW, 3)] with thm := { temp := (List.range 64).map (fun i => (i, t)), valid := (List.range 64).map (fun i => (i, true)) } }

theorem test_hyp_PowerCoolantAndLevels :
    (State.reset.owned = false ∧ (kw []).owned = true ∧ 6500 < (6501 : Fin 8192).val ∧ (6199 : Fin 8192).val < 6200 ∧ 6200 ≤ (6200 : Fin 8192).val ∧ (6500 : Fin 8192).val ≤ 6500) ∧
    ((∀ n, n < 16 → bit (State.reset.rd ERR_LATHE.SUSPECT) n = false)) ∧
    ((st [(THM_MODULE.VALVE, 100)]).rd THM_MODULE.VALVE = 100 ∧ 100 ≤ (100 : Fin 512).val ∧ (99 : Fin 512).val < 100) ∧
    ((stE [(TDM_STAT.OWNER_VALID, 1), (THM_CFG.KW_EN, 0)]).flagEff THM_CFG.KW_EN = false ∧ (kw []).flagEff THM_CFG.KW_EN = true) ∧
    ((cold 0).warmBlocked = false ∧ (cold 0).coldest < 8 * ((cold 0).inEff THM_CFG.FLOOR : Int) ∧ (cold 0).rd THM_MODULE.VALVE ≤ (cold 0).inEff THM_CFG.VALVE_MIN) ∧
    ((cold 500).warmBlocked = false ∧ 8 * (((cold 500).inEff THM_CFG.FLOOR : Int) + 3) < (cold 500).coldest ∧ 0 < (cold 500).rd THM_MODULE.KW) ∧
    (failingRule ((st [(THM_CFG.THROTTLE_C, 79)]).thmRules) = some 1 ∧ failingRule State.reset.thmRules = none ∧ State.reset.moduleLevel ≠ 1 ∧ (st [(THM_MODULE.POWER, 3)]).moduleLevel ≠ 0) :=
  by
  refine ⟨?_, ?_, ?_, ?_, ?_, ?_, ?_⟩ <;> decide

theorem test_hyp_SensorsAndTrips :
    (State.reset.flag THM_INJ.PAIR = false ∧ State.reset.flag THM_INJ.BAD = false ∧ ((State.reset.sample 0 800).sample 1 1).sensorOk 0 = true ∧ ((State.reset.sample 0 800).sample 1 1).sensorOk 1 = true) ∧
    ((((State.reset.sample 0 0x7FF).sample 1 1).sensorOk 0 && ((State.reset.sample 0 0x7FF).sample 1 1).sensorOk 1) = false ∨ ((State.reset.sample 0 0x800).sample 1 1).sensorOk 0 = false) ∧
    (48 < (((State.reset.sample 0 800).sample 1 1).temp 0 - ((State.reset.sample 0 800).sample 1 1).temp 1).natAbs ∧ (((State.reset.sample 0 49).sample 1 1).temp 0 - ((State.reset.sample 0 49).sample 1 1).temp 1).natAbs ≤ 48) ∧
    ((State.reset.samples []).owned = false ∧ ((kw []).samples [(0, 5)]).owned = true ∧ sgn 12 (840 : BitVec 12).toNat ≤ 840 ∧ 840 < sgn 12 (841 : BitVec 12).toNat ∧ State.reset.flag THM_STAT.TRIPPED = false ∧ (st [(THM_STAT.TRIPPED, 1)]).flag THM_STAT.TRIPPED = true) ∧
    (2 ≤ ([0, 0].filter (fun t => (Cells.get 0 State.reset.aon 1 + 2 ^ 48 - t) % 2 ^ 48 ≤ 86400 * 32768)).length) ∧
    (levelStep 15 8 0 = 15 ∧ (8 * (0 : Int) < 8) ∧ ((-25 : Int) < 8 * ((0 : Int) - 3)) ∧ (8 * ((0 : Int) - 3) ≤ -24)) :=
  by
  refine ⟨?_, ?_, ?_, ?_, ?_, ?_⟩ <;> decide

def tdmS (t : TandemSt) (l : List (Fld × Nat)) : State := { st l with tdm := t }

theorem test_hyp_TandemOwnership :
    (State.reset.flag TDM_INJ.BOTH = false ∧ State.reset.flag TDM_INJ.WIRE = false ∧ State.reset.flag TDM_INJ.MBX = false ∧ Cells.get false (tdmS {} []).tdm.held 0 = false ∧ (tdmS {} [(TDM_STAT.OWNER_VALID, 1)]).owned = true ∧ (tdmS {} [(TDM_STAT.OWNER, 0)]).rd TDM_STAT.OWNER = (0 : Fin 2).val) ∧
    (State.reset.owned = false ∧ (List.range 2).find? (fun u => (tdmS {} [(TDM_STAT.A_STATE, 2), (TDM_STAT.B_STATE, 1)]).rd (supState u) = 1 && !Cells.get false (tdmS {} []).tdm.held u) = some 1) ∧
    ((tdmS {} [(TDM_STAT.OWNER_VALID, 1), (TDM_STAT.OWNER, 0), (TDM_STAT.B_STATE, 1)]).rd (supState (1 - 0)) = 1 ∧ (tdmS {} [(TDM_STAT.OWNER_VALID, 1), (TDM_STAT.B_STATE, 2)]).rd (supState 1) ≠ 1) ∧
    ((tdmS {} [(TDM_STAT.OWNER_VALID, 1)]).boot.inputGone = false ∧ (tdmS { saved := [(0, some ⟨1, [], {}⟩)] } []).savedNow = some ⟨1, [], {}⟩) ∧
    ((tdmS {} [(TDM_STAT.A_STATE, 2)]).rd (supState 0) = 2 ∧ (tdmS {} [(TDM_STAT.B_STATE, 2)]).rd (supState 1) = 2 ∧ (tdmS {} [(TDM_STAT.A_STATE, 1)]).rd (supState 0) ≠ 2 ∧ 2 ≤ Cells.get 0 (tdmS { fails := [(0, 2)] } []).tdm.fails 0) ∧
    ((tdmS { image := Cells.set [] [] 0 ((State.reset.area (State.reset.rd GLB_LIFE.BANK) 2).measure) } []).tdm.image = Cells.set [] [] 0 ((State.reset.area (State.reset.rd GLB_LIFE.BANK) 2).measure) ∧ Cells.get [] (Cells.set [] [] 0 ((State.reset.area (State.reset.rd GLB_LIFE.BANK) 2).measure)) 0 = (State.reset.area (State.reset.rd GLB_LIFE.BANK) 2).measure) ∧
    ((State.reset.area (State.reset.rd GLB_LIFE.BANK) 2).measure ≠ Cells.get [] State.reset.tdm.image 0) :=
  ⟨by decide, by decide, by decide, by decide, by decide, ⟨rfl, Cells.get_set_self _ _ _ _⟩, fun h => by have := congrArg List.length (h.trans (show Cells.get [] State.reset.tdm.image 0 = [] from rfl)); simp [FwArea.measure, sha3, fitTo] at this⟩

def errS (e : ErrSt) (b : BootSt) (l : List (Fld × Nat)) : State := { stE l with err := e, boot := b }

theorem test_hyp_ErrorsTestsAndRetirement :
    (100 ≤ (100 : Fin 112).val ∧ (99 : Fin 112).val < 100 ∧ State.reset.err.log.length < 256 ∧ 256 ≤ (errS { log := List.replicate 256 ⟨0, 0, 0⟩ } {} []).err.log.length) ∧
    (failingRule (st [(ERR_CFG.WINDOW, 0)]).errRules = some 1 ∧ failingRule State.reset.errRules = none ∧ (st [(ERR_CFG.WINDOW, 1)]).rd ERR_CFG.WINDOW ≠ (st [(ERR_CFG.WINDOW, 1)]).inEff ERR_CFG.WINDOW) ∧
    (State.reset.err.log = [] ∧ (errS { log := [⟨7, 0, 0⟩] } {} []).err.log = [⟨7, 0, 0⟩] ∧ bit State.reset.boot.katRun 15 = false ∧ bit (errS {} { katRun := 0x8000 } []).boot.katRun 15 = true ∧ (7 : Fin 8) ≠ 0 ∧ State.reset.flag (LTH_INJ.KAT_FLIP 15) = false) ∧
    (bit (State.reset.rd ERR_LATHE.SUSPECT) 15 = false ∧ bit ((st [(ERR_LATHE.SUSPECT, 0x8000)]).rd ERR_LATHE.SUSPECT) 15 = true ∧ (st [(ERR_LATHE.SUSPECT, 0x8000)]).granuleOf 15 = none ∧ State.reset.rd ERR_LATHE.SUSPECT = 0) ∧
    ((stE [(GLB_PART_STAT.STATE 2, 3), (GLB_PART_STAT.GRANULES 2, 0x8000), (ERR_CFG2.RETIRE_POLICY, 0)]).granuleOf 15 = some 2 ∧ (stE [(ERR_CFG2.RETIRE_POLICY, 0)]).inEff ERR_CFG2.RETIRE_POLICY = 0 ∧ (st [(GLB_PART_STAT.STATE 2, 4)]).tearing 2 = true ∧ State.reset.tearing 2 = false) ∧
    (State.reset.flag (LTH_ID.RETIRED 15) = false ∧ (st [(LTH_ID.RETIRED 15, 1)]).flag (LTH_ID.RETIRED 15) = true ∧ (errS {} { otp := [(0x20F, 0x7F)] } []).otpLathe 15 = 7 ∧ (errS {} { otp := [(0x20F, 1)] } []).otpLathe 15 ≠ 7) ∧
    ((errS {} { inputGone := true } []).boot.inputGone = true ∧ State.reset.boot.inputGone = false ∧ State.reset.boot.phase7 = false ∧ (errS {} { phase7 := true } []).boot.phase7 = true ∧ (up []).rd GLB_LIFE.RUN ≠ 7) :=
  by
  refine ⟨?_, ?_, ?_, ?_, ?_, ?_, ?_⟩ <;> decide

end Sys2Proof.Tests
end

section
/-! PROOFS. Register fields and register accesses (00_scope.md): what a write by access type leaves in a field, and what each access command does
at the place it names. -/

namespace Sys2Proof.Machine
open Reg

/-! A written field, one equation per kind of access type (R15, Table 0.5). -/

section FieldWrite

variable (s : State) {f : Fld} (v : Nat)

theorem State.fieldWrite_of_unwritable (h : f.acc = .ro ∨ f.acc = .wo ∨ f.acc = .rc) : s.fieldWrite f v = s := by
  obtain h | h | h := h <;> simp only [State.fieldWrite, h]

theorem State.fieldWrite_of_stored (h : f.acc = .rw ∨ f.acc = .sh) : s.fieldWrite f v = s.wr f v := by
  obtain h | h := h <;> simp only [State.fieldWrite, h]

theorem State.fieldWrite_of_w1c (h : f.acc = .w1c) : s.fieldWrite f v = s.wr f (s.rd f &&& (v ^^^ (2 ^ f.width - 1))) := by
  simp only [State.fieldWrite, h]

theorem State.fieldWrite_of_w1s (h : f.acc = .w1s) : s.fieldWrite f v = s.wr f (s.rd f ||| v) := by
  simp only [State.fieldWrite, h]

/-- Whatever the access type, a field write either does nothing or stores some value in that field. -/
theorem State.fieldWrite_cases (f : Fld) : s.fieldWrite f v = s ∨ ∃ x, s.fieldWrite f v = s.wr f x := by
  cases h : f.acc with
  | ro => exact .inl (s.fieldWrite_of_unwritable v (.inl h))
  | wo => exact .inl (s.fieldWrite_of_unwritable v (.inr (.inl h)))
  | rc => exact .inl (s.fieldWrite_of_unwritable v (.inr (.inr h)))
  | rw => exact .inr ⟨_, s.fieldWrite_of_stored v (.inl h)⟩
  | sh => exact .inr ⟨_, s.fieldWrite_of_stored v (.inr h)⟩
  | w1c => exact .inr ⟨_, s.fieldWrite_of_w1c v h⟩
  | w1s => exact .inr ⟨_, s.fieldWrite_of_w1s v h⟩

theorem State.rd_fieldWrite_ne {g : Fld} (h : g.key ≠ f.key) : (s.fieldWrite f v).rd g = s.rd g := by
  obtain e | ⟨x, e⟩ := s.fieldWrite_cases v f
  · rw [e]
  · rw [e, State.rd_wr_ne s x h]

theorem State.testBit_rd_wr_self (f : Fld) {i : Nat} (h : i < f.width) : ((s.wr f v).rd f).testBit i = v.testBit i := by
  rw [State.rd_wr_self, Nat.testBit_mod_two_pow, decide_eq_true h, Bool.true_and]

theorem State.testBit_rd_fieldWrite_w1c (hacc : f.acc = .w1c) {i : Nat} (hi : i < f.width) :
    ((s.fieldWrite f v).rd f).testBit i = ((s.rd f).testBit i && !v.testBit i) := by
  rw [State.fieldWrite_of_w1c s v hacc, State.testBit_rd_wr_self _ _ _ hi, Nat.testBit_and, Nat.testBit_xor, Nat.testBit_two_pow_sub_one,
    decide_eq_true hi, Bool.xor_true]

theorem State.testBit_rd_fieldWrite_w1s (hacc : f.acc = .w1s) {i : Nat} (hi : i < f.width) :
    ((s.fieldWrite f v).rd f).testBit i = ((s.rd f).testBit i || v.testBit i) := by
  rw [State.fieldWrite_of_w1s s v hacc, State.testBit_rd_wr_self _ _ _ hi, Nat.testBit_or]

end FieldWrite

/-- Settles O9: the cell of a field is set to the value cut to its width, and cells of other keys are untouched. -/
theorem fieldStorage : Obligations.FieldStorage :=
  ⟨State.rd_wr_self, fun s _ _ v h => State.rd_wr_ne s v h, State.wr_eta⟩

/-- Settles O10: one clause per equation of `State.fieldWrite`. -/
theorem fieldWriteByAccessType : Obligations.FieldWriteByAccessType := by
  intro s f v
  refine ⟨State.fieldWrite_of_unwritable s v, fun h => ?_, fun h _ => State.testBit_rd_fieldWrite_w1c s v h,
    fun h _ => State.testBit_rd_fieldWrite_w1s s v h, fun _ => State.rd_fieldWrite_ne s v⟩
  rw [State.fieldWrite_of_stored s v h, State.rd_wr_self]

/-! The access commands, one equation per case of what they meet (R18, R36, R105, R342). -/

section Access

variable {s : State} {pl : RegPlace}

theorem exec_registerWrite (pl : RegPlace) (v : Word) (be : BitVec 4) (s : State) :
    exec (.registerWrite pl v be) s = .next (s.placeWrite pl v.toNat be) := rfl

theorem State.placeWrite_of_urNow (v : Nat) (be : BitVec 4) (h : s.urNow pl = true) : s.placeWrite pl v be = s.urTaken false := by
  rw [State.placeWrite, if_pos h]

theorem State.placeWrite_of_partial (v : Nat) {be : BitVec 4} (hbe : be ≠ 15) (h : s.urNow pl = false) :
    s.placeWrite pl v be = if barAccess pl then s.logUr else s := by
  rw [State.placeWrite, if_neg (Bool.eq_false_iff.mp h), if_pos hbe]

theorem exec_unmappedAccess_of_none (read : Bool) (hd : s.dest pl = .none) (hbar : barAccess pl = true) (h : s.urNow pl = false) :
    exec (.unmappedAccess pl read) s = .next (s.refuseUr read) := by
  change execUnmappedAccess pl read s = _
  simp [execUnmappedAccess, hd, hbar, h]

theorem exec_rcFieldRead_of_reg {a : Nat} (h : s.urNow pl = false) (hd : s.dest pl = .reg a false) (hown : ownRead a = false) :
    exec (.rcFieldRead pl) s = .next ((s.answerRead pl (s.readWord a)).rcClear a) := by
  change execRcFieldRead pl s = _
  simp [execRcFieldRead, h, hd, hown]

theorem exec_rcFieldRead_of_view {a : Nat} (h : s.urNow pl = false) (hd : s.dest pl = .reg a true) :
    exec (.rcFieldRead pl) s = .next (s.answerRead pl (s.readWord a)) := by
  change execRcFieldRead pl s = _
  simp [execRcFieldRead, h, hd]

/-- A LO register that the endpoint does not refuse returns the low half of its count; the high half is latched first. -/
theorem exec_latchingLoRead {c : Count64} {v : Nat} {lo hi : Fld} (hc : s.count64 c = (v, lo, hi))
    (h : s.urNow (.bar0 (BitVec.ofNat 28 lo.addr)) = false) :
    exec (.latchingLoRead c) s = .next ((s.wr hi (v / 2 ^ 32)).send (.readData (leBytes 4 v))) := by
  change execLatchingLoRead c s = _
  simp [execLatchingLoRead, hc, h]

theorem exec_injectionArm_of_injPlace (v : Word) (h : s.injPlace pl = true) :
    exec (.injectionArm pl v) s = exec (.registerWrite pl v 15) s := by
  change execInjectionArm pl v s = _
  rw [execInjectionArm, if_pos h, exec_registerWrite]

end Access

/-- Settles O11: a whole word is written by the destination of its place, and every other clause is an equation of its command. -/
theorem registerAccess : Obligations.RegisterAccess := by
  refine ⟨fun pl v s h => ?whole, fun pl v be s hbe h => ?partialWrite, fun pl v be s h => ?refused, fun pl read s hd hbar h => ?unmapped,
    fun pl a s h hd hown => ?read, fun pl a s h hd => ?view, fun n s h => ?cyc, fun n s h => ?atsBytes, fun s h => ?now, fun p s h => ?step,
    fun pl v s hinj _ => ?arm⟩
  case whole =>
    rw [exec_registerWrite]
    cases hd : s.dest pl <;> simp [State.placeWrite, h, hd]
  case partialWrite => rw [exec_registerWrite, State.placeWrite_of_partial _ hbe h]
  case refused => rw [exec_registerWrite, State.placeWrite_of_urNow _ _ h, State.urTaken]
  case unmapped => exact exec_unmappedAccess_of_none read hd hbar h
  case read => exact exec_rcFieldRead_of_reg h hd hown
  case view => exact exec_rcFieldRead_of_view h hd
  case cyc | atsBytes | now | step => exact exec_latchingLoRead rfl h
  case arm => exact exec_injectionArm_of_injPlace v hinj

end Sys2Proof.Machine
end

section
/-! PROOFS. The lathe sequencer on its way through a plan (03_lathes.md): decoding a descriptor, issuing a repetition, completing one. -/

namespace Sys2Proof.Machine
open Reg

/-! Decoding the current descriptor (R86, R98). -/

theorem State.lthBoundary_of_not_pending {s : State} {n : Nat} (h : s.rd (LTH_CFG_STAT.PENDING n) ≠ 1) : s.lthBoundary n = s := by
  rw [State.lthBoundary, if_neg h]

/-- What the decode of descriptor i leaves once the boundary's commit has applied: the checks of R86, DESC_BAD before
ADDR_FAULT (log 202), then RUN or WAIT. -/
def State.decoded (s : State) (n i : Nat) : State :=
  let r := s.lsramRead n ((s.lth n).base + 128 * i) 128
  let d : Desc := wordsOfBytes 32 r.2.2
  if r.2.1 = false then r.1.endDesc n i 0x20 0
  else if r.1.descOk n d = false then r.1.endDesc n i 0x10 0
  else if r.1.addrOk n d = false then r.1.endDesc n i 0x11 0
  else (r.1.setLth n { r.1.lth n with desc := some d, issued := 0, kicked := 0, latched := none, fail := 0 }).wr (LTH_SEQ_STAT.STATE n)
    (if r.1.waitsMet n d 0 then 4 else 3)

theorem exec_descriptorDecode_of_tdmaHit {n : Lathe} {s : State} (hseq : s.seq n = 2) (hhit : (s.lth n).tdmaHit = true) :
    exec (.descriptorDecode n) s = .next (s.endDesc n (s.descIdx n) 0x22 0) := by
  change execDescriptorDecode n s = _
  simp [execDescriptorDecode, hseq, hhit]

theorem exec_descriptorDecode_of_fetch {n : Lathe} {s : State} (hseq : s.seq n = 2) (hhit : (s.lth n).tdmaHit = false) :
    exec (.descriptorDecode n) s = .next ((s.lthBoundary n).decoded n (s.descIdx n)) := by
  change execDescriptorDecode n s = _
  simp only [execDescriptorDecode, State.decoded, hseq, hhit, ne_eq, not_true_eq_false, Bool.false_eq_true, if_false, Bool.not_eq_true',
    apply_ite Host.Outcome.next]

/-! Issuing the next repetition (R78, R94). -/

/-- Nothing but its waits, its channels or its latch holds the next repetition of descriptor d: the sequencer is in RUN or WAIT, no STOP
takes effect, a repetition is left, and nothing in flight, no latch and no group stop has failed it. -/
structure State.IssueOpen (s : State) (n : Nat) (d : Desc) : Prop where
  desc : (s.lth n).desc = some d
  seq : s.seq n = 3 ∨ (s.seq n = 4 ∧ s.flag (LTH_SEQ_CTRL.STOP n) = false)
  left : (s.lth n).issued < Desc.reps d
  noHit : (s.lth n).tdmaHit = false
  noFail : (s.lth n).fail = 0
  noErr : (s.lth n).flights.any (fun f => f.err ≠ 0) = false

section Issue

variable {n : Lathe} {d : Desc} {s : State}

/-- An open repetition passes the guard of REPETITION_ISSUE, in WAIT and in RUN alike. -/
theorem State.IssueOpen.guard (h : s.IssueOpen n d) :
    ¬(!(s.seq n = 3 ∨ s.seq n = 4) ∨ Desc.reps d ≤ (s.lth n).issued ∨ (s.lth n).tdmaHit ∨ (s.lth n).fail ≠ 0 ∨
      (s.lth n).flights.any (fun f => f.err ≠ 0) ∨ (s.seq n = 4 ∧ s.flag (LTH_SEQ_CTRL.STOP n))) := by
  obtain ⟨-, hseq, hleft, hhit, hfail, herr⟩ := h
  rw [herr, hhit, hfail]
  obtain hwait | ⟨hrun, hstop⟩ := hseq
  · simp [hwait, hleft]
  · simp [hrun, hstop, hleft]

theorem exec_repetitionIssue_of_unmet (h : s.IssueOpen n d) (hw : s.waitsMet n d (s.lth n).issued = false) :
    exec (.repetitionIssue n) s = .next (s.wr (LTH_SEQ_STAT.STATE n) 3) := by
  change execRepetitionIssue n s = _
  simp only [execRepetitionIssue, h.desc]
  rw [if_neg h.guard, hw]
  rfl

/-- A repetition that is no DMA_KICK, and whose latch stands when it is one of attention, issues once its waits are met. -/
theorem exec_repetitionIssue_of_met (h : s.IssueOpen n d) (hw : s.waitsMet n d (s.lth n).issued = true) (hkick : Desc.opcode d ≠ 17)
    (hlatch : Desc.isAttn d = true → (s.lth n).latched.isNone = false) :
    exec (.repetitionIssue n) s = .next (s.issueRep n d (s.lth n).issued) := by
  have hl : (Desc.isAttn d && (s.lth n).latched.isNone) = false := by
    cases ha : Desc.isAttn d with
    | false => rfl
    | true => exact hlatch ha
  change execRepetitionIssue n s = _
  simp only [execRepetitionIssue, h.desc]
  rw [if_neg h.guard, hw, if_neg hkick, hl]
  rfl

theorem Desc.opcode_ne_kick_of_isAttn (h : Desc.isAttn d = true) : Desc.opcode d ≠ 17 := by
  intro hk
  simp [Desc.isAttn, hk] at h

end Issue

/-! Completing a repetition (R94). -/

/-- Repetition f leaves the repetitions in flight. -/
def State.landed (s : State) (n : Nat) (f : Flight) : State := s.setLth n { s.lth n with flights := (s.lth n).flights.erase f }

/-- After the completion of a repetition the plan is complete, or a STOP that stands may take effect. -/
def State.afterRep (s : State) (n : Nat) : State := if s.planEnded n then s.planDone n else s.stopInRun n

theorem exec_repetitionComplete_of_signalled {n : Lathe} {pipe : Fin 4} {f : Flight} {s : State}
    (hf : (s.lth n).flights.find? (fun g => g.pipe = pipe.val) = some f) (herr : f.err = 0) (hsig : (s.signals n f).2 = true)
    (hpin : f.pin = none) :
    exec (.repetitionComplete n pipe) s = .next (State.afterRep
      (if f.last then ((s.signals n f).1.landed n f).putStatus n f.idx 1 (f.rep + 1) else (s.signals n f).1.landed n f) n) := by
  change execRepetitionComplete n pipe s = _
  simp only [execRepetitionComplete, hf, herr, hsig, hpin]
  rfl

/-- Settles O16: each clause is an equation of its command, and an attention repetition that has its latch issues as any other. -/
theorem descriptorFetchIssueComplete : Obligations.DescriptorFetchIssueComplete := by
  refine ⟨fun n s hseq hhit hpend => ?decode, fun n s hseq hhit => ?groupStop, fun n d s hd hseq hleft hhit hfail hfl hkick hattn => ?issue,
    fun n d g p recs s hd hseq hstop hleft hhit hfail hfl hw hattn hlatch => ?attention, fun n pipe f s hf herr hsig hpin hlast => ?complete,
    fun n pipe f s hf herr hsig hpin hlast => ?completeLast⟩
  case decode =>
    rw [exec_descriptorDecode_of_fetch hseq hhit, State.lthBoundary_of_not_pending hpend, State.decoded]
  case groupStop => exact exec_descriptorDecode_of_tdmaHit hseq hhit
  case issue =>
    have hopen : s.IssueOpen n d := ⟨hd, hseq, hleft, hhit, hfail, by rw [hfl]; rfl⟩
    exact ⟨fun hw => exec_repetitionIssue_of_met hopen hw hkick (by simp [hattn]), exec_repetitionIssue_of_unmet hopen⟩
  case attention =>
    have hopen : s.IssueOpen n d := ⟨hd, .inr ⟨hseq, hstop⟩, hleft, hhit, hfail, by rw [hfl]; rfl⟩
    exact exec_repetitionIssue_of_met hopen hw (Desc.opcode_ne_kick_of_isAttn hattn) (by simp [hlatch])
  case complete =>
    intro s1 s2
    rw [exec_repetitionComplete_of_signalled hf herr hsig hpin, hlast, if_neg Bool.false_ne_true, State.afterRep]
    rfl
  case completeLast =>
    intro s1 s2
    rw [exec_repetitionComplete_of_signalled hf herr hsig hpin, hlast, if_pos rfl, State.afterRep]
    rfl

end Sys2Proof.Machine
end

section
/-! PROOFS. The PF0 path into the page-frame table unit (05_attention_kv.md): queueing a command, reading a response. -/

namespace Sys2Proof.Machine
open Reg

/-! What PFT_CMD_STAT shows of the PF0 queue (Table 5.20). -/

section ShowPftQueue

variable (s : State)

@[simp] theorem State.showPftQueue_pft : s.showPftQueue.pft = s.pft := rfl

/-- DEPTH keeps 5 bits, enough for the 16 commands of a full queue. -/
theorem State.rd_depth_showPftQueue (h : s.pft.pfQueue.length < 32) :
    s.showPftQueue.rd PFT_CMD_STAT.DEPTH = s.pft.pfQueue.length := by
  rw [State.showPftQueue, State.rd_wr_ne _ _ (by decide), State.rd_wr_self]
  exact Nat.mod_eq_of_lt h

theorem State.flag_full_showPftQueue : s.showPftQueue.flag PFT_CMD_STAT.FULL = decide (16 ≤ s.pft.pfQueue.length) := by
  rw [State.showPftQueue, State.flag, State.rd_wr_self]
  by_cases hfull : 16 ≤ s.pft.pfQueue.length <;> simp [hfull, b2n, PFT_CMD_STAT.FULL]

theorem State.rd_showPftQueue_ne {f : Fld} (hdepth : f.key ≠ PFT_CMD_STAT.DEPTH.key) (hfull : f.key ≠ PFT_CMD_STAT.FULL.key) :
    s.showPftQueue.rd f = s.rd f := by
  rw [State.showPftQueue, State.rd_wr_ne _ _ hfull, State.rd_wr_ne _ _ hdepth]

end ShowPftQueue

/-! A write of PFT_CMD3, one equation for a full queue and one for a queue with room (R150). -/

/-- The command of PFT_CMD0 to 3 stands behind those that wait. -/
def State.pftQueued (s : State) (w3 : Word) : State :=
  { s with pft := { s.pft with pfQueue :=
    s.pft.pfQueue ++ [[s.rd (PFT_CMD.WORD 0), s.rd (PFT_CMD.WORD 1), s.rd (PFT_CMD.WORD 2), w3.toNat]] } }

theorem State.length_pfQueue_pftQueued (s : State) (w3 : Word) : (s.pftQueued w3).pft.pfQueue.length = s.pft.pfQueue.length + 1 :=
  List.length_append

theorem exec_pftCmdQueue_of_full (w3 : Word) {s : State} (h : 16 ≤ s.pft.pfQueue.length) :
    exec (.pftCmdQueue w3) s = .next (s.wr PFT_CMD_STAT.OVERRUN 1) := by
  change execPftCmdQueue w3 s = _
  rw [execPftCmdQueue, if_pos h, State.raise]

theorem exec_pftCmdQueue_of_room (w3 : Word) {s : State} (h : s.pft.pfQueue.length < 16) :
    exec (.pftCmdQueue w3) s = .next (s.pftQueued w3).showPftQueue := by
  change execPftCmdQueue w3 s = _
  rw [execPftCmdQueue, if_neg (Nat.not_le_of_lt h), State.pftQueued]

/-! A read of PFT_RESP (R151). -/

/-- The oldest response is removed. -/
def State.pftRespTaken (s : State) : State := { s with pft := { s.pft with resp := s.pft.resp.drop 1 } }

theorem exec_pftRespRead (s : State) :
    exec .pftRespRead s = .next (s.pftRespTaken.send (.readData (leBytes 4 (s.pft.resp.headD 0)))) := rfl

/-- Settles O18: a full queue discards the command, one with room takes it and shows its new length, and a read of PFT_RESP sends the
head of the responses. -/
theorem pageTableQueues : Obligations.PageTableQueues := by
  refine ⟨fun w3 s h => exec_pftCmdQueue_of_full w3 h, fun w3 s h => ?queued, fun s => ?response⟩
  case queued =>
    have hlen := s.length_pfQueue_pftQueued w3
    refine ⟨_, exec_pftCmdQueue_of_room w3 h, State.showPftQueue_pft _, ?depth, ?full, rfl, fun f hdepth hfull => ?others⟩
    case depth => rw [State.rd_depth_showPftQueue _ (by omega), hlen]
    case full =>
      rw [State.flag_full_showPftQueue, hlen]
      exact decide_eq_decide.mpr (by omega)
    case others => exact State.rd_showPftQueue_ne _ hdepth hfull
  case response =>
    exact ⟨_, exec_pftRespRead s, State.send_pft _ _, State.mem_send _ _, State.send_mem _ _, State.send_keys _ _,
      fun f hecrc => State.rd_send_ne _ _ hecrc⟩

end Sys2Proof.Machine
end

section
/-! PROOFS. A step of a partition from Select to Build (06_peloton.md). -/

namespace Sys2Proof.Machine
open Reg

/-! What a change of one partition's loop, and the counts shown after it, leave of the Peloton's state. -/

section LoopFrame

variable (s : State) (p : Nat) (x : PltPart)

@[simp] theorem State.setLoop_slots : (s.setLoop p x).plt.slots = s.plt.slots := rfl
@[simp] theorem State.setLoop_bkt : (s.setLoop p x).plt.bkt = s.plt.bkt := rfl
@[simp] theorem State.setLoop_stepOf (q : Nat) : (s.setLoop p x).stepOf q = s.stepOf q := rfl

@[simp] theorem State.showPlt_plt : (s.showPlt p).plt = s.plt := rfl
@[simp] theorem State.showPlt_pft : (s.showPlt p).pft = s.pft := rfl
@[simp] theorem State.showPlt_mem : (s.showPlt p).mem = s.mem := rfl
@[simp] theorem State.showPlt_out : (s.showPlt p).out = s.out := rfl
@[simp] theorem State.showPlt_smp : (s.showPlt p).smp = s.smp := rfl
@[simp] theorem State.showPlt_lathe : (s.showPlt p).lathe = s.lathe := rfl
@[simp] theorem State.showPlt_loop (q : Nat) : (s.showPlt p).loop q = s.loop q := rfl

end LoopFrame

/-! Select (R183). -/

/-- A step of partition p may be selected: none runs, the partition is RUNNING, and neither a record nor a checkpoint holds it. -/
structure State.Selects (s : State) (p : Nat) : Prop where
  idle : (s.loop p).phase = .none
  running : s.rd (PLT_PSTAT.STATE p) = 2
  free : s.loopHeld p = false
  unquiesced : s.quiesced p = false

/-- The step number of partition p is one higher. -/
def State.countStep (s : State) (p : Nat) : State := { s with plt := { s.plt with step := Cells.set 0 s.plt.step p (s.stepOf p + 1) } }

@[simp] theorem State.stepOf_countStep (s : State) (p : Nat) : (s.countStep p).stepOf p = s.stepOf p + 1 := by
  simp only [State.countStep, State.stepOf, Cells.get_set_self]

/-- The loop of partition p at the start of a step: in Prepare, with the work selected. -/
def State.startLoop (s : State) (p : Nat) : PltPart :=
  { s.loop p with
    phase := .prepare, reqs := s.selection p, waited := false, abort := none,
    guarGen := (List.range 4).map (fun k => ((s.live p false).filter (fun x => x.2.state = 2 && x.2.cls = k)).length) }

/-- The step of partition p starts. -/
def State.startStep (s : State) (p : Nat) : State := (s.countStep p).setLoop p (s.startLoop p)

section StartStep

variable (s : State) (p : Nat)

@[simp] theorem State.loop_startStep : (s.startStep p).loop p = s.startLoop p := State.loop_setLoop_self ..

@[simp] theorem State.stepOf_startStep : (s.startStep p).stepOf p = s.stepOf p + 1 := by
  rw [State.startStep, State.setLoop_stepOf, State.stepOf_countStep]

theorem State.startStep_eta : s.startStep p = { s with plt := (s.startStep p).plt } := rfl
@[simp] theorem State.startStep_slots : (s.startStep p).plt.slots = s.plt.slots := rfl
@[simp] theorem State.startStep_bkt : (s.startStep p).plt.bkt = s.plt.bkt := rfl

end StartStep

section Select

variable {p : Part} {s : State}

theorem exec_stepSelect_of_barred
    (h : (s.loop p).phase ≠ .none ∨ s.rd (PLT_PSTAT.STATE p) ≠ 2 ∨ s.loopHeld p = true ∨ s.quiesced p = true) :
    exec (.stepSelect p) s = .next s := by
  change execStepSelect p s = _
  rw [execStepSelect, if_pos h]

/-- A Select reads the slot records, then the cost table; it starts a step when the table is readable and work is selected. -/
theorem exec_stepSelect_of_selects (h : s.Selects p) : exec (.stepSelect p) s = .next (
    let r := (s.useSlots p).usePltWord (9216 + p)
    if r.2 then r.1.costUe p else if (r.1.selection p).isEmpty then r.1 else r.1.startStep p) := by
  obtain ⟨hidle, hrunning, hfree, hquiesced⟩ := h
  change execStepSelect p s = _
  rw [execStepSelect, if_neg (by simp [hidle, hrunning, hfree, hquiesced])]
  rfl

end Select

/-! Prepare (R182) and Build (R184, R185). -/

/-- The Prepare group of partition p's step: the state after its commands and the parts as they came out of it. -/
def State.prepareGroup (s : State) (p : Nat) : State × List StepReq :=
  (s.loop p).reqs.foldl (fun acc q => ((acc.1.prepareReq p q).1, acc.2 ++ [(acc.1.prepareReq p q).2])) (s, [])

section PrepareBuild

variable {p : Part} {s : State}

theorem exec_stepPrepareDone_of_other (h : (s.loop p).phase ≠ .prepare) : exec (.stepPrepareDone p) s = .next s := by
  change execStepPrepareDone p s = _
  rw [execStepPrepareDone, if_pos h]

theorem exec_stepPrepareDone_of_prepare (h : (s.loop p).phase = .prepare) : exec (.stepPrepareDone p) s = .next (
    ((s.prepareGroup p).1.setLoop p { (s.prepareGroup p).1.loop p with phase := .build, reqs := (s.prepareGroup p).2 }).showPlt p) := by
  change execStepPrepareDone p s = _
  rw [execStepPrepareDone, if_neg (not_not_intro h)]
  rfl

theorem exec_stepBuild_of_other (h : (s.loop p).phase ≠ .build) : exec (.stepBuild p) s = .next s := by
  change execStepBuild p s = _
  rw [execStepBuild, if_pos h]

/-- Whatever rows and plans a Build writes, it ends with the loop in Release: each part is marked, none added or dropped. -/
theorem exec_stepBuild_of_build (h : (s.loop p).phase = .build) : ∃ (built : State) (mark : StepReq → StepReq),
    exec (.stepBuild p) s = .next (built.setLoop p { built.loop p with
      phase := .release, q := quanta (withRows 0 (rowOrder (s.loop p).reqs)), buf := 1 - (s.loop p).buf, reqs := (s.loop p).reqs.map mark }) := by
  change ∃ built mark, execStepBuild p s = _
  unfold execStepBuild
  rw [if_neg (not_not_intro h)]
  extract_lets
  with_reducible exact ⟨_, _, rfl⟩

end PrepareBuild

/-- Settles O22: each phase is an equation of its command; what follows concerns the loop that the last write leaves. -/
theorem stepSelectsAndPrepares : Obligations.StepSelectsAndPrepares := by
  refine ⟨fun p s h => exec_stepSelect_of_barred h, fun p s hidle hrun hfree hq => ?select, fun p s h => exec_stepPrepareDone_of_other h,
    fun p s h => ?prepare, fun p s h => exec_stepBuild_of_other h, fun p s h => ?build⟩
  case select =>
    intro r
    have hexec : exec (.stepSelect p) s = _ := exec_stepSelect_of_selects ⟨hidle, hrun, hfree, hq⟩
    refine ⟨fun hbad => ?bad, fun hok hnone => ?idle, fun hok hwork => ⟨r.1.startStep p, ?work, ?_⟩⟩
    case bad => rw [hexec, if_pos hbad]
    case idle =>
      rw [hexec, if_neg (ne_true_of_eq_false hok), hnone]
      rfl
    case work => rw [hexec, if_neg (ne_true_of_eq_false hok), if_neg (by simpa using hwork)]
    rw [State.loop_startStep]
    exact ⟨rfl, rfl, r.1.stepOf_startStep p, rfl, r.1.startStep_eta p, r.1.startStep_slots p, r.1.startStep_bkt p⟩
  case prepare =>
    intro r
    have hexec : exec (.stepPrepareDone p) s =
        .next ((r.1.setLoop p { r.1.loop p with phase := .build, reqs := r.2 }).showPlt p) := exec_stepPrepareDone_of_prepare h
    exact ⟨_, hexec, by simp⟩
  case build =>
    obtain ⟨built, mark, hexec⟩ := exec_stepBuild_of_build h
    refine ⟨_, hexec, ?_⟩
    rw [State.loop_setLoop_self]
    exact ⟨rfl, rfl, rfl, List.length_map _⟩

end Sys2Proof.Machine
end

section
/-! PROOFS. A step of a partition from Release to its Commit group (06_peloton.md). -/

namespace Sys2Proof.Machine
open Reg

/-! Release and the acknowledgements (R88, R97, R201). -/

/-- The staged commits of partition p take effect, the epoch opens on each of its Lathes, and the loop waits for acknowledgements. -/
def State.released (s : State) (p : Nat) : State :=
  let s1 := (((s.pltEpoch p).smpEpoch p).keyEpoch p).profEpoch p
  let s2 := s1.setLoop p { s1.loop p with unacked := [], smpAck := true }
  ((s2.lathesOf p).foldl (fun st n => st.openOn p n) s2).toPhase p .ack

/-- GO on every Lathe of partition p: the plan of its template slot, in the buffer of the running step. -/
def State.goAll (s : State) (p : Nat) : State :=
  ((List.range (s.lathesOf p).length).zip (s.lathesOf p)).foldl (fun st kn => st.goPlan kn.2 ((s.loop p).ents.getD kn.1 0) (s.loop p).buf) s

/-- The Lathes of partition p that have not acknowledged the epoch. -/
def State.unackedLathes (s : State) (p : Nat) : List Nat :=
  (s.lathesOf p).filter (fun n => (s.loop p).unacked.contains n || (s.lth n).epochHeld)

/-- Lathe n is taken OFFLINE: its pins are dropped, and it holds nothing. -/
def State.takeOffline (s : State) (n : Nat) : State := ((s.dropPins n (s.lth n).flights).setLth n {}).wr (LTH_SEQ_STAT.STATE n) 8

section Release

variable {p : Part} {s : State}

theorem exec_stepRelease_of_other (h : (s.loop p).phase ≠ .release) : exec (.stepRelease p) s = .next s := by
  change execStepRelease p s = _
  rw [execStepRelease, if_pos h]

theorem exec_stepRelease_of_release (h : (s.loop p).phase = .release) : exec (.stepRelease p) s = .next (s.released p) := by
  change execStepRelease p s = _
  rw [execStepRelease, if_neg (not_not_intro h)]
  rfl

theorem exec_stepGo_of_barred (h : (s.loop p).phase ≠ .ack ∨ s.allAcked p = false) : exec (.stepGo p) s = .next s := by
  change execStepGo p s = _
  rw [execStepGo, if_pos (by simpa using h)]

theorem exec_stepGo_of_acked (h : (s.loop p).phase = .ack) (hall : s.allAcked p = true) :
    exec (.stepGo p) s = .next ((s.goAll p).toPhase p .run) := by
  change execStepGo p s = _
  rw [execStepGo, if_neg (by simp [h, hall])]
  rfl

theorem exec_ackTimeout_of_barred (h : (s.loop p).phase ≠ .ack ∨ s.allAcked p = true) : exec (.ackTimeout p) s = .next s := by
  change execAckTimeout p s = _
  rw [execAckTimeout, if_pos h]

theorem exec_ackTimeout_of_unacked (h : (s.loop p).phase = .ack) (hall : s.allAcked p = false) : exec (.ackTimeout p) s = .next
    ((((s.unackedLathes p).foldl State.takeOffline s).wr PLT_ERR_STAT.ACK_TIMEOUT 1).partitionStop p (s.unackedLathes p)) := by
  change execAckTimeout p s = _
  rw [execAckTimeout, if_neg (by simp [h, hall])]
  rfl

end Release

/-! The end of the run (R204, R226) and the Commit group (R182). -/

/-- Partition p joins the queue of the sampling unit, which shows it. -/
def State.queueSample (s : State) (p : Nat) : State := ({ s with smp := { s.smp with queue := s.smp.queue ++ [p] } }).showSmp

theorem State.queue_queueSample (s : State) (p : Nat) : (s.queueSample p).smp.queue = s.smp.queue ++ [p] := rfl

theorem State.rd_queueSample_ne (s : State) (p : Nat) {f : Fld} (h : f.key ≠ SMP_STAT.WAITING.key) : (s.queueSample p).rd f = s.rd f :=
  State.rd_wr_ne _ _ h

/-- The Commit group of partition p's step: the state after its commands and the parts as they came out of it. -/
def State.commitGroup (s : State) (p : Nat) : State × List StepReq :=
  (s.loop p).reqs.foldl (fun acc q => ((acc.1.commitReq p q).1, acc.2 ++ [(acc.1.commitReq p q).2])) (s, [])

section RunCommit

variable {p : Part} {s : State}

theorem exec_stepRunEnd_of_barred (h : (s.loop p).phase ≠ .run ∨ (s.lathesOf p).all (fun n => s.seq n = 5) = false) :
    exec (.stepRunEnd p) s = .next s := by
  change execStepRunEnd p s = _
  rw [execStepRunEnd, if_pos (by rwa [Bool.not_eq_true'])]

theorem exec_stepRunEnd_of_done (h : (s.loop p).phase = .run) (hdone : (s.lathesOf p).all (fun n => s.seq n = 5) = true) :
    exec (.stepRunEnd p) s = .next ((s.queueSample p).toPhase p .sample) := by
  change execStepRunEnd p s = _
  rw [execStepRunEnd, if_neg (by simp only [h, hdone]; decide)]
  rfl

theorem exec_stepCommitGroupDone_of_other (h : (s.loop p).phase ≠ .commit) : exec (.stepCommitGroupDone p) s = .next s := by
  change execStepCommitGroupDone p s = _
  rw [execStepCommitGroupDone, if_pos h]

theorem exec_stepCommitGroupDone_of_commit (h : (s.loop p).phase = .commit) : exec (.stepCommitGroupDone p) s = .next
    ((s.commitGroup p).1.setLoop p { (s.commitGroup p).1.loop p with phase := .record, reqs := (s.commitGroup p).2 }) := by
  change execStepCommitGroupDone p s = _
  rw [execStepCommitGroupDone, if_neg (not_not_intro h)]
  rfl

end RunCommit

/-- Settles O23: each clause is an equation of its command; in the wait for acknowledgements GO and the time-out exclude each other. -/
theorem stepReleasesRunsAndCommits : Obligations.StepReleasesRunsAndCommits := by
  refine ⟨fun p s h => exec_stepRelease_of_other h, fun p s h => exec_stepRelease_of_release h,
    fun p s h => ⟨exec_stepGo_of_barred (.inl h), exec_ackTimeout_of_barred (.inl h)⟩,
    fun p s h hall => ⟨exec_stepGo_of_acked h hall, exec_ackTimeout_of_barred (.inr hall)⟩,
    fun p s h hall => ⟨exec_ackTimeout_of_unacked h hall, exec_stepGo_of_barred (.inr hall)⟩, fun p s h hdone => ?runEnd,
    fun p s h => exec_stepRunEnd_of_barred h, fun p s h => exec_stepCommitGroupDone_of_other h,
    fun p s h => exec_stepCommitGroupDone_of_commit h⟩
  refine ⟨_, exec_stepRunEnd_of_done h hdone, ?phase, ?queue, ?frame, fun f hf => ?others⟩
  case phase => rw [State.toPhase, State.loop_setLoop_self]
  case queue => exact s.queue_queueSample p
  case frame => rfl
  case others => rw [State.toPhase, State.setLoop_rd, State.rd_queueSample_ne _ _ hf]

end Sys2Proof.Machine
end

section
/-! PROOFS. The commit point of a partition's step, and a step that ends in error (06_peloton.md). -/

namespace Sys2Proof.Machine
open Reg

/-! The commit point (R192, R197, R220 to R222). -/

/-- The parts that the record of partition p's step takes, each in one ring entry (R220). -/
def State.outGroups (s : State) (p : Nat) : List (List (List Byte)) :=
  fillParts (2 ^ s.rd (PCI_RING_CFG.OQ_ENT p) - 64) ((s.outEntries p).map s.entryBytes)

/-- The free entries of partition p's output ring. -/
def State.outRoom (s : State) (p : Nat) : Nat := (s.rd (PCI_OQ_FREE.INDEX p) + 65536 - s.rd (PCI_OQ_NEXT.INDEX p)) % 65536

section CommitPoint

variable {p : Part} {s : State}

theorem exec_commitPoint_of_other (h : (s.loop p).phase ≠ .record) : exec (.commitPoint p) s = .next s := by
  change execCommitPoint p s = _
  rw [execCommitPoint, if_pos h]

variable (h : (s.loop p).phase = .record)

include h

theorem exec_commitPoint_of_disabled (hring : s.flag (PCI_RING_CFG.ENABLE p) = false) :
    exec (.commitPoint p) s = .next (s.setLoop p { s.loop p with waited := true }) := by
  change execCommitPoint p s = _
  rw [execCommitPoint, if_neg (not_not_intro h), if_pos (by simp [hring])]

variable (hring : s.flag (PCI_RING_CFG.ENABLE p) = true)

include hring

theorem exec_commitPoint_of_records (hrec : s.records p ≠ []) :
    exec (.commitPoint p) s = .next (s.setLoop p { s.loop p with waited := (s.loop p).waited || s.eqWaits p }) := by
  change execCommitPoint p s = _
  rw [execCommitPoint, if_neg (not_not_intro h), if_neg (by simp [hring]), if_pos (by simpa using hrec)]

theorem exec_commitPoint_of_full (hrec : s.records p = []) (hroom : s.outRoom p < (s.outGroups p).length) :
    exec (.commitPoint p) s = .next ((s.setLoop p { s.loop p with waited := true }).wr (PCI_RING_STAT.OQ_WAIT p) 1) := by
  change execCommitPoint p s = _
  rw [execCommitPoint, if_neg (not_not_intro h), if_neg (by simp [hring]), if_neg (by simp [hrec])]
  exact congrArg Host.Outcome.next (if_pos hroom)

end CommitPoint

/-! A step that ends in error (R199). -/

/-- The other Lathes of the partition abort their steps. -/
def State.abortOthers (s : State) (p n : Nat) : State := ((s.lathesOf p).filter (· ≠ n)).foldl (fun st m => st.stepAbort m) s

section ErrorReport

variable {n : Lathe} {p idx code : Nat} {s : State}

theorem exec_stepErrorReport_of_silent (h : s.partOf n = none ∨ (s.lth n).report = none) : exec (.stepErrorReport n) s = .next s := by
  change execStepErrorReport n s = _
  rw [execStepErrorReport]
  obtain h | h := h
  · rw [h]
  · cases s.partOf n <;> simp [h]

theorem exec_stepErrorReport_of_other (hp : s.partOf n = some p) (hr : (s.lth n).report = some (idx, code)) (h : (s.loop p).phase ≠ .run) :
    exec (.stepErrorReport n) s = .next s := by
  change execStepErrorReport n s = _
  rw [execStepErrorReport, hp, hr]
  exact congrArg Host.Outcome.next (if_pos h)

/-- The report enters the loop: its code, the Lathe's slot, the descriptor, and the slot, page, layer and regions that its record names. -/
theorem exec_stepErrorReport_of_run (hp : s.partOf n = some p) (hr : (s.lth n).report = some (idx, code)) (h : (s.loop p).phase = .run) :
    ∃ (slot page layer : Nat) (regions : List (Nat × Nat)),
      exec (.stepErrorReport n) s = .next ((s.abortOthers p n).setLoop p { (s.abortOthers p n).loop p with
        phase := .abort, abort := some ([code, s.slotOfLathe p n, idx, slot, page, layer], regions) }) := by
  change ∃ slot page layer regions, execStepErrorReport n s = _
  unfold execStepErrorReport
  rw [hp, hr]
  exact ⟨_, _, _, _, congrArg Host.Outcome.next (if_neg (not_not_intro h))⟩

end ErrorReport

/-- A Lathe of partition p is in FETCH, WAIT, RUN or STOPPED. -/
def State.latheBusy (s : State) (p : Nat) : Bool := (s.lathesOf p).any (fun n => s.seq n = 2 || s.seq n = 3 || s.seq n = 4 || s.seq n = 7)

section AbortEnd

variable {p : Part} {s : State}

theorem State.latheBusy_eq : s.latheBusy p = (s.lathesOf p).any (fun n => s.seq n = 2 ∨ s.seq n = 3 ∨ s.seq n = 4 ∨ s.seq n = 7) := by
  simp only [State.latheBusy, Bool.decide_or, Bool.or_assoc]

theorem exec_stepAbortEnd_of_barred (h : (s.loop p).abort = none ∨ (s.loop p).phase ≠ .abort ∨ s.latheBusy p = true) :
    exec (.stepAbortEnd p) s = .next s := by
  change execStepAbortEnd p s = _
  unfold execStepAbortEnd
  cases habort : (s.loop p).abort with
  | none => rfl
  | some x =>
    rw [habort, State.latheBusy_eq] at h
    exact congrArg Host.Outcome.next (if_pos (h.resolve_left (Option.some_ne_none x)))

end AbortEnd

/-- Settles O24: every branch of the commit point, of an error report and of the abort's end is an equation of its command; an abort that
the report opens ends only when every Lathe rests. -/
theorem stepRecordAndErrors : Obligations.StepRecordAndErrors := by
  refine ⟨fun p s h => exec_commitPoint_of_other h, fun p s h hring => exec_commitPoint_of_disabled h hring,
    fun p s h hring hrec => exec_commitPoint_of_records h hring hrec, fun p s h hring hrec => ?commit,
    fun n s h => exec_stepErrorReport_of_silent h,
    fun n p idx code s hp hr => ⟨fun h => exec_stepErrorReport_of_other hp hr h, fun h => ?report⟩,
    fun p s h => exec_stepAbortEnd_of_barred h, fun p info regions s habort h hrest => ?abortEnd⟩
  case commit =>
    intro es groups room inj span limit late parts live s2 s4 s5
    refine ⟨fun hroom => exec_commitPoint_of_full h hring hrec hroom, fun hroom => ?_⟩
    change execCommitPoint p s = _
    rw [execCommitPoint, if_neg (not_not_intro h), if_neg (by simp [hring]), if_neg (by simp [hrec])]
    exact congrArg Host.Outcome.next (if_neg (Nat.not_lt_of_le hroom))
  case report =>
    obtain ⟨slot, page, layer, regions, hexec⟩ := exec_stepErrorReport_of_run hp hr h
    refine ⟨_, [code, s.slotOfLathe p n, idx, slot, page, layer], regions, hexec, ?_⟩
    rw [State.loop_setLoop_self]
    exact ⟨rfl, rfl, rfl, rfl⟩
  case abortEnd =>
    intro s1 s2 s3
    change s.latheBusy p = false at hrest
    rw [State.latheBusy_eq] at hrest
    change execStepAbortEnd p s = _
    unfold execStepAbortEnd
    rw [habort]
    exact congrArg Host.Outcome.next (if_neg (by simp only [h, hrest]; decide))

end Sys2Proof.Machine
end

section
/-! PROOFS. The entries of a submission ring (06_peloton.md). -/

namespace Sys2Proof.Machine
open Reg

/-! Taking an entry moves the ring's head and nothing else. -/

section SqTake

variable (s : State) (p k : Nat)

@[simp] theorem State.sqTake_slot (j : Nat) : (s.sqTake p k).slot j = s.slot j := rfl
@[simp] theorem State.sqTake_inRange (j : Nat) : (s.sqTake p k).inRange p j = s.inRange p j := rfl

end SqTake

/-! SUBMIT (R189). -/

section Submit

variable {p : Part} {e : Submission} {s : State}

theorem exec_submit_of_barred (h : s.sqReady p 1 = false ∨ (0 < e.prefixLen.val ∧ s.stepRuns p = true)) :
    exec (.submit p e) s = .next s := by
  change execSubmit p e s = _
  rw [execSubmit, if_pos (by rwa [Bool.not_eq_true'])]

/-- The entry at the head is a submission that may be decided: one that shares cached tokens only between steps. -/
structure State.Submits (s : State) (p : Nat) (e : Submission) : Prop where
  ready : s.sqReady p 1 = true
  between : e.prefixLen.val = 0 ∨ s.stepRuns p = false

theorem State.Submits.guard (h : s.Submits p e) : ¬(!s.sqReady p 1 ∨ (0 < e.prefixLen.val ∧ s.stepRuns p)) := by
  obtain ⟨hready, hfresh | hstep⟩ := h
  · simp [hready, hfresh]
  · simp [hready, hstep]

theorem exec_submit_of_cto (h : s.Submits p e) (hcto : s.flag PCI_INJ.CTO = true) : exec (.submit p e) s = .next (s.sqTimedOut p) := by
  change execSubmit p e s = _
  rw [execSubmit, if_neg h.guard, if_pos hcto]

theorem exec_submit_of_failing {k : Nat} (h : s.Submits p e) (hcto : s.flag PCI_INJ.CTO = false)
    (hfail : failingRule (((s.sqTake p 1).useBucket e.bucket.val).admissionChecks p e) = some k) :
    exec (.submit p e) s = .next ((((s.sqTake p 1).useBucket e.bucket.val).countRefusal p k).submitRecord p 0x22 k 0x1FFF e.reqId.toNat
      (s.rd (PCI_SQ_HEAD.INDEX p)) 0) := by
  change execSubmit p e s = _
  rw [execSubmit, if_neg h.guard, if_neg (ne_true_of_eq_false hcto)]
  simp only [hfail]

theorem exec_submit_of_admitted {k : Nat} (h : s.Submits p e) (hcto : s.flag PCI_INJ.CTO = false)
    (hfail : failingRule (((s.sqTake p 1).useBucket e.bucket.val).admissionChecks p e) = none)
    (hfree : ((s.sqTake p 1).useBucket e.bucket.val).freeSlot p = some k) :
    exec (.submit p e) s = .next (
      let s1 := (s.sqTake p 1).useBucket e.bucket.val
      let opened := s1.openSlot p k e
      let sq := s.rd (PCI_SQ_HEAD.INDEX p)
      if opened.2 = 0 then (opened.1.accept p k (s1.newRecord p e)).submitRecord p 0x22 0 k e.reqId.toNat sq 0
      else (opened.1.countRefusal p 10).submitRecord p 0x22 10 0x1FFF e.reqId.toNat sq opened.2) := by
  change execSubmit p e s = _
  rw [execSubmit, if_neg h.guard, if_neg (ne_true_of_eq_false hcto)]
  simp only [hfail, hfree]

end Submit

/-! DRAFT (R217, R351) and CANCEL (R223, R225). -/

section DraftCancel

variable {p : Part} {slot : Fin 8192} {reqId : Word} {s : State}

theorem exec_draft_of_taken {base : Fin 2097152} {tokens : List (Fin 262144)} (hready : s.sqReady p (1 + ceilDiv tokens.length 16) = true)
    (hprep : (s.loop p).phase ≠ .prepare) (hbuild : (s.loop p).phase ≠ .build) (hrange : s.inRange p slot.val = true)
    (hlen : tokens.length ≤ 63) (hcto : s.flag PCI_INJ.CTO = false) :
    exec (.draft p slot reqId base tokens) s = .next ((s.sqTake p (1 + ceilDiv tokens.length 16)).setSlot slot.val
      { s.slot slot.val with draft := some (base.val, reqId.toNat, tokens.map (·.val)) }) := by
  change execDraft p slot reqId base tokens s = _
  rw [execDraft]
  dsimp only
  rw [if_neg (by simp [hready, hprep, hbuild, hrange, hlen]), if_neg (ne_true_of_eq_false hcto)]

/-- A cancel may be taken: an entry is ready, none is timed out, and the step is not at its commit. -/
structure State.Cancels (s : State) (p : Nat) : Prop where
  ready : s.sqReady p 1 = true
  notCommit : (s.loop p).phase ≠ .commit
  notRecord : (s.loop p).phase ≠ .record
  answered : s.flag PCI_INJ.CTO = false

/-- What a cancel that is taken does, by the slot's record. -/
theorem exec_cancel_of_taken (h : s.Cancels p) : exec (.cancel p slot reqId) s = .next (
    let s1 := s.sqTake p 1
    let r := s.slot slot.val
    let unknown := s1.closeRecord p 0x21 4 slot.val reqId.toNat 0 0
    if s.inRange p slot.val = false then unknown
    else if (r.state = 1 ∨ r.state = 2) ∧ r.reqId = reqId.toNat then s1.setSlot slot.val { r with cancel := true, cancels := r.cancels + 1 }
    else r.lastReq.elim unknown (fun x =>
      if x.1 = reqId.toNat then s1.closeRecord p 0x21 (if x.2.1 = 1 ∨ x.2.1 = 2 then 2 else 3) slot.val x.1 0 x.2.2 else unknown)) := by
  obtain ⟨hready, hcommit, hrecord, hcto⟩ := h
  change execCancel p slot reqId s = _
  rw [execCancel]
  dsimp only
  rw [if_neg (by simp [hready, hcommit, hrecord]), if_neg (ne_true_of_eq_false hcto)]
  simp only [State.sqTake_slot, State.sqTake_inRange, Bool.not_eq_true']
  obtain _ | ⟨q, e, gen⟩ := (s.slot slot.val).lastReq <;> rfl

end DraftCancel

/-! ENTRY_BAD (R352). -/

section EntryBad

variable {p : Part} {s : State}

theorem exec_entryBad_unknownType {req : Word} (hready : s.sqReady p 1 = true) (hcto : s.flag PCI_INJ.CTO = false) :
    exec (.entryBad p (.unknownType req)) s = .next ((s.sqTake p 1).submitRecord p 0x23 1 0x1FFF req.toNat (s.rd (PCI_SQ_HEAD.INDEX p)) 0) := by
  change execEntryBad p (.unknownType req) s = _
  simp [execEntryBad, hready, hcto]

theorem exec_entryBad_draftSlot {slot : Fin 8192} {req : Word} {n : Fin 64} (hrange : s.inRange p slot.val = false)
    (hready : s.sqReady p (1 + ceilDiv n.val 16) = true) (hcto : s.flag PCI_INJ.CTO = false) :
    exec (.entryBad p (.draftSlot slot req n)) s =
      .next ((s.sqTake p (1 + ceilDiv n.val 16)).submitRecord p 0x23 2 slot.val req.toNat (s.rd (PCI_SQ_HEAD.INDEX p)) 0) := by
  change execEntryBad p (.draftSlot slot req n) s = _
  simp [execEntryBad, hrange, hready, hcto]

theorem exec_entryBad_draftCount {slot : Fin 8192} {req : Word} {n : Fin 128} (hn : 63 < n.val)
    (hready : s.sqReady p (1 + ceilDiv n.val 16) = true) (hcto : s.flag PCI_INJ.CTO = false) :
    exec (.entryBad p (.draftCount slot req n)) s =
      .next ((s.sqTake p (1 + ceilDiv n.val 16)).submitRecord p 0x23 3 slot.val req.toNat (s.rd (PCI_SQ_HEAD.INDEX p)) 0) := by
  change execEntryBad p (.draftCount slot req n) s = _
  simp [execEntryBad, Nat.not_le_of_lt hn, hready, hcto]

end EntryBad

/-- Settles O25: an entry that may be taken moves the head by its length; what then happens is an equation of its command. -/
theorem submissionsAreDecided : Obligations.SubmissionsAreDecided := by
  refine ⟨fun v index s => rfl, fun p e s h => exec_submit_of_barred h, fun p e s hready hbetween => ?submit,
    fun p slot reqId base tokens s hready hprep hbuild hrange hlen hcto => exec_draft_of_taken hready hprep hbuild hrange hlen hcto,
    fun p slot reqId s hready hcommit hrecord hcto => ?cancel, fun p bad s hcto => ?bad, fun p s => rfl⟩
  case submit =>
    have h : s.Submits p e := ⟨hready, hbetween⟩
    exact ⟨exec_submit_of_cto h, fun hcto => ⟨fun k => exec_submit_of_failing h hcto, fun k => exec_submit_of_admitted h hcto⟩⟩
  case cancel =>
    have hexec : exec (.cancel p slot reqId) s = _ := exec_cancel_of_taken ⟨hready, hcommit, hrecord, hcto⟩
    refine ⟨fun hrange hlive hreq => ?live, fun hrange => ?outside, fun q e gen hrange hpre hgen hlast hreq => ?closed⟩
    case live => rw [hexec, if_neg (by simp [hrange]), if_pos ⟨hlive, hreq⟩]
    case outside => rw [hexec, if_pos hrange]
    case closed =>
      rw [hexec, if_neg (by simp [hrange]), if_neg (by simp [hpre, hgen]), hlast]
      exact congrArg Host.Outcome.next (if_pos hreq)
  case bad =>
    refine ⟨?_, ?_, ?_⟩
    · rintro req rfl hready
      exact exec_entryBad_unknownType hready hcto
    · rintro slot req n rfl hrange hready
      exact exec_entryBad_draftSlot hrange hready hcto
    · rintro slot req n rfl hn hready
      exact exec_entryBad_draftCount hn hready hcto

end Sys2Proof.Machine
end

section
/-! PROOFS. Buckets, derating, the Peloton's SRAM errors, commits of settings and templates (06_peloton.md). -/

namespace Sys2Proof.Machine
open Reg

/-! Buckets (R191, R193). -/

section Buckets

variable (s : State) {b : Nat} (x : Bucket)

@[simp] theorem State.writePltWord_bkt (w : Nat) : (s.writePltWord w).plt.bkt = s.plt.bkt := by
  unfold State.writePltWord
  split
  · rfl
  · split <;> rfl

@[simp] theorem State.bucket_setBucket_self : (s.setBucket b x).bucket b = x := by
  rw [State.setBucket, State.bucket, State.writePltWord_bkt, Cells.get_set_self]

theorem State.bucket_setBucket_ne {c : Nat} (h : c ≠ b) : (s.setBucket b x).bucket c = s.bucket c := by
  rw [State.setBucket, State.bucket, State.writePltWord_bkt, Cells.get_set_ne _ _ _ _ h, State.bucket]

variable {s}

/-- A bucket whose word holds no error is used without a trace. -/
theorem State.useBucket_of_clean (h : Cells.get 0 s.plt.sramErr (8192 + b) = 0) : s.useBucket b = s := by
  have hword : s.usePltWord (8192 + b) = (s, false) := by rw [State.usePltWord, if_pos h]
  rw [State.useBucket, hword]
  rfl

end Buckets

section BucketCommands

variable {b : Fin 1024} {s : State}

theorem exec_bucketRefill_of_disabled (hclean : Cells.get 0 s.plt.sramErr (8192 + b) = 0) (h : (s.bucket b).enable = false) :
    exec (.bucketRefill b) s = .next s := by
  change execBucketRefill b s = _
  rw [execBucketRefill, State.useBucket_of_clean hclean, h]
  rfl

theorem exec_bucketRefill_of_enabled (hclean : Cells.get 0 s.plt.sramErr (8192 + b) = 0) (h : (s.bucket b).enable = true) :
    exec (.bucketRefill b) s = .next (s.setBucket b { s.bucket b with balance :=
      if (s.bucket b).cap ≤ (s.bucket b).balance then (s.bucket b).balance else min (s.bucket b).cap ((s.bucket b).balance + (s.bucket b).refill) }) := by
  change execBucketRefill b s = _
  rw [execBucketRefill, State.useBucket_of_clean hclean]
  exact congrArg Host.Outcome.next (if_neg (by simp [h]))

end BucketCommands

/-! T_RES_RECOMPUTE (R194 to R196). -/

/-- The charges of partition p's requests are computed anew. -/
def State.recharge (s : State) (p : Nat) : State :=
  (s.slotsOf p).foldl (fun st x =>
    st.setSlot x.1 { st.slot x.1 with charge := st.reqCharge p (s.pltCfg p) x.2.spec (x.2.promptLen + x.2.maxNew) % 2 ^ 32 }) s

theorem exec_tResRecompute (p : Part) (why : Derate) (s : State) :
    exec (.tResRecompute p why) s = .next (if s.rd (PLT_PSTAT.STATE p) = 0 then s else (s.recharge p).reassess p (derateReason why)) := rfl

/-! Commits of a partition's settings (R202, R390, R500). -/

section Commit

variable {p : Part} {en : Bool} {s : State}

theorem exec_pltCommit_of_commit (p : Part) (en : Bool) (s : State) : exec (.pltCommit p true en) s = .next (s.pltCommit p en) := rfl

theorem State.pltCommit_of_busy (h : s.tearing p = true ∨ (en = true ∧ s.restoring p = true)) :
    s.pltCommit p en = s.wr (PLT_PSTAT.CFG_BUSY_WR p) 1 := by
  rw [State.pltCommit, if_pos (by simpa using h), State.raise]

/-- A commit is heard: no teardown refuses it, nor, with ENABLE, a restore. -/
structure State.HearsCommit (s : State) (p : Nat) (en : Bool) : Prop where
  alive : s.tearing p = false
  settled : en = false ∨ s.restoring p = false

theorem State.HearsCommit.guard {q : Nat} (h : s.HearsCommit q en) : (s.tearing q || (en && s.restoring q)) = false := by
  obtain ⟨halive, rfl | hrestore⟩ := h
  · rw [halive, Bool.false_and, Bool.or_false]
  · rw [halive, hrestore, Bool.and_false, Bool.or_false]

theorem State.pltCommit_of_idle (h : s.HearsCommit p en) (hidle : s.stepRuns p = false) : s.pltCommit p en = s.pltApply p en := by
  rw [State.pltCommit, h.guard, hidle]
  rfl

theorem State.pltCommit_of_failing {k : Nat} (h : s.HearsCommit p en) (hrun : s.stepRuns p = true) (hfail : failingRule (s.pltRules p) = some k) :
    s.pltCommit p en = (s.wr (PLT_PSTAT.CFG_MISMATCH p) 1).wr (PLT_PSTAT.CFG_RULE p) k := by
  rw [State.pltCommit, h.guard, hrun, hfail]
  rfl

theorem State.pltCommit_of_staged (h : s.HearsCommit p en) (hrun : s.stepRuns p = true) (hfail : failingRule (s.pltRules p) = none) :
    s.pltCommit p en = (s.setLoop p { s.loop p with staged := some en }).wr (PLT_PSTAT.PENDING p) 1 := by
  rw [State.pltCommit, h.guard, hrun, hfail]
  rfl

end Commit

/-! TEMPLATE_DERIVED (R179, R180). -/

/-- The tree record of partition p in the SRAM of each of its Lathes. -/
def State.placeTree (s : State) (p : Nat) (c : PltCfg) : State :=
  (s.lathesOf p).foldl (fun st n => (st.lsramWrite n (st.rd (SMP_TREE_LOC.LOC p)) (st.treeRecord p c.nodes)).1) s

/-- The cost table of partition p holds the values derived: the entries and attention descriptors are known, and the partition is RUNNING. -/
def State.costsDerived (s : State) (p : Nat) (t : Tmpl) (c : PltCfg) (ws : List Nat) : State :=
  let s1 := { s with plt := { s.plt with cost := Cells.setList 0 (Cells.clear s.plt.cost (256 * p) (256 * p + 256)) (256 * p + 1) ws } }
  (((s1.writePltWord (9216 + p)).setLoop p { s1.loop p with
    ents := (t.used t.slots).map List.length
    attn := ((t.entries.headD []).map (fun e => e.patched t c 32)).filter Desc.isAttn }).wr (PLT_PSTAT.STATE p) 2).reassess p 1

theorem exec_templateDerived_of_barred {p : Part} {s : State} (h : s.rd (PLT_PSTAT.STATE p) ≠ 1 ∨ s.stepRuns p = true) :
    exec (.templateDerived p) s = .next s := by
  change execTemplateDerived p s = _
  rw [execTemplateDerived, if_pos h]

section Derive

variable {p : Part} {s s1 : State} {t : Tmpl} (hstate : s.rd (PLT_PSTAT.STATE p) = 1) (hidle : s.stepRuns p = false)

include hstate hidle

theorem exec_templateDerived_of_unread (hread : s.readTmpl p = (s1, none)) : exec (.templateDerived p) s = .next (s1.tmplBad p (0, 0)) := by
  change execTemplateDerived p s = _
  rw [execTemplateDerived, if_neg (by simp [hstate, hidle]), hread]

variable (hread : s.readTmpl p = (s1, some t))

include hread

theorem exec_templateDerived_of_fault {x : Nat × Nat} (hfault : (s1.placeTree p (s.pltCfg p)).tmplFault p t (s.pltCfg p) = some x) :
    exec (.templateDerived p) s = .next (s1.tmplBad p x) := by
  rw [State.placeTree] at hfault
  change execTemplateDerived p s = _
  rw [execTemplateDerived, if_neg (by simp [hstate, hidle]), hread]
  simp only [hfault]

variable (hfault : (s1.placeTree p (s.pltCfg p)).tmplFault p t (s.pltCfg p) = none)

include hfault

theorem exec_templateDerived_of_error {x : Nat × Nat} (hw : (s1.placeTree p (s.pltCfg p)).deriveW p t (s.pltCfg p) = .error x) :
    exec (.templateDerived p) s = .next (s1.tmplBad p x) := by
  rw [State.placeTree] at hfault hw
  change execTemplateDerived p s = _
  rw [execTemplateDerived, if_neg (by simp [hstate, hidle]), hread]
  simp only [hfault, hw]

theorem exec_templateDerived_of_ok {ws : List Nat} (hw : (s1.placeTree p (s.pltCfg p)).deriveW p t (s.pltCfg p) = .ok ws) :
    exec (.templateDerived p) s = .next ((s1.placeTree p (s.pltCfg p)).costsDerived p t (s.pltCfg p) ws) := by
  rw [State.placeTree] at hfault hw
  change execTemplateDerived p s = _
  rw [execTemplateDerived, if_neg (by simp [hstate, hidle]), hread]
  simp only [hfault, hw]
  rfl

end Derive

/-- Settles O26: buckets by the laws of `setBucket`, every command by its equations. -/
theorem budgetsAndDerating : Obligations.BudgetsAndDerating := by
  refine ⟨fun b s hclean => ?period, fun b x s => ⟨State.bucket_setBucket_self s x, fun c h => State.bucket_setBucket_ne s x h⟩,
    fun v s => ?write, fun p why s h => ?stopped, fun p why s h => ?recompute, fun w s => ?ue,
    fun p en s => rfl, fun p en s h => ?busy, fun p en s halive hsettled hidle => ?idle, fun p en s halive hsettled hrun => ?runs,
    fun p s h => exec_templateDerived_of_barred h, fun p s s1 hstate hidle hread => exec_templateDerived_of_unread hstate hidle hread,
    fun p s s1 t hstate hidle hread => ?derive⟩
  case period =>
    refine ⟨fun hoff => exec_bucketRefill_of_disabled hclean hoff, fun hon hfull => ?full, fun hon hroom => ?room⟩
    case full => rw [exec_bucketRefill_of_enabled hclean hon, if_pos hfull]
    case room => rw [exec_bucketRefill_of_enabled hclean hon, if_neg (Nat.not_le_of_lt hroom)]
  case write =>
    refine ⟨fun hw => ?balance, fun hw => ?cap, fun hw => ?refill, fun hw => ?control, fun hw => ?reserved⟩
    all_goals change execBucketWrite v s = _
    case balance | cap | refill | control => simp only [execBucketWrite, hw]
    case reserved =>
      obtain hw | hw | hw | hw : s.rd PLT_BKT_ADDR.ADDR % 8 = 1 ∨ s.rd PLT_BKT_ADDR.ADDR % 8 = 5 ∨ s.rd PLT_BKT_ADDR.ADDR % 8 = 6 ∨
        s.rd PLT_BKT_ADDR.ADDR % 8 = 7 := by omega
      all_goals simp only [execBucketWrite, hw]
  case stopped => rw [exec_tResRecompute, if_pos h]
  case recompute =>
    rw [exec_tResRecompute, if_neg h]
    rfl
  case ue =>
    intro hit
    refine ⟨?_, ?_, ?_⟩ <;> rintro k rfl <;> rfl
  case busy => rw [exec_pltCommit_of_commit, State.pltCommit_of_busy h]
  case idle => rw [exec_pltCommit_of_commit, State.pltCommit_of_idle ⟨halive, hsettled⟩ hidle]
  case runs =>
    have h : s.HearsCommit p en := ⟨halive, hsettled⟩
    rw [exec_pltCommit_of_commit]
    exact ⟨fun k hfail => congrArg _ (State.pltCommit_of_failing h hrun hfail), fun hfail => congrArg _ (State.pltCommit_of_staged h hrun hfail)⟩
  case derive =>
    intro c s2
    exact ⟨fun x hfault => exec_templateDerived_of_fault hstate hidle hread hfault,
      fun x hfault hw => exec_templateDerived_of_error hstate hidle hread hfault hw,
      fun ws hfault hw => exec_templateDerived_of_ok hstate hidle hread hfault hw⟩

end Sys2Proof.Machine
end

section
/-! PROOFS. What every step of the module keeps: the commands that wait behind it, the variant, OTP bits that are set, the form of the
memories, and what has been sent. -/

namespace Sys2Proof.Machine

/-- Every command keeps what `Keeps` names: the law of each command, under its name. -/
theorem exec_keeps {z s : State} (c : Instr) (h : Keeps z s) : KeepsN z (exec c s) := by
  cases c with
  | registerWrite => exact execRegisterWrite_keeps h | unmappedAccess => exact execUnmappedAccess_keeps h
  | rcFieldRead => exact execRcFieldRead_keeps h | latchingLoRead => exact execLatchingLoRead_keeps h
  | injectionArm => exact execInjectionArm_keeps h | seqGo => exact execSeqGo_keeps h | seqStop => exact execSeqStop_keeps h
  | seqResume => exact execSeqResume_keeps h | lreset => exact execLreset_keeps h | latheResetDone => exact execLatheResetDone_keeps h
  | stepAbort => exact execStepAbort_keeps h | descriptorDecode => exact execDescriptorDecode_keeps h
  | repetitionIssue => exact execRepetitionIssue_keeps h | repetitionComplete => exact execRepetitionComplete_keeps h
  | descriptorError => exact execDescriptorError_keeps h | waitTimeout => exact execWaitTimeout_keeps h
  | stepEpochOpen => exact execStepEpochOpen_keeps h | lthCommit => exact execLthCommit_keeps h | evtInc => exact execEvtInc_keeps h
  | lthDbgDataAccess => exact execLthDbgDataAccess_keeps h | droopStretch => exact execDroopStretch_keeps h
  | pftCmdQueue => exact execPftCmdQueue_keeps h | pftRespRead => exact execPftRespRead_keeps h | slotOpen => exact execSlotOpen_keeps h
  | slotPrepare => exact execSlotPrepare_keeps h | commitLen => exact execCommitLen_keeps h | slotFork => exact execSlotFork_keeps h
  | slotTruncate => exact execSlotTruncate_keeps h | slotRelease => exact execSlotRelease_keeps h | pinTake => exact execPinTake_keeps h
  | pinEnd => exact execPinEnd_keeps h | abortStep => exact execAbortStep_keeps h | relink => exact execRelink_keeps h
  | pinGenerationFlip => exact execPinGenerationFlip_keeps h | retiredItemsFree => exact execRetiredItemsFree_keeps h
  | kvLatch => exact execKvLatch_keeps h | pftCommit => exact execPftCommit_keeps h | pftPoolReady => exact execPftPoolReady_keeps h
  | pltCommit => exact execPltCommit_keeps h | templateDerived => exact execTemplateDerived_keeps h | stepSelect => exact execStepSelect_keeps h
  | stepPrepareDone => exact execStepPrepareDone_keeps h | stepBuild p => exact execStepBuild_keeps (p := p) (s := s) h
  | stepRelease => exact execStepRelease_keeps h | stepGo => exact execStepGo_keeps h | ackTimeout => exact execAckTimeout_keeps h
  | stepRunEnd => exact execStepRunEnd_keeps h | samplePhase => exact execSamplePhase_keeps (s := s) h
  | stepCommitGroupDone => exact execStepCommitGroupDone_keeps h | commitPoint => exact execCommitPoint_keeps h
  | stepErrorReport => exact execStepErrorReport_keeps h | stepAbortEnd => exact execStepAbortEnd_keeps h
  | sqTailWrite => exact execSqTailWrite_keeps h | submit => exact execSubmit_keeps h | draft => exact execDraft_keeps h
  | cancel => exact execCancel_keeps h | entryBad => exact execEntryBad_keeps h | tResRecompute => exact execTResRecompute_keeps h
  | bucketRefill => exact execBucketRefill_keeps h | bucketWrite => exact execBucketWrite_keeps h
  | pelotonSramUe => exact execPelotonSramUe_keeps h | smpProfCommit => exact execSmpProfCommit_keeps h
  | smpCommit => exact execSmpCommit_keeps h | portTrainingDone => exact execPortTrainingDone_keeps h
  | portZeroingDone => exact execPortZeroingDone_keeps h | refreshRateUpdate => exact execRefreshRateUpdate_keeps h
  | selfRefreshEntry => exact execSelfRefreshEntry_keeps h | portAccess => exact execPortAccess_keeps h
  | sramScrubWord => exact execSramScrubWord_keeps h | patrolScrubUnit => exact execPatrolScrubUnit_keeps h
  | retireBlock => exact execRetireBlock_keeps h | memRetire => exact execMemRetire_keeps h | retireCopyDone => exact execRetireCopyDone_keeps h
  | memCommit => exact execMemCommit_keeps h | keyLoad => exact execKeyLoad_keeps h | keyRotateStart => exact execKeyRotateStart_keeps h
  | rotationSweepUnit => exact execRotationSweepUnit_keeps h | rotationDrainDone => exact execRotationDrainDone_keeps h
  | keyPcommit => exact execKeyPcommit_keeps h | tdmaChKick => exact execTdmaChKick_keeps h | tdmaDescFetch => exact execTdmaDescFetch_keeps h
  | tdmaEventPulse => exact execTdmaEventPulse_keeps h | tdmaBusError => exact execTdmaBusError_keeps h
  | tdmaGrpClear => exact execTdmaGrpClear_keeps h | channelFence => exact execChannelFence_keeps h
  | channelUnfence => exact execChannelUnfence_keeps h | channelDisable => exact execChannelDisable_keeps h
  | channelEnable => exact execChannelEnable_keeps h | channelCfgCommit => exact execChannelCfgCommit_keeps h
  | hdmaDoorbell => exact execHdmaDoorbell_keeps h | hdmaEntryFetch => exact execHdmaEntryFetch_keeps h
  | hdmaTrigger => exact execHdmaTrigger_keeps h | hdmaWriteback => exact execHdmaWriteback_keeps h | hdmaResume => exact execHdmaResume_keeps h
  | hdmaBusError => exact execHdmaBusError_keeps h | hdmaRestart => exact execHdmaRestart_keeps h | arbDecision => exact execArbDecision_keeps h
  | arbCommit => exact execArbCommit_keeps h | videoEngineAssign => exact execVideoEngineAssign_keeps h
  | videoSramCleared => exact execVideoSramCleared_keeps h | vidCtxCommit => exact execVidCtxCommit_keeps h
  | videoRow => exact execVideoRow_keeps h | frameReport => exact execFrameReport_keeps h | vidFlush => exact execVidFlush_keeps h
  | vidResume => exact execVidResume_keeps h | vidCtxSrc => exact execVidCtxSrc_keeps h | fabCommit => exact execFabCommit_keeps h
  | fabPcommit => exact execFabPcommit_keeps h | planeTrained => exact execPlaneTrained_keeps h
  | trainingTimeout => exact execTrainingTimeout_keeps h | planeLock => exact execPlaneLock_keeps h | helloRx => exact execHelloRx_keeps h
  | helloTx => exact execHelloTx_keeps h | helloTimeout => exact execHelloTimeout_keeps h | codewordRx => exact execCodewordRx_keeps h
  | controlFlitRx => exact execControlFlitRx_keeps h | ackStallTimeout => exact execAckStallTimeout_keeps h
  | planeDown => exact execPlaneDown_keeps h | packetSend => exact execPacketSend_keeps h | fabricWriteRx => exact execFabricWriteRx_keeps h
  | fabricEventWrite => exact execFabricEventWrite_keeps h | barrierArrival => exact execBarrierArrival_keeps h
  | fabricReadReqRx => exact execFabricReadReqRx_keeps h | fabricReadRespRx => exact execFabricReadRespRx_keeps h
  | fabricReleaseRx => exact execFabricReleaseRx_keeps h | e2eTimeout => exact execE2eTimeout_keeps h
  | checkpointStart => exact execCheckpointStart_keeps h | checkpointEnd => exact execCheckpointEnd_keeps h
  | pcieLinkUp => exact execPcieLinkUp_keeps h | linkLoss => exact execLinkLoss_keeps h | configRequest => exact execConfigRequest_keeps h
  | pf0ApertureAccess => exact execPf0ApertureAccess_keeps h | vfApertureAccess => exact execVfApertureAccess_keeps h
  | receivedTlpError => exact execReceivedTlpError_keeps h | completionTimeout => exact execCompletionTimeout_keeps h
  | vfFlr => exact execVfFlr_keeps h | pfReset => exact execPfReset_keeps h | ringEnable => exact execRingEnable_keeps h
  | oqFreeWrite => exact execOqFreeWrite_keeps h | eqHeadWrite => exact execEqHeadWrite_keeps h
  | eventRecordWrite => exact execEventRecordWrite_keeps h | submissionReadFault => exact execSubmissionReadFault_keeps h
  | mbxSend => exact execMbxSend_keeps h | mbxRing => exact execMbxRing_keeps h | mbxInDataRead => exact execMbxInDataRead_keeps h
  | irqFilterSettle => exact execIrqFilterSettle_keeps h | irqPendWrite => exact execIrqPendWrite_keeps h
  | irqClaim => exact execIrqClaim_keeps h | irqDone => exact execIrqDone_keeps h | partitionBuild => exact execPartitionBuild_keeps h
  | partitionTeardown => exact execPartitionTeardown_keeps h | teardownFenceTimeout => exact execTeardownFenceTimeout_keeps h
  | teardownComplete => exact execTeardownComplete_keeps h | attestationRequest => exact execAttestationRequest_keeps h
  | kemRequest => exact execKemRequest_keeps h | keyDelivery => exact execKeyDelivery_keeps h | ownerChange => exact execOwnerChange_keeps h
  | debugOpen => exact execDebugOpen_keeps h | debugClose => exact execDebugClose_keeps h
  | debugSessionTimeout => exact execDebugSessionTimeout_keeps h | dbgWayDataAccess => exact execDbgWayDataAccess_keeps h
  | dictRead => exact execDictRead_keeps h | dictWrite => exact execDictWrite_keeps h | dictDescribe => exact execDictDescribe_keeps h
  | snapshotExpire => exact execSnapshotExpire_keeps h | stagingExpire => exact execStagingExpire_keeps h
  | beaconTx => exact execBeaconTx_keeps h | beaconRx => exact execBeaconRx_keeps h | partnerLost => exact execPartnerLost_keeps h
  | settingsWrite => exact execSettingsWrite_keeps h | mirrorGo => exact execMirrorGo_keeps h | powerOnReset => exact execPowerOnReset_keeps h
  | moduleReset => exact execModuleReset_keeps h | glbRst => exact execGlbRst_keeps h | svcWatchdogExpiry => exact execSvcWatchdogExpiry_keeps h
  | updateHeader => exact execUpdateHeader_keeps h | updateEraseDone => exact execUpdateEraseDone_keeps h
  | updateBlock => exact execUpdateBlock_keeps h | updateCmdReset => exact execUpdateCmdReset_keeps h
  | updateConfirm => exact execUpdateConfirm_keeps h | updateActivate => exact execUpdateActivate_keeps h
  | updateFinish => exact execUpdateFinish_keeps h | updateSkip => exact execUpdateSkip_keeps h
  | updateSkipDone => exact execUpdateSkipDone_keeps h | updateAbort => exact execUpdateAbort_keeps h
  | updateSessionTimeout => exact execUpdateSessionTimeout_keeps h | trialHoursConfirm => exact execTrialHoursConfirm_keeps h
  | trialFailure => exact execTrialFailure_keeps h | updateLock => exact execUpdateLock_keeps h
  | powerComponentStep => exact execPowerComponentStep_keeps h | brake => exact execBrake_keeps h
  | brakeRelease => exact execBrakeRelease_keeps h | inputLoss => exact execInputLoss_keeps h | inputReturn => exact execInputReturn_keeps h
  | railPgoodTimeout => exact execRailPgoodTimeout_keeps h | coolantComponentUpdate => exact execCoolantComponentUpdate_keeps h
  | flowStop => exact execFlowStop_keeps h | flowStopEnd => exact execFlowStopEnd_keeps h | pairDifference => exact execPairDifference_keeps h
  | latheLevelStep => exact execLatheLevelStep_keeps h | thermalTrip => exact execThermalTrip_keeps h
  | autoRestart => exact execAutoRestart_keeps h | keepWarmTick => exact execKeepWarmTick_keeps h
  | raiseComputeRails => exact execRaiseComputeRails_keeps h | thmCommit => exact execThmCommit_keeps h
  | heartbeatSilent => exact execHeartbeatSilent_keeps h | supervisorWatchdogExpiry => exact execSupervisorWatchdogExpiry_keeps h
  | takeover => exact execTakeover_keeps h | plannedHandover => exact execPlannedHandover_keeps h
  | savedStateWrite => exact execSavedStateWrite_keeps h | supervisorReload => exact execSupervisorReload_keeps h
  | noOwnerOverride => exact execNoOwnerOverride_keeps h | noOwnerRailRemoval => exact execNoOwnerRailRemoval_keeps h
  | errorReport => exact execErrorReport_keeps h | bucketRotate => exact execBucketRotate_keeps h | errCommit => exact execErrCommit_keeps h
  | errLogRead => exact execErrLogRead_keeps h | katBackgroundStart => exact execKatBackgroundStart_keeps h
  | katPassMissed => exact execKatPassMissed_keeps h | katResult => exact execKatResult_keeps h | latheRetire => exact execLatheRetire_keeps h
  | maintenanceWindow => exact execMaintenanceWindow_keeps h | latheLift => exact execLatheLift_keeps h
  | lifetimeCommit => exact execLifetimeCommit_keeps h | restoreArm => exact execRestoreArm_keeps h
  | restoreStart => exact execRestoreStart_keeps h | restoreCommit => exact execRestoreCommit_keeps h
  | restoreAbort => exact execRestoreAbort_keeps h | locatePinChange => exact execLocatePinChange_keeps h
  | holdupCharged => exact execHoldupCharged_keeps h | sensorInvalid => exact execSensorInvalid_keeps h | doeAbort => exact execDoeAbort_keeps h
  | plcaBeaconHeard => exact execPlcaBeaconHeard_keeps h | plcaBeaconLost => exact execPlcaBeaconLost_keeps h

/-- A step keeps what `Keeps` names of the state in which the command at the front of the queue has been taken away. -/
theorem step_keeps {s t : State} (h : step s = .next t) : Keeps { s with pending := s.pending.tail } t := by
  rw [step] at h
  cases hp : s.pending with
  | nil =>
    simp only [hp] at h
    cases h
    rw [List.tail_nil, ← hp]
    exact State.tick_keeps (Keeps.refl s)
  | cons c rest =>
    simp only [hp] at h
    exact (exec_keeps c (Keeps.refl _)).out t h

/-- Settles O7: taking a command from the queue sends nothing and leaves the variant, and a step keeps both. -/
theorem outputsAreNeverTakenBack : Obligations.OutputsAreNeverTakenBack :=
  fun _ _ h => ⟨(step_keeps h).out, (step_keeps h).var⟩

end Sys2Proof.Machine
end

section
/-! PROOFS. The sampling unit's phase and the commits of profiles and sampling settings (07_sampling_speculation.md). -/

namespace Sys2Proof.Machine
open Reg

/-! SAMPLE_PHASE (R205, R226, R228). -/

/-- The queue of the sampling unit is `rest`, which it shows. -/
def State.startSample (s : State) (rest : List Nat) : State := ({ s with smp := { s.smp with queue := rest } }).showSmp

/-- The requests of partition p's step in ascending slot order. -/
def State.reqsBySlot (s : State) (p : Nat) : List StepReq :=
  (List.range 8192).filterMap (fun k => (s.loop p).reqs.find? (fun q => q.slot = k))

/-- A Sample phase over every request: the walks' paths and counts are kept, the requests sampled take their results, and the loop enters Commit. -/
def State.sampleEnds (s : State) (p : Nat) (reqs sampled : List StepReq) (ws : List (Nat × Walk)) : State :=
  (s.samplePaths p ws).setLoop p { (s.samplePaths p ws).loop p with
    phase := .commit, reqs := reqs.map (fun q => (sampled.find? (fun x => x.slot = q.slot)).getD q) }

/-- A Sample phase that met an error aborts its step with the error's code, Lathe slot and slot. -/
def State.sampleAborts (s : State) (p code ls k : Nat) : State :=
  s.setLoop p { s.loop p with phase := .abort, abort := some ([code, ls, 0xFFF, k, 0, 0], []) }

section SamplePhase

variable {s : State}

theorem exec_samplePhase_of_idle (h : s.smp.queue = []) : exec .samplePhase s = .next s := by
  change execSamplePhase s = _
  rw [execSamplePhase, h]

variable {p : Nat} {rest : List Nat} (hqueue : s.smp.queue = p :: rest)
  {s1 : State} {sampled : List StepReq} {ws : List (Nat × Walk)}

include hqueue

theorem exec_samplePhase_of_error {code ls k : Nat}
    (h : (s.startSample rest).sampleAll p ((s.startSample rest).reqsBySlot p) = (s1, sampled, ws, some (code, ls, k))) :
    exec .samplePhase s = .next (s1.sampleAborts p code ls k) := by
  rw [State.reqsBySlot, State.startSample] at h
  change execSamplePhase s = _
  simp only [execSamplePhase, hqueue, h, State.sampleAborts]

theorem exec_samplePhase_of_sampled
    (h : (s.startSample rest).sampleAll p ((s.startSample rest).reqsBySlot p) = (s1, sampled, ws, none)) :
    exec .samplePhase s = .next (s1.sampleEnds p ((s.startSample rest).loop p).reqs sampled ws) := by
  rw [State.reqsBySlot, State.startSample] at h
  change execSamplePhase s = _
  simp only [execSamplePhase, hqueue, h, State.sampleEnds, State.startSample]

end SamplePhase

/-! SMP_PROF_COMMIT (R206). -/

/-- The words of profile k's shadow. -/
def State.profWords (s : State) (k : Nat) : List Nat := (List.range 16).map (fun j => Cells.get 0 s.smp.profShadow (16 * k + j))

/-- Profile k is staged with the words w, in the place of words staged for it before. -/
def State.stageProf (s : State) (k : Nat) (w : List Nat) : State :=
  { s with smp := { s.smp with profStaged := s.smp.profStaged.filter (fun x => x.1 ≠ k) ++ [(k, w)] } }

section ProfCommit

variable {k : Fin 1024} {s : State}

theorem exec_smpProfCommit_of_no_commit (k : Fin 1024) (s : State) : exec (.smpProfCommit k false) s = .next s := rfl

theorem exec_smpProfCommit_of_failing {r : Nat} (h : failingRule (s.profRules (s.profWords k)) = some r) :
    exec (.smpProfCommit k true) s = .next (s.profRefuse r) := by
  rw [State.profWords] at h
  change execSmpProfCommit k true s = _
  simp only [execSmpProfCommit, h]
  rfl

theorem exec_smpProfCommit_of_passing (h : failingRule (s.profRules (s.profWords k)) = none) :
    exec (.smpProfCommit k true) s = .next ((s.stageProf k (s.profWords k)).wr SMP_PROF_STAT.PENDING 1) := by
  rw [State.profWords] at h
  change execSmpProfCommit k true s = _
  simp only [execSmpProfCommit, h]
  rfl

theorem State.mem_stageProf (s : State) (k : Nat) (w : List Nat) : (k, w) ∈ (s.stageProf k w).smp.profStaged :=
  List.mem_append_right _ (List.mem_singleton_self _)

end ProfCommit

/-! SMP_COMMIT (R229, R390). -/

section SmpCommit

variable {p : Part} {s : State}

theorem exec_smpCommit_of_no_commit (p : Part) (s : State) : exec (.smpCommit p false) s = .next s := rfl

theorem exec_smpCommit_of_tearing (h : s.tearing p = true) : exec (.smpCommit p true) s = .next (s.wr (SMP_PSTAT.CFG_BUSY_WR p) 1) := by
  change execSmpCommit p true s = _
  rw [execSmpCommit, h]
  rfl

variable (halive : s.tearing p = false)

include halive

theorem exec_smpCommit_of_idle (hidle : s.stepRuns p = false) : exec (.smpCommit p true) s = .next (s.smpApply p) := by
  change execSmpCommit p true s = _
  rw [execSmpCommit, halive, hidle]
  rfl

variable (hrun : s.stepRuns p = true)

include hrun

theorem exec_smpCommit_of_failing {k : Nat} (h : failingRule (s.smpRules p) = some k) :
    exec (.smpCommit p true) s = .next ((s.wr (SMP_PSTAT.CFG_MISMATCH p) 1).wr (SMP_PSTAT.CFG_RULE p) k) := by
  change execSmpCommit p true s = _
  rw [execSmpCommit, halive, hrun, h]
  rfl

theorem exec_smpCommit_of_passing (h : failingRule (s.smpRules p) = none) : exec (.smpCommit p true) s =
    .next ((s.setLoop p { s.loop p with smpStaged := true }).wr (SMP_PSTAT.PENDING p) 1) := by
  change execSmpCommit p true s = _
  rw [execSmpCommit, halive, hrun, h]
  rfl

end SmpCommit

/-- Settles O27: the phase by how the walks end, every commit by an equation of its command. -/
theorem samplingPhaseAndCommits : Obligations.SamplingPhaseAndCommits := by
  refine ⟨fun s h => exec_samplePhase_of_idle h, fun s p rest hqueue => ?phase, exec_smpProfCommit_of_no_commit, fun k s => ?profile,
    exec_smpCommit_of_no_commit, fun p s h => exec_smpCommit_of_tearing h, fun p s halive hidle => exec_smpCommit_of_idle halive hidle,
    fun p s halive hrun => ⟨fun k h => exec_smpCommit_of_failing halive hrun h, fun h => exec_smpCommit_of_passing halive hrun h⟩⟩
  case phase =>
    intro s0 qs r
    rcases hr : r with ⟨s1, sampled, ws, _ | ⟨code, ls, k⟩⟩
    case none =>
      refine ⟨_, exec_samplePhase_of_sampled hqueue hr, ?_⟩
      rw [State.sampleEnds, State.loop_setLoop_self]
      exact ⟨rfl, rfl, rfl⟩
    case some =>
      refine ⟨_, exec_samplePhase_of_error hqueue hr, ?_⟩
      rw [State.sampleAborts, State.loop_setLoop_self]
      exact ⟨rfl, rfl, rfl⟩
  case profile =>
    refine ⟨fun r h => exec_smpProfCommit_of_failing h, fun h => ⟨_, exec_smpProfCommit_of_passing h, ?pending, ?staged, rfl, rfl, ?others⟩⟩
    case pending => rw [State.flag, State.rd_wr_self]; rfl
    case staged => exact s.mem_stageProf k _
    case others => exact fun f hf => State.rd_wr_ne _ _ hf

end Sys2Proof.Machine
end

section
/-! PROOFS. Accesses of a memory port, its scrubbers and the retirement of its blocks (08_memory.md). -/

namespace Sys2Proof.Machine
open Reg

/-! What the checks of an access leave as it was (R245 to R247). -/

/-- Memory, Lathes, outputs and the bytes of the key slots are in t what they are in s. -/
structure State.SameData (s t : State) : Prop where
  mem : t.mem = s.mem
  lathe : t.lathe = s.lathe
  out : t.out = s.out
  slot : t.keys.slot = s.keys.slot

namespace State.SameData

variable {s t r : State}

theorem refl (s : State) : s.SameData s := ⟨rfl, rfl, rfl, rfl⟩

theorem trans (h : s.SameData t) (h' : t.SameData r) : s.SameData r :=
  ⟨h'.mem.trans h.mem, h'.lathe.trans h.lathe, h'.out.trans h.out, h'.slot.trans h.slot⟩

/-- `trans` with the later change named first, which tells the state between. -/
theorem after (h' : t.SameData r) (h : s.SameData t) : s.SameData r := h.trans h'

theorem wr (h : s.SameData t) (f : Fld) (v : Nat) : s.SameData (t.wr f v) := h.trans ⟨rfl, rfl, rfl, rfl⟩

theorem raise (h : s.SameData t) (f : Fld) : s.SameData (t.raise f) := h.wr f 1

theorem foldl {α : Type} {f : State → α → State} (hf : ∀ (t : State) (x : α), t.SameData (f t x)) (l : List α) (s : State) :
    s.SameData (l.foldl f s) := by
  induction l generalizing s with
  | nil => exact refl s
  | cons x l ih => exact (hf s x).trans (ih _)

end State.SameData

section CheckFrame

variable (s : State)

theorem State.sameData_lastingCheck (site : Nat) : s.SameData (s.lastingCheck site) := by
  unfold State.lastingCheck
  split
  · split
    · exact .refl s
    · dsimp only
      split
      · exact ⟨rfl, rfl, rfl, rfl⟩
      · split <;> exact ⟨rfl, rfl, rfl, rfl⟩
  · exact ⟨rfl, rfl, rfl, rfl⟩

theorem State.sameData_logUe (site off : Nat) : s.SameData (s.logUe site off) := by
  unfold State.logUe
  split <;> exact ⟨rfl, rfl, rfl, rfl⟩

theorem State.sameData_reportCe (site k : Nat) : s.SameData (s.reportCe site k) :=
  (State.sameData_lastingCheck _ site).after ⟨rfl, rfl, rfl, rfl⟩

theorem State.sameData_reportUe (site off : Nat) : s.SameData (s.reportUe site off) :=
  (State.sameData_lastingCheck _ site).after ((State.sameData_logUe _ site off).after ⟨rfl, rfl, rfl, rfl⟩)

/-- A word of key storage that is read keeps its slot's bytes, whatever error it holds. -/
theorem State.sameData_readKeyWord (p w : Nat) : s.SameData (s.readKeyWord p w) := by
  unfold State.readKeyWord
  dsimp only
  split
  · exact .refl s
  · split
    · exact (State.sameData_reportCe _ 93 1).after ⟨rfl, rfl, rfl, rfl⟩
    · split
      · exact .refl s
      · exact (((State.SameData.refl s).raise _).wr _ _).trans (State.sameData_reportUe _ 93 w)

theorem State.sameData_wakePort (n : Nat) : s.SameData (s.wakePort n) := by
  unfold State.wakePort
  split
  · exact (State.SameData.refl s).wr _ _
  · exact .refl s

/-- The check of an access reads key words and sets flags. -/
theorem State.sameData_checkAccess (rq : Requester) (n a len : Nat) : s.SameData (s.checkAccess rq n a len).1 := by
  unfold State.checkAccess
  cases s.partOf n with
  | none => exact .refl s
  | some p =>
    have hread : s.SameData ((unitsOf a len).foldl (fun st u => match st.regionOf p n u with
        | some r => (st.readKeyWord p (16 + 64 * p + r)).readKeyWord p (2 * p + st.slotOfUnit p r u)
        | none => st) s) := by
      refine .foldl (fun t u => ?_) _ s
      cases t.regionOf p n u with
      | none => exact .refl t
      | some r => exact (t.sameData_readKeyWord p _).trans (State.sameData_readKeyWord _ p _)
    dsimp only
    split
    · exact hread.raise _
    · split
      · exact hread.raise _
      · exact hread

end CheckFrame

section Refused

variable {s : State} {rq : Requester} {n a : Nat}

theorem State.portWrite_of_refused {d : List Byte} (h : ((s.wakePort n).checkAccess rq n a d.length).2 = false) :
    s.portWrite rq n a d = (((s.wakePort n).checkAccess rq n a d.length).1, .refused) := by
  simp [State.portWrite, h]

theorem State.portRead_of_refused {len : Nat} (h : ((s.wakePort n).checkAccess rq n a len).2 = false) :
    s.portRead rq n a len = (((s.wakePort n).checkAccess rq n a len).1, .refused, []) := by
  simp [State.portRead, h]

end Refused

/-- Settles O31: a refused access ends in the state of its check, which touches no data. -/
theorem refusedPortAccess : Obligations.RefusedPortAccess := by
  intro rq n a d len s
  have hcheck (k : Nat) : s.SameData ((s.wakePort n).checkAccess rq n a k).1 :=
    (s.sameData_wakePort n).trans (State.sameData_checkAccess _ rq n a k)
  refine ⟨fun h => ?write, fun h => ?read⟩
  case write =>
    rw [State.portWrite_of_refused h]
    obtain ⟨hmem, hlathe, hout, hslot⟩ := hcheck d.length
    exact ⟨rfl, hmem, hlathe, hout, hslot⟩
  case read =>
    rw [State.portRead_of_refused h]
    obtain ⟨hmem, hlathe, hout, hslot⟩ := hcheck len
    exact ⟨rfl, rfl, hmem, hlathe, hout, hslot⟩

/-! PORT_ACCESS (R231, R246). -/

section PortAccess

variable {s : State} {rq : Requester} {n : Lathe} {a : BitVec 36} {len : Fin 16777216}

theorem exec_portAccess_of_down {d : Option (List Byte)} (h : s.portUp n = false) : exec (.portAccess rq n a len d) s = .next s := by
  change execPortAccess rq n a len d s = _
  exact if_pos (by rw [h]; rfl)

theorem exec_portAccess_of_write {d : List Byte} (h : s.portUp n = true) : exec (.portAccess rq n a len (some d)) s =
    .next ((s.portWrite rq n a.toNat d).1.send (.portDone ((s.portWrite rq n a.toNat d).2 = .ok) [])) := by
  change execPortAccess rq n a len (some d) s = _
  rw [execPortAccess, h]
  rfl

theorem exec_portAccess_of_read (h : s.portUp n = true) : exec (.portAccess rq n a len none) s =
    .next ((s.portRead rq n a.toNat len).1.send (.portDone ((s.portRead rq n a.toNat len).2.1 = .ok) (s.portRead rq n a.toNat len).2.2)) := by
  change execPortAccess rq n a len none s = _
  rw [execPortAccess, h]
  rfl

end PortAccess

/-! SRAM_SCRUB_WORD (R237). -/

section SramScrub

/-- The codewords that the scrubber of Lathe SRAM u reads next. -/
def State.lsramScrubSpan (s : State) (u : Nat) : List Nat := wordsOf (u * 2 ^ 24 + 64 * Cells.get 0 s.mem.scrubPos u) 64

/-- The corrections among those codewords are counted. -/
def State.lsramScrubCe (s : State) (u : Nat) : State := s.lsramCe u (fixable s.mem.lsramErr (s.lsramScrubSpan u))

/-- The codewords that scrubber u, 16 above the number of its way, reads next. -/
def State.wayScrubSpan (s : State) (u : Nat) : List Nat := wordsOf ((u - 16) * 2 ^ 22 + 128 * Cells.get 0 s.mem.scrubPos u) 128

/-- The corrections among those codewords are reported. -/
def State.wayScrubCe (s : State) (u : Nat) : State :=
  if fixable s.mem.wayErr (s.wayScrubSpan u) = 0 then s else s.reportCe (16 + (u - 16)) (fixable s.mem.wayErr (s.wayScrubSpan u))

variable {u : Fin 32} (s : State)

theorem exec_sramScrubWord_of_lathe (h : u.val < 16) : exec (.sramScrubWord u) s =
    .next (State.scrubLsram (caseOf (lostWord s.mem.lsramErr (s.lsramScrubSpan u)) (s.lsramScrubCe u)
      (fun w => (s.lsramScrubCe u).reportUe u (w * 8 - u.val * 2 ^ 24))) u ((Cells.get 0 s.mem.scrubPos u + 1) % (lsramSize / 64))
      (s.lsramScrubSpan u)) := by
  change execSramScrubWord u s = _
  exact if_pos h

theorem exec_sramScrubWord_of_way (h : 16 ≤ u.val) : exec (.sramScrubWord u) s =
    .next (State.scrubWay (caseOf (lostWord s.mem.wayErr (s.wayScrubSpan u)) (s.wayScrubCe u)
      (fun w => (s.wayScrubCe u).reportUe (16 + (u.val - 16)) (w * 8 - (u.val - 16) * 2 ^ 22))) u
      ((Cells.get 0 s.mem.scrubPos u + 1) % (waySize / 128)) (s.wayScrubSpan u)) := by
  change execSramScrubWord u s = _
  exact if_neg (Nat.not_lt.mpr h)

variable {s}

theorem exec_sramScrubWord_of_lathe_clean (h : u.val < 16) (hclean : lostWord s.mem.lsramErr (s.lsramScrubSpan u) = none) :
    exec (.sramScrubWord u) s =
      .next ((s.lsramScrubCe u).scrubLsram u ((Cells.get 0 s.mem.scrubPos u + 1) % (lsramSize / 64)) (s.lsramScrubSpan u)) := by
  rw [exec_sramScrubWord_of_lathe s h, hclean, caseOf]

theorem exec_sramScrubWord_of_lathe_lost (h : u.val < 16) {w : Nat} (hlost : lostWord s.mem.lsramErr (s.lsramScrubSpan u) = some w) :
    exec (.sramScrubWord u) s = .next (((s.lsramScrubCe u).reportUe u (w * 8 - u.val * 2 ^ 24)).scrubLsram u
      ((Cells.get 0 s.mem.scrubPos u + 1) % (lsramSize / 64)) (s.lsramScrubSpan u)) := by
  rw [exec_sramScrubWord_of_lathe s h, hlost, caseOf]

theorem exec_sramScrubWord_of_way_clean (h : 16 ≤ u.val) (hclean : lostWord s.mem.wayErr (s.wayScrubSpan u) = none) :
    exec (.sramScrubWord u) s =
      .next ((s.wayScrubCe u).scrubWay u ((Cells.get 0 s.mem.scrubPos u + 1) % (waySize / 128)) (s.wayScrubSpan u)) := by
  rw [exec_sramScrubWord_of_way s h, hclean, caseOf]

theorem exec_sramScrubWord_of_way_lost (h : 16 ≤ u.val) {w : Nat} (hlost : lostWord s.mem.wayErr (s.wayScrubSpan u) = some w) :
    exec (.sramScrubWord u) s = .next (((s.wayScrubCe u).reportUe (16 + (u.val - 16)) (w * 8 - (u.val - 16) * 2 ^ 22)).scrubWay u
      ((Cells.get 0 s.mem.scrubPos u + 1) % (waySize / 128)) (s.wayScrubSpan u)) := by
  rw [exec_sramScrubWord_of_way s h, hlost, caseOf]

end SramScrub

/-! PATROL_SCRUB_UNIT (R241, R242). -/

section Patrol

variable {n : Lathe} {s : State}

theorem exec_patrolScrubUnit_of_down (h : s.portUp n = false) : exec (.patrolScrubUnit n) s = .next s := by
  change execPatrolScrubUnit n s = _
  exact if_pos (by rw [h]; rfl)

/-- Unit u of port n as the patrol leaves it: reported when it is lost, else counted and written back corrected. -/
def State.patrolUnit (s : State) (n u : Nat) : State :=
  if s.unitLost (s.place n (u * 128)) then (s.reportLost n u (MEM_ERR_STAT.SCRUB_UE n)).memLost n u
  else { s.countFixes n u with mem := { (s.countFixes n u).mem with
    portErr := Cells.setList 0 (s.countFixes n u).mem.portErr (s.place n (u * 128) / 8) ((s.unitErrs (s.place n (u * 128))).map correctWord) } }

/-- The patrol of port n goes on behind unit u, or begins a new pass. -/
def State.patrolNext (s : State) (n u : Nat) : State :=
  if (u + 1) * 128 < s.portCap then s.wr (MEM_SCRUB_POS.UNIT n) (u + 1) else (s.wr (MEM_SCRUB_POS.UNIT n) 0).patrolWrap n

theorem exec_patrolScrubUnit_of_up (h : s.portUp n = true) : exec (.patrolScrubUnit n) s =
    .next (((s.wakePort n).patrolUnit n ((s.wakePort n).rd (MEM_SCRUB_POS.UNIT n))).patrolNext n ((s.wakePort n).rd (MEM_SCRUB_POS.UNIT n))) := by
  change execPatrolScrubUnit n s = _
  exact if_neg (by simp [h])

end Patrol

/-! RETIRE_BLOCK, MEM_RETIRE, RETIRE_COPY_DONE (R242). -/

section Retire

/-- The blocks `rest` of port n wait to be copied. -/
def State.setRetQueue (s : State) (n : Nat) (rest : List Nat) : State :=
  { s with mem := { s.mem with retQueue := Cells.set [] s.mem.retQueue n rest } }

/-- Block b of port n is being copied into spare j, which was drawn among the free ones. -/
def State.startCopy (s : State) (n b j : Nat) : State :=
  State.drew { s with mem := { s.mem with retCopy := Cells.set none s.mem.retCopy n (some (b, j)) } }

/-- Block b of port n stands in spare j, its codewords corrected, and is found there from now on. -/
def State.endCopy (s : State) (n b j : Nat) : State :=
  { s with mem := { s.mem with
      port := Cells.copy s.mem.port (n * 2 ^ 36 + b * 4096) (n * 2 ^ 36 + (s.portCap - 2 ^ 21 + j * 4096)) 4096
      sealedBy := Cells.copy s.mem.sealedBy ((n * 2 ^ 36 + b * 4096) / 128) ((n * 2 ^ 36 + (s.portCap - 2 ^ 21 + j * 4096)) / 128) 32
      portErr := Cells.setList 0 s.mem.portErr ((n * 2 ^ 36 + (s.portCap - 2 ^ 21 + j * 4096)) / 8)
        ((Cells.getList 0 s.mem.portErr ((n * 2 ^ 36 + b * 4096) / 8) 512).map correctWord)
      retCopy := Cells.set none s.mem.retCopy n none
      spare := Cells.set none s.mem.spare (n * 512 + j) (some b) } }

@[simp] theorem State.retCopy_startCopy (s : State) (n b j : Nat) : Cells.get none (s.startCopy n b j).mem.retCopy n = some (b, j) := by
  simp [State.startCopy, State.drew]

@[simp] theorem State.retCopy_endCopy (s : State) (n b j : Nat) : Cells.get none (s.endCopy n b j).mem.retCopy n = none := by
  simp [State.endCopy]

variable {n : Lathe} {s : State}

theorem exec_retireBlock_of_empty (h : Cells.get [] s.mem.retQueue n = []) : exec (.retireBlock n) s = .next s := by
  change execRetireBlock n s = _
  rw [execRetireBlock, h]

theorem exec_retireBlock_of_copying (h : (Cells.get none s.mem.retCopy n).isSome = true) : exec (.retireBlock n) s = .next s := by
  change execRetireBlock n s = _
  cases hq : Cells.get [] s.mem.retQueue n with
  | nil => exact exec_retireBlock_of_empty hq
  | cons b rest => simp only [execRetireBlock, hq, h, if_true]

section Waiting

variable {b : Nat} {rest : List Nat} (hqueue : Cells.get [] s.mem.retQueue n = b :: rest) (hcopy : Cells.get none s.mem.retCopy n = none)

include hqueue hcopy

theorem exec_retireBlock_of_no_spare (h : (s.setRetQueue n rest).freeSpares n = []) :
    exec (.retireBlock n) s = .next ((s.setRetQueue n rest).wr (MEM_ERR_STAT.RETIRE_FULL n) 1) := by
  rw [State.setRetQueue] at h
  change execRetireBlock n s = _
  simp only [execRetireBlock, hqueue, hcopy, h, Option.isSome_none, Bool.false_eq_true, if_false, List.getElem?_nil]
  rfl

/-- A free spare is drawn, whichever it is. -/
theorem exec_retireBlock_of_spare (h : (s.setRetQueue n rest).freeSpares n ≠ []) :
    ∃ j ∈ (s.setRetQueue n rest).freeSpares n, exec (.retireBlock n) s = .next ((s.setRetQueue n rest).startCopy n b j) := by
  have hdraw : (s.setRetQueue n rest).free % ((s.setRetQueue n rest).freeSpares n).length < ((s.setRetQueue n rest).freeSpares n).length :=
    Nat.mod_lt _ (List.length_pos_iff.mpr h)
  refine ⟨_, List.getElem_mem hdraw, ?_⟩
  have hj := List.getElem?_eq_getElem hdraw
  dsimp only [State.setRetQueue] at hj
  change execRetireBlock n s = _
  simp only [execRetireBlock, hqueue, hcopy, hj, Option.isSome_none, Bool.false_eq_true, if_false]
  rfl

end Waiting

theorem exec_memRetire (n : Lathe) (b : Fin 16777216) (s : State) : exec (.memRetire n b) s =
    .next (if s.rd (MEM_STAT.STATE n) ≠ 3 then s.wr (MEM_STAT.CFG_BUSY_WR n) 1 else s.queueRetire n b) := rfl

theorem exec_retireCopyDone_of_none (h : Cells.get none s.mem.retCopy n = none) : exec (.retireCopyDone n) s = .next s := by
  change execRetireCopyDone n s = _
  rw [execRetireCopyDone, h]

theorem exec_retireCopyDone_of_copy {b j : Nat} (h : Cells.get none s.mem.retCopy n = some (b, j)) : exec (.retireCopyDone n) s =
    .next (((s.endCopy n b j).wr (MEM_ERR_STAT.RETIRED n) 1).wr (MEM_STAT.SPARES_USED n) (s.rd (MEM_STAT.SPARES_USED n) + 1)) := by
  change execRetireCopyDone n s = _
  simp only [execRetireCopyDone, h]
  rfl

theorem retired_key_ne_sparesUsed (n : Nat) : (MEM_ERR_STAT.RETIRED n).key ≠ (MEM_STAT.SPARES_USED n).key := by
  simp only [MEM_ERR_STAT.RETIRED, MEM_STAT.SPARES_USED, Fld.key]
  omega

end Retire

/-- Settles O29: every clause is an equation of its command. -/
theorem portAccessesAndScrubs : Obligations.PortAccessesAndScrubs := by
  refine ⟨fun rq n a len d s h => exec_portAccess_of_down h, fun rq n a len d s h => exec_portAccess_of_write h,
    fun rq n a len s h => exec_portAccess_of_read h, fun u s h => ?lathe, fun u s h => ?way, fun n s h => exec_patrolScrubUnit_of_down h,
    fun n s h => exec_patrolScrubUnit_of_up h, fun n s h => h.elim exec_retireBlock_of_empty exec_retireBlock_of_copying,
    fun n b rest s hqueue hcopy => ?retire, fun n b s => ?queue, fun n s h => exec_retireCopyDone_of_none h, fun n b j s h => ?done⟩
  case lathe =>
    intro i ws s1
    exact ⟨fun hclean => exec_sramScrubWord_of_lathe_clean h hclean, fun w hlost => exec_sramScrubWord_of_lathe_lost h hlost⟩
  case way =>
    intro i ws s1
    exact ⟨fun hclean => exec_sramScrubWord_of_way_clean h hclean, fun w hlost => exec_sramScrubWord_of_way_lost h hlost⟩
  case retire =>
    intro s1
    refine ⟨fun hfull => exec_retireBlock_of_no_spare hqueue hcopy hfull, fun hfree => ?_⟩
    obtain ⟨j, hj, hexec⟩ := exec_retireBlock_of_spare hqueue hcopy hfree
    exact ⟨_, j, hexec, hj, State.retCopy_startCopy .., rfl, rfl, rfl, rfl⟩
  case queue =>
    rw [exec_memRetire]
    exact ⟨fun h => congrArg _ (if_pos h), fun h => congrArg _ (if_neg (not_not_intro h))⟩
  case done =>
    refine ⟨_, exec_retireCopyDone_of_copy h, rfl, State.retCopy_endCopy .., rfl, ?retired, State.rd_wr_self _ _ _, rfl, ?others⟩
    case retired =>
      rw [State.flag_wr_ne _ _ (retired_key_ne_sparesUsed n), State.flag, State.rd_wr_self]
      rfl
    case others =>
      intro f hretired hused
      rw [State.rd_wr_ne _ _ hused, State.rd_wr_ne _ _ hretired]
      rfl

end Sys2Proof.Machine
end

section
/-! PROOFS. The key engine: loads, rotations, sweeps and commits (08_memory.md). -/

namespace Sys2Proof.Machine
open Reg

/-! KEY_LOAD (R250, R258). -/

section KeyLoad

/-- A load into slot k of partition p is barred whatever its bytes are. -/
def State.LoadBarred (s : State) (p k : Nat) : Prop :=
  s.slotNamed p k = true ∨ (s.rd (KEY_PSTAT.STATE p) ≠ 0 ∧ s.rd (KEY_PSTAT.CURRENT p) ≠ k) ∨ s.flag KEY_ERR_STAT.KAT_FAIL = true

/-- The 64 bytes that a load takes from its operand. -/
def keyOperand (key : List Byte) : List Byte := (List.range 64).map (fun i => key.getD i 0)

variable {s : State} {p k : Nat} {key : List Byte}

theorem State.keyLoad_of_barred (h : s.LoadBarred p k) : s.keyLoad p k key = (s, 2) := by
  rw [State.LoadBarred] at h
  exact if_pos h

theorem State.keyLoad_of_equal_halves (hopen : ¬s.LoadBarred p k) (h : (keyOperand key).take 32 = (keyOperand key).drop 32) :
    s.keyLoad p k key = (s, 4) := by
  rw [State.LoadBarred] at hopen
  exact (if_neg hopen).trans (if_pos h)

theorem State.keyLoad_of_accepted (hopen : ¬s.LoadBarred p k) (h : (keyOperand key).take 32 ≠ (keyOperand key).drop 32) :
    s.keyLoad p k key = (s.keyPut p k (keyOperand key), 0) := by
  rw [State.LoadBarred] at hopen
  exact (if_neg hopen).trans (if_neg h)

theorem exec_keyLoad (p : Part) (k : Fin 2) (key : List Byte) (s : State) : exec (.keyLoad p k key) s = .next (s.keyLoad p k key).1 := rfl

/-- A word of key storage that is written changes registers and stored errors. -/
theorem State.writeKeyWord_eta (s : State) (w : Nat) : s.writeKeyWord w =
    { s with regs := (s.writeKeyWord w).regs, keys := { s.keys with slotErr := (s.writeKeyWord w).keys.slotErr } } := by
  unfold State.writeKeyWord
  dsimp only
  split
  · rfl
  · split <;> rfl

/-- 64 bytes put into a slot change registers, that slot's bytes and stored errors. -/
theorem State.keyPut_eta (s : State) (p k : Nat) (b : List Byte) : s.keyPut p k b = { s with
    regs := (s.keyPut p k b).regs
    keys := { s.keys with
      slot := Cells.set (List.replicate 64 0) s.keys.slot (2 * p + k) b, slotErr := (s.keyPut p k b).keys.slotErr } } := by
  rw [State.keyPut, State.writeKeyWord_eta]
  rfl

theorem State.keyBytes_keyPut_self (s : State) (p k : Nat) (b : List Byte) : (s.keyPut p k b).keyBytes p k = b := by
  rw [State.keyPut_eta, State.keyBytes, Cells.get_set_self]

theorem State.keyBytes_keyPut_ne (s : State) {p k q j : Nat} (b : List Byte) (h : 2 * q + j ≠ 2 * p + k) :
    (s.keyPut p k b).keyBytes q j = s.keyBytes q j := by
  rw [State.keyPut_eta, State.keyBytes, Cells.get_set_ne _ _ _ _ h, State.keyBytes]

end KeyLoad

/-! KEY_ROTATE_START (R252, R255). -/

section RotateStart

variable {s : State} {p : Nat}

theorem State.sweepsDone_of_sweeping (h : (s.validRegions p).any (fun r => s.flag (KEY_RGN_STAT.SWEEPING p r)) = true) : s.sweepsDone p = s :=
  if_pos h

theorem State.sweepsDone_of_swept (h : (s.validRegions p).any (fun r => s.flag (KEY_RGN_STAT.SWEEPING p r)) = false) :
    s.sweepsDone p = s.wr (KEY_PSTAT.STATE p) 2 :=
  if_neg (Bool.eq_false_iff.mp h)

/-- The slot that a rotation of partition p would make current. -/
def State.otherSlot (s : State) (p : Nat) : Nat := 1 - s.rd (KEY_PSTAT.CURRENT p)

/-- Every valid region of partition p is swept from its first unit toward key slot k. -/
def State.startSweeps (s : State) (p k : Nat) : State :=
  (s.validRegions p).foldl (fun st r =>
    ((st.wr (KEY_RGN_STAT.NEW_SLOT p r) k).wr (KEY_RGN_STAT.SWEEPING p r) 1).wr (KEY_RGN_WM.UNIT p r) (st.inEff (KEY_RGN_BASE.BASE p r) * 2 ^ 14)) s

theorem State.rotateStart_of_rotating (h : s.rd (KEY_PSTAT.STATE p) ≠ 0) : s.rotateStart p = (s.wr (KEY_PSTAT.CFG_BUSY_WR p) 1, false) :=
  if_pos h

variable (hidle : s.rd (KEY_PSTAT.STATE p) = 0)

include hidle

theorem State.rotateStart_of_mismatch
    (h : s.inEff (PLT_LIMITS.PORT_RES p) < s.inEff (KEY_PCFG.SWEEP_SHARE p) ∨ s.flag (KEY_LOADED p (s.otherSlot p)) = false) :
    s.rotateStart p = (s.wr (KEY_PSTAT.CFG_MISMATCH p) 1, false) :=
  (if_neg (not_not_intro hidle)).trans (if_pos (by simpa [State.otherSlot] using h))

theorem State.rotateStart_of_accepted (hshare : s.inEff (KEY_PCFG.SWEEP_SHARE p) ≤ s.inEff (PLT_LIMITS.PORT_RES p))
    (hloaded : s.flag (KEY_LOADED p (s.otherSlot p)) = true) : s.rotateStart p =
      ((((s.startSweeps p (s.otherSlot p)).wr (KEY_PSTAT.CURRENT p) (s.otherSlot p)).wr (KEY_PSTAT.STATE p) 1).sweepsDone p, true) :=
  (if_neg (not_not_intro hidle)).trans (if_neg (by rw [State.otherSlot] at hloaded; simp [hloaded, hshare]))

end RotateStart

theorem exec_keyRotateStart (p : Part) (s : State) : exec (.keyRotateStart p) s = .next (s.rotateStart p).1 := rfl

/-! ROTATION_SWEEP_UNIT (R252, R253, R256, R258). -/

section Sweep

/-- The key words that the sweep of region r of partition p reads: the region's and both slots'. -/
def State.readSweepWords (s : State) (p r : Nat) : State :=
  ((s.readKeyWord p (16 + 64 * p + r)).readKeyWord p (2 * p)).readKeyWord p (2 * p + 1)

/-- Unit u of port n, in region r of partition p, stands under the region's new key: its own bytes, or zeros when it is lost. -/
def State.rekeyUnit (s : State) (n p r u : Nat) : State :=
  if s.unitLost (s.place n (u * 128)) then
    (((s.reportLost n u (MEM_ERR_STAT.UE n)).storeUnit n u (some (s.keyBytes p (s.rd (KEY_RGN_STAT.NEW_SLOT p r)))) (List.replicate 128 0)).bump
      (KEY_LOST.UNITS p) 1).memLost n u
  else (s.countFixes n u).storeUnit n u (some (s.keyBytes p (s.rd (KEY_RGN_STAT.NEW_SLOT p r))))
    ((s.countFixes n u).viewUnit n u (some ((s.countFixes n u).keyBytes p ((s.countFixes n u).rd (KEY_RGN_STAT.SLOT p r)))))

/-- The watermark of region r of partition p passes unit u of port n; behind the region's last unit the sweep ends at key slot k. -/
def State.passUnit (s : State) (n p r u k : Nat) : State :=
  if u + 1 < ((s.injectUnit n u).wr (KEY_RGN_WM.UNIT p r) (u + 1)).regionTop p r then (s.injectUnit n u).wr (KEY_RGN_WM.UNIT p r) (u + 1)
  else ((((s.injectUnit n u).wr (KEY_RGN_WM.UNIT p r) (u + 1)).wr (KEY_RGN_STAT.SLOT p r) k).wr (KEY_RGN_STAT.SWEEPING p r) 0).sweepsDone p

variable {n : Lathe} {s : State}

theorem exec_rotationSweepUnit_of_unassigned (h : s.partOf n = none) : exec (.rotationSweepUnit n) s = .next s := by
  change execRotationSweepUnit n s = _
  rw [execRotationSweepUnit, h]

variable {p : Nat} (hpart : s.partOf n = some p)

include hpart

theorem exec_rotationSweepUnit_of_idle (h : s.rd (KEY_PSTAT.STATE p) ≠ 1 ∨ s.sweepRegion p n = none) :
    exec (.rotationSweepUnit n) s = .next s := by
  change execRotationSweepUnit n s = _
  simp only [execRotationSweepUnit, hpart]
  by_cases hstate : s.rd (KEY_PSTAT.STATE p) ≠ 1
  · exact if_pos hstate
  · rw [if_neg hstate, h.resolve_left hstate]

variable {r : Nat} (hstate : s.rd (KEY_PSTAT.STATE p) = 1) (hregion : s.sweepRegion p n = some r)

include hstate hregion

theorem exec_rotationSweepUnit_of_fault (h : (s.readSweepWords p r).keyFault p = true) :
    exec (.rotationSweepUnit n) s = .next (s.readSweepWords p r) := by
  change execRotationSweepUnit n s = _
  simp only [execRotationSweepUnit, hpart, hregion, if_neg (not_not_intro hstate)]
  exact if_pos h

theorem exec_rotationSweepUnit_of_sound (h : (s.readSweepWords p r).keyFault p = false) : exec (.rotationSweepUnit n) s =
    .next (((s.readSweepWords p r).rekeyUnit n p r ((s.readSweepWords p r).rd (KEY_RGN_WM.UNIT p r))).passUnit n p r
      ((s.readSweepWords p r).rd (KEY_RGN_WM.UNIT p r)) ((s.readSweepWords p r).rd (KEY_RGN_STAT.NEW_SLOT p r))) := by
  change execRotationSweepUnit n s = _
  simp only [execRotationSweepUnit, hpart, hregion, if_neg (not_not_intro hstate)]
  exact if_neg (Bool.eq_false_iff.mp h)

end Sweep

/-! ROTATION_DRAIN_DONE (R252, R254). -/

theorem State.keyBytes_destroySlot_self (s : State) (p k : Nat) : (s.destroySlot p k).keyBytes p k = List.replicate 64 0 := by
  simp [State.destroySlot, State.keyBytes]

theorem exec_rotationDrainDone_of_other {p : Part} {s : State} (h : s.rd (KEY_PSTAT.STATE p) ≠ 2) :
    exec (.rotationDrainDone p) s = .next s := by
  change execRotationDrainDone p s = _
  exact congrArg _ (if_neg h)

theorem exec_rotationDrainDone_of_draining {p : Part} {s : State} (h : s.rd (KEY_PSTAT.STATE p) = 2) :
    exec (.rotationDrainDone p) s = .next ((s.destroySlot p (s.otherSlot p)).wr (KEY_PSTAT.STATE p) 0) := by
  change execRotationDrainDone p s = _
  exact congrArg _ (if_pos h)

/-! KEY_PCOMMIT (R255, R260). -/

section KeyCommit

variable {p : Part} {en : Bool} {s : State}

theorem exec_keyPcommit_of_no_commit (p : Part) (en : Bool) (s : State) : exec (.keyPcommit p false en) s = .next s := rfl

theorem exec_keyPcommit_of_busy (h : s.tearing p = true ∨ s.rd (KEY_PSTAT.STATE p) ≠ 0) :
    exec (.keyPcommit p true en) s = .next (s.wr (KEY_PSTAT.CFG_BUSY_WR p) 1) := by
  change execKeyPcommit p true en s = _
  exact congrArg _ (if_pos h)

variable (halive : s.tearing p = false) (hkeys : s.rd (KEY_PSTAT.STATE p) = 0)

include halive hkeys

theorem exec_keyPcommit_of_idle (h : s.stepRuns p = false) : exec (.keyPcommit p true en) s = .next (s.keyCheckApply p en) := by
  change execKeyPcommit p true en s = _
  simp [execKeyPcommit, halive, hkeys, h]

variable (hrun : s.stepRuns p = true)

include hrun

theorem exec_keyPcommit_of_failing {k : Nat} (h : failingRule (s.keyRules p) = some k) :
    exec (.keyPcommit p true en) s = .next ((s.wr (KEY_PSTAT.CFG_MISMATCH p) 1).wr (KEY_PSTAT.CFG_RULE p) k) := by
  change execKeyPcommit p true en s = _
  simp [execKeyPcommit, halive, hkeys, hrun, h, State.raise]

theorem exec_keyPcommit_of_passing (h : failingRule (s.keyRules p) = none) : exec (.keyPcommit p true en) s =
    .next (({ s with keys := { s.keys with staged := Cells.set none s.keys.staged p (some (b2n en)) } }).wr (KEY_PSTAT.PENDING p) 1) := by
  change execKeyPcommit p true en s = _
  simp [execKeyPcommit, halive, hkeys, hrun, h]

end KeyCommit

/-- Settles O30: every clause is an equation of its command, and a load that is accepted stands in its slot alone. -/
theorem keysAndRotation : Obligations.KeysAndRotation := by
  refine ⟨fun p k key s => ?load, fun p s h => ?rotating, fun p s => ?rotate,
    fun p s => ⟨State.sweepsDone_of_sweeping, State.sweepsDone_of_swept⟩, fun n s h => exec_rotationSweepUnit_of_unassigned h,
    fun n p s hpart h => exec_rotationSweepUnit_of_idle hpart h, fun n p r s hpart hstate hregion => ?sweep,
    fun p s h => exec_rotationDrainDone_of_other h, fun p s h => ?drain, exec_keyPcommit_of_no_commit,
    fun p en s h => exec_keyPcommit_of_busy h, fun p en s halive hkeys hidle => ?commit,
    fun p en s halive hkeys hrun => ⟨fun k h => exec_keyPcommit_of_failing halive hkeys hrun h,
      fun h => exec_keyPcommit_of_passing halive hkeys hrun h⟩⟩
  case load =>
    intro b
    rw [exec_keyLoad]
    refine ⟨fun h => ?refused, fun hnamed hcurrent hkat hhalves => ?accepted⟩
    case refused =>
      by_cases hbar : s.LoadBarred p k
      · rw [State.keyLoad_of_barred hbar]
      · have hhalves : b.take 32 = b.drop 32 := by
          obtain hnamed | hleaving | hkat | hhalves := h
          · exact absurd (.inl hnamed) hbar
          · exact absurd (.inr (.inl hleaving)) hbar
          · exact absurd (.inr (.inr hkat)) hbar
          · exact hhalves
        rw [State.keyLoad_of_equal_halves hbar hhalves]
    case accepted =>
      have hopen : ¬s.LoadBarred p k := by
        rintro (hn | ⟨hstate, hother⟩ | hk)
        · exact Bool.eq_false_iff.mp hnamed hn
        · exact hcurrent.elim hstate hother
        · exact Bool.eq_false_iff.mp hkat hk
      rw [State.keyLoad_of_accepted hopen hhalves]
      refine ⟨_, rfl, State.keyBytes_keyPut_self .., fun q j h => State.keyBytes_keyPut_ne _ _ h, ?frame, ?staged⟩
      all_goals rw [State.keyPut_eta]
  case rotating => rw [exec_keyRotateStart, State.rotateStart_of_rotating h]
  case rotate =>
    intro new hidle
    rw [exec_keyRotateStart]
    refine ⟨fun h => ?mismatch, fun hshare hloaded => ?accepted⟩
    case mismatch => rw [State.rotateStart_of_mismatch hidle h]
    case accepted =>
      rw [State.rotateStart_of_accepted hidle hshare hloaded]
      rfl
  case sweep =>
    intro s0 u new
    exact ⟨fun hfault => exec_rotationSweepUnit_of_fault hpart hstate hregion hfault,
      fun hsound => exec_rotationSweepUnit_of_sound hpart hstate hregion hsound⟩
  case drain =>
    exact ⟨_, exec_rotationDrainDone_of_draining h, State.keyBytes_destroySlot_self .., State.rd_wr_self _ _ _, rfl⟩
  case commit =>
    rw [exec_keyPcommit_of_idle halive hkeys hidle, State.keyCheckApply]
    cases failingRule (s.keyRules p) <;> rfl

end Sys2Proof.Machine
end

section
/-! PROOFS. The arbiters of the shared points (09_dma_arbiters.md): who has a claim on a slot, who is granted it, and what a commit stages. -/

namespace Sys2Proof.Machine
open Reg

/-! Arbiter records and registers. -/

@[simp] theorem State.arbOf_setArb_self (s : State) (i : Nat) (x : ArbSt) : (s.setArb i x).arbOf i = x :=
  Cells.get_set_self _ _ _ _

theorem arbPend_key_ne (i : Nat) :
    (ARB_PEND.REQ i).key ≠ (ARB_STAT.OWNED i).key ∧ (ARB_PEND.REQ i).key ≠ (ARB_STAT.OWNER i).key ∧
      (ARB_PEND.REQ i).key ≠ (ARB_EVENTS.FORCED i).key ∧ (ARB_PEND.REQ i).key ≠ (ARB_EVENTS.PREEMPTS i).key := by
  simp only [ARB_PEND.REQ, ARB_STAT.OWNED, ARB_STAT.OWNER, ARB_EVENTS.FORCED, ARB_EVENTS.PREEMPTS, Fld.key]
  omega

theorem arbOwned_key_ne (i : Nat) : (ARB_STAT.OWNED i).key ≠ (ARB_STAT.OWNER i).key ∧
    (ARB_STAT.OWNED i).key ≠ (ARB_EVENTS.FORCED i).key ∧ (ARB_STAT.OWNED i).key ≠ (ARB_EVENTS.PREEMPTS i).key := by
  simp only [ARB_STAT.OWNED, ARB_STAT.OWNER, ARB_EVENTS.FORCED, ARB_EVENTS.PREEMPTS, Fld.key]
  omega

theorem arbOwner_key_ne (i : Nat) :
    (ARB_STAT.OWNER i).key ≠ (ARB_EVENTS.FORCED i).key ∧ (ARB_STAT.OWNER i).key ≠ (ARB_EVENTS.PREEMPTS i).key := by
  simp only [ARB_STAT.OWNER, ARB_EVENTS.FORCED, ARB_EVENTS.PREEMPTS, Fld.key]
  omega

/-- Every requester number fits the width of OWNER. -/
theorem arbNums_le (i : Nat) : arbNums i ≤ 32 := by
  unfold arbNums arbReqs
  repeat' split
  all_goals decide

/-! A waiting commit takes effect (R288). -/

/-- From s to t only registers, values in effect and the arbiters' own records may differ. -/
def State.ArbFrame (s t : State) : Prop := t = { s with regs := t.regs, eff := t.eff, arb := t.arb }

theorem State.ArbFrame.trans {s t u : State} (h : s.ArbFrame t) (h' : t.ArbFrame u) : s.ArbFrame u := by
  unfold State.ArbFrame at h h'
  rw [h] at h'
  exact h'

theorem State.ArbFrame.foldl {α : Type} {f : State → α → State} (hf : ∀ (s : State) (x : α), s.ArbFrame (f s x)) (l : List α) (s : State) :
    s.ArbFrame (l.foldl f s) := by
  induction l generalizing s with
  | nil => rfl
  | cons x l ih => exact (hf s x).trans (ih (f s x))

theorem State.arbFrame_arbApply (s : State) (i : Nat) : s.ArbFrame (s.arbApply i) := by
  unfold State.arbApply
  cases (s.arbOf i).staged with
  | none => rfl
  | some l =>
    have hstage : s.ArbFrame (s.setArb i { s.arbOf i with staged := none }) := rfl
    refine hstage.trans (.foldl (fun t x => ?_) _ _)
    rfl

/-! Round robin and the lowest class. -/

theorem roundRobin_mem {last r : Nat} {l : List Nat} (h : roundRobin last l = some r) : r ∈ l := by
  unfold roundRobin at h
  cases hf : l.find? (fun r => last < r) with
  | some q =>
    rw [hf] at h
    exact Option.some.inj h ▸ List.mem_of_find?_eq_some hf
  | none =>
    rw [hf] at h
    exact List.mem_of_head? h

theorem roundRobin_of_ne_nil (last : Nat) {l : List Nat} (h : l ≠ []) : ∃ r ∈ l, roundRobin last l = some r := by
  cases hr : roundRobin last l with
  | some r => exact ⟨r, roundRobin_mem hr, rfl⟩
  | none =>
    unfold roundRobin at hr
    split at hr
    · cases hr
    · exact absurd (List.head?_eq_none_iff.mp hr) h

/-- The running minimum from `top` is below every value, and somebody attains it when no value exceeds `top`. -/
theorem foldl_min_le_and_attained (cls : Nat → Nat) (top : Nat) (l : List Nat) :
    (∀ r ∈ l, l.foldl (fun m r => min m (cls r)) top ≤ cls r) ∧
      (l ≠ [] → (∀ r ∈ l, cls r ≤ top) → l.filter (fun r => cls r = l.foldl (fun m r => min m (cls r)) top) ≠ []) := by
  have hmin : (top :: l.map cls).min? = some (l.foldl (fun m r => min m (cls r)) top) := by
    rw [List.min?_cons', List.foldl_map]
  obtain ⟨hmem, hle⟩ := List.min?_eq_some_iff.mp hmin
  have hbelow (r : Nat) (hr : r ∈ l) : l.foldl (fun m r => min m (cls r)) top ≤ cls r :=
    hle _ (List.mem_cons_of_mem _ (List.mem_map_of_mem hr))
  refine ⟨hbelow, fun hne htop => ?_⟩
  obtain ⟨r, hr, hattains⟩ : ∃ r ∈ l, cls r = l.foldl (fun m r => min m (cls r)) top := by
    obtain hlow | hlow := List.mem_cons.mp hmem
    · obtain ⟨r, hr⟩ := List.exists_mem_of_ne_nil l hne
      exact ⟨r, hr, Nat.le_antisymm (Nat.le_trans (htop r hr) (Nat.le_of_eq hlow.symm)) (hbelow r hr)⟩
    · exact List.mem_map.mp hlow
  exact List.ne_nil_of_mem (List.mem_filter.mpr ⟨hr, decide_eq_true hattains⟩)

/-! A decision (R284, R285, R287). -/

/-- The pending requesters: those that ask, are not masked and have credit. -/
def State.arbPending (s : State) (i : Nat) (slots : List Nat) : List Nat :=
  (List.range (arbNums i)).filter (fun r =>
    0 < slots.getD r 0 && !neverRequests i r && !s.arbMasked i r && (s.arbRate i r = 0 || 1024 ≤ s.arbCredit i r))

/-- Those whose wait has reached LIMIT. -/
def State.arbForced (s : State) (i : Nat) (pend : List Nat) : List Nat :=
  pend.filter (fun r => s.inEff (ARB_REQ.LIMIT i r) ≤ Cells.get 0 (s.arbOf i).wait r)

/-- Whom arbiter i may grant a slot among `pend`: nobody when nobody is pending, a forced requester when there is one, else one of the
lowest class. -/
inductive State.ArbGrants (s : State) (i : Nat) (pend : List Nat) : Option Nat → Prop where
  | nobody (h : pend = []) : ArbGrants s i pend none
  | forced {w : Nat} (h : w ∈ s.arbForced i pend) : ArbGrants s i pend (some w)
  | best {w : Nat} (hf : s.arbForced i pend = []) (hw : w ∈ pend)
      (hle : ∀ r ∈ pend, s.inEff (ARB_REQ.CLASS i w) ≤ s.inEff (ARB_REQ.CLASS i r)) : ArbGrants s i pend (some w)

/-- The events of a decision counted: a forced grant, a preempted owner. -/
def State.arbCount (s : State) (i : Nat) (forced preempts : Bool) : State :=
  let s1 := if forced then s.bump (ARB_EVENTS.FORCED i) 1 else s
  if preempts then s1.bump (ARB_EVENTS.PREEMPTS i) 1 else s1

/-- What a decision for `winner` leaves, the arbiter's own record being `x`. -/
def State.arbGranted (s : State) (i : Nat) (pend : List Nat) (winner : Option Nat) (x : ArbSt) (forced preempts : Bool) : State :=
  let s1 := s.wr (ARB_PEND.REQ i) (pend.foldl (fun w r => w + 2 ^ r) 0)
  match winner with
  | none => (s1.wr (ARB_STAT.OWNED i) 0).setArb i x
  | some w => (((s1.wr (ARB_STAT.OWNED i) 1).wr (ARB_STAT.OWNER i) w).setArb i x).arbCount i forced preempts

section Decision

variable {s : State} {i : Nat} {pend : List Nat}

theorem State.lt_of_mem_arbPending {slots : List Nat} {r : Nat} (h : r ∈ s.arbPending i slots) : r < 32 :=
  Nat.lt_of_lt_of_le (List.mem_range.mp (List.mem_filter.mp h).1) (arbNums_le i)

theorem State.ArbGrants.eq_nil (h : s.ArbGrants i pend none) : pend = [] := by
  cases h with
  | nobody h => exact h

theorem State.ArbGrants.mem {w : Nat} (h : s.ArbGrants i pend (some w)) : w ∈ pend := by
  cases h with
  | forced h => exact (List.mem_filter.mp h).1
  | best _ hw _ => exact hw

theorem State.ArbGrants.mem_forced {w : Nat} (h : s.ArbGrants i pend (some w)) (hf : s.arbForced i pend ≠ []) : w ∈ s.arbForced i pend := by
  cases h with
  | forced h => exact h
  | best hnone _ _ => exact absurd hnone hf

theorem State.ArbGrants.class_le {w : Nat} (h : s.ArbGrants i pend (some w)) (hf : s.arbForced i pend = []) :
    ∀ r ∈ pend, s.inEff (ARB_REQ.CLASS i w) ≤ s.inEff (ARB_REQ.CLASS i r) := by
  cases h with
  | forced h => exact absurd hf (List.ne_nil_of_mem h)
  | best _ _ hle => exact hle

/-- Counting events leaves every other field of the arbiter as it was. -/
theorem State.rd_arbCount_ne {f : Fld} (hf : f.key ≠ (ARB_EVENTS.FORCED i).key) (hp : f.key ≠ (ARB_EVENTS.PREEMPTS i).key)
    (forced preempts : Bool) : (s.arbCount i forced preempts).rd f = s.rd f := by
  cases forced <;> cases preempts <;> simp [State.arbCount, State.rd_bump_ne, hf, hp]

/-- The owner of an earlier slot that is pending still, with nobody forced and nobody of a better class, may be granted this one too. -/
theorem State.ArbGrants.of_kept {mine : Prop} [Decidable mine] {o w : Nat} (howner : (if mine ∧ pend.contains o then some o else none) = some w)
    (hkept : ((s.arbForced i pend).isEmpty && pend.all (fun r => s.inEff (ARB_REQ.CLASS i w) ≤ s.inEff (ARB_REQ.CLASS i r))) = true) :
    s.ArbGrants i pend (some w) := by
  rw [Option.ite_none_right_eq_some, Option.some_inj, List.contains_iff_mem] at howner
  obtain ⟨⟨-, hmem⟩, rfl⟩ := howner
  simp only [Bool.and_eq_true, List.isEmpty_iff, List.all_eq_true, decide_eq_true_eq] at hkept
  exact .best hkept.1 hmem hkept.2

theorem State.ArbGrants.of_roundRobin_forced (last : Nat) (h : s.arbForced i pend ≠ []) :
    s.ArbGrants i pend (roundRobin last (s.arbForced i pend)) := by
  obtain ⟨w, hw, hrr⟩ := roundRobin_of_ne_nil last h
  exact hrr ▸ .forced hw

theorem State.ArbGrants.of_roundRobin_lowest (last : Nat) (hf : s.arbForced i pend = []) (hcls : ∀ r ∈ pend, s.inEff (ARB_REQ.CLASS i r) ≤ 3) :
    s.ArbGrants i pend (roundRobin last
      (pend.filter (fun r => s.inEff (ARB_REQ.CLASS i r) = pend.foldl (fun m r => min m (s.inEff (ARB_REQ.CLASS i r))) 3))) := by
  obtain ⟨hlow, hlowest⟩ := foldl_min_le_and_attained (fun r => s.inEff (ARB_REQ.CLASS i r)) 3 pend
  by_cases hnone : pend = []
  · subst hnone
    exact .nobody rfl
  · obtain ⟨w, hmem, hrr⟩ := roundRobin_of_ne_nil last (hlowest hnone hcls)
    obtain ⟨hw, hbest⟩ := List.mem_filter.mp hmem
    exact hrr ▸ .best hf hw fun q hq => Nat.le_trans (Nat.le_of_eq (of_decide_eq_true hbest)) (hlow q hq)

end Decision

/-- The model tests masks and credits through lists over all requesters. -/
theorem State.arbPending_eq (s : State) (i : Nat) (slots : List Nat) :
    (List.range (arbNums i)).filter (fun r => 0 < slots.getD r 0 && !neverRequests i r &&
      !((List.range (arbNums i)).filter (fun r => s.arbMasked i r)).contains r &&
      (s.arbRate i r = 0 || 1024 ≤ ((List.range (arbNums i)).map (fun r => s.arbCredit i r)).getD r 0)) = s.arbPending i slots := by
  refine List.filter_congr fun r hr => ?_
  have hmask : ((List.range (arbNums i)).filter (fun r => s.arbMasked i r)).contains r = s.arbMasked i r := by
    rw [Bool.eq_iff_iff, List.contains_iff_mem, List.mem_filter, and_iff_right hr]
  have hcredit : ((List.range (arbNums i)).map (fun r => s.arbCredit i r)).getD r 0 = s.arbCredit i r := by
    simp [List.getD, List.mem_range.mp hr]
  rw [hmask, hcredit]

/-- What a decision does: somebody whom the arbiter may grant the slot is granted it, on the settings that the decision takes into effect. -/
theorem execArbDecision_next {i : Fin 52} {slots : List Nat} {s : State} {n : Next} (h : execArbDecision i slots s = n)
    (hcls : ∀ r ∈ (s.arbApply i).arbPending i slots, (s.arbApply i).inEff (ARB_REQ.CLASS i r) ≤ 3) :
    ∃ winner x forced preempts, (s.arbApply i).ArbGrants i ((s.arbApply i).arbPending i slots) winner ∧
      n = .next ((s.arbApply i).arbGranted i ((s.arbApply i).arbPending i slots) winner x forced preempts) := by
  unfold execArbDecision at h
  extract_lets s0 x rs masked credits pend forced cls owner kept low winner at h
  have hpend : pend = s0.arbPending i slots := s0.arbPending_eq i slots
  rw [← hpend] at hcls ⊢
  have hgrant : s0.ArbGrants i pend winner := by
    cases hkept : kept with
    | true =>
      have hw : winner = owner := by simp [winner, hkept]
      rw [hw]
      cases howner : owner with
      | none => simp [kept, howner] at hkept
      | some o =>
        simp only [kept, howner] at hkept
        simp only [owner, ← and_assoc] at howner
        exact .of_kept howner hkept
    | false =>
      by_cases hforced : forced = []
      · have hw : winner = roundRobin (x.lastWin.getD low 31) (pend.filter (fun r => cls r = low)) := by simp [winner, hkept, hforced]
        exact hw ▸ .of_roundRobin_lowest _ hforced hcls
      · have hw : winner = roundRobin x.lastForced forced := by simp [winner, hkept, hforced]
        exact hw ▸ .of_roundRobin_forced _ hforced
  refine ⟨winner, ?_⟩
  clear_value winner
  cases winner with
  | none => exact ⟨_, false, false, hgrant, h.symm⟩
  | some w => exact ⟨_, _, _, hgrant, h.symm⟩

/-! The state after a decision. -/

theorem State.arbFrame_arbGranted (s : State) (i : Nat) (pend : List Nat) (winner : Option Nat) (x : ArbSt) (forced preempts : Bool) :
    s.ArbFrame (s.arbGranted i pend winner x forced preempts) := by
  cases winner with
  | none => rfl
  | some w => cases forced <;> cases preempts <;> rfl

theorem State.rd_pend_arbGranted (s : State) (i : Nat) (pend : List Nat) (winner : Option Nat) (x : ArbSt) (forced preempts : Bool) :
    (s.arbGranted i pend winner x forced preempts).rd (ARB_PEND.REQ i) = (pend.foldl (fun w r => w + 2 ^ r) 0) % 2 ^ 32 := by
  obtain ⟨howned, howner, hforced, hpreempts⟩ := arbPend_key_ne i
  cases winner with
  | none => rw [State.arbGranted, State.setArb_rd, State.rd_wr_ne _ _ howned, State.rd_wr_self]; rfl
  | some w =>
    rw [State.arbGranted, State.rd_arbCount_ne hforced hpreempts, State.setArb_rd, State.rd_wr_ne _ _ howner, State.rd_wr_ne _ _ howned,
      State.rd_wr_self]
    rfl

theorem State.flag_owned_arbGranted (s : State) (i : Nat) (pend : List Nat) (winner : Option Nat) (x : ArbSt) (forced preempts : Bool) :
    (s.arbGranted i pend winner x forced preempts).flag (ARB_STAT.OWNED i) = winner.isSome := by
  obtain ⟨howner, hforced, hpreempts⟩ := arbOwned_key_ne i
  cases winner with
  | none => rw [State.flag, State.arbGranted, State.setArb_rd, State.rd_wr_self]; rfl
  | some w =>
    rw [State.flag, State.arbGranted, State.rd_arbCount_ne hforced hpreempts, State.setArb_rd, State.rd_wr_ne _ _ howner, State.rd_wr_self]
    rfl

theorem State.rd_owner_arbGranted (s : State) (i : Nat) (pend : List Nat) {w : Nat} (hw : w < 32) (x : ArbSt) (forced preempts : Bool) :
    (s.arbGranted i pend (some w) x forced preempts).rd (ARB_STAT.OWNER i) = w := by
  obtain ⟨hforced, hpreempts⟩ := arbOwner_key_ne i
  rw [State.arbGranted, State.rd_arbCount_ne hforced hpreempts, State.setArb_rd, State.rd_wr_self]
  exact Nat.mod_eq_of_lt hw

/-- Settles O35: the decision grants the slot to somebody whom `State.ArbGrants` admits. -/
theorem arbiterDecides : Obligations.ArbiterDecides := by
  intro i slots s s0 pend forced hcls
  obtain ⟨winner, x, byForce, preempts, hgrant, hnext⟩ := execArbDecision_next (n := exec (.arbDecision i slots) s) rfl hcls
  refine ⟨_, hnext, (s.arbFrame_arbApply i).trans (State.arbFrame_arbGranted ..), State.rd_pend_arbGranted .., ?_⟩
  rw [State.flag_owned_arbGranted]
  cases winner with
  | none => exact ⟨fun _ => rfl, fun hsome => absurd hgrant.eq_nil hsome⟩
  | some w =>
    rw [State.rd_owner_arbGranted _ _ _ (State.lt_of_mem_arbPending hgrant.mem)]
    exact ⟨fun hnone => absurd hnone (List.ne_nil_of_mem hgrant.mem), fun _ => ⟨rfl, hgrant.mem, hgrant.mem_forced, hgrant.class_le⟩⟩

/-! ARB_COMMIT (R288). -/

section Commit

variable {i : Fin 52} {s : State}

theorem exec_arbCommit_of_failing {k : Nat} (h : failingRule (s.arbRules i) = some k) :
    exec (.arbCommit i) s = .next ((s.wr (ARB_STAT.CFG_MISMATCH i) 1).wr (ARB_STAT.CFG_RULE i) k) := by
  change execArbCommit i s = _
  simp only [execArbCommit, h, State.raise]

theorem exec_arbCommit_of_passing (h : failingRule (s.arbRules i) = none) : exec (.arbCommit i) s =
    .next (s.setArb i { s.arbOf i with staged := some ((List.range (arbNums i)).map (fun r =>
      (s.rd (ARB_REQ.CLASS i r), s.rd (ARB_REQ.LIMIT i r), s.rd (ARB_REQ.RATE i r), s.rd (ARB_REQ.BURST i r)))) }) := by
  change execArbCommit i s = _
  simp only [execArbCommit, h]

end Commit

/-- Settles O36: a refused commit writes its report, a passing one stages the shadows in the arbiter's record. -/
theorem arbiterCommit : Obligations.ArbiterCommit := by
  refine ⟨fun i k s h => exec_arbCommit_of_failing h, fun i s h => ⟨_, exec_arbCommit_of_passing h, rfl, ?_⟩, fun i r s => rfl⟩
  rw [State.arbOf_setArb_self]
  exact ⟨rfl, rfl, rfl⟩

end Sys2Proof.Machine
end

section
/-! PROOFS. Fence, unfence, disable, enable and commit of the channels of both DMA engines (09_dma_arbiters.md). -/

namespace Sys2Proof.Machine
open Reg

/-! Commits of a channel's shadows (R289). -/

theorem State.tdmaApply_of_zero {s : State} {g c : Nat} (h : s.rd (TDMA_CH_CFG.BURST g c) = 0) :
    s.tdmaApply g c = s.wr (TDMA_GRP_STAT.CFG_MISMATCH g) 1 := if_pos h

theorem State.tdmaApply_of_ne_zero {s : State} {g c : Nat} (h : s.rd (TDMA_CH_CFG.BURST g c) ≠ 0) :
    s.tdmaApply g c = s.applyShadows [TDMA_CH_CFG.RATE g c, TDMA_CH_CFG.BURST g c] := if_neg h

theorem State.hdmaApply_of_zero {s : State} {c : Nat} (h : s.rd (HDMA_CH_CFG.BURST c) = 0) :
    s.hdmaApply c = s.wr (HDMA_CH_STAT.CFG_MISMATCH c) 1 := if_pos h

theorem State.hdmaApply_of_ne_zero {s : State} {c : Nat} (h : s.rd (HDMA_CH_CFG.BURST c) ≠ 0) :
    s.hdmaApply c = s.applyShadows [HDMA_CH_CFG.RATE c, HDMA_CH_CFG.BURST c] := if_neg h

/-! Tensor channels (R278, R279). -/

section Tensor

variable {g : Lathe} {c : Fin 4} {s : State}

theorem exec_channelFence_tensor_of_idle (h : s.rd (TDMA_CH_STAT.STATE g c) = 1) :
    exec (.channelFence (.tensor g c)) s = .next ((s.wr (TDMA_CH_CTRL.FENCE g c) 1).dropTch g c 3) :=
  congrArg Host.Outcome.next (if_pos h)

theorem exec_channelFence_tensor_of_not_idle (h : s.rd (TDMA_CH_STAT.STATE g c) ≠ 1) :
    exec (.channelFence (.tensor g c)) s = .next (s.wr (TDMA_CH_CTRL.FENCE g c) 1) :=
  congrArg Host.Outcome.next (if_neg h)

theorem exec_channelUnfence_tensor_of_fenced (h : s.rd (TDMA_CH_STAT.STATE g c) = 3) :
    exec (.channelUnfence (.tensor g c)) s = .next ((s.wr (TDMA_CH_CTRL.FENCE g c) 0).wr (TDMA_CH_STAT.STATE g c) 1) :=
  congrArg Host.Outcome.next (if_pos h)

theorem exec_channelUnfence_tensor_of_not_fenced (h : s.rd (TDMA_CH_STAT.STATE g c) ≠ 3) :
    exec (.channelUnfence (.tensor g c)) s = .next (s.wr (TDMA_CH_CTRL.FENCE g c) 0) :=
  congrArg Host.Outcome.next (if_neg h)

theorem exec_channelDisable_tensor_of_disabled (h : s.flag (TDMA_CH_CTRL.ENABLE g c) = false) :
    exec (.channelDisable (.tensor g c)) s = .next s :=
  congrArg Host.Outcome.next (if_neg (Bool.eq_false_iff.mp h))

theorem exec_channelDisable_tensor_of_enabled (h : s.flag (TDMA_CH_CTRL.ENABLE g c) = true) :
    let s1 := (s.wr (TDMA_CH_CTRL.ENABLE g c) 0).cutTch g c 0
    exec (.channelDisable (.tensor g c)) s = .next ((s1.wr (TDMA_CH_BYTES.UNITS g c) (Config.freeValue s1.freeCtr)).drew) :=
  congrArg Host.Outcome.next (if_pos h)

theorem exec_channelEnable_tensor_of_enabled (h : s.flag (TDMA_CH_CTRL.ENABLE g c) = true) :
    exec (.channelEnable (.tensor g c)) s = .next s :=
  congrArg Host.Outcome.next (if_pos h)

theorem exec_channelEnable_tensor_of_disabled (h : s.flag (TDMA_CH_CTRL.ENABLE g c) = false) : exec (.channelEnable (.tensor g c)) s =
    .next ((s.wr (TDMA_CH_CTRL.ENABLE g c) 1).wr (TDMA_CH_STAT.STATE g c) (if s.flag (TDMA_CH_CTRL.FENCE g c) then 3 else 1)) :=
  congrArg Host.Outcome.next (if_neg (Bool.eq_false_iff.mp h))

theorem exec_channelCfgCommit_tensor_of_active (h : s.rd (TDMA_CH_STAT.STATE g c) = 2) :
    exec (.channelCfgCommit (.tensor g c)) s = .next (s.setTch g c { s.tch g c with staged := true }) :=
  congrArg Host.Outcome.next (if_pos h)

theorem exec_channelCfgCommit_tensor_of_not_active (h : s.rd (TDMA_CH_STAT.STATE g c) ≠ 2) :
    exec (.channelCfgCommit (.tensor g c)) s = .next (s.tdmaApply g c) :=
  congrArg Host.Outcome.next (if_neg h)

theorem tdmaEnable_key_ne_state (g c : Nat) : (TDMA_CH_CTRL.ENABLE g c).key ≠ (TDMA_CH_STAT.STATE g c).key := by
  simp only [TDMA_CH_CTRL.ENABLE, TDMA_CH_STAT.STATE, Fld.key]
  omega

end Tensor

/-! Host/video channels (R278, R279). -/

section HostVideo

variable {c : Fin 32} {s : State}

/-- Between descriptors a fence takes effect at once. -/
theorem exec_channelFence_host_of_between
    (h : s.hState c = 1 ∨ s.hState c = 3 ∨ s.hState c = 4 ∨ (s.hState c = 2 ∧ (s.hch c).entry = none)) :
    exec (.channelFence (.host c)) s = .next (((s.wr (HDMA_CH_CTRL.FENCE c) 1).hdmaBoundary c).setHState c 5) := by
  rw [← Option.isNone_iff_eq_none] at h
  exact congrArg Host.Outcome.next (if_pos h)

/-- A channel that moves a descriptor, or has no descriptor to come to, only keeps the bit. -/
theorem exec_channelFence_host_of_other
    (h : s.hState c = 0 ∨ s.hState c = 5 ∨ s.hState c = 6 ∨ (s.hState c = 2 ∧ (s.hch c).entry.isSome = true)) :
    exec (.channelFence (.host c)) s = .next (s.wr (HDMA_CH_CTRL.FENCE c) 1) := by
  refine congrArg Host.Outcome.next (if_neg ?_)
  rw [Option.isNone_iff_eq_none]
  obtain h | h | h | ⟨h, hentry⟩ := h
  · simp [h]
  · simp [h]
  · simp [h]
  · simp [h, Option.isSome_iff_ne_none.mp hentry]

theorem exec_channelUnfence_host_of_fenced (h : s.hState c = 5) :
    exec (.channelUnfence (.host c)) s = .next ((s.wr (HDMA_CH_CTRL.FENCE c) 0).hdmaFetch c) :=
  congrArg Host.Outcome.next (if_pos h)

theorem exec_channelUnfence_host_of_not_fenced (h : s.hState c ≠ 5) :
    exec (.channelUnfence (.host c)) s = .next (s.wr (HDMA_CH_CTRL.FENCE c) 0) :=
  congrArg Host.Outcome.next (if_neg h)

theorem exec_channelDisable_host_of_disabled (h : s.flag (HDMA_CH_CTRL.ENABLE c) = false) :
    exec (.channelDisable (.host c)) s = .next s :=
  congrArg Host.Outcome.next (if_neg (Bool.eq_false_iff.mp h))

/-- Without an entry there is no writeback whose bytes would become undefined. -/
theorem exec_channelDisable_host_of_enabled (h : s.flag (HDMA_CH_CTRL.ENABLE c) = true) (hentry : (s.hch c).entry = none) :
    let s1 := (s.wr (HDMA_CH_CTRL.ENABLE c) 0).dropHch c 0
    exec (.channelDisable (.host c)) s = .next ((s1.wr (HDMA_CH_STAT.HEAD c) (Config.freeValue s1.freeCtr)).drew) := by
  change Host.Outcome.next (s.hostDisable c) = _
  simp [State.hostDisable, h, hentry, State.free]

theorem exec_channelEnable_host_of_enabled (h : s.flag (HDMA_CH_CTRL.ENABLE c) = true) :
    exec (.channelEnable (.host c)) s = .next s :=
  congrArg Host.Outcome.next (if_pos h)

theorem exec_channelEnable_host_of_disabled (h : s.flag (HDMA_CH_CTRL.ENABLE c) = false) : exec (.channelEnable (.host c)) s =
    .next (((s.wr (HDMA_CH_CTRL.ENABLE c) 1).wr (HDMA_CH_STAT.HEAD c) 0).setHState c (if s.flag (HDMA_CH_CTRL.FENCE c) then 5 else 1)) :=
  congrArg Host.Outcome.next (if_neg (Bool.eq_false_iff.mp h))

theorem exec_channelCfgCommit_host_of_entry (h : (s.hch c).entry.isSome = true) :
    exec (.channelCfgCommit (.host c)) s = .next (s.setHch c { s.hch c with staged := true }) :=
  congrArg Host.Outcome.next (if_pos h)

theorem exec_channelCfgCommit_host_of_no_entry (h : (s.hch c).entry = none) :
    exec (.channelCfgCommit (.host c)) s = .next (s.hdmaApply c) :=
  congrArg Host.Outcome.next (if_neg (by simp [h]))

theorem hdmaEnable_key_ne (c : Nat) : (HDMA_CH_CTRL.ENABLE c).key ≠ (HDMA_CH_STAT.STATE c).key ∧
    (HDMA_CH_CTRL.ENABLE c).key ≠ (HDMA_CH_STAT.HEAD c).key := by
  simp only [HDMA_CH_CTRL.ENABLE, HDMA_CH_STAT.STATE, HDMA_CH_STAT.HEAD, Fld.key]
  omega

theorem hdmaHead_key_ne_state (c : Nat) : (HDMA_CH_STAT.HEAD c).key ≠ (HDMA_CH_STAT.STATE c).key := by
  simp only [HDMA_CH_STAT.STATE, HDMA_CH_STAT.HEAD, Fld.key]
  omega

@[simp] theorem State.hState_setHState_self (s : State) (c v : Nat) : (s.setHState c v).hState c = v % 8 := State.rd_wr_self ..

end HostVideo

/-- Settles O33: every clause is an equation of its command on a channel of its engine. -/
theorem channelControls : Obligations.ChannelControls := by
  refine ⟨fun g c s => ⟨exec_channelFence_tensor_of_idle, exec_channelFence_tensor_of_not_idle, exec_channelUnfence_tensor_of_fenced,
      exec_channelUnfence_tensor_of_not_fenced, exec_channelDisable_tensor_of_disabled, exec_channelDisable_tensor_of_enabled,
      exec_channelEnable_tensor_of_enabled, fun h => ?tensorEnable, exec_channelCfgCommit_tensor_of_active, fun h hburst => ?tensorRefused,
      fun h hburst => ?tensorApplied⟩,
    fun c s => ⟨exec_channelFence_host_of_between, exec_channelFence_host_of_other, exec_channelUnfence_host_of_fenced,
      exec_channelUnfence_host_of_not_fenced, exec_channelDisable_host_of_disabled, exec_channelDisable_host_of_enabled,
      exec_channelEnable_host_of_enabled, fun h => ?hostEnable, exec_channelCfgCommit_host_of_entry, fun h hburst => ?hostRefused,
      fun h hburst => ?hostApplied⟩⟩
  case tensorEnable =>
    refine ⟨_, exec_channelEnable_tensor_of_disabled h, ?_, ?_, rfl, fun f henable hstate => ?_⟩
    · rw [State.flag_wr_ne _ _ (tdmaEnable_key_ne_state g c), State.flag, State.rd_wr_self]
      rfl
    · rw [State.rd_wr_self]
      split <;> rfl
    · rw [State.rd_wr_ne _ _ hstate, State.rd_wr_ne _ _ henable]
  case tensorRefused => rw [exec_channelCfgCommit_tensor_of_not_active h, State.tdmaApply_of_zero hburst]
  case tensorApplied => rw [exec_channelCfgCommit_tensor_of_not_active h, State.tdmaApply_of_ne_zero hburst]
  case hostEnable =>
    obtain ⟨hstate, hhead⟩ := hdmaEnable_key_ne c
    refine ⟨_, exec_channelEnable_host_of_disabled h, ?_, ?_, ?_, rfl⟩
    · rw [State.setHState, State.flag_wr_ne _ _ hstate, State.flag_wr_ne _ _ hhead, State.flag, State.rd_wr_self]
      rfl
    · rw [State.setHState, State.rd_wr_ne _ _ (hdmaHead_key_ne_state c), State.rd_wr_self]
      rfl
    · rw [State.hState_setHState_self]
      split <;> rfl
  case hostRefused => rw [exec_channelCfgCommit_host_of_no_entry h, State.hdmaApply_of_zero hburst]
  case hostApplied => rw [exec_channelCfgCommit_host_of_no_entry h, State.hdmaApply_of_ne_zero hburst]

end Sys2Proof.Machine
end

section
/-! PROOFS. Host/video DMA (09_dma_arbiters.md): doorbells, entries, triggers, writeback, resume, errors and restart. -/

namespace Sys2Proof.Machine
open Reg

@[simp] theorem State.hch_setHch_self (s : State) (c : Nat) (x : HdmaCh) : (s.setHch c x).hch c = x := Cells.get_set_self _ _ _ _

@[simp] theorem State.setHState_hch (s : State) (c v k : Nat) : (s.setHState c v).hch k = s.hch k := rfl

@[simp] theorem State.hState_hdmaFetch_self (s : State) (c : Nat) : (s.hdmaFetch c).hState c = 2 := State.hState_setHState_self ..

@[simp] theorem State.hch_hdmaFetch_self (s : State) (c : Nat) : (s.hdmaFetch c).hch c = { s.hch c with fetch := true } :=
  State.hch_setHch_self ..

/-! Doorbells (R268, R289). -/

section Doorbell

variable {c : Fin 32} {s : State}

/-- PF0 and the VF of the channel's partition may ring its doorbell. -/
theorem exec_hdmaDoorbell_of_allowed {fn : Func} (h : fn = .pf0 ∨ ∃ v, fn = .vf v ∧ s.hPart c = some v.val) : exec (.hdmaDoorbell c fn) s =
    .next (if s.hState c = 1 then s.hdmaFetch c else if s.hState c = 0 then s else s.wr (HDMA_CH_STAT.DB_PENDING c) 1) := by
  obtain rfl | ⟨v, rfl, hpart⟩ := h
  · rfl
  · exact congrArg Host.Outcome.next (if_pos hpart)

theorem exec_hdmaDoorbell_of_other {v : Part} (h : s.hPart c ≠ some v.val) : exec (.hdmaDoorbell c (.vf v)) s = .next s.logUr :=
  congrArg Host.Outcome.next (if_neg h)

end Doorbell

/-! Entries (R268, R274, R275). -/

/-- What reading the entry at HEAD gives: the state after the read and the entry's words. `ws` are the words of a ring in host memory. -/
def State.EntryRead (s : State) (c : Nat) (ws : List Word) (s1 : State) (w : List Nat) : Prop :=
  (s.rd (HDMA_CH_RING_CFG.SPACE c) = 0 → s.hdmaHostInjected (s.entryAddr c) = .ok s1 ∧ w = (List.range 16).map (fun i => (ws.getD i 0).toNat)) ∧
  (s.rd (HDMA_CH_RING_CFG.SPACE c) ≠ 0 → ∃ b, s.hdmaRead c 1 (s.entryAddr c) 64 = .ok (s1, b) ∧ w = wordsOfBytes 16 b)

/-- The code an entry is refused with, DESC_BAD before ACCESS; 0 when it is not (R274). -/
def State.entryCode (s : State) (c : Nat) (w : List Nat) : Nat := if s.hdescBad c w then 0x10 else if !s.hAccessOk c w then 0x11 else 0

/-- Entry w stands in channel c, its data still to be moved. -/
def State.takeEntry (s : State) (c : Nat) (w : List Nat) : State :=
  s.setHch c { s.hch c with fetch := false, entry := some w, code := s.entryCode c w, sent := 0 }

/-- What the channel does with the entry it has read: without OWN it asks again or is IDLE, else the entry stands and may wait for its
trigger. -/
def State.entryTaken (s : State) (c : Nat) (w : List Nat) : State :=
  if dfld w 0 0 1 = 0 then
    if s.flag (HDMA_CH_STAT.DB_PENDING c) then s.wr (HDMA_CH_STAT.DB_PENDING c) 0
    else (s.setHch c { s.hch c with fetch := false }).setHState c 1
  else if s.entryCode c w = 0 ∧ dfld w 0 23 1 = 1 then (s.takeEntry c w).setHState c 3 else s.takeEntry c w

section Entry

variable {c : Fin 32} {ws : List Word} {s s1 : State} {w : List Nat}

theorem exec_hdmaEntryFetch_of_barred (h : s.hState c ≠ 2 ∨ (s.hch c).fetch = false) : exec (.hdmaEntryFetch c ws) s = .next s := if_pos h

theorem exec_hdmaEntryFetch_of_read (hstate : s.hState c = 2) (hfetch : (s.hch c).fetch = true) (h : s.EntryRead c ws s1 w) :
    exec (.hdmaEntryFetch c ws) s = .next (s1.entryTaken c w) := by
  obtain ⟨hhost, hport⟩ := h
  change execHdmaEntryFetch c ws s = _
  by_cases hspace : s.rd (HDMA_CH_RING_CFG.SPACE c) = 0
  · obtain ⟨hread, rfl⟩ := hhost hspace
    simp only [execHdmaEntryFetch, hstate, hfetch, hspace, hread, ne_eq, not_true_eq_false, Bool.true_eq_false, or_self, if_false, if_true]
    rfl
  · obtain ⟨b, hread, rfl⟩ := hport hspace
    simp only [execHdmaEntryFetch, hstate, hfetch, hspace, hread, ne_eq, not_true_eq_false, Bool.true_eq_false, or_self, if_false]
    rfl

end Entry

/-! The trigger (R275, R301). -/

section Trigger

variable {c : Fin 32} {s : State}

theorem exec_hdmaTrigger_of_barred (h : (s.hch c).entry = none ∨ s.hState c ≠ 3) : exec (.hdmaTrigger c) s = .next s := by
  change execHdmaTrigger c s = _
  cases hentry : (s.hch c).entry with
  | none => simp only [execHdmaTrigger, hentry]
  | some w =>
    simp only [execHdmaTrigger, hentry]
    exact congrArg Host.Outcome.next (if_pos (h.resolve_left (by simp [hentry])))

/-- Channel c takes and holds the frame in slot `n` of context k of engine e. -/
def State.holdFrame (s : State) (c e k n : Nat) : State :=
  s.setVctx e k { s.vctx e k with
    slots := (s.vctx e k).slots.map (fun u => if u.slot = n then { u with taken := u.taken ++ [c], held := u.held ++ [c] } else u) }

theorem exec_hdmaTrigger_of_frame {w : List Nat} {k : Nat} {x : VidSlot} (hentry : (s.hch c).entry = some w) (hstate : s.hState c = 3)
    (hctx : s.ctxOfChan (dfld w 0 20 3) c = some k)
    (hslot : (s.vctx (dfld w 0 20 3) k).slots.find? (fun t => !t.taken.contains c.val) = some x) :
    let s1 := s.holdFrame c (dfld w 0 20 3) k x.slot
    exec (.hdmaTrigger c) s = .next ((s1.setHch c { s1.hch c with
      frame := some (dfld w 0 20 3, k, x.slot, s1.frameAddr (dfld w 0 20 3) k x.slot) }).setHState c 2) := by
  change execHdmaTrigger c s = _
  simp only [execHdmaTrigger, hentry, hctx, hslot, if_neg (not_not_intro hstate)]
  rfl

end Trigger

/-! The writeback (R271 to R274). -/

section Writeback

variable {c : Fin 32} {host : List Byte} {s : State}

theorem exec_hdmaWriteback_of_barred (h : (s.hch c).entry = none ∨ s.hState c ≠ 2) : exec (.hdmaWriteback c host) s = .next s := by
  change execHdmaWriteback c host s = _
  cases hentry : (s.hch c).entry with
  | none => simp only [execHdmaWriteback, hentry]
  | some w =>
    simp only [execHdmaWriteback, hentry]
    exact if_pos (h.resolve_left (by simp [hentry]))

/-- The entry at HEAD is written back with a code and a count of lines, and the channel goes on unless the write stopped the engine. -/
def State.writtenBack (s : State) (c : Nat) (w : List Nat) (code lines : Nat) (refused : Bool) : State :=
  match s.hdmaStatus c w code lines with
  | .error s1 => s1
  | .ok s1 => s1.hdmaNext c refused

variable {w : List Nat} (hentry : (s.hch c).entry = some w) (hstate : s.hState c = 2)

include hentry hstate

theorem exec_hdmaWriteback_of_refused (hcode : (s.hch c).code ≠ 0) :
    exec (.hdmaWriteback c host) s = .next (s.writtenBack c w (s.hch c).code 0 true) := by
  change execHdmaWriteback c host s = _
  simp only [execHdmaWriteback, hentry, if_neg (not_not_intro hstate), if_pos hcode, State.writtenBack]
  cases s.hdmaStatus c w (s.hch c).code 0 <;> rfl

variable (hcode : (s.hch c).code = 0)

include hcode

/-- The data of an entry that is not refused moves; the rest depends on how far it came. -/
theorem exec_hdmaWriteback_of_move : exec (.hdmaWriteback c host) s = .next (match s.hdmaMove c w host with
    | .error s1 => s1
    | .ok (s1, moved) => if moved < (hdmaDst w).bytes then s1.setHch c { s1.hch c with sent := moved }
        else s1.writtenBack c w 1 (hdmaDst w).n1 false) := by
  change execHdmaWriteback c host s = _
  simp only [execHdmaWriteback, hentry, if_neg (not_not_intro hstate), if_neg (not_not_intro hcode)]
  cases s.hdmaMove c w host with
  | error s1 => rfl
  | ok r =>
    obtain ⟨s1, moved⟩ := r
    dsimp only
    split
    · rfl
    · rw [State.writtenBack]
      cases s1.hdmaStatus c w 1 (hdmaDst w).n1 <;> rfl

end Writeback

/-! Resume and restart (R274, R282, R356). -/

theorem exec_hdmaResume_of_halted {c : Fin 32} {s : State} (h : s.hState c = 4) : exec (.hdmaResume c) s = .next (s.hdmaFetch c) :=
  congrArg Host.Outcome.next (if_pos h)

theorem exec_hdmaResume_of_other {c : Fin 32} {s : State} (h : s.hState c ≠ 4) : exec (.hdmaResume c) s = .next s :=
  congrArg Host.Outcome.next (if_neg h)

theorem exec_hdmaRestart_of_running {s : State} (h : s.flag HDMA_ENG_STAT.STOPPED = false) : exec .hdmaRestart s = .next s := by
  change execHdmaRestart s = _
  simp [execHdmaRestart, h]

theorem exec_hdmaRestart_of_stopped {s : State} (h : s.flag HDMA_ENG_STAT.STOPPED = true) : exec .hdmaRestart s =
    .next (if (List.range 8).any (fun p => s.holds p 0x14) then { s with hdma := { s.hdma with restart := true } } else s.hdmaRestarted) := by
  change execHdmaRestart s = _
  simp only [execHdmaRestart, h, Bool.not_true, Bool.false_eq_true, if_false]

/-- Settles O34: every clause is an equation of its command. -/
theorem hostDmaCommands : Obligations.HostDmaCommands := by
  refine ⟨fun c fn s hfn => ?doorbell, fun c v s h => exec_hdmaDoorbell_of_other h, fun c s => ?fetch,
    fun c ws s h => exec_hdmaEntryFetch_of_barred h, fun c ws s s1 w hstate hfetch hhost hport => ?entry,
    fun c s h => exec_hdmaTrigger_of_barred h, fun c w k x s hentry hstate hctx hslot => ?trigger,
    fun c host s h => exec_hdmaWriteback_of_barred h, fun c host w s hentry hstate => ?writeback,
    fun c s => ⟨exec_hdmaResume_of_halted, exec_hdmaResume_of_other⟩, fun cause a s => rfl,
    fun s => ⟨exec_hdmaRestart_of_running, fun h hheld => ?waits, fun h hfree => ?restarts⟩⟩
  case doorbell =>
    rw [exec_hdmaDoorbell_of_allowed hfn]
    refine ⟨fun h => by rw [if_pos h], fun h => ?_, fun h => ?_⟩
    · rw [if_neg (by omega), if_pos h]
    · rw [if_neg (by omega), if_neg (by omega)]
  case fetch => exact ⟨s.hState_hdmaFetch_self c, congrArg HdmaCh.fetch (s.hch_hdmaFetch_self c), rfl, rfl⟩
  case entry =>
    rw [exec_hdmaEntryFetch_of_read hstate hfetch ⟨hhost, hport⟩, State.entryTaken]
    refine ⟨fun hown hdb => ?_, fun hown hdb => ?_, fun hown => ?_⟩
    · rw [if_pos hown, if_neg (Bool.eq_false_iff.mp hdb)]
    · rw [if_pos hown, if_pos hdb]
    · rw [if_neg hown]
      rfl
  case trigger =>
    refine ⟨_, exec_hdmaTrigger_of_frame hentry hstate hctx hslot, State.hState_setHState_self .., ?_, rfl⟩
    rw [State.setHState_hch, State.hch_setHch_self]
    rfl
  case writeback =>
    refine ⟨fun hcode => exec_hdmaWriteback_of_refused hentry hstate hcode, fun s1 moved hcode hmove hleft => ?_,
      fun s1 moved hcode hmove hall => ?_, fun s1 hcode hmove => ?_⟩
    all_goals rw [exec_hdmaWriteback_of_move hentry hstate hcode, hmove]
    · exact congrArg Host.Outcome.next (if_pos hleft)
    · exact congrArg Host.Outcome.next (if_neg (Nat.not_lt.mpr hall))
  case waits => rw [exec_hdmaRestart_of_stopped h, if_pos hheld]
  case restarts => rw [exec_hdmaRestart_of_stopped h, if_neg (Bool.eq_false_iff.mp hfree)]

end Sys2Proof.Machine
end

section
/-! PROOFS. The link layer of a fabric plane (11_fabric.md): codewords accepted, discarded or lost, and control flits. -/

namespace Sys2Proof.Machine
open Reg

/-! Codewords (R318, R322). -/

/-- A codeword of the plane cannot be decoded: it is counted and reported, its receiver discards and requests a resend when it did not
discard yet, and the sixteenth in a row takes the plane down. -/
def State.codewordLost (s : State) (pl : Nat) : State :=
  let x := s.link pl
  let s1 := ((s.fabCount pl 1).reportUe (98 + pl) 0).setLink pl { x with discard := true, badRun := x.badRun + 1 }
  if 16 ≤ x.badRun + 1 then s1.planeFall pl else if x.discard then s1 else s1.sendControl pl []

/-- A decoded codeword of the plane: its correction is counted and reported, then it is discarded out of order or accepted in order. -/
def State.codewordDecoded (s : State) (pl : Nat) (seq : Fin 1024) (d : CwDecode) : State :=
  let x := s.link pl
  let s1 := if d = .corrected then (s.fabCount pl 0).reportCe (98 + pl) 1 else s
  if seq.val ≠ (x.acc + 1) % 1024 then s1.setLink pl { x with badRun := 0 }
  else (s1.setLink pl { x with acc := seq, discard := false, badRun := 0 }).wr (FAB_PLANE.LL pl)
    (if x.llAt = some seq.val then 1 else s1.rd (FAB_PLANE.LL pl))

section Codeword

variable {s : State} {pl : Fin 2} (q : Fin 1024) (d : CwDecode)

theorem State.cwInjected_of_other_plane (h : s.rd FAB_INJ.PLANE ≠ pl.val) : s.cwInjected pl d = (s, d) := if_pos h

theorem exec_codewordRx_of_unlocked (h : s.rd (FAB_PLANE.STATE pl) < 3) : exec (.codewordRx pl q d) s = .next s :=
  congrArg Host.Outcome.next (if_pos h)

theorem exec_codewordRx_of_locked (hlock : 3 ≤ s.rd (FAB_PLANE.STATE pl)) (hinj : s.rd FAB_INJ.PLANE ≠ pl.val) :
    exec (.codewordRx pl q d) s = .next (if d = .failed then s.codewordLost pl else s.codewordDecoded pl q d) := by
  change execCodewordRx pl q d s = _
  rw [execCodewordRx, if_neg (Nat.not_lt.mpr hlock), State.cwInjected_of_other_plane d hinj]
  rfl

theorem exec_codewordRx_failed (hlock : 3 ≤ s.rd (FAB_PLANE.STATE pl)) (hinj : s.rd FAB_INJ.PLANE ≠ pl.val) :
    exec (.codewordRx pl q .failed) s = .next (s.codewordLost pl) :=
  exec_codewordRx_of_locked q .failed hlock hinj

theorem exec_codewordRx_of_decoded (hlock : 3 ≤ s.rd (FAB_PLANE.STATE pl)) (hinj : s.rd FAB_INJ.PLANE ≠ pl.val) (hd : d ≠ .failed) :
    exec (.codewordRx pl q d) s = .next (s.codewordDecoded pl q d) := by
  rw [exec_codewordRx_of_locked q d hlock hinj, if_neg hd]

end Codeword

/-! Control flits (R318, R319, R326). -/

/-- A flit without NACK acknowledges: a run of NACKs goes on only while the acknowledgement stands where they named it. -/
def FabLink.acknowledged (x : FabLink) (ack : Fin 1024) (credits : List (Fin 65536)) : FabLink :=
  { x with acked := ack, credFreed := credits.map (·.val), nackRun := if x.nackAt = some ack.val then x.nackRun else 0,
           nackAt := if x.nackAt = some ack.val then x.nackAt else none }

/-- The length of the run of NACKs for a codeword once one more names it. -/
def FabLink.nacksFor (x : FabLink) (ack : Fin 1024) : Nat := if x.nackAt = some ack.val then x.nackRun + 1 else 1

/-- A flit with a NACK acknowledges and adds to the NACKs for its codeword. -/
def FabLink.nacked (x : FabLink) (ack : Fin 1024) (credits : List (Fin 65536)) : FabLink :=
  { x with acked := ack, credFreed := credits.map (·.val), nackRun := x.nacksFor ack, nackAt := some ack.val }

/-- The completion entries of a control flit, taken on a plane that is UP. -/
def State.takeCompletions (s : State) (pl : Nat) (cs : List FabComp) : State :=
  if s.rd (FAB_PLANE.STATE pl) ≠ 4 then s else (cs.take 6).foldl (fun st c => st.compEntry c) s

section ControlFlit

variable {s : State} {pl : Fin 2} (ack : Fin 1024) (nack : Bool) (credits : List (Fin 65536)) (cs : List FabComp)

theorem exec_controlFlitRx_of_closed (h : s.rxOpen pl = false) : exec (.controlFlitRx pl ack nack credits cs) s = .next s := by
  change execControlFlitRx pl ack nack credits cs s = _
  rw [execControlFlitRx, h]
  rfl

theorem exec_controlFlitRx_of_ack (h : s.rxOpen pl = true) : exec (.controlFlitRx pl ack false credits cs) s =
    .next ((s.setLink pl ((s.link pl).acknowledged ack credits)).takeCompletions pl cs) := by
  change execControlFlitRx pl ack false credits cs s = _
  simp only [execControlFlitRx, h, Bool.not_true, Bool.and_false, Bool.false_eq_true, if_false]
  rfl

theorem exec_controlFlitRx_of_nack (h : s.rxOpen pl = true) :
    let s1 := (s.setLink pl ((s.link pl).nacked ack credits)).fabCount pl 2
    exec (.controlFlitRx pl ack true credits cs) s =
      .next (if 8 ≤ (s.link pl).nacksFor ack then s1.planeFall pl else s1.takeCompletions pl cs) := by
  change execControlFlitRx pl ack true credits cs s = _
  simp only [execControlFlitRx, h, Bool.not_true, Bool.and_true, Bool.false_eq_true, if_false, if_true, decide_eq_true_eq]
  rfl

end ControlFlit

/-- Settles O40: an unlocked plane or a closed receiver takes nothing, and every other clause is an equation of its command. That what an
unlocked plane or a closed receiver is given changes nothing is log 2, and that a codeword out of order asks for no resend is log 130. -/
theorem fabricCodewordsAndControl : Obligations.FabricCodewordsAndControl := by
  refine ⟨fun pl q d s hlow => exec_codewordRx_of_unlocked q d hlow, fun pl q s hlock hinj => exec_codewordRx_failed q hlock hinj,
    fun pl q d s hlock hinj hd => ?decoded, fun pl ack nack cr cs s hclosed => exec_controlFlitRx_of_closed ack nack cr cs hclosed,
    fun pl ack cr cs s hopen => exec_controlFlitRx_of_ack ack cr cs hopen, fun pl ack cr cs s hopen => exec_controlFlitRx_of_nack ack cr cs hopen⟩
  case decoded =>
    rw [exec_codewordRx_of_decoded q d hlock hinj hd]
    exact ⟨fun hskip => congrArg Host.Outcome.next (if_pos hskip), fun hnext => congrArg Host.Outcome.next (if_neg (not_not_intro hnext))⟩

end Sys2Proof.Machine
end

section
/-! PROOFS. A WRITE or RELEASE packet of the fabric that is complete here is answered again and not applied (11_fabric.md). -/

namespace Sys2Proof.Machine
open Reg

/-! `rxWindow` changes `fab.rxNext` alone. -/

section Window

variable (s : State) (src pseq : Nat)

theorem State.rxWindow_eq : ∃ next, s.rxWindow src pseq = { s with fab := { s.fab with rxNext := next } } := by
  unfold State.rxWindow
  dsimp only
  split
  · exact ⟨_, rfl⟩
  · exact ⟨s.fab.rxNext, rfl⟩

@[simp] theorem State.rxWindow_rd (f : Fld) : (s.rxWindow src pseq).rd f = s.rd f := by
  obtain ⟨next, hwindow⟩ := s.rxWindow_eq src pseq
  rw [hwindow]
  rfl

/-- The records of completed packets are not those that the window moves. -/
@[simp] theorem State.rxWindow_rxStatus (src' pseq' : Nat) : (s.rxWindow src pseq).rxStatus src' pseq' = s.rxStatus src' pseq' := by
  obtain ⟨next, hwindow⟩ := s.rxWindow_eq src pseq
  rw [hwindow]
  rfl

end Window

/-- The completion that goes back to a plane (R326): the packet's flits are free again, and a control flit, which is no TLP, goes out as
it is. -/
theorem State.answer_plane (s : State) (pl : Fin 2) (k : FabPkt) (status : Nat) :
    let x := (s.rxFree pl (vcOf k.typ) (fabFlits k)).link pl
    s.answer (some pl) k status = { s.rxFree pl (vcOf k.typ) (fabFlits k) with
      out := s.out ++ [.flits pl (controlFlit x.acc x.discard x.rxFreed [(k.src, s.rd FAB_ID.MODULE_ID, status, k.pseq)])] } := rfl

/-- The ingress answers a packet that is complete with its first status, whatever else it holds (R327). -/
theorem State.ingress_of_complete {s : State} {o : Option (Fin 2)} {k : FabPkt} {status : Nat} (hcrc : k.crcBad = false)
    (hid : s.flag FAB_ID.ID_VALID = true) (hdst : k.dst = s.rd FAB_ID.MODULE_ID) (htyp : k.typ = 0x10 ∨ k.typ = 0x13)
    (hdone : s.rxStatus k.src k.pseq = some status) : s.ingress o k = (s.rxWindow k.src k.pseq).answer o k status := by
  have hresp : k.typ ≠ 0x12 := by omega
  have hreq : k.typ ≠ 0x11 := by omega
  simp [State.ingress, hcrc, hid, hdst, hresp, hreq, hdone]

/-- Settles O42: the ingress comes to the answer with the packet's first status. The window moves `fab.rxNext` and the answer the plane's
link and the output, so neither reaches what a packet is applied to. -/
theorem fabricWritesOnce : Obligations.FabricWritesOnce := by
  intro pl k status s _ hcrc hid hdst htyp hdone t
  have hanswer : t = (s.rxWindow k.src k.pseq).answer (some pl) k status := State.ingress_of_complete hcrc hid hdst htyp hdone
  refine ⟨?answered, ?frame⟩
  case answered => rw [hanswer, State.answer, State.rxWindow_rd]
  case frame =>
    obtain ⟨next, hwindow⟩ := s.rxWindow_eq k.src k.pseq
    rw [hanswer, State.answer_plane, hwindow]
    exact ⟨rfl, rfl, rfl, rfl, rfl, rfl, List.prefix_append ..⟩

end Sys2Proof.Machine
end

section
/-! PROOFS. The host link, received errors, configuration requests and aperture accesses (12_host_interface.md). -/

namespace Sys2Proof.Machine
open Reg

/-! A status bit raised under a condition. -/

section RaiseIf

variable (s : State) (b : Bool)

theorem State.rd_raiseIf_ne {f g : Fld} (h : g.key ≠ f.key) : (s.raiseIf b f).rd g = s.rd g := by
  cases b with
  | true => exact s.rd_wr_ne 1 h
  | false => rfl

theorem State.flag_raiseIf_ne {f g : Fld} (h : g.key ≠ f.key) : (s.raiseIf b f).flag g = s.flag g := by
  rw [State.flag, State.flag, State.rd_raiseIf_ne s b h]

theorem State.flag_raiseIf_self {f : Fld} (h : 0 < f.width) : (s.raiseIf b f).flag f = (s.flag f || b) := by
  cases b with
  | true => simp [State.raiseIf, State.flag, Nat.mod_eq_of_lt (Nat.one_lt_two_pow (Nat.pos_iff_ne_zero.mp h))]
  | false => simp [State.raiseIf]

theorem State.raiseIf_eta (f : Fld) : s.raiseIf b f = { s with regs := (s.raiseIf b f).regs } := by cases b <;> rfl

end RaiseIf

/-! The link (R338, R342, R359). The model's own: the loss of a link that is down is no event (log 2), and what waits is an operand of
the command (log 142). -/

/-- PCI_LINK shows a link in L0 at a rate and width. -/
def State.showLink (s : State) (speed width : Nat) (flit : Bool) : State :=
  (((s.wr PCI_LINK.UP 1).wr PCI_LINK.SPEED speed).wr PCI_LINK.WIDTH width).wr PCI_LINK.FLIT (b2n flit)

/-- A link that comes up is down before, or shows another rate or width. -/
def State.linkDiffers (s : State) (speed width : Nat) : Bool :=
  !s.flag PCI_LINK.UP || s.rd PCI_LINK.SPEED ≠ speed || s.rd PCI_LINK.WIDTH ≠ width

theorem exec_pcieLinkUp (speed width : Fin 16) (flit : Bool) (s : State) : exec (.pcieLinkUp speed width flit) s =
    .next ((s.showLink speed width flit).raiseIf (s.linkDiffers speed width) PCI_ERR_STAT.LINK_CHG) := rfl

section ShowLink

variable (s : State) (speed width : Nat) (flit : Bool)

theorem State.flag_up_showLink : (s.showLink speed width flit).flag PCI_LINK.UP = true := by
  rw [State.showLink, State.flag_wr_ne _ _ (by decide), State.flag_wr_ne _ _ (by decide), State.flag_wr_ne _ _ (by decide), State.flag,
    State.rd_wr_self]
  rfl

theorem State.rd_speed_showLink : (s.showLink speed width flit).rd PCI_LINK.SPEED = speed % 2 ^ 4 := by
  rw [State.showLink, State.rd_wr_ne _ _ (by decide), State.rd_wr_ne _ _ (by decide), State.rd_wr_self]
  rfl

theorem State.rd_width_showLink : (s.showLink speed width flit).rd PCI_LINK.WIDTH = width % 2 ^ 4 := by
  rw [State.showLink, State.rd_wr_ne _ _ (by decide), State.rd_wr_self]
  rfl

theorem State.flag_flit_showLink : (s.showLink speed width flit).flag PCI_LINK.FLIT = flit := by
  rw [State.showLink, State.flag, State.rd_wr_self]
  cases flit <;> rfl

theorem State.flag_showLink_ne {f : Fld} (hup : f.key ≠ PCI_LINK.UP.key) (hspeed : f.key ≠ PCI_LINK.SPEED.key)
    (hwidth : f.key ≠ PCI_LINK.WIDTH.key) (hflit : f.key ≠ PCI_LINK.FLIT.key) : (s.showLink speed width flit).flag f = s.flag f := by
  rw [State.showLink, State.flag_wr_ne _ _ hflit, State.flag_wr_ne _ _ hwidth, State.flag_wr_ne _ _ hspeed, State.flag_wr_ne _ _ hup]

end ShowLink

section LinkLoss

variable (ws : List HostReq) {s : State}

theorem exec_linkLoss_of_down (h : s.flag PCI_LINK.UP = false) : exec (.linkLoss ws) s = .next s := by
  change execLinkLoss ws s = _
  simp [execLinkLoss, h]

theorem exec_linkLoss_of_up (h : s.flag PCI_LINK.UP = true) : exec (.linkLoss ws) s =
    .next ((ws.foldl (fun (st : State) w => st.hostReqFailed w) (s.wr PCI_INJ.LINK 0).linkDown).raiseIf (!ws.isEmpty)
      PCI_ERR_STAT.CTO) := by
  change execLinkLoss ws s = _
  simp [execLinkLoss, h]

end LinkLoss

/-! Configuration requests (R430, R454). -/

section Config

variable (fn : Fin 9) (r : Fin 1024) (wr : Bool) {s : State}

theorem exec_configRequest_of_dead (h : s.run = 7) : exec (.configRequest fn r wr) s = .next s := congrArg Host.Outcome.next (if_pos h)

variable (hrun : s.run ≠ 7)

include hrun

theorem exec_configRequest_of_early (h : s.boot.phase5 = false) : exec (.configRequest fn r wr) s = .next (s.send .retryStatus) := by
  change execConfigRequest fn r wr s = _
  simp [execConfigRequest, hrun, h]

theorem exec_configRequest_of_phase5 (h : s.boot.phase5 = true) : exec (.configRequest fn r wr) s =
    .next (s.send (.readData (if wr then [] else leBytes 4 (s.configWord fn r)))) := by
  change execConfigRequest fn r wr s = _
  cases wr <;> simp [execConfigRequest, hrun, h]

end Config

/-! Apertures (R344, R345, R388). What ends an access beyond memory is the model's reading (log 145). -/

section Aperture

variable {off : BitVec 36} {len : Fin 4097} {ok : Bool} {s : State} (hinj : s.flag PCI_INJ.UR = false)

include hinj

theorem exec_pf0ApertureAccess_of_beyond (h : s.portCap < off.toNat + len.val) :
    exec (.pf0ApertureAccess off len none ok) s = .next (s.refuseUr true) := by
  change execPf0ApertureAccess off len none ok s = _
  simp [execPf0ApertureAccess, hinj, h]

section Write

variable {d : List Byte} (hfit : off.toNat + d.length ≤ s.portCap) (hup : s.portUp (s.rd PCI_APER0.PORT) = true)

include hfit hup

theorem exec_pf0ApertureAccess_write_of_unassigned (h : s.partOf (s.rd PCI_APER0.PORT) = none) :
    let r := s.portWrite .hostAperture (s.rd PCI_APER0.PORT) off.toNat d
    exec (.pf0ApertureAccess off len (some d) ok) s = .next (r.1.apertureEnd (r.2 = .ok) false []) := by
  change execPf0ApertureAccess off len (some d) ok s = _
  simp [execPf0ApertureAccess, hinj, Nat.not_lt.mpr hfit, hup, h]

theorem exec_pf0ApertureAccess_write_of_assigned (h : s.partOf (s.rd PCI_APER0.PORT) ≠ none) :
    exec (.pf0ApertureAccess off len (some d) ok) s = .next (s.wr PCI_ERR_STAT.CA 1) := by
  obtain ⟨p, hp⟩ := Option.ne_none_iff_exists'.mp h
  change execPf0ApertureAccess off len (some d) ok s = _
  simp [execPf0ApertureAccess, hinj, Nat.not_lt.mpr hfit, hup, hp, State.refuseCa, State.logCa, State.raise]

end Write

section Read

variable (hfit : off.toNat + len.val ≤ s.portCap) (hup : s.portUp (s.rd PCI_APER0.PORT) = true)

include hfit hup

theorem exec_pf0ApertureAccess_read_of_unassigned (h : s.partOf (s.rd PCI_APER0.PORT) = none) :
    let r := s.portRead .hostAperture (s.rd PCI_APER0.PORT) off.toNat len
    exec (.pf0ApertureAccess off len none ok) s = .next (r.1.apertureEnd (r.2.1 = .ok) true r.2.2) := by
  change execPf0ApertureAccess off len none ok s = _
  simp [execPf0ApertureAccess, hinj, Nat.not_lt.mpr hfit, hup, h]

/-- A read of an assigned port is a debug access, which is counted before it is served. -/
theorem exec_pf0ApertureAccess_read_of_assigned {p : Nat} (h : s.partOf (s.rd PCI_APER0.PORT) = some p) :
    let dbg := s.debugAccess p ok
    let r := dbg.1.cipherRead (s.rd PCI_APER0.PORT) off.toNat len
    exec (.pf0ApertureAccess off len none ok) s = .next (if dbg.2 then r.1.apertureEnd r.2.1 true r.2.2 else dbg.1.refuseCa true) := by
  change execPf0ApertureAccess off len none ok s = _
  cases hdbg : (s.debugAccess p ok).2 <;> simp [execPf0ApertureAccess, hinj, Nat.not_lt.mpr hfit, hup, h, hdbg]

end Read

theorem exec_vfApertureAccess_write (v : Part) (off : BitVec 34) (len : Fin 4097) (d : List Byte) :
    let w := s.partWrite .hostAperture v ((s.rd (PCI_APER.WIN v) * 2 ^ 34 + off.toNat) % 2 ^ 40) d
    exec (.vfApertureAccess v off len (some d)) s = .next (w.1.apertureEnd (w.2 = .ok) false []) :=
  congrArg Host.Outcome.next (if_neg (Bool.eq_false_iff.mp hinj))

theorem exec_vfApertureAccess_read (v : Part) (off : BitVec 34) (len : Fin 4097) :
    let r := s.partRead .hostAperture v ((s.rd (PCI_APER.WIN v) * 2 ^ 34 + off.toNat) % 2 ^ 40) len
    exec (.vfApertureAccess v off len none) s = .next (r.1.apertureEnd (r.2.1 = .ok) true r.2.2) :=
  congrArg Host.Outcome.next (if_neg (Bool.eq_false_iff.mp hinj))

end Aperture

/-- Settles O43: one clause per equation of its command; a link that comes up is shown by `State.showLink`. -/
theorem hostLinkAndRequests : Obligations.HostLinkAndRequests := by
  refine ⟨fun speed width flit s =>
      ⟨_, exec_pcieLinkUp speed width flit s, ?up, ?speed, ?width, ?flit, State.raiseIf_eta .., ?changed⟩,
    fun ws s => exec_linkLoss_of_down ws, fun ws s => exec_linkLoss_of_up ws, fun rd s => ⟨rfl, rfl, rfl⟩, fun w s => rfl,
    fun p s => ⟨rfl, rfl⟩,
    fun fn r wr s => ⟨exec_configRequest_of_dead fn r wr, exec_configRequest_of_early fn r wr, fun hrun h =>
      ⟨exec_configRequest_of_phase5 fn r false hrun h, exec_configRequest_of_phase5 fn r true hrun h⟩⟩,
    fun off len ok s hinj => ⟨exec_pf0ApertureAccess_of_beyond hinj, exec_pf0ApertureAccess_read_of_unassigned hinj,
      fun p hfit hup => exec_pf0ApertureAccess_read_of_assigned hinj hfit hup,
      fun d hfit hup => exec_pf0ApertureAccess_write_of_unassigned hinj hfit hup,
      fun d hfit hup => exec_pf0ApertureAccess_write_of_assigned hinj hfit hup⟩,
    fun v off len d s hinj => ⟨exec_vfApertureAccess_write hinj v off len d, exec_vfApertureAccess_read hinj v off len⟩⟩
  case up => rw [State.flag_raiseIf_ne _ _ (by decide), State.flag_up_showLink]
  case speed =>
    rw [State.rd_raiseIf_ne _ _ (by decide), State.rd_speed_showLink]
    exact Nat.mod_eq_of_lt speed.isLt
  case width =>
    rw [State.rd_raiseIf_ne _ _ (by decide), State.rd_width_showLink]
    exact Nat.mod_eq_of_lt width.isLt
  case flit => rw [State.flag_raiseIf_ne _ _ (by decide), State.flag_flit_showLink]
  case changed =>
    rw [State.flag_raiseIf_self _ _ (by decide), State.flag_showLink_ne _ _ _ _ (by decide) (by decide) (by decide) (by decide),
      State.linkDiffers, ← Bool.or_assoc, ← Bool.or_assoc]

end Sys2Proof.Machine
end

section
/-! PROOFS. Serving rings and resets of functions (12_host_interface.md): ring enables and indexes, event records, VF_FLR and PF_RESET. -/

namespace Sys2Proof.Machine
open Reg

/-! A write of PCI_RING_CFG (R350, R369). That a refused enable stores the other fields is the model's reading (log 140). -/

section Enable

variable {v : Part} {x : Word} {s : State}

theorem exec_ringEnable_of_enabled (h : s.flag (PCI_RING_CFG.ENABLE v) = true) : exec (.ringEnable v x) s = .next
    ((s.wr (PCI_RING_CFG.ENABLE v) (b2n (bit x.toNat 31))).raiseIf ((ringCfgFields v).any (fun f => s.rd f ≠ bits x.toNat f.lo f.width))
      (PCI_RING_STAT.CFG_BUSY_WR v)) :=
  congrArg Host.Outcome.next (if_pos h)

/-- The fields of PCI_RING_CFG other than ENABLE, taken from a word. -/
def State.takeRingCfg (s : State) (v : Nat) (x : Word) : State :=
  (ringCfgFields v).foldl (fun (st : State) f => st.wr f (bits x.toNat f.lo f.width)) s

variable (hoff : s.flag (PCI_RING_CFG.ENABLE v) = false)

include hoff

theorem exec_ringEnable_of_disabling (hbit : bit x.toNat 31 = false) : exec (.ringEnable v x) s = .next (s.takeRingCfg v x) := by
  change execRingEnable v x s = _
  simp [execRingEnable, hoff, hbit, State.takeRingCfg]

variable (hbit : bit x.toNat 31 = true)

include hbit

theorem exec_ringEnable_of_tearing (h : s.tearing v = true) :
    exec (.ringEnable v x) s = .next ((s.takeRingCfg v x).wr (PCI_RING_STAT.CFG_BUSY_WR v) 1) := by
  change execRingEnable v x s = _
  simp [execRingEnable, hoff, hbit, h, State.takeRingCfg, State.raise]

variable (hlive : s.tearing v = false)

include hlive

theorem exec_ringEnable_of_failing {k : Nat} (h : failingRule ((s.takeRingCfg v x).ringRules v) = some k) : exec (.ringEnable v x) s =
    .next (((s.takeRingCfg v x).wr (PCI_RING_STAT.CFG_MISMATCH v) 1).wr (PCI_RING_STAT.CFG_RULE v) k) := by
  rw [State.takeRingCfg] at h
  change execRingEnable v x s = _
  simp [execRingEnable, hoff, hbit, hlive, h, State.takeRingCfg, State.raise]

theorem exec_ringEnable_of_passing (h : failingRule ((s.takeRingCfg v x).ringRules v) = none) :
    exec (.ringEnable v x) s = .next ((s.takeRingCfg v x).ringsOn v) := by
  rw [State.takeRingCfg] at h
  change execRingEnable v x s = _
  simp [execRingEnable, hoff, hbit, hlive, h, State.takeRingCfg]

end Enable

/-! Rings that start (R350). -/

/-- Fields made 0 one after another. -/
def State.zeroFields (s : State) (l : List Fld) : State := l.foldl (fun st f => st.wr f 0) s

theorem State.rd_zeroFields_ne {f : Fld} : ∀ {l : List Fld} {s : State}, (∀ g ∈ l, f.key ≠ g.key) → (s.zeroFields l).rd f = s.rd f
  | [], _, _ => rfl
  | g :: _, s, h => (State.rd_zeroFields_ne fun g' hg' => h g' (List.mem_cons_of_mem _ hg')).trans (s.rd_wr_ne 0 (h g List.mem_cons_self))

/-- A field reads 0 when no later one of the list lies on its place. -/
theorem State.rd_zeroFields_mem {f : Fld} {l : List Fld} (hl : l.Pairwise (fun f g => f.key ≠ g.key)) (hf : f ∈ l) (s : State) :
    (s.zeroFields l).rd f = 0 := by
  induction l generalizing s with
  | nil => cases hf
  | cons g l ih =>
    obtain ⟨hg, hl⟩ := List.pairwise_cons.mp hl
    obtain rfl | hf := List.mem_cons.mp hf
    · exact (State.rd_zeroFields_ne hg).trans ((s.rd_wr_self f 0).trans (Nat.zero_mod _))
    · exact ih hl hf _

theorem State.zeroFields_eta (l : List Fld) (s : State) : s.zeroFields l = { s with regs := (s.zeroFields l).regs } := by
  induction l generalizing s with
  | nil => rfl
  | cons f l ih => exact ih (s.wr f 0)

/-- What is 0 when rings start: every index, and SQ_FAULT. -/
def ringStartFields (v : Nat) : List Fld :=
  [PCI_SQ_TAIL.INDEX v, PCI_OQ_FREE.INDEX v, PCI_EQ_HEAD.INDEX v, PCI_SQ_HEAD.INDEX v, PCI_OQ_NEXT.INDEX v, PCI_EQ_TAIL.INDEX v,
    PCI_RING_STAT.SQ_FAULT v]

theorem State.ringsOn_eq (s : State) (v : Nat) : s.ringsOn v = (s.wr (PCI_RING_CFG.ENABLE v) 1).zeroFields (ringStartFields v) := rfl

theorem ringStartFields_pairwise (v : Nat) : (ringStartFields v).Pairwise (fun f g => f.key ≠ g.key) := by
  simp only [ringStartFields, List.pairwise_cons, List.forall_mem_cons, List.not_mem_nil, false_implies, implies_true, and_true,
    List.Pairwise.nil, Fld.key, PCI_SQ_TAIL.INDEX, PCI_OQ_FREE.INDEX, PCI_EQ_HEAD.INDEX, PCI_SQ_HEAD.INDEX, PCI_OQ_NEXT.INDEX,
    PCI_EQ_TAIL.INDEX, PCI_RING_STAT.SQ_FAULT]
  omega

theorem ringEnable_key_ne (v : Nat) : ∀ g ∈ ringStartFields v, (PCI_RING_CFG.ENABLE v).key ≠ g.key := by
  simp only [ringStartFields, List.forall_mem_cons, List.not_mem_nil, false_implies, implies_true, and_true, Fld.key,
    PCI_RING_CFG.ENABLE, PCI_SQ_TAIL.INDEX, PCI_OQ_FREE.INDEX, PCI_EQ_HEAD.INDEX, PCI_SQ_HEAD.INDEX, PCI_OQ_NEXT.INDEX, PCI_EQ_TAIL.INDEX,
    PCI_RING_STAT.SQ_FAULT]
  omega

section RingsOn

variable (s : State) (v : Nat)

theorem State.flag_enable_ringsOn : (s.ringsOn v).flag (PCI_RING_CFG.ENABLE v) = true := by
  rw [State.ringsOn_eq, State.flag, State.rd_zeroFields_ne (ringEnable_key_ne v), State.rd_wr_self]
  rfl

theorem State.rd_ringsOn {f : Fld} (hf : f ∈ ringStartFields v) : (s.ringsOn v).rd f = 0 :=
  State.rd_zeroFields_mem (ringStartFields_pairwise v) hf _

theorem State.ringsOn_eta : s.ringsOn v = { s with regs := (s.ringsOn v).regs } := State.zeroFields_eta ..

end RingsOn

/-! Event records (R355, R356). -/

section Record

variable {p : Part} {s : State}

theorem exec_eventRecordWrite_of_barred (h : s.records p = [] ∨ s.flag (PCI_RING_CFG.ENABLE p) = false ∨ s.eqFull p = true) :
    exec (.eventRecordWrite p) s = .next s := by
  change execEventRecordWrite p s = _
  cases hr : s.records p with
  | nil => simp only [execEventRecordWrite, hr]
  | cons r rest =>
    have hbar : (!s.flag (PCI_RING_CFG.ENABLE p) || s.eqFull p) = true := by simpa [hr] using h
    simp only [execEventRecordWrite, hr, if_pos hbar]

/-- The oldest record stands in the event ring at the tail's entry. -/
def State.recordOut (s : State) (p : Nat) (r : List Byte) (rest : List (List Byte)) : State :=
  { s with evq := Cells.set [] s.evq p rest }.send (.hostWrite (1 + p)
    (ringEntry (s.rd (PCI_EQ_LO.ADDR p) + s.rd (PCI_EQ_HI.ADDR p) * 2 ^ 32) (s.rd (PCI_RING_CFG.EQ_LOG2 p)) 64
      (s.rd (PCI_EQ_TAIL.INDEX p))) r)

/-- The new tail stands in the register and in the tail word of the host. -/
def State.tailOut (s : State) (p tail word : Nat) : State :=
  (s.wr (PCI_EQ_TAIL.INDEX p) tail).send (.hostWrite (1 + p) word (leBytes 4 tail))

theorem exec_eventRecordWrite_of_room {r : List Byte} {rest : List (List Byte)} (hr : s.records p = r :: rest)
    (hon : s.flag (PCI_RING_CFG.ENABLE p) = true) (hroom : s.eqFull p = false) :
    let s2 := (s.recordOut p r rest).tailOut p ((s.rd (PCI_EQ_TAIL.INDEX p) + 1) % 65536)
      (s.rd (PCI_EQW_LO.ADDR p) + s.rd (PCI_EQW_HI.ADDR p) * 2 ^ 32)
    exec (.eventRecordWrite p) s =
      .next ((if s2.flag (PCI_RING_CFG.EQ_IRQ p) then s2.sendVec (1 + p) (s2.rd (PCI_VEC.EQ p)) else s2).recordsMoved) := by
  have hopen : ¬(!s.flag (PCI_RING_CFG.ENABLE p) || s.eqFull p) = true := by simp [hon, hroom]
  change execEventRecordWrite p s = _
  simp only [execEventRecordWrite, hr, if_neg hopen]
  rfl

end Record

/-- Settles O44: one clause per equation of its command; rings that start read 0 in every field of `ringStartFields`. -/
theorem ringsAndFunctionResets : Obligations.RingsAndFunctionResets := by
  refine ⟨fun v x s h => exec_ringEnable_of_enabled h,
    fun v x s hoff => ⟨exec_ringEnable_of_disabling hoff, exec_ringEnable_of_tearing hoff, fun hbit hlive =>
      ⟨fun k h => exec_ringEnable_of_failing hoff hbit hlive h, exec_ringEnable_of_passing hoff hbit hlive⟩⟩,
    fun v s => ⟨s.flag_enable_ringsOn v, ?_, ?_, ?_, ?_, ?_, ?_, ?fault, s.ringsOn_eta v⟩, fun v i s => ⟨rfl, rfl⟩,
    fun p s h => exec_eventRecordWrite_of_barred h, fun p r rest s hr hon hroom => exec_eventRecordWrite_of_room hr hon hroom,
    fun v s => rfl, fun s => rfl⟩
  case fault => rw [State.flag, s.rd_ringsOn v (by simp [ringStartFields])]; rfl
  all_goals exact s.rd_ringsOn v (by simp [ringStartFields])

end Sys2Proof.Machine
end

section
/-! PROOFS. Mailboxes and doorbells (12_host_interface.md): what a send, a ring and a read leave. -/

namespace Sys2Proof.Machine
open Reg

/-! Where the fields of a mailbox stand (Tables 12.22 and 12.23). -/

theorem mbxFull_key_ne (t : Nat) : (MBX_IN_FROM.FULL t).key ≠ (MBX_IN_FROM.FROM t).key ∧
    (MBX_IN_FROM.FULL t).key ≠ (MBX_IN_DATA.DATA t).key := by
  simp only [MBX_IN_FROM.FULL, MBX_IN_FROM.FROM, MBX_IN_DATA.DATA, Fld.key]
  omega

theorem mbxFrom_key_ne_data (t : Nat) : (MBX_IN_FROM.FROM t).key ≠ (MBX_IN_DATA.DATA t).key := by
  simp only [MBX_IN_FROM.FROM, MBX_IN_DATA.DATA, Fld.key]
  omega

theorem mbx_key_ne_injEcrc (t : Nat) : (MBX_IN_DATA.DATA t).key ≠ PCI_INJ.ECRC.key ∧ (MBX_IN_FROM.FULL t).key ≠ PCI_INJ.ECRC.key := by
  unfold MBX_IN_DATA.DATA MBX_IN_FROM.FULL PCI_INJ.ECRC Fld.key mbxT glbB
  dsimp only
  omega

/-! Delivery (R361, R363). -/

/-- Receiver t's mailbox with a message of a sender. -/
def State.mbxPut (s : State) (t sender word : Nat) : State :=
  ((s.wr (MBX_IN_FROM.FULL t) 1).wr (MBX_IN_FROM.FROM t) sender).wr (MBX_IN_DATA.DATA t) word

section Put

variable (s : State) (t sender word : Nat)

theorem State.flag_full_mbxPut : (s.mbxPut t sender word).flag (MBX_IN_FROM.FULL t) = true := by
  obtain ⟨hfrom, hdata⟩ := mbxFull_key_ne t
  rw [State.mbxPut, State.flag_wr_ne _ _ hdata, State.flag_wr_ne _ _ hfrom, State.flag, State.rd_wr_self]
  rfl

theorem State.rd_from_mbxPut : (s.mbxPut t sender word).rd (MBX_IN_FROM.FROM t) = sender % 2 ^ 4 := by
  rw [State.mbxPut, State.rd_wr_ne _ _ (mbxFrom_key_ne_data t), State.rd_wr_self]
  rfl

theorem State.rd_data_mbxPut : (s.mbxPut t sender word).rd (MBX_IN_DATA.DATA t) = word % 2 ^ 32 := State.rd_wr_self ..

/-- A full mailbox is a reason for its receiver's notification. -/
theorem State.mbxActive_mbxPut : (s.mbxPut t sender word).mbxActive t = true := by
  rw [State.mbxActive, State.flag_full_mbxPut, Bool.true_or]

end Put

/-- A change that leaves the notification active sends the vector of a host function when it was not active before. -/
theorem State.mbxChange_of_active {s : State} {t : Nat} {g : State → State} (h : (g s).mbxActive t = true) :
    s.mbxChange t g = if s.mbxActive t then g s else if t = 3 then (g s).sendVec 0 ((g s).rd PCI_PF_VEC.MBX)
      else if 4 ≤ t then (g s).sendVec (t - 3) ((g s).rd (PCI_VEC.MBX (t - 4))) else g s := by
  cases hs : s.mbxActive t <;> simp [State.mbxChange, h, hs]

section Send

variable {a t : Fin 12} {w : Word} {s : State}

theorem exec_mbxSend_of_denied (h : mbxAllowed a t = false) :
    exec (.mbxSend a t w) s = .next ((s.wr (MBX_STAT.TARGET a) t).wr (MBX_STAT.DENIED a) 1) := by
  change execMbxSend a t w s = _
  simp [execMbxSend, h, State.raise]

theorem exec_mbxRing_of_denied (h : mbxAllowed a t = false) :
    exec (.mbxRing a t w) s = .next ((s.wr (MBX_STAT.TARGET a) t).wr (MBX_STAT.DENIED a) 1) := by
  change execMbxRing a t w s = _
  simp [execMbxRing, h, State.raise]

variable (hallowed : mbxAllowed a t = true)

include hallowed

theorem exec_mbxSend_of_reset (h : s.recvReset t = true) :
    exec (.mbxSend a t w) s = .next ((s.wr (MBX_STAT.TARGET a) t).wr (MBX_STAT.ABORTED a) 1) := by
  change execMbxSend a t w s = _
  simp [execMbxSend, hallowed, h, State.raise]

theorem exec_mbxRing_of_reset (h : s.recvReset t = true) :
    exec (.mbxRing a t w) s = .next ((s.wr (MBX_STAT.TARGET a) t).wr (MBX_STAT.ABORTED a) 1) := by
  change execMbxRing a t w s = _
  simp [execMbxRing, hallowed, h, State.raise]

variable (hlive : s.recvReset t = false)

include hlive

theorem exec_mbxSend_of_full (h : s.flag (MBX_IN_FROM.FULL t) = true) :
    exec (.mbxSend a t w) s = .next ((s.wr (MBX_STAT.TARGET a) t).wr (MBX_STAT.DROPPED a) 1) := by
  change execMbxSend a t w s = _
  simp [execMbxSend, hallowed, hlive, h, State.raise]

theorem exec_mbxSend_of_empty (h : s.flag (MBX_IN_FROM.FULL t) = false) : exec (.mbxSend a t w) s =
    .next ((s.wr (MBX_STAT.TARGET a) t).mbxChange t (fun st => st.mbxPut t a w.toNat)) := by
  change execMbxSend a t w s = _
  simp [execMbxSend, hallowed, hlive, h, State.mbxPut]

theorem exec_mbxRing_of_live : exec (.mbxRing a t w) s = .next ((s.wr (MBX_STAT.TARGET a) t).mbxChange t
    (fun st => st.wr (MBX_DB_PEND.PEND t) (st.rd (MBX_DB_PEND.PEND t) ||| w.toNat))) := by
  change execMbxRing a t w s = _
  simp [execMbxRing, hallowed, hlive]

end Send

/-! Reading (R362). -/

/-- What is sent reaches the registers alone, by an armed PCI_INJ.ECRC, and the output. -/
theorem State.send_eta (s : State) (o : Out) : s.send o = { s with regs := (s.send o).regs, out := (s.send o).out } := by
  cases h : o.isTlp && s.flag PCI_INJ.ECRC <;> simp [State.send, h, State.wr]

/-- Receiver t's mailbox, emptied. -/
def State.mbxTaken (s : State) (t : Nat) : State := (s.wr (MBX_IN_DATA.DATA t) 0).wr (MBX_IN_FROM.FULL t) 0

theorem exec_mbxInDataRead (t : Fin 12) (s : State) : exec (.mbxInDataRead t) s = .next ((s.mbxTaken t).send
    (if t.val < 3 then .busData (s.rd (MBX_IN_DATA.DATA t)) else .readData (leBytes 4 (s.rd (MBX_IN_DATA.DATA t))))) := rfl

/-- Settles O45: a delivery is `State.mbxPut`, whose notification is active, and a read is `State.mbxTaken`. -/
theorem mailboxes : Obligations.Mailboxes := by
  refine ⟨fun a t w s => ⟨fun h => ⟨exec_mbxSend_of_denied h, exec_mbxRing_of_denied h⟩,
      fun hallowed h => ⟨exec_mbxSend_of_reset hallowed h, exec_mbxRing_of_reset hallowed h⟩,
      fun hallowed hlive h => exec_mbxSend_of_full hallowed hlive h, fun hallowed hlive h => ⟨?delivered, ?sender, ?word, ?full⟩,
      fun hallowed hlive => exec_mbxRing_of_live hallowed hlive⟩,
    fun t s => ⟨_, exec_mbxInDataRead t s, ?data, ?empty, State.mem_send .., ?frame, ?others⟩⟩
  case delivered =>
    rw [exec_mbxSend_of_empty hallowed hlive h, State.mbxChange_of_active (State.mbxActive_mbxPut ..)]
    rfl
  case sender => exact (State.rd_from_mbxPut ..).trans (Nat.mod_eq_of_lt (by omega))
  case word => exact (State.rd_data_mbxPut ..).trans (Nat.mod_eq_of_lt w.isLt)
  case full => exact State.flag_full_mbxPut ..
  all_goals
    obtain ⟨hdata, hfull⟩ := mbx_key_ne_injEcrc t
    obtain ⟨-, hne⟩ := mbxFull_key_ne t
  case data =>
    rw [State.rd_send_ne _ _ hdata, State.mbxTaken, State.rd_wr_ne _ _ hne.symm, State.rd_wr_self]
    rfl
  case empty =>
    rw [State.flag, State.rd_send_ne _ _ hfull, State.mbxTaken, State.rd_wr_self]
    rfl
  case frame => exact State.send_eta ..
  case others =>
    intro f hfData hfFull hfEcrc
    rw [State.rd_send_ne _ _ hfEcrc, State.mbxTaken, State.rd_wr_ne _ _ hfFull, State.rd_wr_ne _ _ hfData]

end Sys2Proof.Machine
end

section
/-! PROOFS. The interrupt controller (12_host_interface.md): pending bits and levels before an access, writes of them, claims. -/

namespace Sys2Proof.Machine
open Reg

/-! Bits of a word. -/

theorem bit_eq_testBit (v i : Nat) : bit v i = v.testBit i := by
  simp [bit, bits, Nat.testBit_eq_decide_div_mod_eq, Nat.shiftRight_eq_div_pow]

/-- Taking away the weight of a bit that is 1 clears that bit alone: no borrow leaves its place. -/
theorem testBit_sub_two_pow {v k : Nat} (h : v.testBit k = true) (j : Nat) :
    (v - 2 ^ k).testBit j = (v.testBit j && decide (j ≠ k)) := by
  have hset : v / 2 ^ k % 2 = 1 := by simpa [Nat.testBit_eq_decide_div_mod_eq] using h
  obtain ⟨half, hodd⟩ : ∃ half, v / 2 ^ k = 2 * half + 1 := ⟨v / 2 ^ k / 2, by omega⟩
  have hlow : v % 2 ^ k < 2 ^ k := Nat.mod_lt _ (Nat.two_pow_pos k)
  have hv : v = 2 ^ k * (2 * half + 1) + v % 2 ^ k := by rw [← hodd, Nat.div_add_mod]
  have hsub : v - 2 ^ k = 2 ^ k * (2 * half) + v % 2 ^ k := by rw [Nat.mul_add, Nat.mul_one] at hv; omega
  have hbits : v.testBit j = if j < k then (v % 2 ^ k).testBit j else (2 * half + 1).testBit (j - k) :=
    (congrArg (Nat.testBit · j) hv).trans (Nat.testBit_two_pow_mul_add _ hlow j)
  rw [hsub, hbits, Nat.testBit_two_pow_mul_add _ hlow]
  by_cases hjk : j < k
  · simp [hjk, Nat.ne_of_lt hjk]
  · obtain ⟨m, rfl⟩ := Nat.exists_eq_add_of_le (Nat.le_of_not_lt hjk)
    cases m <;> simp [Nat.testBit_succ, Nat.mul_add_div]

/-! Where the fields of the controller stand (Tables 12.26 to 12.28). -/

theorem irqPend_key_ne {u w : Nat} (h : u ≠ w) : (IRQ_PEND.PEND u).key ≠ (IRQ_PEND.PEND w).key := by
  simp only [IRQ_PEND.PEND, Fld.key]
  omega

theorem irqLevel_key_ne_pend (u : Nat) {w : Nat} (h : w < 4) : (IRQ_LEVEL.LEVEL u).key ≠ (IRQ_PEND.PEND w).key := by
  simp only [IRQ_LEVEL.LEVEL, IRQ_PEND.PEND, Fld.key]
  omega

theorem irqPend_key_ne_claim {w : Nat} (h : w < 4) (p : Nat) : (IRQ_PEND.PEND w).key ≠ (IRQ_CLAIM.SOURCE p).key ∧
    (IRQ_PEND.PEND w).key ≠ (IRQ_CLAIM.IN_SERVICE p).key := by
  simp only [IRQ_PEND.PEND, IRQ_CLAIM.SOURCE, IRQ_CLAIM.IN_SERVICE, Fld.key]
  omega

theorem irqSource_key_ne_inService (p : Nat) : (IRQ_CLAIM.SOURCE p).key ≠ (IRQ_CLAIM.IN_SERVICE p).key := by
  simp only [IRQ_CLAIM.SOURCE, IRQ_CLAIM.IN_SERVICE, Fld.key]
  omega

/-! Each pending bit whose level is 1 is set (R365), in this model before each access of the controller (log 144). -/

/-- The part of `irqTick` that is about word w. -/
def State.irqTickWord (s : State) (w : Nat) : State := s.wr (IRQ_PEND.PEND w) (s.rd (IRQ_PEND.PEND w) ||| s.rd (IRQ_LEVEL.LEVEL w))

section Tick

variable (s : State)

theorem State.irqTick_eq_words : s.irqTick = (((s.irqTickWord 0).irqTickWord 1).irqTickWord 2).irqTickWord 3 := rfl

theorem State.irqTick_eta : s.irqTick = { s with regs := s.irqTick.regs } := rfl

theorem State.rd_irqTick_ne {f : Fld} (h : ∀ w : Fin 4, f.key ≠ (IRQ_PEND.PEND w).key) : s.irqTick.rd f = s.rd f := by
  have hword (t : State) (w : Fin 4) : (t.irqTickWord w).rd f = t.rd f := State.rd_wr_ne t _ (h w)
  exact (hword _ 3).trans ((hword _ 2).trans ((hword _ 1).trans (hword s 0)))

@[simp] theorem State.rd_irqTick_level (u : Nat) : s.irqTick.rd (IRQ_LEVEL.LEVEL u) = s.rd (IRQ_LEVEL.LEVEL u) :=
  s.rd_irqTick_ne fun w => irqLevel_key_ne_pend u w.isLt

theorem State.rd_irqTickWord_pend_ne {u w : Nat} (h : u ≠ w) : (s.irqTickWord w).rd (IRQ_PEND.PEND u) = s.rd (IRQ_PEND.PEND u) :=
  State.rd_wr_ne s _ (irqPend_key_ne h)

theorem State.rd_irqTickWord_level (u : Nat) {w : Nat} (h : w < 4) :
    (s.irqTickWord w).rd (IRQ_LEVEL.LEVEL u) = s.rd (IRQ_LEVEL.LEVEL u) :=
  State.rd_wr_ne s _ (irqLevel_key_ne_pend u h)

theorem State.testBit_irqTickWord_pend {w j : Nat} (hj : j < 32) : ((s.irqTickWord w).rd (IRQ_PEND.PEND w)).testBit j =
    ((s.rd (IRQ_PEND.PEND w)).testBit j || (s.rd (IRQ_LEVEL.LEVEL w)).testBit j) := by
  rw [State.irqTickWord, State.testBit_rd_wr_self _ _ _ hj, Nat.testBit_or]

theorem State.testBit_irqTick_pend {w j : Nat} (hw : w < 4) (hj : j < 32) : (s.irqTick.rd (IRQ_PEND.PEND w)).testBit j =
    ((s.rd (IRQ_PEND.PEND w)).testBit j || (s.rd (IRQ_LEVEL.LEVEL w)).testBit j) := by
  rw [State.irqTick_eq_words]
  obtain rfl | rfl | rfl | rfl : w = 0 ∨ w = 1 ∨ w = 2 ∨ w = 3 := by omega
  all_goals simp [State.rd_irqTickWord_pend_ne, State.rd_irqTickWord_level, State.testBit_irqTickWord_pend, hj]

end Tick

/-! Writes of pending bits, and a filter that settles (R364, R365). -/

/-- What a withdrawn line is remembered by is no register. -/
@[simp] theorem State.rd_irqWrite (s : State) (g : State → State) (f : Fld) : (s.irqWrite g).rd f = (g s).rd f := rfl

theorem exec_irqPendWrite (w : Fin 4) (v : Word) (s : State) : exec (.irqPendWrite w v) s =
    .next (s.irqTick.irqWrite (fun st => st.wr (IRQ_PEND.PEND w) (v.toNat ||| st.rd (IRQ_LEVEL.LEVEL w)))) := rfl

/-- A level word with the bit of one source made what its raw level is. -/
def settledLevel (word k : Nat) (raw : Bool) : Nat := if raw then word ||| 2 ^ k else if bit word k then word - 2 ^ k else word

theorem testBit_settledLevel_self (word k : Nat) (raw : Bool) : (settledLevel word k raw).testBit k = raw := by
  cases raw with
  | true => simp [settledLevel, Nat.testBit_two_pow_self]
  | false =>
    simp only [settledLevel, bit_eq_testBit]
    by_cases h : word.testBit k = true
    · simp [h, testBit_sub_two_pow h]
    · simp [h]

theorem exec_irqFilterSettle (i : Fin 112) (s : State) : exec (.irqFilterSettle i) s = .next ((s.irqTick.wr (IRQ_LEVEL.LEVEL (i.val / 32))
    (settledLevel (s.rd (IRQ_LEVEL.LEVEL (i.val / 32))) (i.val % 32) (s.irqRaw i))).irqTick) := rfl

/-- Settles O46: each pending word is the last write of its word in the tick, and a level takes part in it whichever bit a write gave. -/
theorem interruptPending : Obligations.InterruptPending := by
  refine ⟨fun w s j hj => s.testBit_irqTick_pend w.isLt hj, fun s => ⟨s.irqTick_eta, fun f => s.rd_irqTick_ne⟩,
    fun w v s => ⟨_, exec_irqPendWrite w v s, ?same, ?other, rfl, ?writeFrame⟩,
    fun i s => ⟨_, exec_irqFilterSettle i s, rfl, ?level, ?pend, ?settleFrame⟩⟩
  case same =>
    intro j hj
    rw [State.rd_irqWrite, State.testBit_rd_wr_self _ _ _ hj, Nat.testBit_or, State.rd_irqTick_level, BitVec.testBit_toNat]
  case other =>
    intro u j huw hj
    rw [State.rd_irqWrite, State.rd_wr_ne _ _ (irqPend_key_ne (Fin.val_ne_of_ne huw)), s.testBit_irqTick_pend u.isLt hj]
  case writeFrame =>
    intro f hf
    rw [State.rd_irqWrite, State.rd_wr_ne _ _ (hf w), s.rd_irqTick_ne hf]
  all_goals
    have hword : i.val / 32 < 4 := by omega
    have hbit : i.val % 32 < 32 := Nat.mod_lt _ (by decide)
  case level => rw [State.rd_irqTick_level, State.testBit_rd_wr_self _ _ _ hbit, testBit_settledLevel_self]
  case pend =>
    intro hraw
    rw [State.testBit_irqTick_pend _ hword hbit, State.testBit_rd_wr_self _ _ _ hbit, testBit_settledLevel_self, hraw, Bool.or_true]
  case settleFrame =>
    intro f hf
    rw [State.rd_irqTick_ne _ fun w => (hf w).1, State.rd_wr_ne _ _ (hf ⟨i.val / 32, hword⟩).2, State.rd_irqTick_ne _ fun w => (hf w).1]

/-! Claims (R366, R367). -/

/-- Source i asks processor p: it is pending, and not masked there. -/
def State.irqAsks (s : State) (p i : Nat) : Bool :=
  bit (s.rd (IRQ_PEND.PEND (i / 32))) (i % 32) && !bit (s.rd (IRQ_MASK.MASK p (i / 32))) (i % 32)

theorem State.irqAsks_iff {s : State} {p i : Nat} : s.irqAsks p i = true ↔
    bit (s.rd (IRQ_PEND.PEND (i / 32))) (i % 32) = true ∧ bit (s.rd (IRQ_MASK.MASK p (i / 32))) (i % 32) = false := by
  simp [State.irqAsks]

theorem State.irqAsks_eq_false_iff {s : State} {p i : Nat} : s.irqAsks p i = false ↔
    bit (s.rd (IRQ_PEND.PEND (i / 32))) (i % 32) = false ∨ bit (s.rd (IRQ_MASK.MASK p (i / 32))) (i % 32) = true := by
  rw [State.irqAsks, Bool.and_eq_false_iff, Bool.not_eq_false']

/-- The sources of a claim are 1 to 111; number 0 is none (Table 12.10). -/
theorem State.irqLowest_eq (s : State) (p : Nat) : s.irqLowest p = (List.range' 1 111).find? (s.irqAsks p) := rfl

theorem State.irqLowest_eq_some_iff {s : State} {p i : Nat} : s.irqLowest p = some i ↔
    s.irqAsks p i = true ∧ (1 ≤ i ∧ i < 112) ∧ ∀ j, 1 ≤ j → j < i → s.irqAsks p j = false := by
  simp [State.irqLowest_eq, List.find?_range'_eq_some]

theorem State.irqLine_iff {s : State} {p : Nat} : s.irqLine p = true ↔
    s.flag (IRQ_CLAIM.IN_SERVICE p) = false ∧ ∃ i, 1 ≤ i ∧ i < 112 ∧ s.irqAsks p i = true := by
  simp [State.irqLine, State.irqLowest_eq, and_assoc]

theorem State.irqLine_of_inService {s : State} {p : Nat} (h : s.flag (IRQ_CLAIM.IN_SERVICE p) = true) : s.irqLine p = false := by
  simp [State.irqLine, h]

/-- The registers after a claim of source i by processor p. -/
def State.claimed (s : State) (p i : Nat) : State :=
  ((s.wr (IRQ_PEND.PEND (i / 32)) (s.rd (IRQ_PEND.PEND (i / 32)) - 2 ^ (i % 32))).wr (IRQ_CLAIM.SOURCE p) i).wr (IRQ_CLAIM.IN_SERVICE p) 1

section Claim

variable {p : Fin 3} {soon : Bool} {s : State}

theorem exec_irqClaim_of_inService (h : s.irqTick.flag (IRQ_CLAIM.IN_SERVICE p) = true) :
    exec (.irqClaim p soon) s = .next { s.irqTick with out := s.out ++ [.busData (s.irqTick.rd (IRQ_CLAIM.SOURCE p) + 128)] } :=
  congrArg Host.Outcome.next (if_pos h)

theorem exec_irqClaim_of_none (h : s.irqTick.flag (IRQ_CLAIM.IN_SERVICE p) = false) (hnone : s.irqTick.irqLowest p = none) :
    exec (.irqClaim p soon) s =
      .next { s.irqTick with out := s.out ++ [.busData (if soon && Cells.get false s.irqTick.host.withdrawn p then 127 else 0)] } := by
  change execIrqClaim p soon s = _
  simp only [execIrqClaim, h, hnone, Bool.false_eq_true, if_false]
  rfl

theorem exec_irqClaim_of_lowest {i : Nat} (h : s.irqTick.flag (IRQ_CLAIM.IN_SERVICE p) = false) (hlow : s.irqTick.irqLowest p = some i) :
    exec (.irqClaim p soon) s = .next { s.irqTick.claimed p i with out := s.out ++ [.busData (i + 128)] } := by
  change execIrqClaim p soon s = _
  simp only [execIrqClaim, h, hlow, Bool.false_eq_true, if_false]
  rfl

end Claim

section Claimed

variable (s : State) (p i : Nat)

theorem State.rd_source_claimed (h : i < 112) : (s.claimed p i).rd (IRQ_CLAIM.SOURCE p) = i := by
  rw [State.claimed, State.rd_wr_ne _ _ (irqSource_key_ne_inService p), State.rd_wr_self]
  exact Nat.mod_eq_of_lt (Nat.lt_trans h (show 112 < 2 ^ 7 by decide))

theorem State.flag_inService_claimed : (s.claimed p i).flag (IRQ_CLAIM.IN_SERVICE p) = true := by
  rw [State.flag, State.claimed, State.rd_wr_self]
  rfl

theorem State.testBit_pend_claimed (h : i < 112) (hpend : (s.rd (IRQ_PEND.PEND (i / 32))).testBit (i % 32) = true) {j : Nat} (hj : j < 32) :
    ((s.claimed p i).rd (IRQ_PEND.PEND (i / 32))).testBit j = ((s.rd (IRQ_PEND.PEND (i / 32))).testBit j && decide (j ≠ i % 32)) := by
  obtain ⟨hsource, hservice⟩ := irqPend_key_ne_claim (w := i / 32) (by omega) p
  rw [State.claimed, State.rd_wr_ne _ _ hservice, State.rd_wr_ne _ _ hsource, State.testBit_rd_wr_self _ _ _ hj, testBit_sub_two_pow hpend]

theorem State.rd_claimed_ne {f : Fld} (hpend : f.key ≠ (IRQ_PEND.PEND (i / 32)).key) (hsource : f.key ≠ (IRQ_CLAIM.SOURCE p).key)
    (hservice : f.key ≠ (IRQ_CLAIM.IN_SERVICE p).key) : (s.claimed p i).rd f = s.rd f := by
  rw [State.claimed, State.rd_wr_ne _ _ hservice, State.rd_wr_ne _ _ hsource, State.rd_wr_ne _ _ hpend]

end Claimed

/-- Settles O47: the lowest source that asks is the one that `irqLowest` finds, and a claim of it is `State.claimed`. -/
theorem interruptClaim : Obligations.InterruptClaim := by
  refine ⟨fun p s => ?line, fun p soon i s => ?claim,
    fun p soon s => ⟨exec_irqClaim_of_inService, exec_irqClaim_of_none⟩, fun p s => rfl⟩
  case line =>
    rw [State.irqLine_iff]
    simp only [State.irqAsks_iff]
  case claim =>
    intro s1 hfree hi hi' hpend hmask hlower
    have hlow : s1.irqLowest p = some i := State.irqLowest_eq_some_iff.mpr
      ⟨State.irqAsks_iff.mpr ⟨hpend, hmask⟩, ⟨hi, hi'⟩, fun j hj hji => State.irqAsks_eq_false_iff.mpr (hlower j hj hji)⟩
    rw [bit_eq_testBit] at hpend
    exact ⟨_, exec_irqClaim_of_lowest hfree hlow, rfl, s1.rd_source_claimed p i hi', s1.flag_inService_claimed p i,
      State.irqLine_of_inService (s1.flag_inService_claimed p i), fun j => s1.testBit_pend_claimed p i hi' hpend, rfl,
      fun f => s1.rd_claimed_ne p i⟩

end Sys2Proof.Machine
end

section
/-! PROOFS. Debug sessions and debug accesses to ways (13_partitions_security.md): what opens and closes a session, how an access is counted,
and which ways it reaches. -/

namespace Sys2Proof.Machine
open Reg

@[simp] theorem State.prt_setPrt_self (s : State) (p : Nat) (x : PartSt) : (s.setPrt p x).prt p = x := Cells.get_set_self ..

theorem State.prt_setPrt_ne (s : State) {p q : Nat} (x : PartSt) (h : q ≠ p) : (s.setPrt p x).prt q = s.prt q := Cells.get_set_ne _ _ _ _ h

/-! A session opens (R388). -/

section Open

variable {s : State}

theorem exec_debugOpen_of_open (framOk : Bool) (h : s.flag GLB_DBG_STAT.OPEN = true) : exec (.debugOpen framOk) s = .next s :=
  congrArg Host.Outcome.next (if_pos h)

theorem exec_debugOpen_of_closed (framOk : Bool) (h : s.flag GLB_DBG_STAT.OPEN = false) :
    exec (.debugOpen framOk) s = .next (if framOk then s.openSession else s.raise GLB_SEC_STAT.DBG_FRAM_FAIL) :=
  congrArg Host.Outcome.next (if_neg (ne_true_of_eq_false h))

theorem State.flag_open_openSession (s : State) : s.openSession.flag GLB_DBG_STAT.OPEN = true := by
  rw [State.openSession, State.flag_wr_ne _ _ (by decide), State.flag, State.rd_wr_self]
  rfl

end Open

/-! A session closes, and the partitions that it touched are forgotten (R388). -/

/-- The open session has not touched partition p. -/
def State.untouch (s : State) (p : Nat) : State := s.setPrt p { s.prt p with touched := false }

theorem State.prt_foldl_untouch (l : List Nat) (s : State) (p : Nat) :
    (l.foldl State.untouch s).prt p = if p ∈ l then { s.prt p with touched := false } else s.prt p := by
  induction l generalizing s with
  | nil => rfl
  | cons q l ih =>
    rw [List.foldl_cons, ih]
    by_cases hpq : p = q
    · subst hpq
      simp [State.untouch]
    · rw [State.untouch, State.prt_setPrt_ne s _ hpq]
      simp [hpq]

theorem State.foldl_untouch_eq (l : List Nat) (s : State) : ∃ part, l.foldl State.untouch s = { s with part := part } := by
  induction l generalizing s with
  | nil => exact ⟨s.part, rfl⟩
  | cons q l ih =>
    obtain ⟨part, h⟩ := ih (s.untouch q)
    exact ⟨part, h⟩

section Close

variable (s : State)

theorem State.closeSession_eq : s.closeSession = (List.range 8).foldl State.untouch (s.wr GLB_DBG_STAT.OPEN 0) := rfl

theorem State.closeSession_eta : s.closeSession = { s with regs := s.closeSession.regs, part := s.closeSession.part } := by
  obtain ⟨part, h⟩ := State.foldl_untouch_eq (List.range 8) (s.wr GLB_DBG_STAT.OPEN 0)
  rw [State.closeSession_eq, h]
  rfl

theorem State.rd_closeSession (f : Fld) : s.closeSession.rd f = (s.wr GLB_DBG_STAT.OPEN 0).rd f := by
  obtain ⟨part, h⟩ := State.foldl_untouch_eq (List.range 8) (s.wr GLB_DBG_STAT.OPEN 0)
  rw [State.closeSession_eq, h]
  rfl

theorem State.flag_open_closeSession : s.closeSession.flag GLB_DBG_STAT.OPEN = false := by
  rw [State.flag, State.rd_closeSession, State.rd_wr_self]
  rfl

theorem State.prt_closeSession {p : Nat} (h : p < 8) : s.closeSession.prt p = { s.prt p with touched := false } := by
  rw [State.closeSession_eq, State.prt_foldl_untouch, if_pos (List.mem_range.mpr h)]
  rfl

end Close

/-! A debug access is counted once per session for a partition, before it is served (R388). -/

/-- The state with a session open: the one that is, or a new one. -/
def State.inSession (s : State) : State := if s.flag GLB_DBG_STAT.OPEN then s else s.openSession

/-- The open session's first access to partition p, counted. -/
def State.countDebug (s : State) (p : Nat) : State := s.setPrt p { s.prt p with dbgPart := (s.prt p).dbgPart + 1, touched := true }

theorem State.flag_open_inSession (s : State) : s.inSession.flag GLB_DBG_STAT.OPEN = true := by
  rw [State.inSession]
  split
  · assumption
  · exact s.flag_open_openSession

theorem State.prt_inSession (s : State) (p : Nat) : s.inSession.prt p = s.prt p := by
  rw [State.inSession]
  split <;> rfl

theorem State.dbgPart_countDebug_inSession (s : State) (p : Nat) : ((s.inSession.countDebug p).prt p).dbgPart = (s.prt p).dbgPart + 1 := by
  rw [State.countDebug, State.prt_setPrt_self, State.prt_inSession]

section Access

variable {s : State} {p : Nat}

theorem State.debugAccess_of_touched (framOk : Bool) (hopen : s.flag GLB_DBG_STAT.OPEN = true) (htouched : (s.prt p).touched = true) :
    s.debugAccess p framOk = (s, true) := by
  simp [State.debugAccess, hopen, htouched]

theorem State.debugAccess_of_uncounted (framOk : Bool) (h : s.flag GLB_DBG_STAT.OPEN = false ∨ (s.prt p).touched = false) :
    s.debugAccess p framOk = if framOk then (s.inSession.countDebug p, true) else (s.wr GLB_SEC_STAT.DBG_FRAM_FAIL 1, false) := by
  have hcount : (s.flag GLB_DBG_STAT.OPEN && (s.prt p).touched) = false := Bool.and_eq_false_iff.mpr h
  rw [State.debugAccess, hcount]
  cases framOk <;> rfl

end Access

/-! A debug access to a way (R387, R389). -/

/-- Whether a debug access to way w is served, and the state with it counted: a way of no partition is, uncounted, and one of a partition
whose Lathes are all STOPPED when the count is written. -/
def State.wayAccess (s : State) (w : Nat) (framOk : Bool) : State × Bool :=
  match s.wayPart w with
  | none => (s, true)
  | some p => if (s.lathesOf p).all (fun n => s.seq n = 7) then s.debugAccess p framOk else (s, false)

/-- The way that GLB_DBG_WAY_ADDR names, and the offset of the word in it. -/
def State.dbgWay (s : State) : Nat := s.rd GLB_DBG_WAY_ADDR.ADDR / 2 ^ 22
def State.dbgWayOff (s : State) : Nat := s.rd GLB_DBG_WAY_ADDR.ADDR % 2 ^ 22 / 4 * 4

section Way

variable {s : State} {w : Nat} {framOk : Bool}

theorem State.wayAccess_of_free (h : s.wayPart w = none) : s.wayAccess w framOk = (s, true) := by
  rw [State.wayAccess, h]

section Owned

variable {p : Nat} (hpart : s.wayPart w = some p)

include hpart

theorem State.wayAccess_of_running (h : (s.lathesOf p).all (fun n => s.seq n = 7) = false) : s.wayAccess w framOk = (s, false) := by
  simp only [State.wayAccess, hpart, h, Bool.false_eq_true, if_false]

theorem State.wayAccess_of_stopped (h : (s.lathesOf p).all (fun n => s.seq n = 7) = true) : s.wayAccess w framOk = s.debugAccess p framOk := by
  simp only [State.wayAccess, hpart, h, if_true]

end Owned

theorem exec_dbgWayDataAccess_write (v : Word) (framOk : Bool) (s : State) : exec (.dbgWayDataAccess (some v) framOk) s =
    .next (if (s.wayAccess s.dbgWay framOk).2 then ((s.wayAccess s.dbgWay framOk).1.wayWrite s.dbgWay s.dbgWayOff (leBytes 4 v.toNat)).1
      else (s.wayAccess s.dbgWay framOk).1) := rfl

theorem exec_dbgWayDataAccess_write_of_served {s0 : State} (v : Word) (h : s.wayAccess s.dbgWay framOk = (s0, true)) :
    exec (.dbgWayDataAccess (some v) framOk) s = .next (s0.wayWrite s.dbgWay s.dbgWayOff (leBytes 4 v.toNat)).1 := by
  rw [exec_dbgWayDataAccess_write, h]
  exact congrArg Host.Outcome.next (if_pos rfl)

theorem exec_dbgWayDataAccess_write_of_refused {s0 : State} (v : Word) (h : s.wayAccess s.dbgWay framOk = (s0, false)) :
    exec (.dbgWayDataAccess (some v) framOk) s = .next s0 := by
  rw [exec_dbgWayDataAccess_write, h]
  exact congrArg Host.Outcome.next (if_neg Bool.false_ne_true)

/-- What a served read answers: the word, or, where it is uncorrectable, a free value. -/
def sendWayWord (r : State × Bool × List Byte) : State :=
  if r.2.1 then r.1.send (.readData r.2.2) else (r.1.send (.readData (leBytes 4 r.1.free))).drew

theorem sendWayWord_of_correctable {r : State × Bool × List Byte} (h : r.2.1 = true) : sendWayWord r = r.1.send (.readData r.2.2) := if_pos h

theorem exec_dbgWayDataAccess_read (framOk : Bool) (s : State) : exec (.dbgWayDataAccess none framOk) s =
    .next (if !(s.wayAccess s.dbgWay framOk).2 then (s.wayAccess s.dbgWay framOk).1.send (.readData (leBytes 4 0))
      else sendWayWord ((s.wayAccess s.dbgWay framOk).1.wayRead s.dbgWay s.dbgWayOff 4)) := rfl

theorem exec_dbgWayDataAccess_read_of_served {s0 : State} (h : s.wayAccess s.dbgWay framOk = (s0, true)) :
    exec (.dbgWayDataAccess none framOk) s = .next (sendWayWord (s0.wayRead s.dbgWay s.dbgWayOff 4)) := by
  rw [exec_dbgWayDataAccess_read, h]
  exact congrArg Host.Outcome.next (if_neg Bool.false_ne_true)

theorem exec_dbgWayDataAccess_read_of_refused {s0 : State} (h : s.wayAccess s.dbgWay framOk = (s0, false)) :
    exec (.dbgWayDataAccess none framOk) s = .next (s0.send (.readData (leBytes 4 0))) := by
  rw [exec_dbgWayDataAccess_read, h]
  exact congrArg Host.Outcome.next (if_pos rfl)

end Way

/-- Settles O51: a session that is open is left, a closing one touches `part` and GLB_DBG_STAT.OPEN alone, and every access to a way is
what `State.wayAccess` decides of it. -/
theorem debugSessions : Obligations.DebugSessions := by
  refine ⟨fun ok s => ⟨exec_debugOpen_of_open ok, fun h => ⟨exec_debugOpen_of_closed false h, exec_debugOpen_of_closed true h⟩⟩,
    fun s => ⟨rfl, _, rfl, s.flag_open_closeSession, fun p => s.prt_closeSession, s.closeSession_eta, fun f h => ?closeFrame⟩,
    fun p ok s => ⟨State.debugAccess_of_touched ok, fun h => ⟨State.debugAccess_of_uncounted false h, ?counted⟩⟩, fun ok s => ?way⟩
  case closeFrame => rw [State.rd_closeSession, State.rd_wr_ne s 0 h]
  case counted =>
    rw [State.debugAccess_of_uncounted true h]
    exact ⟨rfl, s.dbgPart_countDebug_inSession p, s.flag_open_inSession⟩
  case way =>
    intro a off
    have hway : a / 2 ^ 22 = s.dbgWay := rfl
    have hoff : off = s.dbgWayOff := rfl
    rw [hway, hoff]
    refine ⟨fun hfree => ?free, fun p hpart hrun => ?running, fun p v hpart hstop => ?stopped⟩
    case free =>
      have hserved : s.wayAccess s.dbgWay ok = (s, true) := State.wayAccess_of_free hfree
      refine ⟨fun v => exec_dbgWayDataAccess_write_of_served v hserved, fun hread => ?_⟩
      rw [exec_dbgWayDataAccess_read_of_served hserved, sendWayWord_of_correctable hread]
    case running =>
      have hrefused : s.wayAccess s.dbgWay ok = (s, false) := State.wayAccess_of_running hpart hrun
      exact ⟨exec_dbgWayDataAccess_read_of_refused hrefused, fun v => exec_dbgWayDataAccess_write_of_refused v hrefused⟩
    case stopped =>
      rw [exec_dbgWayDataAccess_write, State.wayAccess_of_stopped hpart hstop]

end Sys2Proof.Machine
end

section
/-! PROOFS. Requests to the object dictionary (14_object_dictionary.md): the command that runs a PDU, what a run state serves, and what READ and
WRITE of a scalar entry answer. -/

namespace Sys2Proof.Machine
open Reg

/-! The OP of the PDU on the path selects the command that runs it (Table 14.2, R413). -/

section Commands

variable {path : DictPath} {pdu : List Byte} {s : State}

theorem exec_dictRead_of_request (env : DictEnv) (hwrite : hdrNum (s.pduOn path pdu) 1 1 ≠ 2) (hbeacon : hdrNum (s.pduOn path pdu) 1 1 ≠ 5)
    (hdescribe : hdrNum (s.pduOn path pdu) 1 1 ≠ 6) :
    exec (.dictRead path pdu env) s = .next (s.dictRequest path (s.pduOn path pdu) env) := by
  refine congrArg Host.Outcome.next (if_neg ?_)
  rintro (h | h | h)
  · exact hwrite h
  · exact hdescribe h
  · cases path with
    | field => exact hbeacon (of_decide_eq_true h)
    | doe => cases h
    | mirror => cases h

theorem exec_dictRead_of_other (env : DictEnv) (h : hdrNum (s.pduOn path pdu) 1 1 = 2 ∨ hdrNum (s.pduOn path pdu) 1 1 = 6) :
    exec (.dictRead path pdu env) s = .next s :=
  congrArg Host.Outcome.next (if_pos (h.imp_right Or.inl))

theorem exec_dictWrite (path : DictPath) (pdu : List Byte) (env : DictEnv) (s : State) : exec (.dictWrite path pdu env) s =
    .next (if hdrNum (s.pduOn path pdu) 1 1 = 2 then s.dictRequest path (s.pduOn path pdu) env else s) := rfl

theorem exec_dictDescribe (path : DictPath) (pdu : List Byte) (env : DictEnv) (s : State) : exec (.dictDescribe path pdu env) s =
    .next (if hdrNum (s.pduOn path pdu) 1 1 = 6 then s.dictRequest path (s.pduOn path pdu) env else s) := rfl

end Commands

/-! Where the response of a request goes: the mirror's response buffer, or the function's DOE mailbox (R403, R422). -/

section Responses

variable {s : State} {env : DictEnv}

/-- The response stands in the mirror's buffer: BUSY falls and DONE rises. -/
def State.mirrorDone (s : State) (resp : List Byte) : State :=
  ({ s with dict := { s.dict with mirrorResp := resp } }.wr MBX_DICT_STAT.BUSY 0).raise MBX_DICT_STAT.DONE

theorem State.flag_busy_mirrorDone (s : State) (resp : List Byte) : (s.mirrorDone resp).flag MBX_DICT_STAT.BUSY = false := by
  rw [State.mirrorDone, State.raise, State.flag_wr_ne _ _ (by decide), State.flag, State.rd_wr_self]
  rfl

theorem State.flag_done_mirrorDone (s : State) (resp : List Byte) : (s.mirrorDone resp).flag MBX_DICT_STAT.DONE = true := by
  rw [State.mirrorDone, State.raise, State.flag, State.rd_wr_self]
  rfl

theorem State.dictRequest_mirror_of_idle (pdu : List Byte) (h : s.flag MBX_DICT_STAT.BUSY = false) : s.dictRequest .mirror pdu env = s := by
  simp [State.dictRequest, h]

theorem State.dictRequest_mirror_of_busy {pdu : List Byte} (h : s.flag MBX_DICT_STAT.BUSY = true)
    (hresp : (s.dictServe env 0 .op false (dictReq pdu)).2.status ≠ stNone) :
    s.dictRequest .mirror pdu env = (s.dictServe env 0 .op false (dictReq pdu)).1.mirrorDone
      ((s.dictServe env 0 .op false (dictReq pdu)).1.dictResp .op false (dictReq pdu) (s.dictServe env 0 .op false (dictReq pdu)).2) := by
  simp only [State.dictRequest, h, Bool.not_true, Bool.false_eq_true, if_false, if_neg hresp]
  rfl

/-- The role of a function's DOE mailbox (R399). -/
def doeRole : Func → DictRole
  | .pf0 => .op
  | .vf p => .tenant p

theorem State.dictRequest_doe {fn : Func} {pdu : List Byte}
    (hresp : (s.dictServe env (reqCode (.doe fn)) (doeRole fn) true (dictReq pdu)).2.status ≠ stNone) :
    s.dictRequest (.doe fn) pdu env = (s.dictServe env (reqCode (.doe fn)) (doeRole fn) true (dictReq pdu)).1.doePut (reqCode (.doe fn))
      ((s.dictServe env (reqCode (.doe fn)) (doeRole fn) true (dictReq pdu)).1.dictResp (doeRole fn) false (dictReq pdu)
        (s.dictServe env (reqCode (.doe fn)) (doeRole fn) true (dictReq pdu)).2) := by
  cases fn <;> exact if_neg hresp

end Responses

/-! Which requests a run state serves (R403, R451, R454, Table 14.3). -/

section Serve

variable {env : DictEnv} {rq : Nat} {role : DictRole} {doe : Bool} {q : DictReq} {e : Ent} {s : State}

theorem dictGate_eq_none_of_silent {run : Nat} (h : run = 0 ∨ run = 6) : dictGate run doe q = none := if_pos h

theorem dictGate_ready : dictGate 3 doe q = some 0 := rfl

theorem State.dictServe_of_silent (h : s.run = 0 ∨ s.run = 6) : s.dictServe env rq role doe q = (s, ⟨stNone, true, []⟩) := by
  rw [State.dictServe, dictGate_eq_none_of_silent h]

theorem State.dictServe_of_badOp (hrun : s.run = 3) (hop : isDictOp q = false) : s.dictServe env rq role doe q = (s, ⟨11, true, []⟩) := by
  rw [State.dictServe, hrun, dictGate_ready, hop]
  rfl

theorem State.dictServe_of_noEntry (hrun : s.run = 3) (hop : isDictOp q = true) (he : dictEntry env rq role.part s q.idx q.sub = none) :
    s.dictServe env rq role doe q = (s, ⟨1, true, []⟩) := by
  rw [State.dictServe, hrun, dictGate_ready, hop, he]
  rfl

theorem State.dictServe_of_entry (hrun : s.run = 3) (hop : isDictOp q = true) (he : dictEntry env rq role.part s q.idx q.sub = some e) :
    s.dictServe env rq role doe q =
      if q.op = 1 then s.dictRead rq role q e else if q.op = 2 then s.dictWrite rq role q e else (s, s.dictDescribe role e) := by
  rw [State.dictServe, hrun, dictGate_ready, hop, he]
  rfl

end Serve

/-! READ, WRITE and DESCRIBE by access and value (R405, Table 14.3). -/

section Entry

variable {rq : Nat} {role : DictRole} {q : DictReq} {e : Ent} {s : State}

theorem State.dictRead_of_noAccess (h : e.access role = 0) : s.dictRead rq role q e = (s, ⟨2, true, []⟩) := if_pos h

theorem State.dictWrite_of_noAccess (h : e.access role = 0) : s.dictWrite rq role q e = (s, ⟨2, true, []⟩) := if_pos h

theorem State.dictDescribe_of_noAccess (h : e.access role = 0) : s.dictDescribe role e = ⟨2, true, []⟩ := if_pos h

theorem State.dictRead_of_writeOnly (h : e.access role = 2) : s.dictRead rq role q e = (s, ⟨4, true, []⟩) := by
  simp [State.dictRead, h]

theorem State.dictWrite_of_readOnly (h : e.access role = 1) : s.dictWrite rq role q e = (s, ⟨3, true, []⟩) := by
  simp [State.dictWrite, h]

theorem State.dictRead_of_scalar {v : List Byte} (ha : e.access role = 1 ∨ e.access role = 3) (htyp : e.typ ≠ 11) (hoff : q.off = 0)
    (hlen : e.size ≤ q.len) (hv : e.get s = some v) : s.dictRead rq role q e = (s, ⟨stOk, true, v⟩) := by
  have hsome : e.access role ≠ 0 := by omega
  have hread : e.access role ≠ 2 := by omega
  have hwhole : ¬(q.off ≠ 0 ∨ q.len < e.size) := by omega
  rw [State.dictRead, if_neg hsome, if_neg hread, if_pos htyp, if_neg hwhole, hv]

/-- A WRITE that carries a scalar entry whole, in one segment. -/
structure DictReq.Scalar (q : DictReq) (e : Ent) : Prop where
  typ : e.typ ≠ 11
  off : q.off = 0
  size : q.len = e.size
  fits : q.len ≤ 1024
  data : q.len ≤ q.data.length
  last : q.last = true

theorem State.dictWrite_of_scalar (ha : 2 ≤ e.access role) (h : q.Scalar e) : s.dictWrite rq role q e =
    if leVal (q.data.take q.len) < e.lo ∨ e.hi < leVal (q.data.take q.len) then (s, ⟨stRange, true, []⟩)
    else ((e.put s (q.data.take q.len)).1, ⟨(e.put s (q.data.take q.len)).2, true, []⟩) := by
  obtain ⟨htyp, hoff, hsize, hfits, hdata, hlast⟩ := h
  have hsome : e.access role ≠ 0 := by omega
  have hwrite : e.access role ≠ 1 := by omega
  have hlength : ¬(1024 < q.len ∨ (q.data.take q.len).length ≠ q.len) := by
    rw [List.length_take, Nat.min_eq_left hdata]
    omega
  have hwhole : ¬(q.off ≠ 0 ∨ q.len ≠ e.size ∨ !q.last) := by simp [hoff, hsize, hlast]
  rw [State.dictWrite, if_neg hsome, if_neg hwrite, if_neg hlength, if_pos htyp, if_neg hwhole]

end Entry

/-- Settles O52: the OP selects the command, the run state and the entry the branch of `State.dictServe`, and access, length and range the
answer of `State.dictRead` and `State.dictWrite`. -/
theorem dictionaryRequests : Obligations.DictionaryRequests := by
  refine ⟨fun path pdu env s => ?commands, fun pdu env s => ⟨State.dictRequest_mirror_of_idle pdu, fun hbusy hresp => ?mirror⟩,
    fun fn pdu env s => ?doe, fun env rq role doe q s => ⟨State.dictServe_of_silent, State.dictServe_of_badOp, State.dictServe_of_noEntry⟩,
    fun env rq role doe q e s hrun hop he => ?entry⟩
  case commands =>
    refine ⟨exec_dictRead_of_request env, exec_dictRead_of_other env, fun h => ?_, fun h => ?_, fun h => ?_, fun h => ?_⟩
    · rw [exec_dictWrite, if_pos h]
    · rw [exec_dictWrite, if_neg h]
    · rw [exec_dictDescribe, if_pos h]
    · rw [exec_dictDescribe, if_neg h]
  case mirror =>
    rw [State.dictRequest_mirror_of_busy hbusy hresp]
    exact ⟨rfl, State.flag_busy_mirrorDone .., State.flag_done_mirrorDone ..⟩
  case doe =>
    cases fn with
    | pf0 => exact State.dictRequest_doe (fn := .pf0)
    | vf p => exact State.dictRequest_doe (fn := .vf p)
  case entry =>
    rw [State.dictServe_of_entry hrun hop he]
    refine ⟨fun ha => ?noAccess, fun hread ha => ?writeOnly, fun hwrite ha => ?readOnly, fun v hread ha htyp hoff hlen hv => ?read,
      fun hwrite ha htyp hoff hsize hfits hdata hlast => ?write⟩
    case noAccess =>
      rw [State.dictRead_of_noAccess ha, State.dictWrite_of_noAccess ha, State.dictDescribe_of_noAccess ha, ite_self, ite_self]
    case writeOnly => rw [if_pos hread, State.dictRead_of_writeOnly ha]
    case readOnly => rw [hwrite, if_neg (by decide), if_pos rfl, State.dictWrite_of_readOnly ha]
    case read => rw [if_pos hread, State.dictRead_of_scalar ha htyp hoff hlen hv]
    case write =>
      rw [hwrite, if_neg (by decide), if_pos rfl, State.dictWrite_of_scalar ha ⟨htyp, hoff, hsize, hfits, hdata, hlast⟩]
      exact ⟨fun hlo hhi => if_neg (by omega), fun h => if_pos h⟩

end Sys2Proof.Machine
end

section
/-! PROOFS. The field network and the dictionary mirror (14_object_dictionary.md): snapshots and staged writes expire, beacons go out and come
in, partners are lost. -/

namespace Sys2Proof.Machine
open Reg

/-! Snapshots and staged writes of a requester for an entry (R406, R407). -/

section Expiry

variable {β : Type} {rq key : Nat}

theorem find?_drop_self (l : List (Nat × Nat × β)) :
    (l.filter (fun x => !(x.1 = rq && x.2.1 = key))).find? (fun x => x.1 = rq && x.2.1 = key) = none := by
  rw [List.find?_eq_none]
  exact fun x hx => ne_true_of_eq_false ((Bool.not_eq_true' _).mp (List.mem_filter.mp hx).2)

theorem find?_drop_ne (l : List (Nat × Nat × β)) {r j : Nat} (h : ¬(r = rq ∧ j = key)) :
    (l.filter (fun x => !(x.1 = rq && x.2.1 = key))).find? (fun x => x.1 = r && x.2.1 = j) = l.find? (fun x => x.1 = r && x.2.1 = j) := by
  rw [List.find?_filter]
  congr 1
  funext x
  grind

variable (s : State)

theorem State.snapOf_snapDrop_self : (s.snapDrop rq key).snapOf rq key = none := by
  rw [State.snapOf, State.snapDrop, find?_drop_self]
  rfl

theorem State.snapOf_snapDrop_ne {r j : Nat} (h : ¬(r = rq ∧ j = key)) : (s.snapDrop rq key).snapOf r j = s.snapOf r j := by
  rw [State.snapOf, State.snapDrop, find?_drop_ne _ h]
  rfl

theorem State.stagedOf_stagedDrop_self : (s.stagedDrop rq key).stagedOf rq key = none := by
  rw [State.stagedOf, State.stagedDrop, find?_drop_self]
  rfl

theorem State.stagedOf_stagedDrop_ne {r j : Nat} (h : ¬(r = rq ∧ j = key)) : (s.stagedDrop rq key).stagedOf r j = s.stagedOf r j := by
  rw [State.stagedOf, State.stagedDrop, find?_drop_ne _ h]
  rfl

end Expiry

/-! The module's own beacons (R409, R411). -/

section BeaconTx

variable {s : State}

theorem State.sendFrame_of_free (dst : Nat) (pdu : List Byte) (h : s.dict.conflict = false) :
    s.sendFrame dst pdu = { s with out := s.out ++ [.frame dst pdu], dict := { s.dict with framesOut := s.dict.framesOut + 1 } } :=
  if_neg (ne_true_of_eq_false h)

/-- The beacon as it is sent: with the TAG of the operator's key where there is one. -/
def State.beaconFrame (s : State) : List Byte :=
  if s.fram.opKey.isEmpty then s.beaconPdu else s.beaconPdu ++ dictTag s.fram.opKey macAll s.ownMac s.beaconPdu

/-- A beacon is skipped (R424). -/
def State.beaconSkipped (s : State) : State :=
  s.dictCount (fun d => { d with skip := d.skip - 1, inj := if d.skip = 1 ∧ bit d.inj 1 then d.inj - 2 else d.inj })

theorem exec_beaconTx (s : State) : exec .beaconTx s = .next (if !s.onField || s.dict.conflict then s
    else if s.dict.skip ≠ 0 then s.beaconSkipped
    else (s.dictCount (fun d => { d with beaconSeq := d.beaconSeq + 1 })).sendFrame macAll s.beaconFrame) := rfl

theorem exec_beaconTx_of_barred (h : s.onField = false ∨ s.dict.conflict = true) : exec .beaconTx s = .next s := by
  rw [exec_beaconTx, if_pos (by simpa using h)]

theorem exec_beaconTx_of_skip (hon : s.onField = true) (hfree : s.dict.conflict = false) (hskip : s.dict.skip ≠ 0) :
    exec .beaconTx s = .next s.beaconSkipped := by
  rw [exec_beaconTx, if_neg (by simp [hon, hfree]), if_pos hskip]

theorem exec_beaconTx_of_due (hon : s.onField = true) (hfree : s.dict.conflict = false) (hskip : s.dict.skip = 0) :
    exec .beaconTx s = .next { s with
      out := s.out ++ [.frame macAll s.beaconFrame]
      dict := { s.dict with beaconSeq := s.dict.beaconSeq + 1, framesOut := s.dict.framesOut + 1 } } := by
  have hfree' : (s.dictCount (fun d => { d with beaconSeq := d.beaconSeq + 1 })).dict.conflict = false := hfree
  rw [exec_beaconTx, if_neg (by simp [hon, hfree]), if_neg (not_not_intro hskip), State.sendFrame_of_free _ _ hfree']
  rfl

end BeaconTx

/-! Frames from other senders (R396, R409 to R411). -/

section BeaconRx

variable {src : BitVec 48} {good : Bool} {pdu b : List Byte} {s : State}

/-- A frame that passes R396, counted. -/
def State.frameCounted (s : State) : State := s.dictCount (fun d => { d with framesIn := d.framesIn + 1 })

theorem exec_beaconRx_of_closed (h : s.onField = false) : exec (.beaconRx src good pdu) s = .next s :=
  congrArg Host.Outcome.next (if_pos (by rw [h]; rfl))

theorem exec_beaconRx_of_bad (h : s.onField = true) :
    exec (.beaconRx src false pdu) s = .next (s.dictCount (fun d => { d with badFrame := d.badFrame + 1 })) :=
  congrArg Host.Outcome.next (if_neg (by rw [h]; decide))

theorem exec_beaconRx_of_good (h : s.onField = true) : exec (.beaconRx src true pdu) s = .next (
    if beaconOk pdu && (!bit (hdrNum pdu 3 1) 1 || tagVerifies s.fram.opKey macAll src.toNat pdu) then s.frameCounted.beaconTaken src.toNat pdu
    else s.frameCounted) :=
  congrArg Host.Outcome.next (if_neg (by rw [h]; decide))

theorem exec_beaconRx_of_malformed (hon : s.onField = true) (h : beaconOk pdu = false) :
    exec (.beaconRx src true pdu) s = .next s.frameCounted := by
  rw [exec_beaconRx_of_good hon, if_neg (by simp [h])]

theorem exec_beaconRx_of_untagged (hon : s.onField = true) (hok : beaconOk pdu = true) (htag : bit (hdrNum pdu 3 1) 1 = false) :
    exec (.beaconRx src true pdu) s = .next (s.frameCounted.beaconTaken src.toNat pdu) := by
  rw [exec_beaconRx_of_good hon, if_pos (by simp [hok, htag])]

/-- NODE and DEVICE_ID of a beacon (Table 14.6). -/
def beaconNode (b : List Byte) : Nat := hdrNum b 0x21 1 % 32
def beaconDevice (b : List Byte) : Nat := hdrNum b 0x28 8

/-- The partner entry after a beacon: a nonce that differs from the one seen before is a restart (R410). -/
def Partner.heard (old : Partner) (mac : Nat) (b : List Byte) : Partner :=
  { here := true, kind := hdrNum b 0x20 1, device := beaconDevice b, nonce := (b.drop 0x0C).take 8,
    restarts := min (2 ^ 32 - 1) (old.restarts + b2n (!old.nonce.isEmpty && old.nonce ≠ (b.drop 0x0C).take 8)),
    cab := hdrNum b 0x22 1 % 4, mac := mac, modId := hdrNum b 0x30 1 }

/-- The partner entry of a beacon's sender is written; another device under the node of a partner that is here is counted (R410). -/
def State.partnerHeard (s : State) (mac : Nat) (b : List Byte) : State :=
  let old := s.partner (beaconNode b)
  s.dictCount (fun d => { d with
    partners := Cells.set {} d.partners (beaconNode b) (old.heard mac b)
    partnerConflict := min (2 ^ 32 - 1) (d.partnerConflict + b2n (!old.nonce.isEmpty && old.here && old.device ≠ beaconDevice b)) })

/-- Another device has the module's node ID (R411). -/
def State.nodeConflict (s : State) : State :=
  { s.dictCount (fun d => { d with conflict := true }) with host := { s.host with line := Cells.set false s.host.line 11 true } }

theorem State.beaconTaken_of_untagged (mac : Nat) (htag : bit (hdrNum b 3 1) 1 = false) : s.beaconTaken mac b =
    if beaconNode b = s.nodeId ∧ beaconDevice b ≠ s.deviceId then (s.partnerHeard mac b).nodeConflict else s.partnerHeard mac b := by
  simp only [State.beaconTaken, htag, Bool.and_false, Bool.false_and, Bool.false_eq_true, if_false]
  rfl

theorem State.partners_partnerHeard (mac : Nat) (b : List Byte) :
    (s.partnerHeard mac b).dict.partners = Cells.set {} s.dict.partners (beaconNode b) ((s.partner (beaconNode b)).heard mac b) := rfl

@[simp] theorem State.partner_partnerHeard_self (mac : Nat) (b : List Byte) :
    (s.partnerHeard mac b).partner (beaconNode b) = (s.partner (beaconNode b)).heard mac b := by
  rw [State.partner, State.partners_partnerHeard, Cells.get_set_self]

theorem State.partner_partnerHeard_ne (mac : Nat) {j : Nat} (h : j ≠ beaconNode b) : (s.partnerHeard mac b).partner j = s.partner j := by
  rw [State.partner, State.partners_partnerHeard, Cells.get_set_ne _ _ _ _ h]
  rfl

@[simp] theorem State.partner_nodeConflict (j : Nat) : s.nodeConflict.partner j = s.partner j := rfl

theorem State.line_nodeConflict : Cells.get false s.nodeConflict.host.line 11 = true := Cells.get_set_self false s.host.line 11 true

theorem State.nodeConflict_eta : s.nodeConflict =
    { s with dict := s.nodeConflict.dict, host := { s.host with line := s.nodeConflict.host.line } } := rfl

end BeaconRx

/-! A partner is lost (R410). -/

section Lost

variable {k : Fin 32} {s : State}

/-- Partner k is no longer here. -/
def State.partnerGone (s : State) (k : Fin 32) : State :=
  (s.forgetMac (s.partner k).mac).dictCount (fun d => { d with
    partners := Cells.set {} d.partners k { s.partner k with here := false }
    cabNode := if d.cabNode = some k.val then none else d.cabNode })

theorem exec_partnerLost (k : Fin 32) (s : State) : exec (.partnerLost k) s = .next (if !(s.partner k).here then s else s.partnerGone k) := rfl

theorem State.partner_partnerGone_self : (s.partnerGone k).partner k = { s.partner k with here := false } := Cells.get_set_self ..

theorem State.partner_partnerGone_ne {j : Nat} (h : j ≠ k.val) : (s.partnerGone k).partner j = s.partner j := Cells.get_set_ne _ _ _ _ h

end Lost

/-! GO of the mirror and the PLCA beacon of a follower (R394, R422). -/

theorem exec_mirrorGo (s : State) : exec .mirrorGo s =
    .next (if s.flag MBX_DICT_STAT.BUSY then s.wr MBX_DICT_STAT.CFG_BUSY_WR 1 else s.wr MBX_DICT_STAT.BUSY 1) := rfl

theorem exec_plcaBeaconHeard (s : State) : exec .plcaBeaconHeard s =
    .next (if s.onField ∧ s.nodeId ≠ 0 then { s with dict := { s.dict with plca := true } } else s) := rfl

theorem exec_plcaBeaconLost (s : State) : exec .plcaBeaconLost s =
    .next (if s.nodeId ≠ 0 then { s with dict := { s.dict with plca := false } } else s) := rfl

/-- Settles O53: each command's outcome by its guard; a beacon without TAG writes its sender's partner entry and, where it bears the own node of
another device, raises the conflict. -/
theorem fieldNetworkAndMirror : Obligations.FieldNetworkAndMirror := by
  refine ⟨fun rq idx sub s => ⟨⟨_, rfl, s.snapOf_snapDrop_self, fun r j h => s.snapOf_snapDrop_ne h, rfl⟩,
      _, rfl, s.stagedOf_stagedDrop_self, fun r j h => s.stagedOf_stagedDrop_ne h, rfl⟩,
    fun s => ⟨exec_beaconTx_of_barred, fun hon hfree hskip => ⟨_, exec_beaconTx_of_skip hon hfree hskip, rfl, ?skip, rfl, rfl⟩,
      exec_beaconTx_of_due⟩,
    fun src pdu s => ⟨fun good => exec_beaconRx_of_closed, exec_beaconRx_of_bad, exec_beaconRx_of_malformed, fun hon hok htag => ?beacon⟩,
    fun k s => ?lost, fun s => ?go, fun s => ?plca, fun low s => rfl⟩
  case skip => exact Nat.sub_add_cancel (Nat.pos_of_ne_zero hskip)
  case beacon =>
    refine ⟨_, exec_beaconRx_of_untagged hon hok htag, ?_⟩
    rw [State.beaconTaken_of_untagged _ htag]
    intro k
    have hself : (s.frameCounted.partnerHeard src.toNat pdu).partner k = (s.partner k).heard src.toNat pdu :=
      State.partner_partnerHeard_self ..
    have hne (j : Nat) (h : j ≠ k) : (s.frameCounted.partnerHeard src.toNat pdu).partner j = s.partner j :=
      State.partner_partnerHeard_ne src.toNat h
    split
    case isTrue hown =>
      rw [State.partner_nodeConflict, hself]
      exact ⟨rfl, rfl, rfl, rfl, hne, fun _ _ => ⟨rfl, State.line_nodeConflict⟩, fun h => absurd hown.1 h, State.nodeConflict_eta⟩
    case isFalse hown =>
      rw [hself]
      exact ⟨rfl, rfl, rfl, rfl, hne, fun hk hdev => absurd ⟨hk, hdev⟩ hown, fun _ => ⟨rfl, rfl⟩, rfl⟩
  case lost =>
    rw [exec_partnerLost]
    refine ⟨fun h => by rw [h]; rfl, fun h => ⟨_, by rw [h]; rfl, ?_, fun j => State.partner_partnerGone_ne, rfl⟩⟩
    rw [State.partner_partnerGone_self]
  case go =>
    rw [exec_mirrorGo]
    exact ⟨fun h => by rw [h]; rfl, fun h => by rw [h]; rfl⟩
  case plca =>
    rw [exec_plcaBeaconHeard, exec_plcaBeaconLost]
    refine ⟨fun hon hnode => by rw [if_pos ⟨hon, hnode⟩], fun h => ?_, fun hnode => by rw [if_pos hnode], fun h => by rw [if_neg (not_not_intro h)]⟩
    rw [if_neg]
    rintro ⟨hon, hnode⟩
    exact h.elim (fun hoff => ne_true_of_eq_false hoff hon) hnode

end Sys2Proof.Machine
end

section
/-! PROOFS. The settings generations of OTP, the update lock, and restores of a partition (R418 to R421, R455, R500, R501). -/

namespace Sys2Proof.Machine
open Reg

/-! A write of bytes into OTP changes those bytes alone, and clears no bit (R428). -/

section Otp

variable (s : State) (off : Nat) (data : List Byte)

theorem State.otp_otpProgram : (s.otpProgram off data).boot.otp = Cells.setList 0 s.boot.otp off
    ((List.range data.length).map (fun i => Cells.get 0 s.boot.otp (off + i) ||| (data.getD i 0).toNat)) := rfl

variable {off data}

theorem State.otp_otpProgram_in {i : Nat} (h : i < data.length) : Cells.get 0 (s.otpProgram off data).boot.otp (off + i) =
    Cells.get 0 s.boot.otp (off + i) ||| data[i].toNat := by
  rw [State.otp_otpProgram, Cells.get_setList_in _ _ _ _ _ (by simpa using h)]
  simp [h]

theorem State.otp_otpProgram_out {j : Nat} (h : j < off ∨ off + data.length ≤ j) :
    Cells.get 0 (s.otpProgram off data).boot.otp j = Cells.get 0 s.boot.otp j := by
  rw [State.otp_otpProgram, Cells.get_setList_out _ _ _ _ _ _ (by simpa using h)]

/-- t is s but for the contents of OTP. -/
def State.OtpOnly (s t : State) : Prop := t = { s with boot := { s.boot with otp := t.boot.otp } }

variable {s} {t : State}

theorem State.OtpOnly.otpProgram (h : s.OtpOnly t) (off : Nat) (data : List Byte) : s.OtpOnly (t.otpProgram off data) := by
  obtain ⟨otp, rfl⟩ : ∃ otp, t = { s with boot := { s.boot with otp := otp } } := ⟨_, h⟩
  rfl

theorem State.OtpOnly.dict (h : s.OtpOnly t) : t.dict = s.dict := by
  obtain ⟨otp, rfl⟩ : ∃ otp, t = { s with boot := { s.boot with otp := otp } } := ⟨_, h⟩
  rfl

end Otp

@[simp] theorem length_leBytes (n v : Nat) : (leBytes n v).length = n := by
  induction n generalizing v with
  | zero => rfl
  | succ n ih => rw [leBytes, List.length_cons, ih]

@[simp] theorem length_fitTo (n : Nat) (l : List Byte) : (fitTo n l).length = n := by simp [fitTo]

/-! A settings generation is written (R418 to R420). -/

section Settings

/-- The result of a settings write and the item that it names. -/
def State.settingsDone (s : State) (result item : Nat) : State := { s with boot := { s.boot with setResult := result, setItem := item } }

theorem State.otp_settingsDone (s : State) (result item : Nat) : (s.settingsDone result item).boot.otp = s.boot.otp := rfl

/-- The bytes of the valid items of the persist list. -/
def State.settingsBody (s : State) : List Byte :=
  s.persistItems.flatMap (fun x => match persistEnt x.2.1 x.2.2 with | some e => settingsBytes x.2.1 x.2.2 e.size (s.persistGet e) | none => [])

/-- The first item that may not be persisted. -/
def State.refusedItem (s : State) : Option (Nat × Nat × Nat) := s.persistItems.find? (fun x => (persistEnt x.2.1 x.2.2).isNone)

/-- Where the next generation stands in OTP, and its bytes before the CRC (Table 14.11). -/
def State.settingsOff (s : State) : Nat := 0x1C00 + s.settingsUsed * 0x100
def State.settingsHead (s : State) : List Byte :=
  leBytes 4 0x4E5A5345 ++ [1, BitVec.ofNat 8 (s.settingsUsed + 1), BitVec.ofNat 8 s.persistItems.length, 0] ++ fitTo 236 s.settingsBody

/-- The generation's bytes and their CRC are programmed; its COMMIT byte is not. -/
def State.settingsProgrammed (s : State) : State :=
  (s.otpProgram s.settingsOff s.settingsHead).otpProgram (s.settingsOff + 0xF4) (leBytes 4 (crc32 s.settingsHead))

/-- The COMMIT byte of a generation whose read-back matched. -/
def State.settingsCommitted (s : State) : State := s.settingsProgrammed.otpProgram (s.settingsOff + 0xFF) [0xA5]

variable {readOk : Bool} {s : State}

theorem length_settingsHead : s.settingsHead.length = 0xF4 := by
  simp only [State.settingsHead, List.length_append, length_leBytes, length_fitTo]
  rfl

theorem State.OtpOnly.settingsDone {t : State} (h : s.OtpOnly t) (result item : Nat) : t.settingsDone result item =
    { s with boot := { s.boot with otp := (t.settingsDone result item).boot.otp, setResult := result, setItem := item } } := by
  obtain ⟨otp, rfl⟩ : ∃ otp, t = { s with boot := { s.boot with otp := otp } } := ⟨_, h⟩
  rfl

theorem State.otpOnly_settingsProgrammed (s : State) : s.OtpOnly s.settingsProgrammed :=
  have hrefl : s.OtpOnly s := rfl
  (hrefl.otpProgram _ _).otpProgram _ _

theorem State.otpOnly_settingsCommitted (s : State) : s.OtpOnly s.settingsCommitted := s.otpOnly_settingsProgrammed.otpProgram _ _

theorem State.otp_settingsProgrammed_commit :
    Cells.get 0 s.settingsProgrammed.boot.otp (s.settingsOff + 0xFF) = Cells.get 0 s.boot.otp (s.settingsOff + 0xFF) := by
  rw [State.settingsProgrammed, State.otp_otpProgram_out _ (by rw [length_leBytes]; omega),
    State.otp_otpProgram_out _ (by rw [length_settingsHead]; omega)]

theorem State.otp_settingsCommitted_commit :
    Cells.get 0 s.settingsCommitted.boot.otp (s.settingsOff + 0xFF) = Cells.get 0 s.boot.otp (s.settingsOff + 0xFF) ||| 0xA5 := by
  rw [State.settingsCommitted]
  have h := State.otp_otpProgram_in s.settingsProgrammed (off := s.settingsOff + 0xFF) (data := [0xA5]) (i := 0) (by decide)
  rw [State.otp_settingsProgrammed_commit] at h
  exact h

theorem State.settingsWrite_eq (readOk : Bool) (s : State) : s.settingsWrite readOk =
    if 4 < s.settingsUsed + 1 then (s.settingsDone 1 0, 1)
    else if 236 < s.settingsBody.length then (s.settingsDone 2 0, 2)
    else match s.refusedItem with
      | some x => (s.settingsDone 3 x.1, 3)
      | none =>
        if !s.holdupOk then (s.settingsDone 4 0, 4)
        else if bit s.settingsProgrammed.dict.inj 2 then
          (State.settingsDone { s.settingsProgrammed with dict := { s.settingsProgrammed.dict with inj := s.settingsProgrammed.dict.inj - 4 } } 5 0, 5)
        else if readOk then (s.settingsCommitted.settingsDone 0 0, 0)
        else (s.settingsProgrammed.settingsDone 5 0, 5) := rfl

theorem State.settingsWrite_of_full (h : 4 ≤ s.settingsUsed) : s.settingsWrite readOk = (s.settingsDone 1 0, 1) := by
  rw [State.settingsWrite_eq, if_pos (by omega)]

theorem State.settingsWrite_of_long (hfree : s.settingsUsed < 4) (h : 236 < s.settingsBody.length) :
    s.settingsWrite readOk = (s.settingsDone 2 0, 2) := by
  rw [State.settingsWrite_eq, if_neg (by omega), if_pos h]

theorem State.settingsWrite_of_refused {x : Nat × Nat × Nat} (hfree : s.settingsUsed < 4) (hlen : s.settingsBody.length ≤ 236)
    (h : s.refusedItem = some x) : s.settingsWrite readOk = (s.settingsDone 3 x.1, 3) := by
  rw [State.settingsWrite_eq, if_neg (by omega), if_neg (by omega), h]

theorem State.settingsWrite_of_uncharged (hfree : s.settingsUsed < 4) (hlen : s.settingsBody.length ≤ 236) (hitems : s.refusedItem = none)
    (h : s.holdupOk = false) : s.settingsWrite readOk = (s.settingsDone 4 0, 4) := by
  rw [State.settingsWrite_eq, if_neg (by omega), if_neg (by omega), hitems, h]
  rfl

theorem State.settingsWrite_of_charged (hfree : s.settingsUsed < 4) (hlen : s.settingsBody.length ≤ 236) (hitems : s.refusedItem = none)
    (hcharged : s.holdupOk = true) (hinj : bit s.dict.inj 2 = false) :
    s.settingsWrite readOk = if readOk then (s.settingsCommitted.settingsDone 0 0, 0) else (s.settingsProgrammed.settingsDone 5 0, 5) := by
  rw [State.settingsWrite_eq, if_neg (by omega), if_neg (by omega), hitems, hcharged, s.otpOnly_settingsProgrammed.dict, hinj]
  rfl

theorem exec_settingsWrite_of_closed (h : s.run = 0 ∨ 4 ≤ s.run) : exec (.settingsWrite readOk) s = .next s :=
  congrArg Host.Outcome.next (if_neg (by omega))

theorem exec_settingsWrite_of_ready (h : s.run = 3) : exec (.settingsWrite readOk) s = .next (s.settingsWrite readOk).1 :=
  congrArg Host.Outcome.next (if_pos (Or.inr (Or.inr h)))

end Settings

/-! The update lock (R455). -/

section Lock

variable {s : State} {lock : Bool} {seq : Word} {sig : List Byte}

/-- What `setFram` writes is the copy in force, with the next SEQ (R448). -/
theorem State.fram_setFram (s : State) (f : FramSet) : (s.setFram f).fram = { f with seq := s.fram.seq + 1 } := by
  by_cases h : (Cells.get {} s.boot.fram 0).seq < (Cells.get {} s.boot.fram 1).seq
  · simp only [State.setFram, State.fram, if_pos h, Cells.get_set_self, Cells.get_set_ne _ _ _ _ (show (1 : Nat) ≠ 0 by decide)]
    exact if_neg (by omega)
  · simp only [State.setFram, State.fram, if_neg h, Cells.get_set_self, Cells.get_set_ne _ _ _ _ (show (0 : Nat) ≠ 1 by decide)]
    exact if_pos (by omega)

/-- The result of a request of the update lock. -/
def State.lockDone (s : State) (result : Nat) : State := { s with boot := { s.boot with lockResult := result } }

/-- The owner's signature of the lock and its LOCK_SEQ stands. -/
def State.lockSigned (s : State) (lock : Bool) (seq : Word) (sig : List Byte) : Bool :=
  s.ownerSigned ['N', 'Z', '-', 'U', 'L'] (leBytes 8 s.deviceId ++ leBytes 1 (b2n lock) ++ leBytes 4 seq.toNat) sig

/-- The lock is stored with its LOCK_SEQ. -/
def State.lockStored (s : State) (lock : Bool) (seq : Word) : State := s.setFram { s.fram with lock := lock, lockSeq := seq.toNat }

theorem exec_updateLock (lock : Bool) (seq : Word) (sig : List Byte) (s : State) : exec (.updateLock lock seq sig) s = .next (
    if s.ownerGen = 0 then s.lockDone 1
    else if seq.toNat ≤ s.fram.lockSeq then s.lockDone 2
    else if !s.lockSigned lock seq sig then s.lockDone 3
    else (s.lockStored lock seq).lockDone 0) := by
  change Host.Outcome.next (s.updLock lock seq.toNat sig).1 = _
  simp only [State.updLock, apply_ite Prod.fst]
  rfl

theorem State.lockDone_lockStored_eta (s : State) (lock : Bool) (seq : Word) : (s.lockStored lock seq).lockDone 0 =
    { s with boot := { s.boot with fram := ((s.lockStored lock seq).lockDone 0).boot.fram, lockResult := 0 } } := rfl

end Lock

/-! Restores of a partition (R500, R501). -/

section Restore

variable {p : Part} {s : State}

/-- A restore of partition p is armed: a marker that is not committed stands. -/
def State.restoreArmed (s : State) (p : Part) : State :=
  (s.setMarker p (some ((s.prt p).buildId, false))).setPrt p { s.prt p with restore := 1, cause := 0 }

/-- A restore of partition p is committed, and its marker with it. -/
def State.restoreCommitted (s : State) (p : Part) : State :=
  (s.setMarker p (some ((s.prt p).buildId, true))).setPrt p { s.prt p with restore := 4 }

theorem exec_restoreArm (p : Part) (s : State) : exec (.restoreArm p) s = .next (
    if s.rd (GLB_PART_STAT.STATE p) = 3 ∧ (s.prt p).bKeySrc = 1 ∧ s.rd (PLT_PSTAT.STATE p) = 0 ∧ !s.restoring p then s.restoreArmed p else s) := by
  change Host.Outcome.next (s.restoreArm p).1 = _
  simp only [State.restoreArm, apply_ite Prod.fst]
  rfl

theorem exec_restoreStart (p : Part) (s : State) : exec (.restoreStart p) s = .next (
    if (s.prt p).restore = 1 ∧ !s.flag (FAB_CK_CTRL.START p) then
      ((s.setPrt p { s.prt p with restore := 2 }).wr (FAB_CK_CTRL.DIR p) 1).ckStart p (s.rd (FAB_CK_CTRL.COUNT p)) (s.rd (FAB_CK_CTRL.PEER p)) true
        (s.flag (FAB_CK_CTRL.QUIESCE p))
    else s) := by
  change Host.Outcome.next (s.restoreStart p).1 = _
  simp only [State.restoreStart, apply_ite Prod.fst]

theorem exec_restoreCommit (p : Part) (s : State) : exec (.restoreCommit p) s = .next (if (s.prt p).restore = 3 then s.restoreCommitted p else s) := by
  change Host.Outcome.next (s.restoreCommit p).1 = _
  simp only [State.restoreCommit, apply_ite Prod.fst]
  rfl

theorem State.prt_restoreArmed : (s.restoreArmed p).prt p = { s.prt p with restore := 1, cause := 0 } := State.prt_setPrt_self ..

theorem State.prt_restoreCommitted : (s.restoreCommitted p).prt p = { s.prt p with restore := 4 } := State.prt_setPrt_self ..

theorem State.markers_setMarker (s : State) (p : Nat) (v : Option (Nat × Bool)) : Cells.get none (s.setMarker p v).boot.markers p = v :=
  Cells.get_set_self ..

theorem State.restoreArmed_eta :
    s.restoreArmed p = { s with boot := { s.boot with markers := (s.restoreArmed p).boot.markers }, part := (s.restoreArmed p).part } := rfl

theorem State.restoreCommitted_eta :
    s.restoreCommitted p = { s with boot := { s.boot with markers := (s.restoreCommitted p).boot.markers }, part := (s.restoreCommitted p).part } := rfl

/-! An abort drops the marker and begins the teardown of a partition that is not being torn down. -/

theorem State.prt_restoreAborted (cause : Nat) : (s.restoreAborted p cause).prt p = { s.prt p with restore := 5, cause := cause } :=
  State.prt_setPrt_self ..

theorem State.restoring_eq (s : State) (p : Nat) : s.restoring p = (decide (1 ≤ (s.prt p).restore) && decide ((s.prt p).restore ≤ 3)) := rfl

theorem State.restoring_restoreAborted (cause : Nat) : (s.restoreAborted p cause).restoring p = false := by
  rw [State.restoring_eq, State.prt_restoreAborted]
  rfl

/-- Partition p is in teardown, which zeroes its memory as `zero` says. -/
def State.tornDown (s : State) (p : Part) (zero : Bool) : State :=
  ((s.setPrt p { s.prt p with tdMask := 0, dropped := 0, tdWaits := false, tdZero := zero }).wr (GLB_PART_STAT.STATE p) 4).wr
    (GLB_PART_STAT.TD_STEP p) 0

theorem State.tdStart_of_settled (zero : Bool) (h : s.restoring p = false) : s.tdStart p zero = s.tornDown p zero := by
  simp only [State.tdStart, h, Bool.or_false, Bool.false_eq_true, if_false]
  rfl

theorem exec_restoreAbort_of_settled (cmd : Bool) (h : s.restoring p = false) : exec (.restoreAbort p cmd) s = .next s := by
  have hstop (cause : Nat) : s.restoreStop p cause = (s, false) := if_neg (ne_true_of_eq_false h)
  change Host.Outcome.next (if cmd then (s.restoreStop p 2).1
    else if (s.prt p).restore = 2 ∧ s.rd (FAB_CK_STAT.STATE p) = 3 then (s.restoreStop p 1).1 else s) = _
  rw [hstop, hstop, ite_self, ite_self]

theorem exec_restoreAbort_of_restoring (h : s.restoring p = true) (htear : s.tearing p = false) :
    exec (.restoreAbort p true) s = .next ((s.restoreAborted p 2).tornDown p true) := by
  change Host.Outcome.next (s.restoreStop p 2).1 = _
  rw [State.restoreStop, if_pos h, htear, ← State.tdStart_of_settled true (State.restoring_restoreAborted 2)]
  rfl

theorem partState_key_ne_tdStep (p : Nat) : (GLB_PART_STAT.STATE p).key ≠ (GLB_PART_STAT.TD_STEP p).key := by
  simp only [GLB_PART_STAT.STATE, GLB_PART_STAT.TD_STEP, Fld.key]
  omega

theorem restoreAborted_key_ne (p : Part) : ERR_STAT.RESTORE_ABORTED.key ≠ (GLB_PART_STAT.STATE p).key ∧
    ERR_STAT.RESTORE_ABORTED.key ≠ (GLB_PART_STAT.TD_STEP p).key := by
  unfold ERR_STAT.RESTORE_ABORTED GLB_PART_STAT.STATE GLB_PART_STAT.TD_STEP Fld.key errB glbB
  dsimp only
  omega

theorem State.tearing_tornDown (zero : Bool) : (s.tornDown p zero).tearing p = true := by
  rw [State.tornDown, State.tearing, State.rd_wr_ne _ _ (partState_key_ne_tdStep p), State.rd_wr_self]
  rfl

theorem State.prt_tornDown (zero : Bool) :
    (s.tornDown p zero).prt p = { s.prt p with tdMask := 0, dropped := 0, tdWaits := false, tdZero := zero } := State.prt_setPrt_self ..

theorem State.flag_restoreAborted_tornDown (cause : Nat) (zero : Bool) :
    ((s.restoreAborted p cause).tornDown p zero).flag ERR_STAT.RESTORE_ABORTED = true := by
  obtain ⟨hstate, hstep⟩ := restoreAborted_key_ne p
  rw [State.tornDown, State.flag_wr_ne _ _ hstep, State.flag_wr_ne _ _ hstate, State.setPrt_flag, State.restoreAborted, State.raise, State.flag,
    State.rd_wr_self]
  rfl

end Restore

/-- Settles O54: a settings write by the checks of `State.settingsWrite`, the lock by those of `State.updLock`, and each restore command by its
guard; an abort marks the restore before the teardown begins, so the teardown finds none to abort. -/
theorem settingsLockAndRestores : Obligations.SettingsLockAndRestores := by
  refine ⟨fun readOk s => ⟨exec_settingsWrite_of_closed, fun hrun hfull => ?full, fun hrun hfree hlen => ?long,
      fun x hrun hfree hlen hitem => ?refused, fun hrun hfree hlen hitems => ⟨fun h => ?uncharged, fun hcharged hinj => ?written⟩⟩,
    fun lock seq sig s => ?lock,
    fun p s => ⟨fun hready hsrc hidle hnone => ?arm, fun h => ?unarmed, fun hr hfree => ?start, fun hr => ?unstarted, fun hr => ?commit,
      fun hr => ?uncommitted⟩,
    fun p s h htear => ?abort, fun p cmd s h => exec_restoreAbort_of_settled cmd h⟩
  case full => rw [exec_settingsWrite_of_ready hrun, State.settingsWrite_of_full hfull]; rfl
  case long => rw [exec_settingsWrite_of_ready hrun, State.settingsWrite_of_long hfree hlen]; rfl
  case refused => rw [exec_settingsWrite_of_ready hrun, State.settingsWrite_of_refused hfree hlen hitem]; rfl
  case uncharged => rw [exec_settingsWrite_of_ready hrun, State.settingsWrite_of_uncharged hfree hlen hitems h]; rfl
  case written =>
    rw [exec_settingsWrite_of_ready hrun, State.settingsWrite_of_charged hfree hlen hitems hcharged hinj]
    have hoff : 0x1C00 + s.settingsUsed * 0x100 = s.settingsOff := rfl
    rw [hoff]
    cases readOk
    case true =>
      refine ⟨s.settingsCommitted.settingsDone 0 0, rfl, rfl, fun _ => ?_, s.otpOnly_settingsCommitted.settingsDone 0 0⟩
      rw [State.otp_settingsDone, State.otp_settingsCommitted_commit]
    case false => exact ⟨s.settingsProgrammed.settingsDone 5 0, rfl, rfl, nofun, s.otpOnly_settingsProgrammed.settingsDone 5 0⟩
  case lock =>
    intro done signed
    rw [exec_updateLock]
    refine ⟨fun hnone => ?_, fun hown hold => ?_, fun hown hnew hsig => ?_, fun hown hnew hsig => ?_⟩
    · rw [if_pos hnone]
      rfl
    · rw [if_neg hown, if_pos hold]
      rfl
    · have hunsigned : s.lockSigned lock seq sig = false := hsig
      rw [if_neg hown, if_neg (by omega), hunsigned]
      rfl
    · have hstored : ((s.lockStored lock seq).lockDone 0).fram = { s.fram with lock := lock, lockSeq := seq.toNat, seq := s.fram.seq + 1 } :=
        s.fram_setFram _
      have hsigned : s.lockSigned lock seq sig = true := hsig
      refine ⟨(s.lockStored lock seq).lockDone 0, ?_, ?_⟩
      · rw [if_neg hown, if_neg (by omega), hsigned]
        rfl
      · rw [hstored]
        exact ⟨rfl, rfl, rfl, rfl, rfl, s.lockDone_lockStored_eta lock seq⟩
  case arm =>
    rw [exec_restoreArm, if_pos ⟨hready, hsrc, hidle, by rw [hnone]; rfl⟩]
    refine ⟨_, rfl, ?_, ?_, State.markers_setMarker .., State.restoreArmed_eta⟩ <;> rw [State.prt_restoreArmed]
  case unarmed =>
    rw [exec_restoreArm, if_neg]
    rintro ⟨hready, hsrc, -, hnone⟩
    rcases h with h | h | h
    · exact h hready
    · exact h hsrc
    · rw [h] at hnone
      cases hnone
  case start => rw [exec_restoreStart, if_pos ⟨hr, by rw [hfree]; rfl⟩]
  case unstarted => rw [exec_restoreStart, if_neg fun h => hr h.1]
  case commit =>
    rw [exec_restoreCommit, if_pos hr]
    refine ⟨_, rfl, ?_, State.markers_setMarker .., State.restoreCommitted_eta⟩
    rw [State.prt_restoreCommitted]
  case uncommitted => rw [exec_restoreCommit, if_neg hr]
  case abort =>
    refine ⟨_, exec_restoreAbort_of_restoring h htear, ?_, State.markers_setMarker .., State.tearing_tornDown true, ?_,
      State.flag_restoreAborted_tornDown 2 true, rfl⟩
    · rw [State.prt_tornDown, State.prt_restoreAborted]
    · rw [State.prt_tornDown]

end Sys2Proof.Machine
end

section
/-! PROOFS. What holds of every command and every step: an answer (log 2: an event that cannot occur in a state is no effect and no stop), the queue
(log 3), the form of the memories (log 7), OTP bits. -/

namespace Sys2Proof.Machine

/-! The outcome of each command whose meaning chooses among several. -/

/-- An outcome that is a next state. -/
inductive Answers : Next → Prop where
  | next (t : State) : Answers (.next t)

theorem Answers.ite {c : Prop} [Decidable c] {x y : Next} (h : Answers x) (k : Answers y) : Answers (if c then x else y) := by
  split <;> assumption

theorem Answers.exists {x : Next} : Answers x → ∃ t, x = .next t
  | .next t => ⟨t, rfl⟩

theorem execArbDecision_answers (i : Fin 52) (slots : List Nat) (s : State) : Answers (execArbDecision i slots s) := by
  unfold execArbDecision
  dsimp only
  split <;> exact .next _

theorem execArbCommit_answers (i : Fin 52) (s : State) : Answers (execArbCommit i s) := by
  unfold execArbCommit
  split <;> exact .next _

theorem execHdmaEntryFetch_answers (c : Fin 32) (ws : List Word) (s : State) : Answers (execHdmaEntryFetch c ws s) := by
  refine .ite (.next _) ?_
  dsimp only
  split <;> exact .next _

theorem execHdmaWriteback_answers (c : Fin 32) (host : List Byte) (s : State) : Answers (execHdmaWriteback c host s) := by
  unfold execHdmaWriteback
  split
  · exact .next _
  · refine .ite (.next _) (.ite ?refused ?moved)
    case refused => split <;> exact .next _
    case moved =>
      split
      · exact .next _
      · refine .ite (.next _) ?_
        split <;> exact .next _

theorem execPortAccess_answers (rq : Requester) (n : Lathe) (a : BitVec 36) (len : Fin 16777216) (data : Option (List Byte)) (s : State) :
    Answers (execPortAccess rq n a len data s) := by
  refine .ite (.next _) ?_
  cases data <;> exact .next _

theorem execRetireBlock_answers (n : Lathe) (s : State) : Answers (execRetireBlock n s) := by
  unfold execRetireBlock
  split
  · exact .next _
  · refine .ite (.next _) ?_
    dsimp only
    split <;> exact .next _

theorem execRetireCopyDone_answers (n : Lathe) (s : State) : Answers (execRetireCopyDone n s) := by
  unfold execRetireCopyDone
  split <;> exact .next _

theorem execRotationSweepUnit_answers (n : Lathe) (s : State) : Answers (execRotationSweepUnit n s) := by
  unfold execRotationSweepUnit
  split
  · exact .next _
  · refine .ite (.next _) ?_
    split
    · exact .next _
    · exact .ite (.next _) (.next _)

theorem execDescriptorDecode_answers (n : Lathe) (s : State) : Answers (execDescriptorDecode n s) :=
  .ite (.next _) (.ite (.next _) (.ite (.next _) (.ite (.next _) (.ite (.next _) (.next _)))))

theorem execRepetitionIssue_answers (n : Lathe) (s : State) : Answers (execRepetitionIssue n s) := by
  unfold execRepetitionIssue
  dsimp only
  split
  · exact .next _
  · exact .ite (.next _) (.ite (.next _) (.ite (.next _) (.ite (.next _) (.next _))))

theorem execKvLatch_answers (n : Lathe) (s : State) : Answers (execKvLatch n s) := by
  unfold execKvLatch
  dsimp only
  split
  · refine .ite (.next _) (.ite (.next _) (.ite (.next _) ?_))
    split <;> exact .next _
  · exact .next _

theorem execRepetitionComplete_answers (n : Lathe) (pipe : Fin 4) (s : State) : Answers (execRepetitionComplete n pipe s) := by
  unfold execRepetitionComplete
  split
  · exact .next _
  · exact .ite (.next _) (.ite (.next _) (.next _))

theorem execDescriptorError_answers (n : Lathe) (s : State) : Answers (execDescriptorError n s) := by
  unfold execDescriptorError
  dsimp only
  split
  · exact .ite (.next _) (.ite (.next _) (.next _))
  · exact .ite (.next _) (.ite (.next _) (.ite (.next _) (.next _)))

theorem execLthDbgDataAccess_answers (n : Lathe) (write : Option Word) (framOk : Bool) (s : State) :
    Answers (execLthDbgDataAccess n write framOk s) := by
  refine .ite (.next _) ?_
  cases write <;> exact .next _

theorem execVideoRow_answers (e : Fin 4) (k : Fin 16) (work : RowWork) (s : State) : Answers (execVideoRow e k work s) := by
  refine .ite (.next _) ?_
  cases work with
  | decode =>
    refine .ite ?_ (.next _)
    split <;> exact .next _
  | encode =>
    refine .ite ?_ (.next _)
    split <;> exact .next _

theorem execFrameReport_answers (e : Fin 4) (k : Fin 16) (s : State) : Answers (execFrameReport e k s) := by
  refine .ite (.next _) ?_
  dsimp only
  split
  · exact .next _
  · split
    · split <;> exact .next _
    · refine .ite (.next _) ?_
      split
      · exact .next _
      · split <;> exact .next _

theorem execCheckpointEnd_answers (p : Part) (s : State) : Answers (execCheckpointEnd p s) := by
  unfold execCheckpointEnd
  split
  · exact .next _
  · split <;> exact .next _

theorem execTdmaDescFetch_answers (g : Lathe) (c : Fin 4) (s : State) : Answers (execTdmaDescFetch g c s) := by
  refine .ite (.next _) (.ite (.next _) (.ite (.next _) (.ite (.next _) (.ite (.next _) ?_))))
  split <;> exact .next _

theorem execTdmaEventPulse_answers (g : Lathe) (c : Fin 4) (s : State) : Answers (execTdmaEventPulse g c s) := by
  unfold execTdmaEventPulse
  dsimp only
  split
  · exact .next _
  · refine .ite (.next _) ?_
    split
    · exact .next _
    · exact .ite (.next _) (.next _)

theorem execEventRecordWrite_answers (p : Part) (s : State) : Answers (execEventRecordWrite p s) := by
  unfold execEventRecordWrite
  split <;> exact .next _

theorem execPacketSend_answers (r : Fin 19) (cw : Fin 1024) (s : State) : Answers (execPacketSend r cw s) := by
  unfold execPacketSend
  split <;> exact .next _

theorem execE2eTimeout_answers (i : Nat) (s : State) : Answers (execE2eTimeout i s) := by
  unfold execE2eTimeout
  split <;> exact .next _

theorem execErrLogRead_answers (s : State) : Answers (execErrLogRead s) := by
  unfold execErrLogRead
  split <;> exact .next _

theorem execTakeover_answers (r : List (Fin 64 × BitVec 12)) (s : State) : Answers (execTakeover r s) := by
  unfold execTakeover
  split <;> exact .next _

/-- Every command answers a next state: those whose meaning chooses among outcomes by the lemma of that meaning, every other one at once. -/
theorem exec_answers (c : Instr) (s : State) : Answers (exec c s) := by
  cases c with
  | arbDecision => exact execArbDecision_answers .. | arbCommit => exact execArbCommit_answers ..
  | hdmaEntryFetch => exact execHdmaEntryFetch_answers .. | hdmaWriteback => exact execHdmaWriteback_answers ..
  | portAccess => exact execPortAccess_answers .. | retireBlock => exact execRetireBlock_answers ..
  | retireCopyDone => exact execRetireCopyDone_answers .. | rotationSweepUnit => exact execRotationSweepUnit_answers ..
  | descriptorDecode => exact execDescriptorDecode_answers .. | repetitionIssue => exact execRepetitionIssue_answers ..
  | kvLatch => exact execKvLatch_answers .. | repetitionComplete => exact execRepetitionComplete_answers ..
  | descriptorError => exact execDescriptorError_answers .. | lthDbgDataAccess => exact execLthDbgDataAccess_answers ..
  | videoRow => exact execVideoRow_answers .. | frameReport => exact execFrameReport_answers ..
  | eventRecordWrite => exact execEventRecordWrite_answers .. | packetSend => exact execPacketSend_answers ..
  | e2eTimeout => exact execE2eTimeout_answers .. | checkpointEnd => exact execCheckpointEnd_answers ..
  | errLogRead => exact execErrLogRead_answers .. | takeover => exact execTakeover_answers ..
  | tdmaDescFetch => exact execTdmaDescFetch_answers .. | tdmaEventPulse => exact execTdmaEventPulse_answers ..
  | sramScrubWord | patrolScrubUnit | seqStop => exact .ite (.next _) (.next _)
  | _ => exact .next _

/-- Settles O3: no meaning ends in a fault or a refusal (`exec_answers`). That an event which cannot occur in a state answers that state is the
model's choice (log 2). -/
theorem everyCommandCompletes : Obligations.EveryCommandCompletes := fun c s => (exec_answers c s).exists

/-- Settles O1: on a queue that is not empty `step` is `exec` of the front on the rest. -/
theorem stepRunsFrontCommand : Obligations.StepRunsFrontCommand := by
  intro c rest s h
  rw [step, h]

/-- Settles O4: every command keeps the queue (`exec_keeps`), from which a step has taken the front. -/
theorem commandsLeaveQueueAlone : Obligations.CommandsLeaveQueueAlone := by
  refine ⟨fun c s t h => ((exec_keeps c (Keeps.refl s)).out t h).pending, fun c rest s t hq h => ?_⟩
  rw [(step_keeps h).pending, hq, List.tail_cons]

/-- Settles O5: taking a command from the queue leaves the memories, and a step keeps their form (`step_keeps`). -/
theorem memoriesStayCanonical : Obligations.MemoriesStayCanonical := fun _ _ hwf h => (step_keeps h).mem hwf

/-- Settles O6: taking a command from the queue leaves OTP, and a step keeps every bit that is 1 (`step_keeps`). -/
theorem otpBitsOnlyRise : Obligations.OtpBitsOnlyRise := fun _ _ h => (step_keeps h).otp

end Sys2Proof.Machine
end

section
/-! PROOFS. The removal of rails, and the loss of what the compute die holds (R454, R459, R462, R471, R480). -/

namespace Sys2Proof.Machine
open Reg

section Rails

variable (s : State)

/-- Rails that are off: neither up nor at a voltage. -/
def State.railsDead (s : State) (rs : List Nat) : State :=
  { s with thm := { s.thm with railUp := rs.foldl (fun m r => Cells.set false m r false) s.thm.railUp,
                               railMv := rs.foldl (fun m r => Cells.set 0 m r 0) s.thm.railMv } }

theorem State.railsOff_railsC : s.railsOff railsC = (s.railsDead railsC).wr PWR_STAT.GROUP_C 0 := rfl

theorem State.railsOff_railsI : s.railsOff railsI = (s.railsDead railsI).wr PWR_STAT.GROUP_I 0 := rfl

theorem State.rd_railsOff_railsI_ne {f : Fld} (h : f.key ≠ PWR_STAT.GROUP_I.key) : (s.railsOff railsI).rd f = s.rd f := by
  rw [State.railsOff_railsI, State.rd_wr_ne _ _ h]
  rfl

theorem State.flag_groupI_railsOff_railsI : (s.railsOff railsI).flag PWR_STAT.GROUP_I = false := by
  rw [State.railsOff_railsI, State.flag, State.rd_wr_self]
  rfl

end Rails

section ComputeOff

variable (s : State)

theorem State.rd_clearRegs_out {lo hi : Nat} {f : Fld} (h : f.key < lo * 32 ∨ hi * 32 ≤ f.key) : (s.clearRegs lo hi).rd f = s.rd f := by
  rw [State.rd, State.clearRegs, Cells.get_clear, if_neg (by omega), State.rd]

/-- A field that stands on no address of the compute die. -/
def Fld.offCompute (f : Fld) : Prop := f.key < lthB 0 * 32 ∨ tdmaG 16 * 32 ≤ f.key

variable {s}

theorem State.rd_computeLost {f : Fld} (h : f.offCompute) : s.computeLost.rd f = s.rd f := by
  have hblocks : (((s.clearRegs (lthB 0) (lthB 16)).clearRegs (atsB 0) (pftB + 0x10000)).clearRegs keyB (tdmaG 16)).rd f = s.rd f := by
    simp only [Fld.offCompute, lthB, tdmaG] at h
    rw [State.rd_clearRegs_out _ (by simp only [keyB, tdmaG]; omega), State.rd_clearRegs_out _ (by simp only [atsB, pftB]; omega),
      State.rd_clearRegs_out _ (by simp only [lthB]; omega)]
  exact hblocks

theorem State.rd_computeOff_ne {f : Fld} (h : f.offCompute) (hf : f.key ≠ PWR_STAT.GROUP_C.key) : s.computeOff.rd f = s.rd f := by
  rw [State.computeOff, State.rd_computeLost h, State.railsOff_railsC, State.rd_wr_ne _ _ hf]
  rfl

theorem State.flag_groupC_computeOff : s.computeOff.flag PWR_STAT.GROUP_C = false := by
  rw [State.computeOff, State.flag, State.rd_computeLost (.inr (by decide)), State.railsOff_railsC, State.rd_wr_self]
  rfl

variable (s)

/-! Lathes, Lathe SRAM and ways are gone; main memory, FRAM, OTP and the AON counters are not on the compute die. -/

@[simp] theorem State.computeOff_lathe : s.computeOff.lathe = [] := rfl
@[simp] theorem State.computeOff_lsram : s.computeOff.mem.lsram = [] := rfl
@[simp] theorem State.computeOff_way : s.computeOff.mem.way = [] := rfl
@[simp] theorem State.computeOff_port : s.computeOff.mem.port = s.mem.port := rfl
@[simp] theorem State.computeOff_boot : s.computeOff.boot = s.boot := rfl
@[simp] theorem State.computeOff_out : s.computeOff.out = s.out := rfl
@[simp] theorem State.computeOff_tripTotal : s.computeOff.thm.tripTotal = s.thm.tripTotal := rfl

end ComputeOff

end Sys2Proof.Machine
end

section
/-! PROOFS. Samples of sensors, level steps and the thermal trip (R467, R468, R470 to R472). -/

namespace Sys2Proof.Machine
open Reg

/-! A sample of a pair (R468). -/

section Pair

/-- A sample of each sensor of the pair at sensor i. -/
def State.pairSampled (s : State) (i : Nat) (a b : BitVec 12) : State := (s.sample i a.toNat).sample (i + 1) b.toNat

/-- The magnitude of the difference of a pair, in steps of 0.125 °C. -/
def State.pairDiff (s : State) (i : Nat) : Nat := (s.temp i - s.temp (i + 1)).natAbs

/-- What follows from the readings of a pair that stand. -/
def State.pairJudged (s : State) (i : Nat) (lasted : Bool) : State :=
  if !(s.sensorOk i && s.sensorOk (i + 1)) then s.showTemps.outputs
  else
    let s3 := if lasted && decide (48 < s.pairDiff i) then
        { s.raise THM_STAT.PAIR_FAULT with thm := { s.thm with faults := Cells.set 0 s.thm.faults i (min 255 (Cells.get 0 s.thm.faults i + 1)) } }
      else s
    let w := if 120 < s.pairDiff i then true else if lasted && decide (s.pairDiff i ≤ 48) then false else Cells.get false s3.thm.wide i
    { s3 with thm := { s3.thm with wide := Cells.set false s3.thm.wide i w } }.showTemps.outputs

theorem exec_pairDifference_of_uninjected {s : State} (pair : Fin 24) (a b : BitVec 12) (lasted : Bool) (h : s.flag THM_INJ.PAIR = false) :
    exec (.pairDifference pair a b lasted) s =
      .next ((s.pairSampled (pairsAll.getD pair 0) a b).pairJudged (pairsAll.getD pair 0) lasted) := by
  change execPairDifference pair a b lasted s = _
  simp only [execPairDifference, h, Bool.false_and, Bool.false_eq_true, if_false]
  rfl

variable {s : State} {i : Nat}

theorem State.pairJudged_of_invalid (lasted : Bool) (h : (s.sensorOk i && s.sensorOk (i + 1)) = false) :
    s.pairJudged i lasted = s.showTemps.outputs := if_pos (by rw [h]; rfl)

variable (hok : (s.sensorOk i && s.sensorOk (i + 1)) = true)

include hok

/-- A lasting difference above 6 °C is a fault of the pair; above 15 °C it is wide, and else as wide as it was. -/
theorem State.pairJudged_of_fault (h : 48 < s.pairDiff i) : s.pairJudged i true = ({ s.wr THM_STAT.PAIR_FAULT 1 with thm := { s.thm with
    faults := Cells.set 0 s.thm.faults i (min 255 (Cells.get 0 s.thm.faults i + 1)),
    wide := Cells.set false s.thm.wide i (decide (120 < s.pairDiff i) || Cells.get false s.thm.wide i) } }).showTemps.outputs := by
  have hnot : ¬s.pairDiff i ≤ 48 := by omega
  by_cases hwide : 120 < s.pairDiff i <;> simp [State.pairJudged, hok, h, hnot, hwide, State.raise]

theorem State.pairJudged_of_near (h : s.pairDiff i ≤ 48) :
    s.pairJudged i true = ({ s with thm := { s.thm with wide := Cells.set false s.thm.wide i false } }).showTemps.outputs := by
  have hfault : ¬48 < s.pairDiff i := by omega
  have hwide : ¬120 < s.pairDiff i := by omega
  simp [State.pairJudged, hok, h, hfault, hwide]

end Pair

/-! An invalid sensor (R467). -/

section Invalid

variable (s : State) (i : Fin 64)

theorem exec_sensorInvalid_of_uninjected (h : s.flag THM_INJ.BAD = false) :
    exec (.sensorInvalid i) s = .next ((s.sensorBad i).showTemps.outputs) := by
  change execSensorInvalid i s = _
  simp [execSensorInvalid, h]

theorem State.sensorOk_sensorBad_self : (s.sensorBad i).sensorOk i = false := by simp [State.sensorOk, State.sensorBad]

theorem State.sensorOk_sensorBad_ne {j : Nat} (h : j ≠ i.val) : (s.sensorBad i).sensorOk j = s.sensorOk j := by
  simp [State.sensorOk, State.sensorBad, Cells.get_set_ne _ _ _ _ h]

theorem State.rd_hubAlarm_sensorBad : (s.sensorBad i).rd THM_STAT.HUB_ALARM =
    (s.rd THM_STAT.HUB_ALARM ||| 2 ^ (if i.val < 48 then 0 else if i.val < 56 then 1 else 2)) % 8 := State.rd_wr_self ..

end Invalid

/-! A step of a level (R470). -/

section Level

variable (r : List (Fin 64 × BitVec 12)) {s : State}

theorem exec_latheLevelStep_of_unowned (w : Option Lathe) (h : (s.samples r).owned = false) :
    exec (.latheLevelStep w r) s = .next (s.samples r) := by
  change execLatheLevelStep w r s = _
  simp [execLatheLevelStep, h]

theorem exec_latheLevelStep_lathe_of_owned (n : Lathe) (h : (s.samples r).owned = true) :
    let s1 := s.samples r
    exec (.latheLevelStep (some n) r) s =
      .next (s1.wr (THM_LATHE.LEVEL n) (levelStep (s1.rd (THM_LATHE.LEVEL n)) (s1.tctrl n) (s1.limitLathe n))).outputs := by
  change execLatheLevelStep (some n) r s = _
  simp [execLatheLevelStep, h]

theorem exec_latheLevelStep_io_of_owned (h : (s.samples r).owned = true) :
    let s1 := s.samples r
    exec (.latheLevelStep none r) s =
      .next (s1.wr THM_MODULE.IODIE (levelStep (s1.rd THM_MODULE.IODIE) s1.tctrlIo s1.limitIo)).outputs := by
  change execLatheLevelStep none r s = _
  simp [execLatheLevelStep, h]

variable (l limit : Nat) (t : Int)

theorem levelStep_of_above (h : 8 * (limit : Int) < t) : levelStep l t limit = min 15 (l + 1) := if_pos h

theorem levelStep_of_below (h : t < 8 * ((limit : Int) - 3)) : levelStep l t limit = l - 1 := by
  rw [levelStep, if_neg (by omega), if_pos h]

theorem levelStep_of_between (hlow : 8 * ((limit : Int) - 3) ≤ t) (hhigh : t ≤ 8 * (limit : Int)) : levelStep l t limit = l := by
  rw [levelStep, if_neg (by omega), if_neg (by omega)]

end Level

/-! The trip (R471, R472). That a module which is tripped does not trip again is the model's reading (log 63). -/

section Trip

variable {s : State}

theorem exec_thermalTrip_of_cool (i : Fin 64) (x : BitVec 12) (h : sgn 12 x.toNat ≤ 840 ∨ s.flag THM_STAT.TRIPPED = true) :
    exec (.thermalTrip i x) s = .next s := congrArg Host.Outcome.next (if_pos h)

theorem exec_thermalTrip_of_hot (i : Fin 64) (x : BitVec 12) (hot : 840 < sgn 12 x.toNat) (h : s.flag THM_STAT.TRIPPED = false) :
    exec (.thermalTrip i x) s = .next ((s.sample i x.toNat).showTemps).trip :=
  congrArg Host.Outcome.next (if_neg (by rw [h]; simpa using hot))

variable (s)

/-- The trips of the last 24 hours. -/
def State.recentTrips (s : State) : List Nat :=
  s.thm.trips.filter (fun t => (Cells.get 0 s.aon 1 + 2 ^ 48 - t) % 2 ^ 48 ≤ 86400 * 32768)

/-- The registers of a module that has tripped, with NO_RESTART for a third trip within 24 hours. -/
def State.tripShown (s : State) : State :=
  ((s.computeOff.raise THM_STAT.TRIP).wr THM_STAT.TRIPPED 1).raiseIf (3 ≤ s.recentTrips.length + 1) THM_STAT.NO_RESTART

theorem State.trip_eq : s.trip = { s.tripShown with thm := { s.tripShown.thm with
    trips := Cells.get 0 s.aon 1 :: s.recentTrips, tripTotal := s.tripShown.thm.tripTotal + 1 } } := rfl

theorem State.tripShown_eta : s.tripShown = { s.computeOff with regs := s.tripShown.regs } := by
  rw [State.tripShown, State.raiseIf_eta]
  rfl

theorem State.rd_trip (f : Fld) : s.trip.rd f = s.tripShown.rd f := rfl

theorem State.flag_trip_trip : s.trip.flag THM_STAT.TRIP = true := by
  rw [State.flag, State.rd_trip, State.tripShown, State.rd_raiseIf_ne _ _ (by decide), State.rd_wr_ne _ _ (by decide), State.raise,
    State.rd_wr_self]
  rfl

theorem State.flag_tripped_trip : s.trip.flag THM_STAT.TRIPPED = true := by
  rw [State.flag, State.rd_trip, State.tripShown, State.rd_raiseIf_ne _ _ (by decide), State.rd_wr_self]
  rfl

theorem State.flag_groupC_trip : s.trip.flag PWR_STAT.GROUP_C = false := by
  rw [State.flag, State.rd_trip, State.tripShown, State.rd_raiseIf_ne _ _ (by decide), State.rd_wr_ne _ _ (by decide), State.raise,
    State.rd_wr_ne _ _ (by decide)]
  exact State.flag_groupC_computeOff

variable {s}

theorem State.flag_noRestart_trip_of_third (h : 2 ≤ s.recentTrips.length) : s.trip.flag THM_STAT.NO_RESTART = true := by
  have hthird : 3 ≤ s.recentTrips.length + 1 := by omega
  rw [State.flag, State.rd_trip, State.tripShown, decide_eq_true hthird, State.raiseIf, if_pos rfl, State.rd_wr_self]
  rfl

theorem State.rd_noRestart_trip_of_earlier (h : s.recentTrips.length < 2) : s.trip.rd THM_STAT.NO_RESTART = s.rd THM_STAT.NO_RESTART := by
  have hearly : ¬3 ≤ s.recentTrips.length + 1 := by omega
  rw [State.rd_trip, State.tripShown, decide_eq_false hearly, State.raiseIf, if_neg nofun, State.rd_wr_ne _ _ (by decide), State.raise,
    State.rd_wr_ne _ _ (by decide), State.rd_computeOff_ne (.inr (by decide)) (by decide)]

end Trip

/-- Settles O58: each clause is an equation of its command, of `sensorBad`, of `levelStep` or of `trip`. -/
theorem sensorsAndTrips : Obligations.SensorsAndTrips := by
  refine ⟨?pair,
    fun i s => ⟨exec_sensorInvalid_of_uninjected s i, s.sensorOk_sensorBad_self i, fun j => s.sensorOk_sensorBad_ne i, s.rd_hubAlarm_sensorBad i⟩,
    fun r s => ⟨fun h w => exec_latheLevelStep_of_unowned r w h,
      fun h => ⟨fun n => exec_latheLevelStep_lathe_of_owned r n h, exec_latheLevelStep_io_of_owned r h⟩⟩,
    fun l limit t => ⟨levelStep_of_above l limit t, levelStep_of_below l limit t, levelStep_of_between l limit t⟩,
    fun i x s => ⟨exec_thermalTrip_of_cool i x, exec_thermalTrip_of_hot i x⟩,
    fun s => ⟨s.flag_trip_trip, s.flag_tripped_trip, s.flag_groupC_trip, ?lathe, ?lsram, ?way, ?port, ?total,
      State.flag_noRestart_trip_of_third, State.rd_noRestart_trip_of_earlier⟩⟩
  case pair =>
    intro pair a b lasted s i s2 d hinj
    have hexec := exec_pairDifference_of_uninjected pair a b lasted hinj
    refine ⟨fun hbad => ?_, fun hok hlasted hd => ?_, fun hok hlasted hd => ?_⟩
    · exact hexec.trans (congrArg Host.Outcome.next (State.pairJudged_of_invalid lasted hbad))
    · subst hlasted
      exact hexec.trans (congrArg Host.Outcome.next (State.pairJudged_of_fault hok hd))
    · subst hlasted
      exact hexec.trans (congrArg Host.Outcome.next (State.pairJudged_of_near hok hd))
  all_goals rw [State.trip_eq, State.tripShown_eta]; rfl

end Sys2Proof.Machine
end

section
/-! PROOFS. The Tandem: heartbeats, watchdogs, ownership, the saved state and what hardware does without an owner (R476 to R480). -/

namespace Sys2Proof.Machine
open Reg

/-! Where the state of a supervisor stands (Table 16.16). -/

theorem supState_key_ne (u : Nat) : (supState u).key ≠ TDM_STAT.OWNER_VALID.key ∧ (supState u).key ≠ TDM_STAT.OWNER.key ∧
    (supState u).key ≠ TDM_STAT.WIRE_MISS.key ∧ (supState u).key ≠ TDM_STAT.MBX_MISS.key ∧
    (supState u).key ≠ THM_MODULE.NO_OWNER.key := by
  unfold supState
  split <;> decide

theorem supState_width (u : Nat) : (supState u).width = 2 := by
  unfold supState
  split <;> rfl

theorem State.rd_wr_supState (s : State) (u v : Nat) : (s.wr (supState u) v).rd (supState u) = v % 4 :=
  (s.rd_wr_self (supState u) v).trans (congrArg (v % 2 ^ ·) (supState_width u))

theorem State.owned_wr_supState (s : State) (u v : Nat) : (s.wr (supState u) v).owned = s.owned :=
  s.flag_wr_ne v (supState_key_ne u).1.symm

/-! The reset of a mailbox stays within the mailboxes (R361). -/

section MbxReset

variable (s : State) (t : Nat)

theorem State.mbxReset_eta : s.mbxReset t = { s with regs := (s.mbxReset t).regs } := by
  rw [State.mbxReset, State.raiseIf_eta]
  rfl

theorem State.rd_mbxReset_out {f : Fld} (h : f.key < mbxT 0 * 32) : (s.mbxReset t).rd f = s.rd f := by
  have hfields : f.key ≠ (MBX_DB_MASK.MASK t).key ∧ f.key ≠ (MBX_DB_PEND.PEND t).key ∧ f.key ≠ (MBX_IN_FROM.FULL t).key ∧
      f.key ≠ (MBX_STAT.ABORTED (s.rd (MBX_IN_FROM.FROM t))).key := by
    simp only [MBX_DB_MASK.MASK, MBX_DB_PEND.PEND, MBX_IN_FROM.FULL, MBX_STAT.ABORTED, Fld.key, mbxT] at h ⊢
    omega
  obtain ⟨hmask, hpend, hfull, habort⟩ := hfields
  rw [State.mbxReset, State.rd_wr_ne _ _ hmask, State.rd_wr_ne _ _ hpend, State.rd_wr_ne _ _ hfull, State.rd_raiseIf_ne _ _ habort]

theorem mbxReset_keys_ne : (MBX_IN_FROM.FULL t).key ≠ (MBX_DB_MASK.MASK t).key ∧ (MBX_IN_FROM.FULL t).key ≠ (MBX_DB_PEND.PEND t).key ∧
    (MBX_DB_PEND.PEND t).key ≠ (MBX_DB_MASK.MASK t).key := by
  simp only [MBX_DB_MASK.MASK, MBX_DB_PEND.PEND, MBX_IN_FROM.FULL, Fld.key]
  omega

theorem State.flag_full_mbxReset : (s.mbxReset t).flag (MBX_IN_FROM.FULL t) = false := by
  obtain ⟨hmask, hpend, -⟩ := mbxReset_keys_ne t
  rw [State.flag, State.mbxReset, State.rd_wr_ne _ _ hmask, State.rd_wr_ne _ _ hpend, State.rd_wr_self]
  rfl

theorem State.rd_pend_mbxReset : (s.mbxReset t).rd (MBX_DB_PEND.PEND t) = 0 := by
  obtain ⟨-, -, hmask⟩ := mbxReset_keys_ne t
  rw [State.mbxReset, State.rd_wr_ne _ _ hmask, State.rd_wr_self]
  rfl

end MbxReset

/-! Heartbeats (R476). -/

section Heartbeat

variable (s : State) (u : Fin 2) (w m : Bool)

/-- Heartbeats are missed on the paths named: the owner's armed injections of single paths are used up, and the misses are flagged. -/
def State.beatsMissed : State :=
  let s1 := if s.owned && s.rd TDM_STAT.OWNER = u.val then (s.wr TDM_INJ.WIRE 0).wr TDM_INJ.MBX 0 else s
  let s2 := (s1.raiseIf w TDM_STAT.WIRE_MISS).raiseIf m TDM_STAT.MBX_MISS
  { s2 with tdm := { s2.tdm with wireSilent := Cells.set false s2.tdm.wireSilent u w, mbxSilent := Cells.set false s2.tdm.mbxSilent u m } }

theorem State.beatsMissed_eta : s.beatsMissed u w m = { s with regs := (s.beatsMissed u w m).regs, tdm := { s.tdm with
    wireSilent := Cells.set false s.tdm.wireSilent u w, mbxSilent := Cells.set false s.tdm.mbxSilent u m } } := by
  unfold State.beatsMissed
  cases w <;> cases m <;> split <;> rfl

theorem State.rd_beatsMissed_ne {f : Fld} (hwire : f.key ≠ TDM_STAT.WIRE_MISS.key) (hmbx : f.key ≠ TDM_STAT.MBX_MISS.key)
    (hwireInj : f.key ≠ TDM_INJ.WIRE.key) (hmbxInj : f.key ≠ TDM_INJ.MBX.key) : (s.beatsMissed u w m).rd f = s.rd f := by
  have hinj : (if s.owned && s.rd TDM_STAT.OWNER = u.val then (s.wr TDM_INJ.WIRE 0).wr TDM_INJ.MBX 0 else s).rd f = s.rd f := by
    split
    · rw [State.rd_wr_ne _ _ hmbxInj, State.rd_wr_ne _ _ hwireInj]
    · rfl
  exact (State.rd_raiseIf_ne _ _ hmbx).trans ((State.rd_raiseIf_ne _ _ hwire).trans hinj)

theorem State.flag_wireMiss_beatsMissed : (s.beatsMissed u true m).flag TDM_STAT.WIRE_MISS = true := by
  refine (State.flag_raiseIf_ne _ m (by decide)).trans ?_
  rw [State.flag_raiseIf_self _ _ (by decide), Bool.or_true]

theorem State.flag_mbxMiss_beatsMissed : (s.beatsMissed u w true).flag TDM_STAT.MBX_MISS = true := by
  refine (State.flag_raiseIf_self _ true (by decide)).trans ?_
  rw [Bool.or_true]

theorem State.owned_beatsMissed : (s.beatsMissed u w m).owned = s.owned :=
  congrArg (fun v => decide (v = 1)) (s.rd_beatsMissed_ne u w m (by decide) (by decide) (by decide) (by decide))

theorem State.rd_owner_beatsMissed : (s.beatsMissed u w m).rd TDM_STAT.OWNER = s.rd TDM_STAT.OWNER :=
  s.rd_beatsMissed_ne u w m (by decide) (by decide) (by decide) (by decide)

theorem State.rd_supState_beatsMissed : (s.beatsMissed u w m).rd (supState u) = s.rd (supState u) := by
  obtain ⟨-, -, hwire, hmbx, -⟩ := supState_key_ne u
  refine s.rd_beatsMissed_ne u w m hwire hmbx ?_ ?_ <;> (unfold supState; split <;> decide)

variable {s}

theorem exec_heartbeatSilent_of_uninjected (hboth : s.flag TDM_INJ.BOTH = false) (hwire : s.flag TDM_INJ.WIRE = false)
    (hmbx : s.flag TDM_INJ.MBX = false) (hheld : Cells.get false s.tdm.held u = false) : exec (.heartbeatSilent u w m) s =
    .next (if w && m then (s.beatsMissed u w m).supFailed u else s.beatsMissed u w m) := by
  change execHeartbeatSilent u w m s = _
  simp only [execHeartbeatSilent, hboth, hwire, hmbx, hheld, Bool.and_false, Bool.or_false, Bool.not_false, Bool.and_true]
  rfl

end Heartbeat

/-! A supervisor fails (R476, R477). -/

section Failed

variable (s : State) (u : Nat)

/-- Supervisor u is held in reset, its mailbox is reset, and its state is RESTARTING. -/
def State.supHeld : State :=
  (State.mbxReset { s with tdm := { s.tdm with held := Cells.set false s.tdm.held u true },
                           host := { s.host with inReset := Cells.set false s.host.inReset (1 + u) true } } (1 + u)).wr (supState u) 2

theorem State.supFailed_eq : s.supFailed u = if s.owned ∧ s.rd TDM_STAT.OWNER = u then s.supHeld u |>.wr TDM_STAT.OWNER_VALID 0
    else s.supHeld u := rfl

theorem State.supFailed_eta : s.supFailed u = { s with
    regs := (s.supFailed u).regs
    tdm := { s.tdm with held := Cells.set false s.tdm.held u true }
    host := { s.host with inReset := Cells.set false s.host.inReset (1 + u) true } } := by
  rw [State.supFailed_eq, State.supHeld, State.mbxReset_eta]
  split <;> rfl

theorem State.rd_supHeld {f : Fld} (h : f.key < mbxT 0 * 32) (hne : f.key ≠ (supState u).key) : (s.supHeld u).rd f = s.rd f := by
  rw [State.supHeld, State.rd_wr_ne _ _ hne, State.rd_mbxReset_out _ _ h]
  rfl

theorem State.rd_supFailed {f : Fld} (h : f.key < mbxT 0 * 32) (hne : f.key ≠ (supState u).key) (hvalid : f.key ≠ TDM_STAT.OWNER_VALID.key) :
    (s.supFailed u).rd f = s.rd f := by
  rw [State.supFailed_eq]
  split
  · rw [State.rd_wr_ne _ _ hvalid, State.rd_supHeld s u h hne]
  · exact State.rd_supHeld s u h hne

theorem State.flag_wireMiss_supFailed : (s.supFailed u).flag TDM_STAT.WIRE_MISS = s.flag TDM_STAT.WIRE_MISS := by
  obtain ⟨-, -, hwire, -, -⟩ := supState_key_ne u
  rw [State.flag, State.rd_supFailed s u (by decide) hwire.symm (by decide), State.flag]

theorem State.flag_mbxMiss_supFailed : (s.supFailed u).flag TDM_STAT.MBX_MISS = s.flag TDM_STAT.MBX_MISS := by
  obtain ⟨-, -, -, hmbx, -⟩ := supState_key_ne u
  rw [State.flag, State.rd_supFailed s u (by decide) hmbx.symm (by decide), State.flag]

theorem State.rd_supState_supFailed : (s.supFailed u).rd (supState u) = 2 := by
  have hheld : (s.supHeld u).rd (supState u) = 2 := State.rd_wr_supState ..
  rw [State.supFailed_eq]
  split
  · rw [State.rd_wr_ne _ _ (supState_key_ne u).1, hheld]
  · exact hheld

theorem State.held_supFailed : Cells.get false (s.supFailed u).tdm.held u = true := by
  rw [State.supFailed_eta]
  exact Cells.get_set_self false s.tdm.held u true

variable {s u}

theorem State.owned_supFailed_of_owner (hown : s.owned = true) (hu : s.rd TDM_STAT.OWNER = u) : (s.supFailed u).owned = false := by
  rw [State.supFailed_eq, if_pos ⟨hown, hu⟩, State.owned, State.flag, State.rd_wr_self]
  rfl

end Failed

/-! A watchdog's expiry (R476). That it raises line 8 or 9 is the model's reading (log 67). -/

section Watchdog

variable (s : State) (u : Fin 2)

/-- The line of supervisor u's interrupt source is raised; the owner's armed injection is used up. -/
def State.watchdogLine : State :=
  let s1 := if s.owned && s.rd TDM_STAT.OWNER = u.val then s.wr TDM_INJ.WDOG 0 else s
  { s1 with host := { s1.host with line := Cells.set false s1.host.line (8 + u) true } }

theorem exec_supervisorWatchdogExpiry : exec (.supervisorWatchdogExpiry u) s = .next ((s.watchdogLine u).mbxReset (1 + u)) := rfl

theorem State.watchdogLine_eta : s.watchdogLine u = { s with
    regs := (s.watchdogLine u).regs
    host := { s.host with line := Cells.set false s.host.line (8 + u) true } } := by
  simp only [State.watchdogLine]
  split <;> rfl

end Watchdog

/-! Ownership: takeover, handover, and who owns the outputs (R477). A takeover starts from the newest saved copy (log 66); an event that the
owner's state rules out leaves the state (log 2). -/

section Ownership

variable {s : State} (r : List (Fin 64 × BitVec 12))

theorem exec_takeover_of_owned (h : s.owned = true) : exec (.takeover r) s = .next s := by
  change execTakeover r s = _
  unfold execTakeover
  split
  · rfl
  · rw [if_pos h]

theorem exec_takeover_of_watch {u : Nat} (hown : s.owned = false)
    (h : (List.range 2).find? (fun u => s.rd (supState u) = 1 && !Cells.get false s.tdm.held u) = some u) : exec (.takeover r) s =
    .next ((((s.loadTandem.samples r).becomeOwner u).bump TDM_COUNTS.TAKEOVERS 1).wr TDM_INJ.BOTH 0) := by
  change execTakeover r s = _
  simp [execTakeover, h, hown]

theorem exec_plannedHandover_of_watch (hown : s.owned = true) (hwatch : s.rd (supState (1 - s.rd TDM_STAT.OWNER)) = 1)
    (hheld : Cells.get false s.tdm.held (1 - s.rd TDM_STAT.OWNER) = false) : exec (.plannedHandover r) s =
    .next (((s.saveTandem.wr (supState (s.rd TDM_STAT.OWNER)) 1).loadTandem.samples r).becomeOwner (1 - s.rd TDM_STAT.OWNER)) :=
  congrArg Host.Outcome.next (if_pos ⟨hown, hwatch, by rw [hheld]; rfl⟩)

theorem exec_plannedHandover_of_barred (h : s.owned = false ∨ s.rd (supState (1 - s.rd TDM_STAT.OWNER)) ≠ 1) :
    exec (.plannedHandover r) s = .next s := by
  refine congrArg Host.Outcome.next (if_neg ?_)
  rintro ⟨hown, hwatch, -⟩
  obtain h | h := h
  · exact absurd hown (Bool.eq_false_iff.mp h)
  · exact h hwatch

variable (s) (u : Fin 2)

theorem State.owned_ownedBy : (s.ownedBy u).owned = true := by
  rw [State.ownedBy, State.owned, State.flag_wr_ne _ _ (by decide), State.flag_wr_ne _ _ (supState_key_ne u).1.symm,
    State.flag_wr_ne _ _ (by decide), State.flag, State.rd_wr_self]
  rfl

theorem State.rd_owner_ownedBy : (s.ownedBy u).rd TDM_STAT.OWNER = u.val := by
  rw [State.ownedBy, State.rd_wr_ne _ _ (by decide), State.rd_wr_ne _ _ (supState_key_ne u).2.1.symm, State.rd_wr_self]
  exact Nat.mod_eq_of_lt u.isLt

theorem State.rd_supState_ownedBy : (s.ownedBy u).rd (supState u) = 0 := by
  obtain ⟨-, -, -, -, hno⟩ := supState_key_ne u
  rw [State.ownedBy, State.rd_wr_ne _ _ hno, State.rd_wr_supState]

theorem State.flag_noOwner_ownedBy : (s.ownedBy u).flag THM_MODULE.NO_OWNER = false := by
  rw [State.ownedBy, State.flag, State.rd_wr_self]
  rfl

end Ownership

/-! The saved state (R478). -/

section Saved

variable {s : State}

theorem exec_savedStateWrite_of_owned (hown : s.owned = true) (hin : s.boot.inputGone = false) :
    exec .savedStateWrite s = .next s.saveTandem := by
  change execSavedStateWrite s = _
  simp [execSavedStateWrite, hown, hin]

theorem exec_savedStateWrite_of_barred (h : s.owned = false ∨ s.boot.inputGone = true) : exec .savedStateWrite s = .next s := by
  change execSavedStateWrite s = _
  obtain h | h := h <;> simp [execSavedStateWrite, h]

variable (s)

/-- The copy that a write of the saved state leaves. -/
def State.tandemCopy : TdmSave := ⟨match s.savedNow with | some c => c.seq + 1 | none => 1, thmCells s, s.thm⟩

theorem State.saveTandem_eta : s.saveTandem = { s with tdm := { s.tdm with saved := s.saveTandem.tdm.saved } } := rfl

/-- The copy written is the newest: it takes the place of the other one, with a higher SEQ. -/
theorem State.savedNow_saveTandem : s.saveTandem.savedNow = some s.tandemCopy := by
  have hkeep0 (c : Option TdmSave) : Cells.get none (Cells.set none s.tdm.saved 1 c) 0 = Cells.get none s.tdm.saved 0 :=
    Cells.get_set_ne _ _ _ _ (by decide)
  have hkeep1 (c : Option TdmSave) : Cells.get none (Cells.set none s.tdm.saved 0 c) 1 = Cells.get none s.tdm.saved 1 :=
    Cells.get_set_ne _ _ _ _ (by decide)
  have hnewer (n : Nat) : ¬n + 1 < n := by omega
  cases h0 : Cells.get none s.tdm.saved 0 with
  | none => cases h1 : Cells.get none s.tdm.saved 1 <;> simp [State.saveTandem, State.savedNow, State.tandemCopy, h0, h1, hkeep1, hnewer]
  | some a =>
    cases h1 : Cells.get none s.tdm.saved 1 with
    | none => simp [State.saveTandem, State.savedNow, State.tandemCopy, h0, h1, hkeep0]
    | some b =>
      by_cases hlt : a.seq < b.seq
      · have hab : a ≠ b := by
          rintro rfl
          omega
        simp [State.saveTandem, State.savedNow, State.tandemCopy, h0, h1, hkeep1, hlt, hab, hnewer]
      · simp [State.saveTandem, State.savedNow, State.tandemCopy, h0, h1, hkeep0, hlt]

end Saved

/-! A failed supervisor's reload (R479). That an image which is not the recorded one leaves the state is the model's reading (log 68). -/

section Reload

variable {u : Fin 2} {s : State} (r : List (Fin 64 × BitVec 12))

/-- The image of the running bank is the one that was measured for supervisor u. -/
def State.imageSame (s : State) (u : Nat) : Prop := (s.area (s.rd GLB_LIFE.BANK) 2).measure = Cells.get [] s.tdm.image u

theorem exec_supervisorReload_of_barred (ok : Bool) (h : s.rd (supState u) ≠ 2 ∨ ¬s.imageSame u) :
    exec (.supervisorReload u ok r) s = .next s := congrArg Host.Outcome.next (if_pos h)

/-- Supervisor u runs again in WATCH. -/
def State.supWatches (s : State) (u : Nat) : State := (s.supReleased u).wr (supState u) 1

theorem State.owned_supWatches (s : State) (u : Nat) : (s.supWatches u).owned = s.owned := State.owned_wr_supState _ u 1

/-- One more self-test of supervisor u has failed; the third in a row leaves it OFFLINE. -/
def State.selfTestMissed (s : State) (u : Nat) : State :=
  let s1 := { s with tdm := { s.tdm with fails := Cells.set 0 s.tdm.fails u (Cells.get 0 s.tdm.fails u + 1) } }
  if 3 ≤ Cells.get 0 s.tdm.fails u + 1 then s1.wr (supState u) 3 else s1

variable (hstate : s.rd (supState u) = 2) (hsame : s.imageSame u)

include hstate hsame

theorem supervisorReload_open : ¬(s.rd (supState u) ≠ 2 ∨ (s.area (s.rd GLB_LIFE.BANK) 2).measure ≠ Cells.get [] s.tdm.image u) :=
  fun h => h.elim (fun h => h hstate) fun h => h hsame

theorem exec_supervisorReload_of_B (h : u = 1) : exec (.supervisorReload u true r) s = .next (s.supWatches u) := by
  subst h
  exact congrArg Host.Outcome.next (if_neg (supervisorReload_open hstate hsame))

theorem exec_supervisorReload_of_A_owned (h : u = 0) (hown : s.owned = true) :
    exec (.supervisorReload u true r) s = .next (((s.supWatches u).handover r).bump TDM_COUNTS.RETURNS 1) := by
  subst h
  exact congrArg Host.Outcome.next ((if_neg (supervisorReload_open hstate hsame)).trans (if_pos ((s.owned_supWatches 0).trans hown)))

theorem exec_supervisorReload_of_A_unowned (h : u = 0) (hown : s.owned = false) : exec (.supervisorReload u true r) s =
    .next ((((s.supWatches u).loadTandem.samples r).becomeOwner 0).bump TDM_COUNTS.RETURNS 1) := by
  subst h
  exact congrArg Host.Outcome.next ((if_neg (supervisorReload_open hstate hsame)).trans
    (if_neg (Bool.eq_false_iff.mp ((s.owned_supWatches 0).trans hown))))

theorem exec_supervisorReload_of_failed : exec (.supervisorReload u false r) s = .next (s.selfTestMissed u) :=
  congrArg Host.Outcome.next (if_neg (supervisorReload_open hstate hsame))

omit hsame

theorem State.rd_supState_selfTestMissed :
    (s.selfTestMissed u).rd (supState u) = if 2 ≤ Cells.get 0 s.tdm.fails u then 3 else 2 := by
  unfold State.selfTestMissed
  split
  · rw [if_pos (by omega)]
    exact State.rd_wr_supState ..
  · rw [if_neg (by omega)]
    exact hstate

omit hstate

theorem State.fails_selfTestMissed : Cells.get 0 (s.selfTestMissed u).tdm.fails u = Cells.get 0 s.tdm.fails u + 1 := by
  unfold State.selfTestMissed
  split <;> exact Cells.get_set_self 0 s.tdm.fails u (Cells.get 0 s.tdm.fails u + 1)

theorem State.owned_selfTestMissed : (s.selfTestMissed u).owned = s.owned := by
  unfold State.selfTestMissed
  split
  · exact State.owned_wr_supState ..
  · rfl

end Reload

/-! No owner (R480). -/

section NoOwner

variable {s : State}

theorem exec_noOwnerOverride_of_owned (h : s.owned = true) : exec .noOwnerOverride s = .next s := congrArg Host.Outcome.next (if_pos h)

theorem exec_noOwnerOverride_of_unowned (h : s.owned = false) :
    exec .noOwnerOverride s = .next (((s.wr THM_MODULE.NO_OWNER 1).wr THM_MODULE.KW 0).wr THM_MODULE.VALVE 100).levels :=
  congrArg Host.Outcome.next (if_neg (Bool.eq_false_iff.mp h))

theorem exec_noOwnerRailRemoval_of_owned (h : s.owned = true) : exec .noOwnerRailRemoval s = .next s :=
  congrArg Host.Outcome.next (if_pos h)

theorem exec_noOwnerRailRemoval_of_unowned (h : s.owned = false) : exec .noOwnerRailRemoval s = .next s.computeOff :=
  congrArg Host.Outcome.next (if_neg (Bool.eq_false_iff.mp h))

end NoOwner

/-- Settles O59: each clause is an equation of its command; a failed supervisor's registers stand below the mailboxes, which its reset clears. -/
theorem tandemOwnership : Obligations.TandemOwnership := by
  refine ⟨fun u s hboth hwire hmbx hheld => ?heartbeat,
    fun u s => ⟨_, exec_supervisorWatchdogExpiry s u, ?line, State.flag_full_mbxReset .., State.rd_pend_mbxReset .., ?tdm, ?mem⟩,
    fun r s => ⟨exec_takeover_of_owned r, fun u hown h => exec_takeover_of_watch r hown h⟩,
    fun r s => ⟨exec_plannedHandover_of_watch r, exec_plannedHandover_of_barred r⟩,
    fun u s => ⟨s.owned_ownedBy u, s.rd_owner_ownedBy u, s.rd_supState_ownedBy u, s.flag_noOwner_ownedBy u⟩,
    fun s => ⟨fun hown hin => ⟨_, exec_savedStateWrite_of_owned hown hin, s.saveTandem_eta, _, s.savedNow_saveTandem, rfl, rfl, ?seq⟩,
      exec_savedStateWrite_of_barred⟩,
    fun u r s => ⟨exec_supervisorReload_of_barred r, exec_supervisorReload_of_B r, exec_supervisorReload_of_A_owned r,
      exec_supervisorReload_of_A_unowned r, fun hstate hsame => ⟨_, exec_supervisorReload_of_failed r hstate hsame,
        State.fails_selfTestMissed, State.rd_supState_selfTestMissed hstate, State.owned_selfTestMissed⟩⟩,
    fun s => ⟨fun h => ⟨exec_noOwnerOverride_of_owned h, exec_noOwnerRailRemoval_of_owned h⟩,
      fun h => ⟨exec_noOwnerOverride_of_unowned h, _, exec_noOwnerRailRemoval_of_unowned h, State.flag_groupC_computeOff, rfl, rfl, rfl, rfl⟩⟩⟩
  case heartbeat =>
    have hexec (w m : Bool) := exec_heartbeatSilent_of_uninjected u w m hboth hwire hmbx hheld
    have hfailed : exec (.heartbeatSilent u true true) s = .next ((s.beatsMissed u true true).supFailed u) := hexec true true
    refine ⟨⟨_, hfailed, State.held_supFailed .., State.rd_supState_supFailed .., ?wireFlag, ?mbxFlag, ?noOwner, ?memory, ?keys⟩,
      ⟨_, hexec true false, State.flag_wireMiss_beatsMissed .., ?heldWire, State.owned_beatsMissed .., State.rd_supState_beatsMissed ..⟩,
      ⟨_, hexec false true, State.flag_mbxMiss_beatsMissed .., ?heldMbx, State.owned_beatsMissed ..⟩⟩
    case wireFlag => rw [State.flag_wireMiss_supFailed, State.flag_wireMiss_beatsMissed]
    case mbxFlag => rw [State.flag_mbxMiss_supFailed, State.flag_mbxMiss_beatsMissed]
    case noOwner =>
      intro hown hu
      exact State.owned_supFailed_of_owner ((State.owned_beatsMissed ..).trans hown) ((State.rd_owner_beatsMissed ..).trans hu)
    case memory | keys => rw [State.supFailed_eta, State.beatsMissed_eta]
    case heldWire | heldMbx => rw [State.beatsMissed_eta]; exact hheld
  case seq =>
    intro o ho
    rw [State.tandemCopy, ho]
  case line =>
    rw [State.mbxReset_eta, State.watchdogLine_eta]
    exact Cells.get_set_self false s.host.line (8 + u.val) true
  case tdm | mem => rw [State.mbxReset_eta, State.watchdogLine_eta]

end Sys2Proof.Machine
end

section
/-! PROOFS. Update sessions: headers, blocks, staged components, activation, confirmation (R438 to R446, R451). -/

namespace Sys2Proof.Machine
open Reg

/-! The requests are served in READY, MAINT and ROM recovery (log 82): elsewhere they do nothing. -/

section Served

variable {s : State}

theorem State.updServed_of_ready (h : s.run = 3) : s.updServed = true := by simp [State.updServed, h]

variable (rq : ReqPath) (h v : List Byte) (ok : Bool) (id : Fin 16) (u : StartUp)

theorem exec_updates_of_closed (hclosed : s.updServed = false) : exec (.updateHeader rq h) s = .next s ∧
    exec (.updateBlock rq v ok) s = .next s ∧ exec .updateConfirm s = .next s ∧ exec (.updateActivate rq ok u) s = .next s ∧
    exec (.updateFinish rq u) s = .next s ∧ exec (.updateSkip rq id) s = .next s ∧ exec .updateAbort s = .next s := by
  have hnot : ¬s.updServed = true := ne_true_of_eq_false hclosed
  exact ⟨congrArg _ (if_neg hnot), congrArg _ (if_neg hnot), congrArg _ (if_neg hnot), congrArg _ (if_neg hnot), congrArg _ (if_neg hnot),
    congrArg _ (if_neg hnot), congrArg _ (if_neg hnot)⟩

variable (hserved : s.updServed = true)

include hserved

theorem exec_updateHeader_of_served : exec (.updateHeader rq h) s = .next (s.updHeader (reqCode rq) h).1 := congrArg _ (if_pos hserved)

theorem exec_updateBlock_of_served : exec (.updateBlock rq v ok) s = .next (s.updBlock (reqCode rq) v ok).1 := congrArg _ (if_pos hserved)

theorem exec_updateConfirm_of_served : exec .updateConfirm s = .next s.updConfirm.1 := congrArg _ (if_pos hserved)

theorem exec_updateActivate_of_served : exec (.updateActivate rq ok u) s = .next (s.updActivate (reqCode rq) ok u).1 :=
  congrArg _ (if_pos hserved)

theorem exec_updateFinish_of_served : exec (.updateFinish rq u) s = .next (s.updFinish (reqCode rq) u).1 := congrArg _ (if_pos hserved)

theorem exec_updateSkip_of_served : exec (.updateSkip rq id) s = .next (s.updSkip (reqCode rq) id).1 := congrArg _ (if_pos hserved)

theorem exec_updateAbort_of_served : exec .updateAbort s = .next s.updAbort.1 := congrArg _ (if_pos hserved)

end Served

/-! A reason of R439 is the result of every request of a session, before any other (log 80). -/

section Gated

variable {s : State} {who r : Nat} (hgate : s.updGate = some r)

include hgate

theorem State.updHeader_of_gated (h : List Byte) : s.updHeader who h = s.updDone r := by simp [State.updHeader, hgate]

theorem State.updMine_of_gated : s.updMine who = .inl r := by simp [State.updMine, hgate]

theorem State.updBlock_of_gated (v : List Byte) (ok : Bool) : s.updBlock who v ok = s.updDone r := by
  simp [State.updBlock, State.updMine_of_gated hgate]

theorem State.updFinish_of_gated (u : StartUp) : s.updFinish who u = s.updDone r := by
  simp [State.updFinish, State.updMine_of_gated hgate]

theorem State.updSkip_of_gated (id : Nat) : s.updSkip who id = s.updDone r := by simp [State.updSkip, hgate]

theorem State.updAbort_of_gated : s.updAbort = s.updDone r := by simp [State.updAbort, hgate]

end Gated

/-! A session opens for a component, whose area is the staging bank's (R438, R440, R444). -/

section Open

variable (s : State) (who comp st : Nat)

/-- A session that has opened, with result 0. -/
def State.sessionOpened : State := (s.sessionOpen who comp st).wr GLB_UPD.LAST_RESULT 0

theorem State.sessionOpened_eta : s.sessionOpened who comp st =
    { s with regs := (s.sessionOpened who comp st).regs, boot := { s.boot with session := some ⟨who, comp⟩ } } := rfl

theorem State.session_sessionOpened : (s.sessionOpened who comp st).boot.session = some ⟨who, comp⟩ := rfl

theorem State.area_sessionOpened (b i : Nat) : (s.sessionOpened who comp st).area b i = s.area b i := rfl

theorem State.rd_session_sessionOpened : (s.sessionOpened who comp st).rd GLB_UPD.SESSION = st % 2 ^ 4 := by
  rw [State.sessionOpened, State.sessionOpen, State.rd_wr_ne _ _ (by decide), State.rd_wr_ne _ _ (by decide),
    State.rd_wr_ne _ _ (by decide), State.rd_wr_self]
  rfl

theorem State.rd_component_sessionOpened : (s.sessionOpened who comp st).rd GLB_UPD.COMPONENT = comp % 2 ^ 4 := by
  rw [State.sessionOpened, State.sessionOpen, State.rd_wr_ne _ _ (by decide), State.rd_wr_ne _ _ (by decide), State.rd_wr_self]
  rfl

theorem State.rd_pages_sessionOpened : (s.sessionOpened who comp st).rd GLB_UPD.PAGES = 0 := by
  rw [State.sessionOpened, State.sessionOpen, State.rd_wr_ne _ _ (by decide), State.rd_wr_self]
  rfl

theorem State.rd_result_sessionOpened : (s.sessionOpened who comp st).rd GLB_UPD.LAST_RESULT = 0 := State.rd_wr_self ..

theorem State.setBank_eta (b v target : Nat) :
    s.setBank b v target = { s with boot := { s.boot with recs := (s.setBank b v target).boot.recs } } := by
  unfold State.setBank
  dsimp only
  split <;> rfl

/-- The service controller's session takes the staging bank away from what it held. -/
def State.bankTaken (id : Nat) : State := if id = 1 then s.setBank s.stagingBank 1 s.target else s

theorem State.bankTaken_eta (id : Nat) :
    s.bankTaken id = { s with boot := { s.boot with recs := (s.bankTaken id).boot.recs } } := by
  unfold State.bankTaken
  split
  · exact s.setBank_eta ..
  · rfl

/-- A header in the area of its component, whose erase begins. -/
def State.headerTaken (h : List Byte) (id : Nat) : State := (s.bankTaken id).setArea s.stagingBank id { header := h }

theorem State.area_headerTaken (h : List Byte) (id : Nat) : (s.headerTaken h id).area s.stagingBank id = { header := h } := Cells.get_set_self ..

theorem State.headerTaken_eta (h : List Byte) (id : Nat) : s.headerTaken h id = { s with boot := { s.boot with
    recs := (s.headerTaken h id).boot.recs, area := (s.headerTaken h id).boot.area } } := by
  rw [State.headerTaken, State.bankTaken_eta]
  rfl

variable {s who}

theorem State.updBusy_of_no_session (h : s.boot.session = none) : s.updBusy who = false := by simp [State.updBusy, h]

/-- A component that may be written is one of Table 15.7. -/
theorem State.updOrder_component {id : Nat} (h : s.updOrder id = true) : id ∈ [1, 2, 4, 5, 6] := by
  unfold State.updOrder at h
  split at h
  · simp only [List.contains_eq_mem, decide_eq_true_eq] at h
    exact List.mem_cons_of_mem _ h
  · split at h
    · rw [of_decide_eq_true h]
      exact List.mem_cons_self
    · rw [of_decide_eq_true h, State.updNext]
      cases hnext : [1, 2, 4, 5, 6].find? (fun c => !s.boot.staged.contains c) with
      | none => exact List.mem_cons_self
      | some c => exact List.mem_of_find?_eq_some hnext

theorem State.updHeader_of_passing {header : List Byte} {h : List Byte} {id : Nat} (hh : fitTo 16384 header = h) (hid : hdrNum h 5 1 = id)
    (hgate : s.updGate = none) (hbusy : s.updBusy who = false) (htrial : s.updTrial = false) (hhead : headerOk h id = true)
    (hnone : s.boot.session = none) (horder : s.updOrder id = true) (hvendor : s.vendorOk h = true) (howner : s.ownerOk h = true)
    (hcomp : s.compatible h (s.area s.stagingBank 1).header id = true) (hsvn : s.svnFloor ≤ hdrNum h 6 1) :
    (s.updHeader who header).1 = (s.headerTaken h id).sessionOpened who id 1 := by
  subst hh hid
  simp only [State.updHeader, hgate, hbusy, htrial, hhead, hnone, horder, hvendor, howner, hcomp, Nat.not_lt.mpr hsvn, Bool.not_true,
    Option.isSome_none, Bool.or_self, Bool.false_eq_true, if_false]
  rfl

theorem State.updSkip_of_passing {id : Nat} (hrun : s.run = 3) (hgate : s.updGate = none) (htrial : s.updTrial = false)
    (hnone : s.boot.session = none) (hnext : id = s.updNext) (hcomp : s.compatible (s.area s.target id).header
      (if id = 1 then (s.area s.target id).header else (s.area s.stagingBank 1).header) id = true) :
    (s.updSkip who id).1 = (s.bankTaken id).sessionOpened who id 4 := by
  simp only [State.updSkip, hgate, State.updBusy_of_no_session hnone, htrial, hrun, hnone, ← hnext, hcomp, Bool.not_true,
    Option.isSome_none, ne_eq, not_true_eq_false, or_self, Bool.false_eq_true, if_false]
  rfl

end Open

/-! The erase, a block, and the end of a component (R440 to R442). -/

section Component

variable {s : State} {who : Nat}

theorem exec_updateEraseDone (s : State) :
    exec .updateEraseDone s = .next (if s.rd GLB_UPD.SESSION = 1 then s.wr GLB_UPD.SESSION 2 else s) := rfl

/-- The pages of a block stand in the area of the session's component, and are counted. -/
def State.blockTaken (s : State) (x : UpdSession) (off : Nat) (data : List Byte) : State :=
  let a := s.area s.stagingBank x.comp
  let a1 : FwArea := { a with pages := (blockPages off data).foldl (fun m p => Cells.set [] m p.1 p.2) a.pages }
  (s.setArea s.stagingBank x.comp a1).wr GLB_UPD.PAGES a1.pages.length

theorem State.run_blockTaken (x : UpdSession) (off : Nat) (data : List Byte) : (s.blockTaken x off data).run = s.run :=
  State.rd_wr_ne _ _ (by decide)

variable {x : UpdSession} (hmine : s.updMine who = .inr x)

include hmine

theorem State.updBlock_of_passing {value : List Byte} (ok : Bool) (halign : leVal (value.take 4) % 4096 = 0)
    (hmin : 4096 ≤ (value.drop 8).length) (hmax : (value.drop 8).length ≤ 65536)
    (hfit : leVal (value.take 4) + (value.drop 8).length ≤ hdrNum (s.area s.stagingBank x.comp).header 0x10 4)
    (hpages : (value.drop 8).length % 4096 = 0) (hcrc : crc32 (value.drop 8) = leVal ((value.drop 4).take 4))
    (hnew : (blockPages (leVal (value.take 4)) (value.drop 8)).all (fun p => !(s.area s.stagingBank x.comp).has p.1) = true) :
    s.updBlock who value ok = if ok then (s.blockTaken x (leVal (value.take 4)) (value.drop 8)).updDone 0
      else (s.blockTaken x (leVal (value.take 4)) (value.drop 8)).updFlash := by
  have hplace : ¬(leVal (value.take 4) % 4096 ≠ 0 ∨ (value.drop 8).length < 4096 ∨ 65536 < (value.drop 8).length ∨
      hdrNum (s.area s.stagingBank x.comp).header 0x10 4 < leVal (value.take 4) + (value.drop 8).length ∨
      ((value.drop 8).length % 4096 ≠ 0 ∧ leVal (value.take 4) + (value.drop 8).length ≠ hdrNum (s.area s.stagingBank x.comp).header 0x10 4)) := by
    omega
  have hunprogrammed : ¬(blockPages (leVal (value.take 4)) (value.drop 8)).any
      (fun p => (s.area s.stagingBank x.comp).has p.1 && Cells.get [] (s.area s.stagingBank x.comp).pages p.1 ≠ p.2) = true := by
    rw [Bool.not_eq_true, List.any_eq_false]
    intro p hp
    have hfree := List.all_eq_true.mp hnew p hp
    simp only [Bool.not_eq_true'] at hfree
    rw [hfree]
    nofun
  simp only [State.updBlock, hmine]
  exact (if_neg hplace).trans ((if_neg (not_not_intro hcrc)).trans (if_neg hunprogrammed))

theorem State.updFinish_of_incomplete (u : StartUp) (h : (s.area s.stagingBank x.comp).complete = false) :
    s.updFinish who u = s.updDone 0x0F := by simp [State.updFinish, hmine, h]

variable (hcomplete : (s.area s.stagingBank x.comp).complete = true)

include hcomplete

theorem State.updFinish_of_unsigned (u : StartUp) (h : s.signaturesOk (s.area s.stagingBank x.comp) = false) :
    s.updFinish who u = s.updDone 0x10 := by simp [State.updFinish, hmine, hcomplete, h]

theorem State.updFinish_of_signed (u : StartUp) (h : s.signaturesOk (s.area s.stagingBank x.comp) = true) (hrun : s.run ≠ 5) :
    s.updFinish who u = (s.stageComponent x.comp).updDone 0 := by simp [State.updFinish, hmine, hcomplete, h, hrun]

end Component

section Flash

variable {s : State}

theorem State.updFlash_of_firmware (h : s.run ≠ 5) : s.updFlash.1 = (s.sessionEnd []).wr GLB_UPD.LAST_RESULT 0x11 := by
  simp [State.updFlash, State.updDone, h]

theorem exec_updateSkipDone_of_other (ok : Bool) (h : s.boot.session = none ∨ s.rd GLB_UPD.SESSION ≠ 4) :
    exec (.updateSkipDone ok) s = .next s := by
  refine congrArg Host.Outcome.next ?_
  cases hs : s.boot.session with
  | none => simp [State.skipDone, hs]
  | some x => simp [State.skipDone, hs, h.resolve_left (by simp [hs])]

theorem exec_updateSkipDone_of_copied {x : UpdSession} (hs : s.boot.session = some x) (h : s.rd GLB_UPD.SESSION = 4) :
    exec (.updateSkipDone true) s = .next ((s.setArea s.stagingBank x.comp (s.area s.target x.comp)).stageComponent x.comp) := by
  refine congrArg Host.Outcome.next ?_
  simp [State.skipDone, hs, h]

end Flash

/-! Aborts, time-outs, confirmation and activation (R438, R443, R446). -/

section Bank

variable {s : State}

theorem State.updAbort_of_idle (hgate : s.updGate = none) (h : s.boot.session = none) : s.updAbort = s.updDone 0x0A := by
  simp [State.updAbort, hgate, h]

theorem State.updAbort_of_session {x : UpdSession} (hgate : s.updGate = none) (h : s.boot.session = some x) :
    s.updAbort = (s.sessionEnd []).updDone 0 := by simp [State.updAbort, hgate, h]

theorem exec_updateSessionTimeout_of_idle (h : s.boot.session = none) : exec .updateSessionTimeout s = .next s := by
  change execUpdateSessionTimeout s = _
  simp [execUpdateSessionTimeout, h]

theorem exec_updateSessionTimeout_of_session {x : UpdSession} (h : s.boot.session = some x) :
    exec .updateSessionTimeout s = .next (s.sessionEnd []) := by
  change execUpdateSessionTimeout s = _
  simp [execUpdateSessionTimeout, h]

theorem State.boot_sessionEnd (s : State) (staged : List Nat) :
    (s.sessionEnd staged).boot = { s.boot with session := none, staged := staged } := rfl

theorem State.sessionEnd_eta (s : State) (staged : List Nat) :
    s.sessionEnd staged = { s with regs := (s.sessionEnd staged).regs, boot := (s.sessionEnd staged).boot } := rfl

theorem State.rd_sessionEnd (s : State) (staged : List Nat) : (s.sessionEnd staged).rd GLB_UPD.SESSION = 0 ∧
    (s.sessionEnd staged).rd GLB_UPD.COMPONENT = 0 ∧ (s.sessionEnd staged).rd GLB_UPD.PAGES = 0 := by
  refine ⟨?_, ?_, State.rd_wr_self ..⟩
  · rw [State.sessionEnd, State.rd_wr_ne _ _ (by decide), State.rd_wr_ne _ _ (by decide), State.rd_wr_self]
    rfl
  · rw [State.sessionEnd, State.rd_wr_ne _ _ (by decide), State.rd_wr_self]
    rfl

theorem State.updConfirm_of_trial (hrun : s.run = 3) (h : s.inTrial = true) : s.updConfirm = s.confirm.updDone 0 := by
  simp [State.updConfirm, hrun, h]

theorem State.updConfirm_of_other (h : s.run ≠ 3 ∨ s.inTrial = false) : s.updConfirm = s.updDone 7 := by
  obtain h | h := h <;> simp [State.updConfirm, h]

theorem exec_trialHoursConfirm_of_trial (hrun : s.run = 3) (h : s.inTrial = true) (hhours : s.fram.confirmHours ≠ 0) :
    exec .trialHoursConfirm s = .next s.confirm := congrArg Host.Outcome.next (if_pos ⟨hrun, h, hhours⟩)

theorem exec_trialHoursConfirm_of_other (h : s.run ≠ 3 ∨ s.inTrial = false ∨ s.fram.confirmHours = 0) :
    exec .trialHoursConfirm s = .next s := by
  refine congrArg Host.Outcome.next (if_neg ?_)
  rintro ⟨hrun, htrial, hhours⟩
  obtain h | h | h := h
  · exact h hrun
  · exact Bool.eq_false_iff.mp h htrial
  · exact hhours h

variable {who : Nat} (u : StartUp) (hrun : s.run = 3) (hbusy : s.updBusy who = false) (hstaged : s.bankState s.stagingBank = 2)
  (hgate : s.updGate = none)

include hrun hbusy hstaged hgate

theorem State.updActivate_of_partition (h : s.allFree = false) : s.updActivate who true u = s.updDone 0x13 := by
  simp [State.updActivate, hrun, hbusy, hstaged, hgate, h]

theorem State.updActivate_of_free (h : s.allFree = true) : (s.updActivate who true u).1 =
    (((((s.setBank s.stagingBank 3 s.stagingBank).trialZero).supervisorsApply s.stagingBank).wr GLB_UPD.LAST_RESULT 0).lifeCommit.moduleReset
      4 u) := by
  simp [State.updActivate, State.activated, State.updDone, hrun, hbusy, hstaged, hgate, h]

end Bank

/-- Settles O56: each clause is an equation of its request, or of the command that is no request. -/
theorem updateSessions : Obligations.UpdateSessions := by
  refine ⟨fun rq h v ok id u s => exec_updates_of_closed rq h v ok id u, fun rq h v ok id u r s hserved hgate => ?gated, ?header,
    fun s => ⟨fun h => ?erased, fun h => ?notErasing⟩, ?block, fun rq x u s hserved hmine => ?finish, ?skip,
    fun ok s => ⟨exec_updateSkipDone_of_other ok, fun x => exec_updateSkipDone_of_copied⟩, fun s hserved hgate => ?abort,
    fun s => ⟨fun hrun h => ?confirm, fun hserved h => ?untried, exec_trialHoursConfirm_of_trial, exec_trialHoursConfirm_of_other⟩,
    fun rq u s hrun hbusy hstaged hgate => ?activate,
    fun s => ⟨exec_updateSessionTimeout_of_idle, fun x h => ?timeout⟩⟩
  case gated =>
    rw [exec_updateHeader_of_served rq h hserved, exec_updateBlock_of_served rq v ok hserved, exec_updateFinish_of_served rq u hserved,
      exec_updateSkip_of_served rq id hserved, exec_updateAbort_of_served hserved, State.updHeader_of_gated hgate,
      State.updBlock_of_gated hgate, State.updFinish_of_gated hgate, State.updSkip_of_gated hgate, State.updAbort_of_gated hgate]
    exact ⟨rfl, rfl, rfl, rfl, rfl⟩
  case header =>
    intro rq header s h id hserved hgate hbusy htrial hhead hnone horder hvendor howner hcomp hsvn
    have hid : id < 2 ^ 4 := by
      have hmem := State.updOrder_component horder
      simp only [List.mem_cons, List.not_mem_nil, or_false] at hmem
      omega
    refine ⟨(s.headerTaken h id).sessionOpened (reqCode rq) id 1, ?_, State.rd_session_sessionOpened .., ?_,
      State.rd_pages_sessionOpened .., State.rd_result_sessionOpened .., State.session_sessionOpened ..,
      (State.area_sessionOpened ..).trans (s.area_headerTaken h id), ?_, ?_⟩
    · rw [exec_updateHeader_of_served rq header hserved,
        State.updHeader_of_passing rfl rfl hgate hbusy htrial hhead hnone horder hvendor howner hcomp hsvn]
    · rw [State.rd_component_sessionOpened, Nat.mod_eq_of_lt hid]
    all_goals rw [State.sessionOpened_eta, State.headerTaken_eta]
  case erased => rw [exec_updateEraseDone, if_pos h]
  case notErasing => rw [exec_updateEraseDone, if_neg h]
  case block =>
    intro rq value x s hserved hmine a off data a1 halign hmin hmax hfit hpages hcrc hnew s1
    have hblock (ok : Bool) := State.updBlock_of_passing hmine ok halign hmin hmax hfit hpages hcrc hnew
    refine ⟨?_, fun hrun => ?_⟩
    · rw [exec_updateBlock_of_served rq value true hserved, hblock, if_pos rfl]
      rfl
    · rw [exec_updateBlock_of_served rq value false hserved, hblock, if_neg nofun,
        State.updFlash_of_firmware (by rwa [State.run_blockTaken])]
      rfl
  case finish =>
    rw [exec_updateFinish_of_served rq u hserved]
    refine ⟨fun h => ?_, fun hcomplete h => ?_, fun hcomplete h hrun => ?_⟩
    · rw [State.updFinish_of_incomplete hmine u h]
      rfl
    · rw [State.updFinish_of_unsigned hmine hcomplete u h]
      rfl
    · rw [State.updFinish_of_signed hmine hcomplete u h hrun]
      rfl
  case skip =>
    intro rq id s h hrun hgate htrial hnone hnext hcomp
    refine ⟨(s.bankTaken id).sessionOpened (reqCode rq) id 4, ?_, State.rd_session_sessionOpened .., ?_, State.session_sessionOpened ..,
      State.rd_result_sessionOpened .., ?_, ?_⟩
    · rw [exec_updateSkip_of_served rq id (State.updServed_of_ready hrun), State.updSkip_of_passing hrun hgate htrial hnone hnext hcomp]
    · exact (State.rd_component_sessionOpened ..).trans (Nat.mod_eq_of_lt id.isLt)
    all_goals rw [State.sessionOpened_eta, State.bankTaken_eta]
  case abort =>
    rw [exec_updateAbort_of_served hserved]
    refine ⟨fun h => ?_, fun x h => ?_⟩
    · rw [State.updAbort_of_idle hgate h]
      rfl
    · rw [State.updAbort_of_session hgate h]
      rfl
  case confirm =>
    rw [exec_updateConfirm_of_served (State.updServed_of_ready hrun), State.updConfirm_of_trial hrun h]
    rfl
  case untried =>
    rw [exec_updateConfirm_of_served hserved, State.updConfirm_of_other h]
    rfl
  case activate =>
    rw [exec_updateActivate_of_served rq true u (State.updServed_of_ready hrun)]
    refine ⟨fun h => ?_, fun h => ?_⟩
    · rw [State.updActivate_of_partition u hrun hbusy hstaged hgate h]
      rfl
    · rw [State.updActivate_of_free u hrun hbusy hstaged hgate h]
  case timeout =>
    obtain ⟨hsession, hcomp, hpages⟩ := s.rd_sessionEnd []
    exact ⟨_, exec_updateSessionTimeout_of_session h, s.boot_sessionEnd [], hsession, hcomp, hpages, s.sessionEnd_eta []⟩

end Sys2Proof.Machine
end

section
/-! PROOFS. Resets and the ways into start-up (R425 to R435, R445, R454, R459, R462, R472, R474). -/

namespace Sys2Proof.Machine
open Reg

/-! Fields that one state takes over from another. -/

section Copy

/-- Fields made to hold what they hold in a state, one after another. -/
def State.copyFields (s : State) (src : State) (l : List Fld) : State := l.foldl (fun st f => st.wr f (src.rd f)) s

variable {src : State} {f : Fld}

theorem State.rd_copyFields_ne : ∀ {l : List Fld} {s : State}, (∀ g ∈ l, f.key ≠ g.key) → (s.copyFields src l).rd f = s.rd f
  | [], _, _ => rfl
  | g :: _, s, h => (State.rd_copyFields_ne fun g' hg' => h g' (List.mem_cons_of_mem _ hg')).trans (s.rd_wr_ne _ (h g List.mem_cons_self))

/-- A field is taken over when no later one of the list lies on its place. -/
theorem State.rd_copyFields_mem {l : List Fld} (hl : l.Pairwise (fun f g => f.key ≠ g.key)) (hf : f ∈ l) (s : State) :
    (s.copyFields src l).rd f = src.rd f % 2 ^ f.width := by
  induction l generalizing s with
  | nil => cases hf
  | cons g l ih =>
    obtain ⟨hg, hl⟩ := List.pairwise_cons.mp hl
    obtain rfl | hf := List.mem_cons.mp hf
    · exact (State.rd_copyFields_ne hg).trans (s.rd_wr_self f _)
    · exact ih hl hf _

end Copy

/-! Field writes, and the clock controllers that follow the Tandem. -/

section ClockOnly

/-- t is s but for registers and free values drawn. -/
def State.ClockOnly (s t : State) : Prop := t = { s with regs := t.regs, freeCtr := t.freeCtr }

variable {s t u : State}

theorem State.ClockOnly.refl (s : State) : s.ClockOnly s := rfl

theorem State.ClockOnly.trans (h : s.ClockOnly t) (k : t.ClockOnly u) : s.ClockOnly u := by
  rw [State.ClockOnly, k, h]

theorem State.ClockOnly.foldl {α : Type} {f : State → α → State} (hf : ∀ (t : State) (x : α), t.ClockOnly (f t x)) (l : List α) (s : State) :
    s.ClockOnly (l.foldl f s) := by
  induction l generalizing s with
  | nil => exact .refl s
  | cons x l ih => exact (hf s x).trans (ih _)

theorem State.ClockOnly.fields (h : s.ClockOnly t) : t.boot = s.boot ∧ t.aon = s.aon ∧ t.tdm = s.tdm ∧ t.thm = s.thm ∧ t.mem = s.mem ∧
    t.keys = s.keys ∧ t.lathe = s.lathe ∧ t.out = s.out := by
  rw [h]
  exact ⟨rfl, rfl, rfl, rfl, rfl, rfl, rfl, rfl⟩

theorem State.ClockOnly.wr (h : s.ClockOnly t) (f : Fld) (v : Nat) : s.ClockOnly (t.wr f v) := h.trans (t.wr_eta f v)

theorem State.ClockOnly.drew (h : s.ClockOnly t) : s.ClockOnly t.drew := h.trans rfl

theorem State.clockOnly_reclock (s : State) (n : Nat) : s.ClockOnly (s.reclock n) :=
  ((((State.ClockOnly.refl s).wr _ _).wr _ _).wr _ _).drew

theorem State.clockOnly_throttle (s : State) (n : Nat) : s.ClockOnly (s.throttle n) := by
  unfold State.throttle
  split
  · exact .refl s
  · exact ((State.ClockOnly.refl s).wr _ _).trans (State.clockOnly_reclock _ n)

theorem State.clockOnly_copyFields (s src : State) (l : List Fld) : s.ClockOnly (s.copyFields src l) :=
  .foldl (fun t f => (State.ClockOnly.refl t).wr f _) l s

theorem State.clockOnly_raiseIf (s : State) (b : Bool) (f : Fld) : s.ClockOnly (s.raiseIf b f) := by
  cases b <;> rfl

end ClockOnly

/-! What every reset keeps (Tables 15.1 and 15.11). -/

section Kept

variable (s : State)

/-- The registers that FRAM keeps. -/
def framFields : List Fld :=
  [GLB_DBG_COUNT.SESSIONS, GLB_FALLBACKS.COUNT, GLB_FALLBACKS.TRIAL_HOURS, PWR_STAT.LOSSES, TDM_COUNTS.TAKEOVERS, TDM_COUNTS.RETURNS,
    ERR_LATHE.SUSPECT] ++ (List.range 16).map (fun n => MEM_STAT.SPARES_USED n)

theorem framFields_pairwise : framFields.Pairwise (fun f g => f.key ≠ g.key) := by decide

theorem State.fields_framKept : s.framKept.boot.otp = s.boot.otp ∧ s.framKept.boot.fram = s.boot.fram ∧
    s.framKept.tdm = { saved := s.tdm.saved } ∧ s.framKept.mem = { spare := s.mem.spare } ∧ s.framKept.keys = {} ∧ s.framKept.aon = [] ∧
    s.framKept.lathe = [] ∧ s.framKept.out = s.out := by
  have hcopied : State.ClockOnly _ s.framKept := State.clockOnly_copyFields _ s framFields
  obtain ⟨hboot, haon, htdm, -, hmem, hkeys, hlathe, hout⟩ := hcopied.fields
  rw [hboot, haon, htdm, hmem, hkeys, hlathe, hout]
  exact ⟨rfl, rfl, rfl, rfl, rfl, rfl, rfl, rfl⟩

theorem State.run_framKept : s.framKept.run = 0 := by
  have hreset : s.framKept.rd GLB_LIFE.RUN = _ := State.rd_copyFields_ne (src := s) (l := framFields) (by decide)
  rw [State.run, hreset]
  rfl

theorem State.rd_count_framKept :
    s.framKept.rd GLB_FALLBACKS.COUNT = s.rd GLB_FALLBACKS.COUNT % 2 ^ GLB_FALLBACKS.COUNT.width :=
  State.rd_copyFields_mem framFields_pairwise (List.mem_cons_of_mem _ List.mem_cons_self) _

/-- The thermal, power and Tandem blocks and the AON counters go on through a module reset; every other block is as a reset leaves it. -/
theorem State.fields_resetBlocks : s.resetBlocks.boot.otp = s.boot.otp ∧ s.resetBlocks.boot.fram = s.boot.fram ∧ s.resetBlocks.aon = s.aon ∧
    s.resetBlocks.tdm = s.tdm ∧ s.resetBlocks.thm = s.thm ∧ s.resetBlocks.mem = { spare := s.mem.spare } ∧ s.resetBlocks.lathe = [] ∧
    s.resetBlocks.out = s.out := by
  obtain ⟨hotp, hfram, -, hmem, -, -, hlathe, hout⟩ := s.fields_framKept
  have hset : State.ClockOnly _ s.resetBlocks :=
    ((State.clockOnly_copyFields _ s _).trans (.foldl State.clockOnly_throttle _ _)).trans (State.clockOnly_raiseIf ..)
  obtain ⟨hboot, haon, htdm, hthm, hmem', -, hlathe', hout'⟩ := hset.fields
  rw [hboot, haon, htdm, hthm, hmem', hlathe', hout']
  dsimp only
  exact ⟨hotp, hfram, rfl, rfl, rfl, hmem, hlathe, hout⟩

end Kept

/-! Death (R454), and a start that cannot read OTP. -/

section Dead

variable (s : State) (cause : Nat)

theorem State.run_die : (s.die cause).run = 7 := by
  have h : (((s.computeOff.setRun 7).wr GLB_LIFE.DEAD_CAUSE cause).wr PCI_LINK.UP 0).rd GLB_LIFE.RUN = 7 := by
    rw [State.rd_wr_ne _ _ (by decide), State.rd_wr_ne _ _ (by decide), State.setRun, State.rd_wr_self]
    rfl
  exact h

theorem State.rd_deadCause_die : (s.die cause).rd GLB_LIFE.DEAD_CAUSE = cause % 2 ^ 8 := by
  have h : (((s.computeOff.setRun 7).wr GLB_LIFE.DEAD_CAUSE cause).wr PCI_LINK.UP 0).rd GLB_LIFE.DEAD_CAUSE = cause % 2 ^ 8 := by
    rw [State.rd_wr_ne _ _ (by decide), State.rd_wr_self]
    rfl
  exact h

theorem State.flag_linkUp_die : (s.die cause).flag PCI_LINK.UP = false := by
  have h : (((s.computeOff.setRun 7).wr GLB_LIFE.DEAD_CAUSE cause).wr PCI_LINK.UP 0).flag PCI_LINK.UP = false := by
    rw [State.flag, State.rd_wr_self]
    rfl
  exact h

theorem State.port_die : (s.die cause).mem.port = s.mem.port := rfl

theorem State.start_of_unreadable (cold : Bool) {u : StartUp} (h : u.otpOk = false) : s.start cause cold u =
    ((({ s with boot := { s.boot with gaPins := u.ga } }).wr GLB_LIFE.RESET_CAUSE cause).die 5, false) := if_pos (by rw [h]; rfl)

end Dead

/-! Module resets (R425, R426, R445, R454, R472, R499). What a start meets is an operand of its command (log 72); a trial's failure without a
trial is no event (log 2). -/

section Reset

variable {s : State} (u : StartUp)

theorem State.rd_lifeCommit (s : State) (f : Fld) : s.lifeCommit.rd f = s.rd f := by
  unfold State.lifeCommit
  split
  · rfl
  · dsimp only
    split <;> rfl

theorem State.run_lifeCommit (s : State) : s.lifeCommit.run = s.run := s.rd_lifeCommit _

theorem State.lifeCommit_of_dead (h : s.run = 7) : s.lifeCommit = s := if_pos (by rw [show s.rd GLB_LIFE.RUN = 7 from h]; simp)

theorem State.moduleReset_of_dead (cause : Nat) (h : s.run = 7) : s.moduleReset cause u = s := if_pos h

theorem State.moduleReset_of_live (cause : Nat) (h : s.run ≠ 7) :
    s.moduleReset cause u = s.resetBlocks.markersReport.startAgain cause false u := if_neg h

/-- A reset that firmware or GLB_RST starts, before which the lifetime store commits. -/
theorem State.commitReset_of_dead (cause : Nat) (h : s.run = 7) : s.lifeCommit.moduleReset cause u = s := by
  rw [State.lifeCommit_of_dead h, State.moduleReset_of_dead u cause h]

theorem State.commitReset_of_live (cause : Nat) (h : s.run ≠ 7) :
    s.lifeCommit.moduleReset cause u = s.lifeCommit.resetBlocks.markersReport.startAgain cause false u :=
  State.moduleReset_of_live u cause (by rwa [State.run_lifeCommit])

theorem exec_glbRst_of_key (s : State) : exec (.glbRst 0x4E5A5253 u) s = .next (s.lifeCommit.moduleReset 1 u) :=
  congrArg Host.Outcome.next (if_pos rfl)

theorem exec_glbRst_of_other {key : Word} (h : key ≠ 0x4E5A5253) (s : State) :
    exec (.glbRst key u) s = .next (s.wr GLB_LIFE.RST_BAD 1) := congrArg Host.Outcome.next (if_neg h)

theorem exec_svcWatchdogExpiry (s : State) : exec (.svcWatchdogExpiry u) s = .next (s.moduleReset 3 u) := rfl

theorem exec_moduleReset_watchdog (s : State) : exec (.moduleReset 2 u) s = exec (.svcWatchdogExpiry u) s := rfl

theorem exec_moduleReset_of_commit {c : Fin 6} (h : c ≠ 2) (s : State) :
    exec (.moduleReset c u) s = .next (s.lifeCommit.moduleReset (1 + c) u) := congrArg Host.Outcome.next (if_neg h)

theorem exec_updateCmdReset_of_dead (h : s.run = 7) : exec (.updateCmdReset u) s = .next s := congrArg Host.Outcome.next (if_pos h)

theorem exec_updateCmdReset_of_live (h : s.run ≠ 7) : exec (.updateCmdReset u) s =
    .next (((s.wr THM_STAT.NO_RESTART 0).wr GLB_UPD.LAST_RESULT 0).lifeCommit.moduleReset 2 u) := congrArg Host.Outcome.next (if_neg h)

theorem exec_moduleReset_of_dead (c : Fin 6) (h : s.run = 7) : exec (.moduleReset c u) s = .next s := by
  by_cases hc : c = 2
  · rw [hc, exec_moduleReset_watchdog, exec_svcWatchdogExpiry, State.moduleReset_of_dead u 3 h]
  · rw [exec_moduleReset_of_commit u hc, State.commitReset_of_dead u _ h]

theorem exec_trialFailure_of_trial (h : s.inTrial = true) : exec (.trialFailure u) s = .next (s.lifeCommit.moduleReset 5 u) :=
  congrArg Host.Outcome.next (if_pos h)

theorem exec_trialFailure_of_other (h : s.inTrial = false) : exec (.trialFailure u) s = .next s :=
  congrArg Host.Outcome.next (if_neg (ne_true_of_eq_false h))

end Reset

/-! The input is lost, and comes back (R462). -/

section Input

variable (s : State)

/-- The loss is shown and counted. -/
def State.lossShown : State := (((s.wr PWR_INJ.LOSS 0).raise PWR_STAT.INPUT_LOST).bump PWR_STAT.LOSSES 1).wr PWR_STAT.HOLDUP_OK 0

/-- The saved state is written when there is an owner. -/
def State.savedByOwner : State := if s.owned then s.saveTandem else s

theorem State.savedByOwner_eta : s.savedByOwner = { s with tdm := s.savedByOwner.tdm } := by
  unfold State.savedByOwner
  split <;> rfl

/-- No flash or FRAM write starts any more. -/
def State.writesEnd : State := { s with boot := { s.boot with inputGone := true } }

theorem State.inputGone_writesEnd : s.writesEnd.boot.inputGone = true := rfl

theorem State.rd_writesEnd_savedByOwner (f : Fld) : s.savedByOwner.writesEnd.rd f = s.rd f := by
  rw [State.savedByOwner_eta]
  rfl

theorem State.fields_writesEnd_savedByOwner : s.savedByOwner.writesEnd.lathe = s.lathe ∧ s.savedByOwner.writesEnd.mem = s.mem ∧
    s.savedByOwner.writesEnd.boot.otp = s.boot.otp ∧ s.savedByOwner.writesEnd.out = s.out := by
  rw [State.savedByOwner_eta]
  exact ⟨rfl, rfl, rfl, rfl⟩

/-- The compute and I/O rails are gone, an owner has saved its state, and no write starts any more. -/
def State.lossTaken : State := (s.lossShown.computeOff.railsOff railsI).savedByOwner.writesEnd

theorem exec_inputLoss : exec .inputLoss s = .next s.lossTaken := by
  change execInputLoss s = _
  rw [execInputLoss, State.lossTaken, State.writesEnd, State.savedByOwner, State.lossShown]

theorem State.rd_lossTaken (f : Fld) : s.lossTaken.rd f = (s.lossShown.computeOff.railsOff railsI).rd f :=
  State.rd_writesEnd_savedByOwner _ f

theorem State.fields_railsOff_railsI : (s.railsOff railsI).lathe = s.lathe ∧ (s.railsOff railsI).mem = s.mem ∧
    (s.railsOff railsI).boot = s.boot ∧ (s.railsOff railsI).out = s.out := ⟨rfl, rfl, rfl, rfl⟩

theorem State.fields_lossTaken : s.lossTaken.lathe = [] ∧ s.lossTaken.mem.lsram = [] ∧ s.lossTaken.mem.way = [] ∧
    s.lossTaken.boot.otp = s.boot.otp ∧ s.lossTaken.out = s.out := by
  obtain ⟨hlathe, hmem, hotp, hout⟩ := (s.lossShown.computeOff.railsOff railsI).fields_writesEnd_savedByOwner
  obtain ⟨hlathe', hmem', hboot', hout'⟩ := s.lossShown.computeOff.fields_railsOff_railsI
  rw [State.lossTaken, hlathe, hmem, hotp, hout, hlathe', hmem', hboot', hout', State.computeOff_out]
  exact ⟨rfl, rfl, rfl, rfl, rfl⟩

theorem State.rd_lossTaken_ne {f : Fld} (h : f.offCompute) (hc : f.key ≠ PWR_STAT.GROUP_C.key) (hi : f.key ≠ PWR_STAT.GROUP_I.key) :
    s.lossTaken.rd f = s.lossShown.rd f := by
  rw [State.rd_lossTaken, State.rd_railsOff_railsI_ne _ hi, State.rd_computeOff_ne h hc]

theorem State.flag_inputLost_lossTaken : s.lossTaken.flag PWR_STAT.INPUT_LOST = true := by
  rw [State.flag, State.rd_lossTaken_ne _ (.inr (by decide)) (by decide) (by decide), State.lossShown, State.rd_wr_ne _ _ (by decide),
    State.rd_bump_ne _ _ (by decide), State.raise, State.rd_wr_self]
  rfl

theorem State.flag_holdupOk_lossTaken : s.lossTaken.flag PWR_STAT.HOLDUP_OK = false := by
  rw [State.flag, State.rd_lossTaken_ne _ (.inr (by decide)) (by decide) (by decide), State.lossShown, State.rd_wr_self]
  rfl

theorem State.flag_groupC_lossTaken : s.lossTaken.flag PWR_STAT.GROUP_C = false := by
  rw [State.flag, State.rd_lossTaken, State.rd_railsOff_railsI_ne _ (by decide)]
  exact State.flag_groupC_computeOff

theorem State.flag_groupI_lossTaken : s.lossTaken.flag PWR_STAT.GROUP_I = false := by
  rw [State.flag, State.rd_lossTaken]
  exact State.flag_groupI_railsOff_railsI _

theorem State.rd_losses_lossTaken : s.lossTaken.rd PWR_STAT.LOSSES = min 65535 (s.rd PWR_STAT.LOSSES + 1) := by
  rw [State.rd_lossTaken_ne _ (.inr (by decide)) (by decide) (by decide), State.lossShown, State.rd_wr_ne _ _ (by decide), State.bump,
    State.rd_wr_self, State.raise, State.rd_wr_ne _ _ (by decide), State.rd_wr_ne _ _ (by decide)]
  exact Nat.mod_eq_of_lt (Nat.lt_of_le_of_lt (Nat.min_le_left ..) (by decide))

variable {s} (u : StartUp)

theorem exec_inputReturn_of_dip (h : s.boot.inputGone = false) : exec (.inputReturn u) s = .next s :=
  congrArg Host.Outcome.next (if_neg (ne_true_of_eq_false h))

theorem exec_inputReturn_of_lost (h : s.boot.inputGone = true) : exec (.inputReturn u) s =
    .next { s.moduleReset 1 u with boot := { (s.moduleReset 1 u).boot with inputGone := false } } :=
  congrArg Host.Outcome.next (if_pos h)

end Input

/-! The compute rails are raised, and a rail does not come up (R459, R474). That a rail of group M does not time out is the model's reading
(log 62). -/

section Raise

variable {s : State} {inlet outlet : BitVec 12} {flow : Fin 512} (u : StartUp)

theorem exec_raiseComputeRails_of_barred (h : s.run ≠ 1 ∨ s.owned = false ∨ s.flag PWR_STAT.GROUP_C = true) :
    exec (.raiseComputeRails inlet outlet flow u) s = .next s :=
  congrArg Host.Outcome.next (if_pos (h.imp_right (Or.imp_left (by simp))))

section Open

variable (hrun : s.run = 1) (hown : s.owned = true) (hoff : s.flag PWR_STAT.GROUP_C = false)

include hrun hown hoff

/-- Phase 6 goes by the coolant as it stands. -/
theorem exec_raiseComputeRails_of_open : exec (.raiseComputeRails inlet outlet flow u) s =
    .next (let s1 := (s.wr THM_MODULE.VALVE 100).coolant inlet outlet flow
      if flow.val < 100 ∨ inlet.toNat < 120 ∨ 360 < inlet.toNat then s1.wr THM_STAT.NO_FLOW_START 1
      else
        let s2 := (s1.wr THM_STAT.NO_FLOW_START 0).computeUp
        if u.testOk && !s2.flag KEY_ERR_STAT.KAT_FAIL then s2.phase7 u.qualified.toNat else s2.selfTestFailed u) :=
  congrArg Host.Outcome.next (if_neg (by simp [hrun, hown, hoff]))

end Open

variable {rail : Fin 17}

theorem exec_railPgoodTimeout_of_other (h : s.run ≠ 1 ∨ rail.val < 4) : exec (.railPgoodTimeout rail u) s = .next s :=
  congrArg Host.Outcome.next (if_pos h)

/-- The rail that failed is shown. -/
def State.railShown (s : State) (rail : Nat) : State := (s.wr PWR_STAT.RAIL_FAIL 1).wr PWR_STAT.RAIL rail

theorem State.flag_groupI_railShown (s : State) (rail : Nat) : (s.railShown rail).flag PWR_STAT.GROUP_I = s.flag PWR_STAT.GROUP_I := by
  rw [State.railShown, State.flag_wr_ne _ _ (by decide), State.flag_wr_ne _ _ (by decide)]

variable (hrun : s.run = 1)

include hrun

theorem exec_railPgoodTimeout_of_groupI (h4 : 4 ≤ rail.val) (h : rail.val < 11) :
    exec (.railPgoodTimeout rail u) s = .next (((s.railShown rail).railsOff railsI).selfTestFailed u) := by
  have hopen : ¬(s.run ≠ 1 ∨ rail.val < 4) := by omega
  have hgroup : ¬11 ≤ rail.val := by omega
  change execRailPgoodTimeout rail u s = _
  simp only [execRailPgoodTimeout, if_neg hopen, if_neg hgroup]
  rfl

theorem exec_railPgoodTimeout_of_groupC (h : 11 ≤ rail.val) (hup : s.flag PWR_STAT.GROUP_I = true) :
    exec (.railPgoodTimeout rail u) s = .next (((s.railShown rail).railsOff railsC).selfTestFailed u) := by
  have hopen : ¬(s.run ≠ 1 ∨ rail.val < 4) := by omega
  have hshown : (s.railShown rail).flag PWR_STAT.GROUP_I = true := by rw [State.flag_groupI_railShown, hup]
  rw [State.railShown] at hshown
  change execRailPgoodTimeout rail u s = _
  simp only [execRailPgoodTimeout, if_neg hopen, if_pos h, State.raise, hshown, if_true]
  rfl

end Raise

/-- Settles O55: each clause is an equation of its command; what a reset keeps is read off the state before FRAM's registers are taken over and
the clock controllers follow. -/
theorem resetsAndStartUp : Obligations.ResetsAndStartUp := by
  refine ⟨fun u s h => ⟨fun c => exec_moduleReset_of_dead u c h, ?deadRst, ?deadWatchdog, exec_updateCmdReset_of_dead u h⟩,
    fun u s h => ⟨?watchdog, ?rst, fun c hc => ?firmware, exec_moduleReset_watchdog u s, ?command⟩,
    fun key u s h => exec_glbRst_of_other u h s, fun u s => ⟨exec_trialFailure_of_other u, exec_trialFailure_of_trial u⟩,
    fun u s => rfl, fun s => ?kept, fun cause cold u s h => ?unreadable,
    fun s => ⟨s.lossTaken, exec_inputLoss s, State.inputGone_writesEnd _, s.flag_inputLost_lossTaken, s.flag_holdupOk_lossTaken,
      s.flag_groupC_lossTaken, s.flag_groupI_lossTaken, s.rd_losses_lossTaken, s.fields_lossTaken⟩,
    fun u s => ⟨exec_inputReturn_of_dip u, exec_inputReturn_of_lost u⟩,
    fun u s => ⟨fun h => congrArg _ (if_pos h), fun h => congrArg _ (if_neg (ne_true_of_eq_false h))⟩,
    ?raise,
    fun rail u s => ⟨exec_railPgoodTimeout_of_other u, exec_railPgoodTimeout_of_groupI u, exec_railPgoodTimeout_of_groupC u⟩⟩
  case deadRst => rw [exec_glbRst_of_key, State.commitReset_of_dead u 1 h]
  case deadWatchdog => rw [exec_svcWatchdogExpiry, State.moduleReset_of_dead u 3 h]
  case watchdog => rw [exec_svcWatchdogExpiry, State.moduleReset_of_live u 3 h]
  case rst => rw [exec_glbRst_of_key, State.commitReset_of_live u 1 h]
  case firmware => rw [exec_moduleReset_of_commit u hc, State.commitReset_of_live u _ h]
  case command =>
    have hlive : ((s.wr THM_STAT.NO_RESTART 0).wr GLB_UPD.LAST_RESULT 0).run ≠ 7 := by
      rwa [State.run, State.rd_wr_ne _ _ (by decide), State.rd_wr_ne _ _ (by decide)]
    rw [exec_updateCmdReset_of_live u h, State.commitReset_of_live u 2 hlive]
  case kept =>
    obtain ⟨hotp, hfram, htdm, hmem, hkeys, haon, hlathe, hout⟩ := s.fields_framKept
    exact ⟨s.run_framKept, hotp, hfram, htdm, hmem, hkeys, haon, hout, s.rd_count_framKept, s.fields_resetBlocks⟩
  case unreadable =>
    rw [State.start_of_unreadable _ _ _ h]
    exact ⟨State.run_die .., rfl, State.rd_deadCause_die .., State.flag_linkUp_die .., rfl⟩
  case raise =>
    intro inlet outlet flow u s s1 s2
    refine ⟨exec_raiseComputeRails_of_barred u, fun hrun hown hoff => ?_⟩
    rw [exec_raiseComputeRails_of_open u hrun hown hoff]
    refine ⟨fun h => congrArg _ (if_pos h), fun hflow hlow hhigh htest hkat => ?_, fun hflow hlow hhigh htest => ?_⟩
    all_goals
      have hcool : ¬(flow.val < 100 ∨ inlet.toNat < 120 ∨ 360 < inlet.toNat) := by omega
    · exact congrArg _ ((if_neg hcool).trans (if_pos (by rw [htest, hkat]; rfl)))
    · exact congrArg _ ((if_neg hcool).trans (if_neg (by rw [htest]; nofun)))

end Sys2Proof.Machine
end
